-- ==== Sys2Proof/Word.lean ====
section
/-! DEFINITION. The words the ULV-8820's packets, registers and tables are made of (R9, R32, R45). -/

namespace Sys2Proof

/-- A 32-bit register, parameter or table word (R32, R45). -/
abbrev Word := BitVec 32

/-- A byte on a wire, a bus or in a frame (R9). -/
abbrev Byte := BitVec 8

end Sys2Proof
end

