-- ==== Sys2Proof/Syntax.lean ====
section
/-! DEFINITION. The commands of the ULV-8820: one constructor for each row of spec/opcode_table.json, with its operands.
Sundot commands carry the packet's header and its parameter words (R32, R44), so every parameter count and every
reserved bit can be written. Event commands carry what the environment brings: bytes, instants, levels. -/

namespace Sys2Proof

/-- The two halves; the half-select bit of a packet chooses one (R15, R32). -/
inductive Half where
  | coma | nucleus
  deriving DecidableEq, Repr

/-- The two precision-time domains (R53). -/
inductive Dom where
  | a | b
  deriving DecidableEq, Repr

/-- The three domain registers whose write resets a servo (R80). -/
inductive DomReg where
  | cfg | ports | intv
  deriving DecidableEq, Repr

/-- The header of an accepted Sundot packet: command port (0 is the HSP, R38), half, host tag, sequence number, RESYNC. -/
structure Hdr where
  port : Nat
  half : Half
  tag : Byte
  seq : Word
  resync : Bool
  deriving DecidableEq, Repr

/-- The four classes of Tail-link packet (R17). -/
inductive TlkClass where
  | urgent | time | measure | control
  deriving DecidableEq, Repr

/-- The rails with a reset threshold (R423); VDDIO has commands of its own (R310). -/
inductive Rail where
  | vddN | vddM | vddC | vddSd | vddSdh | vddioX | avdd
  deriving DecidableEq, Repr

/-- An occurrence in one cycle of the collectors: the source's condition arises, it is forced, or both (R343, R347). -/
structure Occ where
  half : Half
  idx : Nat
  real : Bool
  forced : Bool
  deriving DecidableEq, Repr

/-- What a fault occurrence shows of its condition (R340, R147, R151, log 13): it arises for a moment, arises and stays, or ends; n corrected errors within the
hour in one tile or one half's SRAM, this one included; a lane word of the alignment store (source, frame key, channel) that cannot be corrected; it
arises in the cycle of a forced occurrence of the same source, or in one cycle with others (R343, R344, R347). -/
inductive FaultCond where
  | moment | stays | ends
  | corrected (n : Nat)
  | uncorrectable (src key ch : Nat)
  | cycle (forced : Bool) (others : List Occ)
  deriving DecidableEq, Repr

/-- The reset domains of R342. -/
inductive ResetDomain where
  | prt (n : Nat) | xcv | tim | afe | core (hf : Half) (n : Nat) | recorder | key | isl | lbe (e : Nat)
  deriving DecidableEq, Repr

/-- The boot-flash directory that P1 and P2 read (R387). -/
structure Directory where
  gen : Word
  comaB : Bool
  nucB : Bool
  tsetValid : Bool
  autoload : Bool
  verCA : Word
  verCB : Word
  verNA : Word
  verNB : Word
  tsetLen : Nat
  deriving DecidableEq, Repr

/-- A TIME packet of the Tail link at the Nucleus: the Coma time of its launch that it carries, and the follower's own time as it comes, both in
2^-8 ns (R18). -/
structure TimePkt where
  launch : Nat
  reading : Nat
  deriving DecidableEq, Repr

/-- A frame at the receive balls with its FCS, and the PCS decode errors since the one before (R83, R84). -/
structure RxFrame where
  bytes : List Byte
  errs : Nat
  deriving DecidableEq, Repr

/-- What the flash reads of the end of P1 and of P2 give: the density in bytes by the SFDP table, none where the table is missing, and the first 64
bytes of each directory copy (R385, R387). -/
structure FlashScan where
  density : Option Nat
  copy0 : List Byte
  copy1 : List Byte
  deriving DecidableEq, Repr

/-- What phase P3 brings (R389-R391): training, the bytes of the active slot's image and of the other's, tiles and cores that pass, and the
table set's bytes when autoloaded. -/
structure NucleusStart where
  trained : Bool
  active : List Byte
  other : List Byte
  badTiles : Nat
  cores : List Bool
  tset : List Byte
  deriving DecidableEq, Repr

/-- A command: one constructor for each row of the table. -/
inductive Instr where
  /-- NOP (R44). -/
  | nop (h : Hdr) (ps : List Word)
  /-- IDENT (R44). -/
  | ident (h : Hdr) (ps : List Word)
  /-- STATUS (R47). -/
  | status (h : Hdr) (ps : List Word)
  /-- ATTN_ACK (R43). -/
  | attnAck (h : Hdr) (ps : List Word)
  /-- REG_READ (R45). -/
  | regRead (h : Hdr) (ps : List Word)
  /-- REG_WRITE (R45). -/
  | regWrite (h : Hdr) (ps : List Word)
  /-- REG_MODIFY (R45). -/
  | regModify (h : Hdr) (ps : List Word)
  /-- TBL_READ (R46). -/
  | tblRead (h : Hdr) (ps : List Word)
  /-- TBL_WRITE (R46). -/
  | tblWrite (h : Hdr) (ps : List Word)
  /-- TBL_COMMIT (R46). -/
  | tblCommit (h : Hdr) (ps : List Word)
  /-- TBL_DISCARD (R46). -/
  | tblDiscard (h : Hdr) (ps : List Word)
  /-- TBL_INFO (R44). -/
  | tblInfo (h : Hdr) (ps : List Word)
  /-- GRP_START (R144). -/
  | grpStart (h : Hdr) (ps : List Word)
  /-- GRP_STOP (R145). -/
  | grpStop (h : Hdr) (ps : List Word)
  /-- GRP_QUERY (R146). -/
  | grpQuery (h : Hdr) (ps : List Word)
  /-- AFE_START (R160). -/
  | afeStart (h : Hdr) (ps : List Word)
  /-- AFE_STOP (R164). -/
  | afeStop (h : Hdr) (ps : List Word)
  /-- CIC_SYNC (R159). -/
  | cicSync (h : Hdr) (ps : List Word)
  /-- CIC_LOADCOEF (R156). -/
  | cicLoadcoef (h : Hdr) (ps : List Word)
  /-- AFE_CAL (R162). -/
  | afeCal (h : Hdr) (ps : List Word)
  /-- ISL_QUERY (R205). -/
  | islQuery (h : Hdr) (ps : List Word)
  /-- LBE_START (R227). -/
  | lbeStart (h : Hdr) (ps : List Word)
  /-- LBE_STOP (R228). -/
  | lbeStop (h : Hdr) (ps : List Word)
  /-- LBE_QUERY (R229). -/
  | lbeQuery (h : Hdr) (ps : List Word)
  /-- ALM_QUERY (R260). -/
  | almQuery (h : Hdr) (ps : List Word)
  /-- ALM_RELEASE (R240). -/
  | almRelease (h : Hdr) (ps : List Word)
  /-- NRG_SNAPSHOT (R291). -/
  | nrgSnapshot (h : Hdr) (ps : List Word)
  /-- NRG_READ (R289). -/
  | nrgRead (h : Hdr) (ps : List Word)
  /-- NRG_PRESET (R290). -/
  | nrgPreset (h : Hdr) (ps : List Word)
  /-- TIME_READ (R44). -/
  | timeRead (h : Hdr) (ps : List Word)
  /-- TIME_SELECT (R65). -/
  | timeSelect (h : Hdr) (ps : List Word)
  /-- TIME_RESTEP (R61). -/
  | timeRestep (h : Hdr) (ps : List Word)
  /-- TIME_ASYM (R67). -/
  | timeAsym (h : Hdr) (ps : List Word)
  /-- RTC_SET (R302). -/
  | rtcSet (h : Hdr) (ps : List Word)
  /-- RTC_READ (R307). -/
  | rtcRead (h : Hdr) (ps : List Word)
  /-- KEY_INSTALL (R323). -/
  | keyInstall (h : Hdr) (ps : List Word)
  /-- KEY_DERIVE (R324). -/
  | keyDerive (h : Hdr) (ps : List Word)
  /-- KEY_REVOKE (R325). -/
  | keyRevoke (h : Hdr) (ps : List Word)
  /-- KEY_CHALLENGE (R329). -/
  | keyChallenge (h : Hdr) (ps : List Word)
  /-- KEY_STATUS (R330). -/
  | keyStatus (h : Hdr) (ps : List Word)
  /-- REC_OPEN (R360). -/
  | recOpen (h : Hdr) (ps : List Word)
  /-- REC_READ (R360). -/
  | recRead (h : Hdr) (ps : List Word)
  /-- REC_CLOSE (R360). -/
  | recClose (h : Hdr) (ps : List Word)
  /-- REC_FREEZE (R361). -/
  | recFreeze (h : Hdr) (ps : List Word)
  /-- REC_THAW (R361). -/
  | recThaw (h : Hdr) (ps : List Word)
  /-- REC_CLEAR (R362). -/
  | recClear (h : Hdr) (ps : List Word)
  /-- FLT_READ (R350). -/
  | fltRead (h : Hdr) (ps : List Word)
  /-- FLT_CLEAR (R340). -/
  | fltClear (h : Hdr) (ps : List Word)
  /-- FLT_FORCE (R343). -/
  | fltForce (h : Hdr) (ps : List Word)
  /-- FLT_ERRPIN (R346). -/
  | fltErrpin (h : Hdr) (ps : List Word)
  /-- UPD_BEGIN (R392). -/
  | updBegin (h : Hdr) (ps : List Word)
  /-- UPD_DATA (R392). -/
  | updData (h : Hdr) (ps : List Word)
  /-- UPD_VERIFY (R393). -/
  | updVerify (h : Hdr) (ps : List Word)
  /-- UPD_SWITCH (R394). -/
  | updSwitch (h : Hdr) (ps : List Word)
  /-- UPD_REPAIR_TILE (R147). -/
  | updRepairTile (h : Hdr) (ps : List Word)
  /-- UPD_REPAIR_LANE (R396). -/
  | updRepairLane (h : Hdr) (ps : List Word)
  /-- UPD_REPAIR_CORE (R368). -/
  | updRepairCore (h : Hdr) (ps : List Word)
  /-- UPD_REPAIR_HALF_RESET (R397). -/
  | updRepairHalfReset (h : Hdr) (ps : List Word)
  /-- UPD_REPAIR_COMA_RESET (R398). -/
  | updRepairComaReset (h : Hdr) (ps : List Word)
  /-- ORY_JOIN (R274). -/
  | oryJoin (h : Hdr) (ps : List Word)
  /-- ORY_LEAVE (R275). -/
  | oryLeave (h : Hdr) (ps : List Word)
  /-- ORY_STATUS (R281). -/
  | oryStatus (h : Hdr) (ps : List Word)
  /-- XCV_READID (R93). -/
  | xcvReadid (h : Hdr) (ps : List Word)
  /-- XCV_DIAG (R93). -/
  | xcvDiag (h : Hdr) (ps : List Word)
  /-- PORT_CTL_DISABLE (R100). -/
  | portCtlDisable (h : Hdr) (ps : List Word)
  /-- PORT_CTL_ENABLE (R100). -/
  | portCtlEnable (h : Hdr) (ps : List Word)
  /-- PORT_CTL_REREAD_MODULE (R100). -/
  | portCtlRereadModule (h : Hdr) (ps : List Word)
  /-- PORT_CTL_CLEAR_COUNTERS (R100). -/
  | portCtlClearCounters (h : Hdr) (ps : List Word)
  /-- PWRCTL_STANDBY (R29). -/
  | pwrctlStandby (h : Hdr)
  /-- PWRCTL_SERVICE (R28). -/
  | pwrctlService (h : Hdr)
  /-- ING_CLR (R126). -/
  | ingClr (h : Hdr)
  /-- SRC_CLR_COUNTERS (R127). -/
  | srcClrCounters (h : Hdr)
  /-- SRC_CLR_EPHEMERIS (R127). -/
  | srcClrEphemeris (h : Hdr)
  /-- ALN_CLR (R149). -/
  | alnClr (h : Hdr)
  /-- PHX_CLR (R185). -/
  | phxClr (h : Hdr)
  /-- ISL_CLR (R206). -/
  | islClr (h : Hdr)
  /-- LBE_CLR (R231). -/
  | lbeClr (h : Hdr)
  /-- ALM_CLR (R261). -/
  | almClr (h : Hdr)
  /-- EGR_CLR (R262). -/
  | egrClr (h : Hdr)
  /-- ORY_CLR (R280). -/
  | oryClr (h : Hdr)
  /-- NRG_CLR (R298). -/
  | nrgClr (h : Hdr)
  /-- REC_CLR (R364). -/
  | recClr (h : Hdr)
  /-- KEY_CLR (R333). -/
  | keyClr (h : Hdr)
  /-- FLT_CLR_COUNTERS (R349). -/
  | fltClrCounters (h : Hdr)
  /-- FLT_CLR_RSTCAUSE (R349). -/
  | fltClrRstcause (h : Hdr)
  /-- SYS_CLR (R409). -/
  | sysClr (h : Hdr)
  /-- TLK_CLR (R410). -/
  | tlkClr (h : Hdr)
  /-- HSP_CLR (R412). -/
  | hspClr (h : Hdr)
  /-- AON_CLR_TAMPCNT (R318). -/
  | aonClrTampcnt (h : Hdr)
  /-- AON_CLR_BAT_NEW (R316). -/
  | aonClrBatNew (h : Hdr)
  /-- AON_CLR_CAL_INV (R308). -/
  | aonClrCalInv (h : Hdr)
  /-- UPD_CTL_ABORT (R392). -/
  | updCtlAbort (h : Hdr)
  /-- SRC_SEL (R127). -/
  | srcSel (h : Hdr) (v : Word)
  /-- PHX_SSEL (R185). -/
  | phxSsel (h : Hdr) (v : Word)
  /-- PHX_XSEL (R185). -/
  | phxXsel (h : Hdr) (v : Word)
  /-- ISL_ISEL (R206). -/
  | islIsel (h : Hdr) (v : Word)
  /-- ISL_BSEL (R206). -/
  | islBsel (h : Hdr) (v : Word)
  /-- ALM_RSEL (R261). -/
  | almRsel (h : Hdr) (v : Word)
  /-- NRG_SEL (R298). -/
  | nrgSel (h : Hdr) (v : Word)
  /-- ORY_NSEL (R280). -/
  | oryNsel (h : Hdr) (v : Word)
  /-- REC_CUR (R360). -/
  | recCur (h : Hdr) (v : Word)
  /-- REC_SELFSEL (R364). -/
  | recSelfsel (h : Hdr) (v : Word)
  /-- ING_QHWM (R406). -/
  | ingQhwm (h : Hdr)
  /-- ISL_MAXT (R406). -/
  | islMaxt (h : Hdr)
  /-- ISL_ELOG (R406). -/
  | islElog (h : Hdr)
  /-- LBE_EE_TMAX (R406). -/
  | lbeEeTmax (h : Hdr) (k : Nat)
  /-- PHX_X_MAXTVE (R406). -/
  | phxXMaxtve (h : Hdr)
  /-- SYS_TJX (R406). -/
  | sysTjx (h : Hdr)
  /-- HSP_RQHWM (R406). -/
  | hspRqhwm (h : Hdr)
  /-- NRG_W_MAXDEM (R406). -/
  | nrgWMaxdem (h : Hdr)
  /-- AFE_CC_STAT (R406). -/
  | afeCcStat (h : Hdr) (k : Nat)
  /-- ISL_CTL_ENABLE (R188). -/
  | islCtlEnable (h : Hdr) (v : Word)
  /-- ALM_CTL_RULES_EN (R261). -/
  | almCtlRulesEn (h : Hdr) (v : Word)
  /-- TIM_DOMAIN_CFG_WRITE (R80). -/
  | timDomainCfgWrite (h : Hdr) (d : Dom) (r : DomReg) (v : Word)
  /-- NRG_POINT_ENABLE (R282). -/
  | nrgPointEnable (h : Hdr) (k : Nat) (v : Word)
  /-- PUL_ENABLE (R296). -/
  | pulEnable (h : Hdr) (k : Nat) (v : Word)
  /-- ALM_GOOSE_ENABLE (R247). -/
  | almGooseEnable (h : Hdr) (k : Nat) (v : Word)
  /-- EGR_STREAM_ENABLE (R252). -/
  | egrStreamEnable (h : Hdr) (k : Nat) (v : Word)
  /-- ALM_DG_WRITE (R249). -/
  | almDgWrite (h : Hdr) (v : Word)
  /-- AFE_PRESET_WRITE (R157). -/
  | afePresetWrite (h : Hdr) (v : Word)
  /-- REC_IVL_WRITE (R363). -/
  | recIvlWrite (h : Hdr) (v : Word)
  /-- ALM_PIN_CFG_WRITE (R244). -/
  | almPinCfgWrite (h : Hdr) (k : Nat) (v : Word)
  /-- FLT_SN_CFG_FORCE (R343). -/
  | fltSnCfgForce (h : Hdr) (k : Nat) (v : Word)
  /-- HSP_WRITE_TRANSACTION (R50). -/
  | hspWriteTransaction (bytes : List Byte)
  /-- HSP_READ_TRANSACTION (R51). -/
  | hspReadTransaction (n : Nat)
  /-- HSP_BAD_TYPE (R49). -/
  | hspBadType (ty : Byte)
  /-- COMMAND_PORT_IDLE_RELEASE (R39). -/
  | commandPortIdleRelease (p : Nat)
  /-- FRAME_RECEIVE (R83). -/
  | frameReceive (p : Nat) (t : Nat) (f : RxFrame)
  /-- LINK_DOWN (R81). -/
  | linkDown (p : Nat) (hiBer : Bool)
  /-- LINK_UP (R81). -/
  | linkUp (p : Nat)
  /-- REMOTE_FAULT (R81). -/
  | remoteFault (p : Nat) (on : Bool)
  /-- PFC_PAUSE_EXPIRY (R88). -/
  | pfcPauseExpiry (p : Nat) (pri : Nat)
  /-- PFC_XOFF_REFRESH (R89). -/
  | pfcXoffRefresh (p : Nat)
  /-- PFC_XON_RELEASE (R89). -/
  | pfcXonRelease (p : Nat)
  /-- PORT_TRANSMIT_FRAME (R87). -/
  | portTransmitFrame (p : Nat) (t : Nat)
  /-- XCV_ABS_EDGE (R94). -/
  | xcvAbsEdge (n : Nat) (level : Bool)
  /-- MODULE_INSERTED (R94). -/
  | moduleInserted (n : Nat)
  /-- MODULE_REMOVED (R94). -/
  | moduleRemoved (n : Nat)
  /-- XCV_LOS_CHANGE (R94). -/
  | xcvLosChange (n : Nat) (level : Bool)
  /-- XCV_IDENTITY_READ (R95). -/
  | xcvIdentityRead (n : Nat) (reads : List (List Byte)) (a2 : List Byte)
  /-- XCV_BUS_TRANSACTION (R93). -/
  | xcvBusTransaction (n : Nat) (dev : Byte) (off : Nat) (data : List Byte) (ack : Bool)
  /-- XCV_DIAG_POLL (R93). -/
  | xcvDiagPoll (n : Nat) (data : List Byte) (alarms : List Byte)
  /-- XCV_TXFLT_ASSERT (R96). -/
  | xcvTxfltAssert (n : Nat)
  /-- XCV_TXDIS_RETRY (R96). -/
  | xcvTxdisRetry (n : Nat) (still : Bool)
  /-- XCV_BUS_STUCK (R92). -/
  | xcvBusStuck (still : Bool)
  /-- XCV_LIFE_HOUR (R98). -/
  | xcvLifeHour (n : Nat)
  /-- PTP_RECEIPT_TIMEOUT (R62). -/
  | ptpReceiptTimeout (d : Dom) (announce : Bool)
  /-- DELAY_REQ_SEND (R71). -/
  | delayReqSend (d : Dom)
  /-- PDELAY_REQ_SEND (R73). -/
  | pdelayReqSend (p : Nat)
  /-- ASYM_WINDOW_EXPIRY (R66). -/
  | asymWindowExpiry (d : Dom)
  /-- ASYM_VALIDATION_COMPLETE (R67). -/
  | asymValidationComplete
  /-- ACQWAIT_EXPIRY (R58). -/
  | acqwaitExpiry
  /-- RESTEP_TIMEOUT (R61). -/
  | restepTimeout
  /-- PPS_IN_EDGE (R68). -/
  | ppsInEdge (t : Nat)
  /-- PPS_IN_LOST (R68). -/
  | ppsInLost
  /-- TIME_BASE_SECOND (R69). -/
  | timeBaseSecond
  /-- PPS_OUT_PULSE_END (R69). -/
  | ppsOutPulseEnd
  /-- TREF_PRESENCE_CHANGE (R54). -/
  | trefPresenceChange (on : Bool) (err : Int)
  /-- FOLLOWER_CORRECTION (R18). -/
  | followerCorrection (p : TimePkt)
  /-- LEAP_SECOND_START (R75). -/
  | leapSecondStart
  /-- TAIL_LINK_PACKET_RECEIVE (R17). -/
  | tailLinkPacketReceive (hf : Half) (cls : TlkClass) (bytes : List Byte) (lanes : BitVec 9)
  /-- TAIL_LINK_RETRAIN_COMPLETE (R19). -/
  | tailLinkRetrainComplete (hf : Half) (ok : Bool)
  /-- C37_FRAME_PARSE (R110). -/
  | c37FrameParse
  /-- SV_ASDU_PARSE (R113). -/
  | svAsduParse
  /-- INGEST_ITEM_PROCESS (R119). -/
  | ingestItemProcess (t : Nat)
  /-- EPOCH_BOUNDARY (R134). -/
  | epochBoundary (t : Nat)
  /-- ALIGN_TICK (R130). -/
  | alignTick (t : Nat)
  /-- ISLAND_FINAL_RUN (R196). -/
  | islandFinalRun (ns : Nat)
  /-- ISLAND_PROVISIONAL_RUN (R199). -/
  | islandProvisionalRun (ns : Nat)
  /-- LABEL_ROUND_TIMEOUT (R203). -/
  | labelRoundTimeout
  /-- LBE_UPDATE (R217). -/
  | lbeUpdate (e : Nat) (ns : Nat)
  /-- PHX_ESTIMATE_EPOCH (R176). -/
  | phxEstimateEpoch (src : Nat) (key : Nat) (t : Nat)
  /-- CIC_OUTPUT (R156). -/
  | cicOutput (path : Nat) (bits : List Bool)
  /-- AFE_SYNC_APPLY (R158). -/
  | afeSyncApply (t : Nat)
  /-- SYNC_N_FALL (R159). -/
  | syncNFall (t : Nat) (lowNs : Nat)
  /-- SYNC_N_STUCK (R159). -/
  | syncNStuck
  /-- NOMINAL_CYCLE_END (R165). -/
  | nominalCycleEnd
  /-- AFE_BGCAL_TIMER (R162). -/
  | afeBgcalTimer
  /-- ROVER_STEP_ADVANCE (R162). -/
  | roverStepAdvance
  /-- NRG_CYCLE_END (R284). -/
  | nrgCycleEnd (m : Nat)
  /-- NRG_PHASOR_CYCLE_COMPLETE (R285). -/
  | nrgPhasorCycleComplete (m : Nat)
  /-- DEMAND_INTERVAL_END (R292). -/
  | demandIntervalEnd
  /-- PULSE_DUE (R294). -/
  | pulseDue (p : Nat)
  /-- PULSE_WIDTH_END (R295). -/
  | pulseWidthEnd (p : Nat)
  /-- PULSE_GAP_END (R295). -/
  | pulseGapEnd (p : Nat)
  /-- ORY_MESSAGE_RECEIVE (R268). -/
  | oryMessageReceive
  /-- ORY_HEARTBEAT_SEND (R270). -/
  | oryHeartbeatSend
  /-- ORY_NEIGHBOUR_TIMEOUT (R265). -/
  | oryNeighbourTimeout (k : Nat)
  /-- ORY_JOIN_TIMEOUT (R274). -/
  | oryJoinTimeout
  /-- ORY_MODES_SEND (R270). -/
  | oryModesSend
  /-- ORY_TIMECHK_SEND (R270). -/
  | oryTimechkSend
  /-- ORY_TAGFAIL_REPORT (R268). -/
  | oryTagfailReport
  /-- GOOSE_REPEAT (R247). -/
  | gooseRepeat (c : Nat)
  /-- ALM_PIN_MINPW_END (R243). -/
  | almPinMinpwEnd (p : Nat)
  /-- ALM_PIN_SAMPLE (R244). -/
  | almPinSample (p : Nat) (level : Bool)
  /-- PUL_PIN_SAMPLE (R338). -/
  | pulPinSample (p : Nat) (level : Bool)
  /-- ERRN_PIN_SAMPLE (R338). -/
  | errnPinSample (level : Bool)
  /-- KEY_HOLD_EXPIRY (R326). -/
  | keyHoldExpiry (k : Nat)
  /-- KEY_REMASK (R327). -/
  | keyRemask (healthy : Bool)
  /-- KEY_HMAC_SELFTEST (R338). -/
  | keyHmacSelftest (ok : Bool)
  /-- CALENDAR_SECOND (R301). -/
  | calendarSecond
  /-- CALENDAR_SYNC_WRITE (R304). -/
  | calendarSyncWrite
  /-- OPERATING_MINUTE (R309). -/
  | operatingMinute
  /-- VBAT_MEASURE (R315). -/
  | vbatMeasure (mv : Nat)
  /-- BACKUP_CELL_REMOVED (R316). -/
  | backupCellRemoved
  /-- BACKUP_CELL_INSERTED (R316). -/
  | backupCellInserted (mv : Nat)
  /-- TAMPER_INPUT_QUALIFY (R312). -/
  | tamperInputQualify (i : Nat)
  /-- TAMPER_INPUT_RELEASE (R312). -/
  | tamperInputRelease (i : Nat)
  /-- MESH_SAMPLE (R313). -/
  | meshSample (bit : Bool)
  /-- RETENTION_RAIL_LOW (R311). -/
  | retentionRailLow
  /-- VDDIO_BELOW_1V66 (R310). -/
  | vddioBelow1v66
  /-- VDDIO_BELOW_1V60 (R310). -/
  | vddioBelow1v60
  /-- VDDIO_ABOVE_1V70 (R310). -/
  | vddioAbove1v70
  /-- VDDIO_RETURN_TIMER (R310). -/
  | vddioReturnTimer
  /-- VDDIO_BELOW_1V0 (R345). -/
  | vddioBelow1v0
  /-- VBAT_RISE (R28). -/
  | vbatRise
  /-- VBAT_LOW (R28). -/
  | vbatLow
  /-- RAIL_BELOW_RESET (R423). -/
  | railBelowReset (r : Rail)
  /-- RAIL_GOOD (R423). -/
  | railGood (r : Rail)
  /-- RST_N_LOW (R348). -/
  | rstNLow (ns : Nat)
  /-- RST_N_RISE (R420). -/
  | rstNRise
  /-- CHIP_RESET_ASSERT (R344). -/
  | chipResetAssert
  /-- CHIP_RESET_RELEASE (R389). -/
  | chipResetRelease (straps : BitVec 3)
  /-- STARTUP_P1_COMPLETE (R389). -/
  | startupP1Complete (cores : List Bool) (flash : FlashScan)
  /-- STARTUP_P2_COMPLETE (R390). -/
  | startupP2Complete (active : List Byte) (other : List Byte)
  /-- STARTUP_P3_COMPLETE (R389). -/
  | startupP3Complete (n : NucleusStart)
  /-- POWER_TRANSITION_COMPLETE (R28). -/
  | powerTransitionComplete
  /-- FAULT_OCCURRENCE (R340). -/
  | faultOccurrence (hf : Half) (idx : Nat) (c : FaultCond)
  /-- BLOCK_RESET_COMPLETE (R342). -/
  | blockResetComplete (d : ResetDomain)
  /-- FLT_SUPPRESSION_WINDOW_END (R342). -/
  | fltSuppressionWindowEnd (d : ResetDomain)
  /-- ERRN_PULSE_END (R346). -/
  | errnPulseEnd
  /-- CORE_ITEM_WATCHDOG (R367). -/
  | coreItemWatchdog (hf : Half) (core : Nat)
  /-- SCRUB_PASS_DEADLINE (R380). -/
  | scrubPassDeadline (hf : Half)
  /-- TJ_SAMPLE (R409). -/
  | tjSample (hf : Half) (t16 : Int)
  /-- VMON_SAMPLE (R409). -/
  | vmonSample (k : Nat) (mv : Nat)
  /-- REC_INTERVAL_CLOSE (R353). -/
  | recIntervalClose
  /-- REC_RECORD_WRITE (R355). -/
  | recRecordWrite (ok : Bool) (badByte : Nat) (noteOk : Bool)
  /-- REC_TRAILER_REWRITE (R356). -/
  | recTrailerRewrite
  /-- REC_AUTO_THAW (R361). -/
  | recAutoThaw
  /-- REC_CLEAR_COMPLETE (R362). -/
  | recClearComplete
  /-- UPD_VERIFY_COMPLETE (R393). -/
  | updVerifyComplete (hf : Half)
  /-- UPD_SWITCH_START (R394). -/
  | updSwitchStart (hf : Half)
  /-- UPD_IMAGE_READY (R394). -/
  | updImageReady (hf : Half)
  /-- UPD_SWITCH_ROLLBACK (R395). -/
  | updSwitchRollback (hf : Half)
  /-- UPD_SWITCH_COMPLETE (R394). -/
  | updSwitchComplete (hf : Half)
  /-- CORE_REPAIR_COMPLETE (R368). -/
  | coreRepairComplete (hf : Half) (ok : Bool)
  /-- HALF_RESET_COMPLETE (R397). -/
  | halfResetComplete (n : NucleusStart)
  /-- JTAG_BYPASS (R420). -/
  | jtagBypass
  /-- JTAG_IDCODE (R420). -/
  | jtagIdcode
  /-- JTAG_SAMPLE_PRELOAD (R420). -/
  | jtagSamplePreload
  /-- JTAG_EXTEST (R420). -/
  | jtagExtest
  /-- JTAG_CLAMP (R420). -/
  | jtagClamp
  /-- JTAG_HIGHZ (R420). -/
  | jtagHighz
  /-- JTAG_EXTEST_PULSE (R420). -/
  | jtagExtestPulse
  /-- JTAG_EXTEST_TRAIN (R420). -/
  | jtagExtestTrain
  /-- TRST_N_LOW (R420). -/
  | trstNLow
  /-- TILE_MIGRATION_END (R147). -/
  | tileMigrationEnd
  /-- ORY_LEAVE_COMPLETE (R275). -/
  | oryLeaveComplete
  deriving DecidableEq, Repr

end Sys2Proof
end

