-- ==== Sys2Proof/Decode.lean ====
section
/-! DEFINITION. The table's word encodings. spec/opcode_table.json gives no row any bits (every row's "fields" is empty):
a command reaches the block as bytes of a packet or as an event, never as a word of the table. -/

namespace Sys2Proof

/-- The rows of the table that give bits: width in bits, mask, pattern and command. The table gives none. -/
def bitRows : List (Nat × (Nat × (Nat × Instr))) := []

/-- The row of the list whose pattern the word spells. -/
def findRow (nbits w : Nat) : List (Nat × (Nat × (Nat × Instr))) → Option Instr
  | [] => none
  | (n, m, p, i) :: rest => if n == nbits && (w &&& m) == p then some i else findRow nbits w rest

/-- The command that a word of the table's bits spells; none, since no row gives bits. -/
def decodeTableWord (nbits w : Nat) : Option Instr := findRow nbits w bitRows

end Sys2Proof
end

