-- ==== Sys2Proof/Config.lean ====
section
/-! DEFINITION. What one part fixes and the spec does not give: fuse contents, ROM contents, and the free values
(values the spec leaves open). Every constant here is opaque: nothing can be proved of its value. -/

namespace Sys2Proof.Config

/-- The 64-bit device serial number, from fuses (R44 IDENT w2-w3, R409). UNVERIFIED: no value is given. Log 5. -/
opaque serial : BitVec 64

/-- The MAC address of port n, from fuses (R102 PRTn_MAC_HI/LO). Log 5. -/
opaque portMac : Nat → BitVec 48

/-- The running image version after a start from flash slot `slot` of the half (R44 IDENT w4). Log 5. -/
opaque imageVersion : Bool → Bool → Word

/-- Default FIR tap k of preset p, from ROM (R156). The spec gives their sum and symmetry only. Log 6. -/
opaque defaultTap : Nat → Nat → Word

/-- Trim gain and offset of path p stored in MRAM at manufacture, binary32 (R163). Log 6. -/
opaque trimGain : Nat → Word
opaque trimOffset : Nat → Word

/-- The fused vendor public key, X and Y of a point of P-256 (R331). Log 7. -/
opaque vendorKey : Nat × Nat

/-- The n-th 256-bit draw of the on-die random number generator (R313, R323, R327). Log 8. -/
opaque random : Nat → BitVec 256

/-- The n-th rest error, in ns, of the single step, before it is held within 8 ns (R57). Log 9. -/
opaque stepError : Nat → Int

/-- What the servo's proportional term is for an offset in ns, and what its integral term gains by it, in 2^-40, by the time
constant in s and logSyncInterval: R63 names the terms and the time constant, and no gains. Log 9. -/
opaque servoProp : Nat → Int → Int → Int
opaque servoGain : Nat → Int → Int → Int

/-- Whether a waveform value that is no whole count is taken up or down to one (R154 states no rounding). Log 28. -/
opaque waveUp : Rat → Bool

/-- One output value of the resampler for an input rate code, the place of the output between two inputs (in 1/4,800 of an input interval) and
the input samples in its kernel (R173). Log 10. -/
opaque resampled : Nat → Nat → List Int → Int

/-- Whether a window of the class (true M) has its end points in it at 0 or one step beyond (R175 names the shape alone);
used modulo 2. Log 10. -/
opaque windowEnd : Bool → Nat

/-- Right vector and left row taken for the i-th eigenvalue of a phi that has no full set of eigenvectors (R217). Log 11. -/
opaque eigen : List (List Int) → Nat → List (Int × Int) × List (Int × Int)

/-- phi where the Gram matrix of w_up is singular and its equation has no single solution (R217). Log 11. -/
opaque phiOpen : List (List Int) → List (List Int) → List (List Int)

/-- A number of a libration engine for which the spec states no value: ln 0, a lane that is not finite, 0/0; by key and
word. Log 11. -/
opaque lbeOpen : Nat → Word → Int

/-- How far a half's scrub pass has come, by half (true Nucleus), passes completed and TAI ns (R380, R409): it depends on the cycles that the
measurement path leaves idle. Taken up to 1,000. Log 41. -/
opaque scrubbed : Bool → Nat → Nat → Nat

/-- Bytes of the boot flash's table-set region, from 0x061_0000 to the end of the flash fitted (R386). Log 5. -/
opaque tsetRegion : Nat

/-- Programming or read-back of the boot flash fails, by draw (R392). Log 93. -/
opaque programFails : Nat → Bool

/-- The lane word of a float field that is not a number, or of a phasor whose nominal magnitude is 0, by kind and the field's words: the
conversion gives none (R114). Log 46. -/
opaque laneOpen : Nat → Word → Word → Word

/-- The IDCODE register's value, which the BSDL file gives (R420). Log 168. -/
opaque idcode : Word

/-- Whether HSP_CS_N is low at a TAI instant in ns: a transaction on the wire is one command, with no instants of its own (R49, R412). Log 4. -/
opaque hspSelected : Nat → Bool

/-- Whether the orrery engine back-pressures a port when n of its messages wait: R372 names the back-pressure and no capacity. Log 133. -/
opaque oryPressure : Nat → Bool

/-- The n-th value the spec leaves open where no better constant stands above. Log 12. -/
opaque freeWord : Nat → Word

/-- The n-th whole number the spec leaves open. Log 12. -/
opaque freeNat : Nat → Nat

end Sys2Proof.Config
end

