-- ==== Sys2Proof/Machine/State.lean ====
section
/-! DEFINITION. The state of the ULV-8820 as plain data, the reasons a command can stop, and State.reset.
Each field's comment names the rule that gives it and, after "reset:", the value it holds in State.reset.
Registers that a host writes and reads back, counters, event bits and window words stand in sparse maps by address
(RegFile); registers that show what the block is doing are computed from the other fields (Machine/Regs.lean). -/

namespace Sys2Proof.Machine

/-- A sparse map from an address or word offset to a word, keys strictly rising (see Machine/Ops.lean). -/
abbrev WMap := List (Nat × Word)

/-- The registers of one half that are storage (R403, R404). -/
structure RegFile where
  /-- RW registers that differ from their reset word, by address (R10, R408). reset: empty. -/
  rw : WMap
  /-- Counters that are not 0, by address (R407). reset: empty. -/
  ctr : WMap
  /-- Event bits latched, by W1C register address (R10). reset: empty. -/
  evt : WMap
  /-- Words of the select windows, by address (R406). reset: empty. -/
  win : WMap
  /-- Clear-on-read values, by address (R406). reset: empty. -/
  cor : WMap
  deriving DecidableEq, Repr

/-- One entry of a queue of the common discipline (R374-R376): an item of so many slots, a GAP marker, a FLUSH marker. -/
inductive QEntry (α : Type) where
  | item (v : α) (slots : Nat)
  | gap (n : Nat)
  | flush
  deriving DecidableEq, Repr

/-- A queue of the common discipline, oldest entry first (R374-R379). -/
structure Queue (α : Type) where
  /-- The committed entries, oldest first (R375). -/
  entries : List (QEntry α)
  /-- Drops not yet in any marker (R376, pending count). -/
  pend : Nat
  /-- Capacity in slots (R374). -/
  cap : Nat
  deriving DecidableEq, Repr

/-- How an in-band reply goes back: MAC, addresses, VLAN tag, DSCP (R52, R86); and the priority and the bytes of the frame that the command came
in, which hold staging memory while its scheduler takes no more (R89, R372). -/
structure RetPath where
  mac : Nat
  v6 : Bool
  tag : Option Nat
  dscp : Nat
  pri : Nat
  len : Nat
  deriving DecidableEq, Repr

/-- A reply (R36, R37). -/
structure Reply where
  half : Half
  resync : Bool
  tag : Byte
  opcode : BitVec 16
  seq : Word
  code : Byte
  level : Nat
  summary : BitVec 5
  gen : Byte
  detail : Byte
  results : List Word
  path : RetPath
  deriving DecidableEq, Repr

/-- A command port (R38, R39). Port 0 is the HSP; ports 1-16 are in-band sources. -/
structure CmdPort where
  id : Nat
  /-- Network port, IP version, source address, source UDP port of an in-band source (R38). -/
  net : Nat
  v6 : Bool
  ip : Nat
  udp : Nat
  /-- Return path of the newest command (R52). -/
  path : RetPath
  /-- Expected sequence number (R38). reset of port 0: DESIGN CHOICE 0, log 14. -/
  expected : Word
  /-- Last accepted sequence number and the stored reply (R38). reset: none. -/
  last : Option Reply
  /-- A reply was dropped since the last one delivered (R33 DROP, R51). reset: false. -/
  dropped : Bool
  /-- The port's queue in the host reply pool (R51). reset: empty. -/
  q : Queue Reply
  /-- The port holds a recorder cursor (R360). reset: false. -/
  cursor : Bool
  deriving DecidableEq, Repr

/-- An operation answered OK_PENDING and not yet complete (R47); res is its resource. -/
structure PendOp where
  port : Nat
  half : Half
  opcode : Nat
  res : Nat
  tag : Byte
  seq : Word
  /-- The code it has completed with while its half's dispatch is stopped; the new image writes the record (R394, R400). reset: none. -/
  done : Option Byte
  deriving DecidableEq, Repr

/-- A completion record (R47). -/
structure Record where
  port : Nat
  half : Half
  opcode : Nat
  code : Byte
  tag : Byte
  seq : Word
  deriving DecidableEq, Repr

/-- A command packet that passed step 4 of R40 and waits for dispatch (R382, R413). -/
structure Packet where
  hdr : Hdr
  opcode : Nat
  params : List Word
  /-- Return path of the packet itself (R52). -/
  path : RetPath
  deriving DecidableEq, Repr

/-- The command interface (R32-R52). -/
structure Cmd where
  /-- The command ports (R38, R39). reset: port 0 alone. -/
  ports : List CmdPort
  /-- Pending operations, oldest first (R47). reset: none. -/
  ops : List PendOp
  /-- Completion records, oldest first (R47). reset: none. -/
  recs : List Record
  /-- Accepted packets held back, oldest first (R382, R413). reset: none. -/
  waiting : List Packet
  /-- The flow that each scheduler served last in each of its 16 priorities (R370). reset: none. -/
  servedC : List (Option Nat)
  servedN : List (Option Nat)
  /-- Frames for the Coma firmware's answers that wait while its dispatch is stopped: port and frame (R86, R369 class 7). reset: none. -/
  answers : List (Nat × List Byte)
  /-- What the device drove in the last HSP read: tag byte and bytes (R51). reset: none. -/
  hspOut : List Byte
  /-- HSP transactions discarded in the present second (R338 F_HSP_PROTO, R412). reset: 0. -/
  discards : Nat
  deriving DecidableEq, Repr

/-- The attention state (R41): what the reply fields show, and the part of it due to unacknowledged events. -/
structure Attn where
  /-- Level shown (R37, R42). reset: 0. -/
  level : Nat
  /-- Summary bits shown (R37). reset: 0. -/
  bits : BitVec 5
  /-- Generation count (R41). reset: 0, log 14. -/
  gen : Byte
  /-- Highest level of the unacknowledged events (R42). reset: 0. -/
  evLevel : Nat
  /-- Summary bits of the unacknowledged events (R42). reset: 0. -/
  evBits : BitVec 5
  deriving DecidableEq, Repr

/-- The four power states (R27). -/
inductive PowerMode where
  | off | backup | standby | service
  deriving DecidableEq, Repr

/-- A transition between STANDBY and SERVICE in progress (R28, R31). -/
inductive Trans where
  | none | toStandby | toService
  deriving DecidableEq, Repr

/-- A TAP instruction (R420). -/
inductive TapInstr where
  | bypass | idcode | samplePreload | extest | clamp | highz | extestPulse | extestTrain
  deriving DecidableEq, Repr

/-- Power, reset and start-up (R27-R31, R310, R345, R384-R391, R420, R423). -/
structure Power where
  /-- Power state (R27). reset: standby, since the Nucleus PLL is stopped in P1 (log 15). -/
  mode : PowerMode
  /-- Transition in progress (R28). reset: none. -/
  trans : Trans
  /-- A SERVICE request was accepted during the entry into STANDBY (R31). reset: false. -/
  backToService : Bool
  /-- Start-up phase reached, 0-5 (R389). reset: 1. -/
  phase : Nat
  /-- Chip reset asserted (R344, R423). reset: false. -/
  inReset : Bool
  /-- A CRST reaction is due (R344). reset: false. -/
  resetDue : Bool
  /-- The instant at which it came due; occurrences of one instant are of one cycle (R344). reset: 0. -/
  dueAt : Nat
  /-- The grave latch (R345). reset: false. -/
  grave : Bool
  /-- The Nucleus half is held in reset (R390, R397, R409 nrst). reset: false. -/
  nrst : Bool
  /-- Start-up stopped in P1 or P2 (R390). reset: false. -/
  stopped : Bool
  /-- The ROM serves an HSP boot (R390, R412 rom). reset: false. -/
  rom : Bool
  /-- The images came from the HSP (R390, R409 hsp). reset: false. -/
  hspBoot : Bool
  /-- The Coma firmware runs: P2 has ended (R389, R390). reset: false. -/
  fw : Bool
  /-- Coma and Nucleus slots in use, true for B (R409). reset: false. -/
  cslot : Bool
  nslot : Bool
  /-- Failure code (R390). reset: 0. -/
  fail : Nat
  /-- Straps as latched (R384). reset: 0, DESIGN CHOICE log 15. -/
  straps : BitVec 3
  /-- The start-up of P3 is held waiting for a Nucleus image (R390 code 6). reset: false. -/
  held : Bool
  /-- Main power present (R27). reset: true. -/
  main : Bool
  /-- Writes into the always-on domain are locked out (R310). reset: true, lifted as P1 begins. -/
  lockout : Bool
  /-- The always-on domain runs from VBAT (R310). reset: false. -/
  onVbat : Bool
  /-- VDDIO is in reset by its thresholds (R310, R425). reset: false. -/
  vddioLow : Bool
  /-- The 8 ms return timer runs (R310). reset: false. -/
  timer : Bool
  /-- Rails below their reset threshold (R423). reset: none. -/
  low : List Rail
  /-- VBAT at or above 2.2 V (R27, R310). reset: true, DESIGN CHOICE log 15. -/
  vbat : Bool
  /-- RST_N level (R348). reset: true. -/
  rstN : Bool
  /-- TRST_N held low (R420). reset: true (the pull-down holds it). -/
  trst : Bool
  /-- Instruction in the TAP (R420). reset: idcode. -/
  tap : TapInstr
  /-- Levels in the update stage of the boundary register, and the bits that the last scan shifted out on TDO (R420). reset: none scanned, which
  counts as low, log 168. -/
  tapCells : List Bool
  tapOut : List Bool
  deriving DecidableEq, Repr

/-- One fault source's status (R350). -/
structure FltSrc where
  handling : Bool
  real : Bool
  forced : Bool
  missed : Bool
  present : Bool
  occ : Nat
  supp : Nat
  /-- Attention level of the occurrence in handling, 0 for none (R337, R343). reset: 0. -/
  lvl : Nat
  deriving DecidableEq, Repr

/-- The two fault collectors and ERR_N (R335-R350). -/
structure Faults where
  /-- Coma sources 0-95 (R338). reset: all clear. -/
  coma : List FltSrc
  /-- Nucleus sources 0-63 (R339). reset: all clear. -/
  nuc : List FltSrc
  /-- Open suppression windows (R342). reset: none. -/
  windows : List ResetDomain
  /-- Domains held in block reset (R342, R413). reset: none. -/
  held : List ResetDomain
  /-- ERR_N hardware pulse running (R346). reset: false. -/
  pulse : Bool
  /-- errn_sw (R346). reset: false. -/
  errnSw : Bool
  /-- FLT_C_RSTCAUSE, in MRAM (R344, R349). reset: 0, DESIGN CHOICE log 16. -/
  rstCause : Word
  /-- FLT_C_GRAVESRC [15:0], in MRAM (R345, R349). reset: 0, DESIGN CHOICE log 16. -/
  graveSrc : Word
  /-- A trap held in hardware during UPD.SWITCH, per half (R347). reset: false. -/
  heldTrapC : Bool
  heldTrapN : Bool
  /-- Consecutive ERR_N samples that differ (R338 F_ERRN_PIN). reset: 0. -/
  errnMiss : Nat
  /-- ERR_N level last read back (R349 errn). reset: true. -/
  errnLevel : Bool
  deriving DecidableEq, Repr

/-- What a service core is (R365). -/
inductive CoreState where
  | active | spare | retired
  deriving DecidableEq, Repr

/-- The service cores and their schedulers (R365-R373). -/
structure Cores where
  /-- Cores C0-C2 (R365). reset: all retired until the P1 self-test. -/
  coma : List CoreState
  /-- Cores N0-N4 (R365). reset: all retired until the P3 self-test. -/
  nuc : List CoreState
  /-- Dispatch is stopped by UPD.SWITCH (R394 step 2). reset: false. -/
  pausedC : Bool
  pausedN : Bool
  /-- Cores whose BRST self-test is running (R367 step 4), and cores under UPD.REPAIR 0x03 (R368). reset: none. -/
  testing : List (Half × Nat)
  repairing : List (Half × Nat)
  /-- Cores that failed while dispatch was stopped, whose sparing follows the switch (R400). reset: none. -/
  due : List (Half × Nat)
  deriving DecidableEq, Repr

/-- One end of the Tail link (R17-R19, R410). -/
structure TlkEnd where
  up : Bool
  /-- Lane being retrained (R410 rtlane). reset: none. -/
  rt : Option Nat
  /-- Receive lane replaced by the receive spare; transmit lane likewise (R410). reset: none. -/
  rxSub : Option Nat
  txSub : Option Nat
  /-- A packet failed its CRC once and its replay is awaited (R19). reset: false. -/
  replay : Bool
  /-- Number of the free values drawn at the last training for the latency and the deskews (R410 LAT, SKEW; log 39). reset: none. -/
  meas : Option Nat
  /-- Packets sent and received, 64-bit wrapping (R410). reset: 0. -/
  txPkt : Nat
  rxPkt : Nat
  /-- The segments of a frame that has not ended, of each class, URGENT first (R17). reset: empty. -/
  part : List (List Byte)
  /-- The frame last handed to the consumer of each class (R17). reset: empty. -/
  got : List (List Byte)
  deriving DecidableEq, Repr

/-- The two-wire bus of the transceivers as the device drives it (R92). -/
structure XBus where
  /-- Port that the multiplexer selects, and the last control byte written to it with its address (R92). reset: none. -/
  sel : Option Nat
  mux : Option (Byte × Byte)
  /-- Clock pulses and stop conditions sent to free a stuck bus (R92). reset: 0. -/
  clocks : Nat
  stops : Nat
  deriving DecidableEq, Repr

/-- The SRAM scrubber of a half (R380). -/
structure Scrub where
  /-- Operating minutes since the pass in progress began, and passes completed (R409 SCRUB). reset: 0 and 0. -/
  mins : Nat
  passes : Nat
  deriving DecidableEq, Repr

/-- Die, supply and scrub measurements (R380, R409). -/
structure SysState where
  /-- The scrubbers of the two halves (R380). reset: a pass begins, none completed. -/
  scrubC : Scrub
  scrubN : Scrub
  /-- Tj of each half, 1/16 degC (R409). reset: 0, log 16. -/
  tjC : Int
  tjN : Int
  /-- Lowest and highest Tj since read, degC (R409 TJX). reset: none since read. -/
  tjxC : Option (Int × Int)
  tjxN : Option (Int × Int)
  /-- The ten supplies in mV (R409 VMON). reset: 0 each, log 16. -/
  vmon : List Nat
  /-- Running image versions (R409 VER). reset: 0 until an image runs. -/
  verC : Word
  verN : Word
  /-- The two-wire bus of the transceivers (R92). reset: nothing selected, nothing sent. -/
  xbus : XBus
  deriving DecidableEq, Repr

/-- What the transmitter does to a waiting frame as it leaves (R71, R72): nothing; the egress time of an own Delay_Req or
Pdelay_Req into originTimestamp; the turnaround of a Pdelay_Resp, or the residence time and link delay of a forwarded event
message, into correctionField. Ingress times are in 2^-16 ns. plain: a command reply or an answer of R86; relayed: a forwarded general message
or a frame of a stream. -/
inductive FwKind where
  | plain | relayed | delayReq (d : Dom) | pdelayReq | pdelayResp (ingress : Int) | forward (ingress : Int) (inPort : Nat) (link : Bool)
  deriving DecidableEq, Repr

/-- A frame the port's own firmware or MAC sends, with priority (R86-R89, R71). -/
structure FwFrame where
  pri : Nat
  bytes : List Byte
  kind : FwKind
  deriving DecidableEq, Repr

/-- A network port (R81-R91). -/
structure Port where
  /-- Link, block lock, hi_ber, received fault (R81, R102 STAT). reset: false. -/
  link : Bool
  lock : Bool
  hiBer : Bool
  rfault : Bool
  /-- The port transmits the remote-fault ordered set (R81). reset: true, the link being down. -/
  sendsFault : Bool
  /-- Pause time in force of each priority, quanta (R88). reset: 0. -/
  pause : List Nat
  /-- Priorities in XOFF (R89). reset: 0. -/
  xoff : BitVec 8
  /-- Staging occupancy of each priority, bytes (R89). reset: 0. -/
  occ : List Nat
  /-- Frames of firmware and PTP waiting, oldest first (R86, R71, R87). reset: none. -/
  fw : List FwFrame
  /-- PFC time waiting to be sent, by priority: one frame carries them all (R87, R89). reset: none. -/
  pfc : List (Option Nat)
  /-- Last stream served in each priority (R252). reset: 63 each. -/
  served : List Nat
  /-- The last frame sent at the transmit balls (R87). reset: empty. -/
  wire : List Byte
  /-- A frame sent in PCS loopback, on its way to the port's own receiver (R102). reset: empty. -/
  loop : List Byte
  /-- Answers made in the present second (R86). reset: 0. -/
  answers : Nat
  /-- Byte counters, received and sent, 64-bit wrapping (R102). reset: 0. -/
  rxBytes : Nat
  txBytes : Nat
  /-- Times hi_ber entered in the present minute (R338 F_PRT_BER). reset: 0. -/
  bers : Nat
  /-- Peer link delay in 2^-8 ns, and whether it has been measured (R73). reset: 0, false. -/
  linkDelay : Int
  delayKnown : Bool
  /-- Outstanding Pdelay_Req: sequence and egress time (R73). reset: none. -/
  pdreq : Option (Nat × Nat)
  pdseq : Nat
  /-- A two-step Pdelay_Resp awaiting its follow-up: sequence, turnaround sum in 2^-16 ns (R73). reset: none. -/
  pdtwo : Option (Nat × Int)
  /-- PORT.CTL disable came in on this port: it takes effect when the reply of this number has left (R100). reset: none. -/
  offAfter : Option Word
  deriving DecidableEq, Repr

/-- A transceiver and its module (R92-R99). -/
structure Xcv where
  present : Bool
  los : Bool
  txflt : Bool
  /-- TXDIS is held high for a transmit fault, and held for good after the third attempt (R96). reset: false. -/
  txHold : Bool
  txFail : Bool
  idValid : Bool
  /-- The identity read has ended, well or badly (R94, R95). reset: false. -/
  idDone : Bool
  ddm : Bool
  extCal : Bool
  wearing : Bool
  lifeDue : Bool
  tries : Nat
  /-- The module's bytes as the bus last returned them, 0xA0 and 0xA2; none: not read yet (R93, R95). reset: empty. -/
  a0 : List (Option Byte)
  a2 : List (Option Byte)
  /-- Debounce of ABS_N running toward a level (R94). reset: none. -/
  debounce : Option Bool
  /-- Latest diagnostics: temperature, supply, bias, transmit and receive power (R97). reset: 0. -/
  diag : List Int
  /-- Index of the module's life record (R98). reset: none. -/
  life : Option Nat
  /-- An accepted insertion that its life record has not counted yet (R98). reset: false. -/
  inserted : Bool
  /-- The diagnostics poll of the present second is still due (R93, R103 poll overruns). reset: false. -/
  pollDue : Bool
  deriving DecidableEq, Repr

/-- A module life record (R98). -/
structure Life where
  oui : Nat
  serial : List Byte
  minutes : Nat
  biasBase : Nat
  biasHour : Nat
  biasSum : Nat
  biasCnt : Nat
  /-- Sum and count of the polls of the first 60 powered minutes with TXDIS released, and those minutes (R98). -/
  baseSum : Nat
  baseCnt : Nat
  baseMin : Nat
  /-- Extremes of temperature and receive power ever polled; none before the first poll (R98). -/
  temp : Option (Int × Int)
  rx : Option (Nat × Nat)
  inserts : Nat
  /-- Order in which the record was last seen (R98). -/
  seen : Nat
  wearRaised : Bool
  dueRaised : Bool
  deriving DecidableEq, Repr

/-- A grandmaster offered by an announce message (R53; IEEE 1588-2019 dataset, log 17). -/
structure Master where
  port : Nat
  src : List Byte
  prio1 : Nat
  cls : Nat
  acc : Nat
  variance : Nat
  prio2 : Nat
  gmid : Nat
  steps : Nat
  source : Nat
  inacc : Nat
  deriving DecidableEq, Repr

/-- A precision-time domain (R53, R61-R67). -/
structure Domain where
  /-- Parent port and its state: 0 listening, 1 uncalibrated, 2 time receiver, 3 passive (R79 STAT). reset: 0, 0. -/
  parent : Nat
  pstate : Nat
  /-- Healthy as last judged (R62). reset: false. -/
  healthy : Bool
  /-- Sync and announce within their timeouts (R62). reset: false. -/
  syncOk : Bool
  annOk : Bool
  /-- The chosen grandmaster (R79 GMID, GMQ, GMINACC). reset: none. -/
  gm : Option Master
  /-- Offset of the domain from the time base, ns, and the last eight accepted (R63). reset: 0, none. -/
  ofs : Int
  hist : List Int
  /-- The run of consecutive outliers (R63). reset: none. -/
  outliers : List Int
  /-- The servo's integral and proportional terms, 2^-40 (R63). reset: 0. -/
  integ : Int
  prop : Int
  /-- Last eight path-delay measurements and their count since time receiver or servo reset, 2^-8 ns (R66). reset: none, 0. -/
  mpds : List Int
  nmpd : Nat
  base : Int
  /-- Measurements beyond the step threshold in a row (R66). reset: 0. -/
  overs : Nat
  frozen : Bool
  suspect : Bool
  /-- The confirmation window runs (R66). reset: false. -/
  check : Bool
  /-- Reference chosen at the freeze: 0 none, 1 the other domain, 2 PPS_IN; its kept offsets; still available (R66). -/
  ref : Nat
  ref0 : Int
  pps0 : Option Int
  refLost : Bool
  ppsLost : Bool
  /-- UTC data of the domain's announces: offset, valid, leap61, leap59 (R75 UTCOFS). reset: AON_UTCOFS, clear. -/
  utc : Int
  utcValid : Bool
  leap61 : Bool
  leap59 : Bool
  /-- An announce of this domain has been taken since it was selected, and since chip reset (R75). reset: false. -/
  taken : Bool
  announced : Bool
  /-- A two-step Sync awaiting its Follow_Up: sequence, ingress time, correction (R63). reset: none. -/
  twoStep : Option (Nat × (Nat × Int))
  /-- Outstanding Delay_Req: sequence and egress time; last Sync times (R71). reset: none. -/
  dreq : Option (Nat × Nat)
  dseq : Nat
  lastSync : Option (Int × Int)
  deriving DecidableEq, Repr

/-- The states of the time base (R56). -/
inductive TState where
  | unset | coarse | locked | holdover | fault
  deriving DecidableEq, Repr

/-- A running validation of TIME.ASYM mode 1 (R67). -/
structure Valid where
  dom : Dom
  samples : List Int
  edges : List Int
  lost : Bool
  deriving DecidableEq, Repr

/-- The time base (R53-R80). -/
structure Tim where
  /-- TAI in ns; seconds are now / 10^9 (R53). reset: 0. -/
  now : Nat
  /-- The count as its register holds it, 2^-40 ns: its value at the first cycle of the Coma clock at or after now (R53). reset: 0. -/
  count : Nat
  /-- TIM_RATE, 2^-40 (R55). reset: 0. -/
  rate : Int
  /-- The rates of the last 64 s of LOCKED operation, newest first, each with the ns it held; when the present one began (R59).
  reset: none, 0. -/
  rates : List (Nat × Int)
  rateAt : Nat
  /-- State (R56). reset: unset, set in P1. -/
  state : TState
  sel : Dom
  stepped : Bool
  restep : Bool
  disagree : Bool
  /-- PPS_IN valid, qualifying edges in a row, second of the last one, its offset (R68). reset: clear. -/
  ppsValid : Bool
  ppsRun : Nat
  ppsSec : Nat
  ppsOfs : Int
  /-- TREF_IN present and its frequency error, 2^-8 ppb (R54). reset: false, 0. -/
  tref : Bool
  trefErr : Int
  /-- UTC in force (R75 TIM_UTC): offset, valid, leap61, leap59. reset: AON_UTCOFS, clear. -/
  utc : Int
  utcValid : Bool
  leap61 : Bool
  leap59 : Bool
  /-- TIM_LEAPINST, TAI seconds of the pending or last leap second (R79). reset: 0. -/
  leapInst : Nat
  /-- Leap occurred until this TAI second, and its direction (R76). reset: 0, false. -/
  leapUntil : Nat
  leapDir : Bool
  /-- Offset before the last leap (R111). reset: 37. -/
  utcBefore : Int
  /-- The instant of the last change of the offset (R75, R304). reset: none. -/
  utcAt : Option Nat
  /-- The nanoseconds are still to be set at the calendar's next second (R56). reset: false. -/
  calSet : Bool
  /-- TAI ns at HOLDOVER entry and the error estimate then, 1/256 ps (R77). reset: 0. -/
  hoAt : Nat
  hoErr : Nat
  /-- A PPS_OUT pulse runs (R69). reset: false. -/
  ppsOut : Bool
  /-- Level of the PPS_OUT ball (R69, R418). reset: low. -/
  ppsBall : Bool
  /-- Offset of the Nucleus follower from the time base since it was last corrected, 2^-8 ns (R18). reset: 0. -/
  follow : Int
  /-- Offset found at the last TIME packet, after compensation, 2^-8 ns (R18, R410 FOFS). reset: 0. -/
  fofs : Int
  /-- Validations in progress, the one begun first at the head (R67). reset: none. -/
  valid : List Valid
  domA : Domain
  domB : Domain
  deriving DecidableEq, Repr

/-- A key slot (R320-R322, R333). -/
structure KeySlot where
  /-- 0 EMPTY, 1 VALID, 2 INVALID (R321). reset: 0. -/
  st : Nat
  derived : Bool
  parent : Nat
  gen : BitVec 16
  /-- The key XOR the mask, and the mask (R320). reset: 0. -/
  masked : BitVec 256
  mask : BitVec 256
  /-- The hold window is open (R326). reset: false. -/
  window : Bool
  deriving DecidableEq, Repr

/-- The key store (R320-R334). -/
structure Keys where
  slots : List KeySlot
  /-- Response counter in MRAM (R329). reset: 0, DESIGN CHOICE log 16. -/
  rsp : Word
  /-- The last re-masking pass completed (R333 remask_ok). reset: false. -/
  remaskOk : Bool
  /-- The vendor public key fused at manufacture, X and Y; nothing changes it (R331). reset: Config.vendorKey, log 7. -/
  vendor : Nat × Nat
  deriving DecidableEq, Repr

/-- The always-on domain (R300-R319). -/
structure Aon where
  /-- Calendar (R301). reset: 2000-01-01 00:00:00. -/
  year : Nat
  month : Nat
  day : Nat
  hour : Nat
  minute : Nat
  second : Nat
  calValid : Bool
  /-- The calendar ran to its end and stopped (R306). reset: false. -/
  stopped : Bool
  /-- The time base's instant at which the prescaler was last known to be 0: a seconds transition or a write (R301, R303); none after the time
  base itself was set. reset: none. -/
  prescAt : Option Nat
  /-- A calendar-invalidated event waits for main power (R308). reset: false. -/
  calPend : Bool
  /-- AON_UTCOFS (R318). reset: 37. -/
  utcofs : Int
  tampCnt : Nat
  tampDate : Word
  tampTime : Word
  t0 : Bool
  t1 : Bool
  mesh : Bool
  meshMiss : Nat
  meshMatch : Nat
  lfsr : BitVec 15
  /-- A tamper fault waits for main power (R314). reset: false. -/
  tampPend : Bool
  vbatMv : Nat
  /-- Charge drawn in nA s, and seconds since the cell was inserted (R315, R318). reset: 0. -/
  batUse : Nat
  batAge : Nat
  batPresent : Bool
  batDue : Bool
  batRaised : Bool
  /-- A backup-cell-due event waits for the Coma half (R315). reset: false. -/
  batPend : Bool
  /-- The calendar follows the time base (R304, R318). reset: false. -/
  synced : Bool
  /-- Power cycles, operating minutes, retention losses in MRAM (R309, R318). reset: 0, log 16. -/
  pwrCyc : Nat
  opMin : Nat
  retCnt : Nat
  /-- The retention latch (R311). reset: false. -/
  retLatch : Bool
  /-- A retention-loss fault waits for the fault collector (R311). reset: false. -/
  retPend : Bool
  deriving DecidableEq, Repr

/-- A decimation chain of one path (R155-R160, R169). -/
structure Chain where
  running : Bool
  /-- Integrators and combs, 64-bit wrapping (R155). reset: 0. -/
  integ : List (BitVec 64)
  comb : List (BitVec 64)
  /-- The output register, emitted one period later (R155). reset: 0. -/
  outReg : Int
  /-- Emitted intermediate samples, newest first, at most 64 (R156). reset: none. -/
  fir : List Int
  /-- Outputs formed since the last reset (R169 OUTCNT). reset: 0. -/
  outs : Nat
  /-- Intermediate periods since the reset (R160 step 1). reset: 0. -/
  periods : Nat
  /-- The modulator's level and the clocks it has held it without a break, for F_AFE_MODn (R338). reset: false, 0. -/
  level : Bool
  same : Nat
  last : Word
  /-- G of the last reset, in output periods from TAI 0 (R158). reset: 0. -/
  g0 : Nat
  /-- FIR sums of the last outputs, newest first, at most 256, in 2^-59 of full scale (R156, R162). reset: none. -/
  vals : List Int
  deriving DecidableEq, Repr

/-- A waveform word of a channel with its sample time, in periods of 1/9,600 s from TAI 0, and its period in the same unit (R154, R158). -/
structure Wave where
  tick : Nat
  per : Nat
  word : Word
  deriving DecidableEq, Repr

/-- A front-end channel (R152, R161, R168). -/
structure Chan where
  running : Bool
  /-- The x1 path supplies the channel (current channels, R161). reset: false. -/
  x1 : Bool
  /-- x1 intermediate samples below 4.5 % in a row, and whether the x16 path stayed below 90 % (R161). reset: 0. -/
  quiet : Nat
  /-- Custom taps loaded, and those in force (R156). reset: none. -/
  custom : Option (List Word)
  taps : Option (List Word)
  /-- Waveform words of the last 600 periods of 1/9,600 s by sample time, and those of the last nominal cycle (R165, R283). reset: none. -/
  wave : List Wave
  lastCyc : List Wave
  deriving DecidableEq, Repr

/-- A rover cycle in progress (R162). -/
structure Rover where
  path : Nat
  step : Nat
  /-- Commanded by AFE.CAL (R162). -/
  commanded : Bool
  /-- Means of the offset and gain phases gathered so far, and the mismatch, from the chain (R162, R163). -/
  ofs : Int
  gain : Int
  mism : Nat
  deriving DecidableEq, Repr

/-- The local front end (R152-R169). -/
structure Afe where
  chans : List Chan
  /-- Chains of path codes 0-12, the rover last (R152). reset: cleared, stopped. -/
  chains : List Chain
  /-- Gain and offset of each path, binary32 (R163). reset: the trims of Config. -/
  gain : List Word
  ofs : List Word
  calT : List Nat
  rover : Option Rover
  /-- Paths queued by AFE.CAL, oldest first (R162). reset: none. -/
  calQ : List Nat
  /-- Next path of the background rotation, and its cycles that became due while another cycle ran (R162). reset: 0, 0. -/
  bgNext : Nat
  bgDue : Nat
  /-- A pending synchronising reset and its source 0-2, and the TAI ns of its request (R159). reset: none, 0. -/
  sync : Option Nat
  syncAt : Nat
  /-- Automatic sync awaited since a step (R159). reset: false. -/
  autoWait : Bool
  lastSync : Nat
  lastSyncSrc : Nat
  synced : Bool
  /-- TAI ns of the last accepted SYNC_N edge; SYNC_N held low (R159). reset: none, false. -/
  syncEdge : Option Nat
  syncLow : Bool
  /-- Phase-sequence and neutral conditions and their run of cycles (R165, R166). reset: clear. -/
  seqAlarm : Bool
  seqRun : Nat
  neutAlarm : Bool
  neutRun : Nat
  seqAng : Word
  /-- AFE_RV_MISM: the last comparison of the rover, 0.001 % of full scale (R168). reset: 0. -/
  rvMism : Nat
  /-- The end of the last nominal cycle judged, in cycles from TAI 0 (R165). reset: 0. -/
  cycDone : Nat
  deriving DecidableEq, Repr

/-- A bank pair of one table (R46). -/
structure Tbl where
  active : WMap
  /-- Staging bank, its holding port, and whether its commit is pending (R46). reset: none. -/
  staging : Option WMap
  holder : Option Nat
  pendingCommit : Bool
  deriving DecidableEq, Repr

/-- A TBL.COMMIT accepted and waiting for its boundary (R46). -/
structure Commit where
  port : Nat
  tables : List Nat
  res : Nat
  /-- Its port has been resynchronised or released since: the staging banks go when it completes (R38). reset: false. -/
  released : Bool
  /-- Its port has been released: its completion record goes with the port (R39). reset: false. -/
  gone : Bool
  deriving DecidableEq, Repr

/-- A removed source whose lanes are still held: its stored channels, and the conjunctions, as group and key, that opened before the removal
and expect it (R22). -/
structure Drain where
  src : Nat
  chans : Nat
  waits : List (Nat × Nat)
  deriving DecidableEq, Repr

/-- The tables and pending commits (R44, R46, R109). -/
structure Tables where
  /-- Tables 0x01-0x09 (R44). reset: empty, log 18. -/
  tbl : List Tbl
  commits : List Commit
  /-- Lanes held by removed sources: source and count, until its last conjunction is RELEASED (R22, R109). reset: none. -/
  drain : List Drain
  /-- Entries under which items of removed sources were parsed are kept with the items; old topology bank (R192). reset: none. -/
  oldTopo : Option WMap
  deriving DecidableEq, Repr

/-- The lane words and flags of one item: word and flags V, Q, L, U in bits 3 to 0 (R114, R131). -/
abbrev Lane := Word × BitVec 4

/-- A frame crossing to the Nucleus parser (R24 stage 1, R83). -/
structure Cand where
  port : Nat
  pri : Nat
  arrival : Nat
  trunc : Bool
  v6 : Bool
  srcIp : Nat
  sport : Nat
  dport : Nat
  mac : Nat
  srcMac : Nat
  /-- Bytes held in staging memory (R89). -/
  len : Nat
  /-- UDP payload, or the sampled-value frame after its EtherType. -/
  payload : List Byte
  deriving DecidableEq, Repr

/-- One block of a frame: a source of its own (R105). -/
structure Blk where
  src : Nat
  lanes : List Lane
  /-- Unskipped channels (R118). -/
  chs : Nat
  /-- The source entry under which it was parsed (R108). -/
  ent : List Word
  deriving DecidableEq, Repr

/-- An item of the ingest queue: one frame (R118). -/
structure Item where
  port : Nat
  /-- Key and sample time, arrival, TAI ns (R111, R119). -/
  key : Nat
  sample : Nat
  arrival : Nat
  blocks : List Blk
  deriving DecidableEq, Repr

/-- One slot of a source's lanes (R131, R133). -/
structure Slot where
  slot : Nat
  key : Nat
  lanes : List Lane
  /-- The item was stored while the source carried TIME_SUSPECT (R136). -/
  susp : Bool
  /-- Groups in which the item was a straggler (R141). -/
  late : BitVec 8
  delay : Int
  deriving DecidableEq, Repr

/-- A source's state (R119-R127). -/
structure Src where
  id : Nat
  slots : List Slot
  /-- Keys of the last 16 stored frames (R122). -/
  keys : List Nat
  ewma : Int
  hist : List Nat
  nframes : Nat
  suspect : Bool
  run : Nat
  stepped : Bool
  lastPort : Nat
  lastStored : Nat
  /-- Route of the entry that the last item named (R120), and its margin (R119). -/
  route : Nat
  margin : Nat
  /-- A frame has been stored (R120 peers). -/
  stored : Bool
  good : Nat
  lastDly : Int
  lastKey : Nat
  /-- Sample time last evaluated by watch entries (R116). -/
  watched : Option Nat
  /-- The 14 counters of R127, in their order. -/
  cnt : List Nat
  deriving DecidableEq, Repr

/-- Ingest (R110-R127). -/
structure Ing where
  /-- Frames for the C37 parser and the sampled-value parser, oldest first (R24). reset: none. -/
  cands : List Cand
  svs : List Cand
  /-- The ingest queue (R118). reset: empty, 16,384 slots. -/
  q : Queue Item
  /-- Sources with state (R119). reset: none. -/
  srcs : List Src
  deriving DecidableEq, Repr

/-- A conjunction's state (R134); RELEASED conjunctions are dropped. -/
inductive ConjSt where
  | opened | prov | final
  deriving DecidableEq, Repr

/-- A conjunction of one group (R133-R136). -/
structure Conj where
  key : Nat
  st : ConjSt
  /-- Expected sources with their areas (R133, R136). -/
  expected : List (Nat × Nat)
  displaced : List Nat
  /-- Rules that have fired and wait: quorum, complete, ephemeris, window (R135). -/
  fQuorum : Bool
  fComplete : Bool
  fEph : Bool
  fWin : Bool
  /-- It has waited under R135 to become PROVISIONAL, and to become FINAL. -/
  heldP : Bool
  heldF : Bool
  provAt : Option Nat
  /-- Settings latched at the opening: CFG, window times the rate in ns, QRULE, QAREA, ESM, LATE (R143). -/
  cfg : Word
  win : Nat
  qrule : Word
  qarea : BitVec 64
  esm : BitVec 64
  late : Word
  /-- Opened under the image that the last commit of table 0x02 replaced (R192). -/
  under : Bool
  deriving DecidableEq, Repr

/-- A group's run state (R146). -/
inductive RunSt where
  | stopped | running | stopping
  deriving DecidableEq, Repr

/-- An alignment group (R128-R150). -/
structure Grp where
  run : RunSt
  /-- TAI ns of the acceptance of GRP.START (R144). reset: 0. -/
  since : Nat
  /-- TAI ns of the acceptance of GRP.STOP (R145). reset: 0. -/
  stopAt : Nat
  /-- Newest key released by the last stop: items up to it are old for the group (R134, R145). reset: none. -/
  ended : Option Nat
  /-- Conjunctions held, and what the group's registers show of the newest (R133, R150). reset: none, 0; PROVT all ones. -/
  conjs : List Conj
  lastKey : Nat
  last : Word
  lastT : Nat
  provT : Nat
  qstat : Nat
  expect : Nat
  deriving DecidableEq, Repr

/-- What a delivery carries of one expected source (R139). -/
structure SrcLanes where
  id : Nat
  present : Bool
  lanes : List Lane
  deriving DecidableEq, Repr

/-- A delivery (R139, R140). -/
structure Delivery where
  group : Nat
  rate : Nat
  key : Nat
  final : Bool
  reason : Word
  srcs : List SrcLanes
  /-- Its conjunction opened under the image that the last commit of table 0x02 replaced (R192). -/
  under : Bool
  deriving DecidableEq, Repr

/-- The alignment engine (R128-R151). -/
structure Aln where
  grps : List Grp
  /-- Tile spares remaining (R149 spares). reset: 4. -/
  spares : Nat
  repair : Bool
  repLeft : Nat
  deriving DecidableEq, Repr

/-- A waveform sample at its input rate: index from TAI 0, value, U, Q (R173). -/
structure Samp where
  idx : Nat
  /-- TAI ns of its arrival (R174, R179). -/
  arr : Nat
  /-- Value, U and Q (R173). -/
  v : Int
  u : Bool
  q : Bool
  deriving DecidableEq, Repr

/-- An estimator source (R170-R186). -/
structure Est where
  id : Nat
  running : Bool
  /-- f_trk minus f_nom in 2^-64 Hz (R176, R186). -/
  ftrk : Int
  /-- Samples of each of the eight waveforms VA..VN, IA..IN, oldest first (R173). -/
  waves : List (List Samp)
  /-- Newest input index that has been looked for, and the spans of input indices that computations have used, newest first (R174). -/
  last : Option Nat
  spans : List (Nat × Nat)
  /-- Newest epoch computed since the estimator started or restarted (R172, R184). -/
  done : Option Nat
  /-- rc of the last epochs, newest first (R176). -/
  rcs : List Int
  lastKey : Nat
  /-- TAI 4,800/s index at which the estimator started or restarted (R178). -/
  from0 : Nat
  uNow : Bool
  qNow : Bool
  /-- Counters OUTS, UOUT, QOUT, SVGAP, SVDUP, SVLATE, RESTART, OVERRUN (R186). -/
  cnt : List Nat
  deriving DecidableEq, Repr

/-- A cross-check pair's state (R181-R187). -/
structure Pair where
  id : Nat
  breach : Bool
  timeCls : Bool
  dwell : Nat
  skipped : Bool
  tve : Nat
  dang : Int
  dt : Int
  df : Int
  maxTve : Nat
  key : Nat
  cnt : List Nat
  deriving DecidableEq, Repr

structure Phx where
  ests : List Est
  pairs : List Pair
  deriving DecidableEq, Repr

/-- An island (R196, R197, R205). -/
structure Island where
  handle : Nat
  label : Nat
  members : List Nat
  live : Nat
  fmean : Int
  fspread : Nat
  parent : Nat
  formKey : Nat
  deriving DecidableEq, Repr

/-- A branch's stored evidence (R193-R195, R206). -/
structure Branch where
  id : Nat
  cnt : Nat
  dth : Option (BitVec 16 × Nat)
  /-- 0 CLOSED, 1 OPEN, 2 SEPARATING, 3 UNKNOWN. -/
  st : Nat
  su : Bool
  au : Bool
  rate : Int
  opens : Nat
  seps : Nat
  deriving DecidableEq, Repr

/-- An unresolved provisional event (R199, R200). -/
structure ProvEvt where
  key : Nat
  merge : Bool
  label : Nat
  parent : Nat
  handle : Nat
  retired : List Nat
  deriving DecidableEq, Repr

/-- A LABELS message of a round that is not open yet (R202, R270). -/
structure LabMsg where
  nb : Nat
  key : Nat
  round : Nat
  more : Bool
  /-- Global ID of a boundary node and label. -/
  entries : List (Nat × Nat)
  deriving DecidableEq, Repr

/-- Label rounds of one epoch in progress (R202, R203). -/
structure Rounds where
  key : Nat
  round : Nat
  /-- Neighbours up when the round was sent, and those whose message of it has arrived whole. -/
  want : List Nat
  got : List Nat
  /-- Labels received in this round: global node ID and label. -/
  labels : List (Nat × Nat)
  /-- Components of the run: label and member nodes. -/
  comps : List (Nat × List Nat)
  /-- Remote nodes of the run's image with their owners, and those that a joining tie reaches (R202). -/
  far : List (Nat × Nat)
  ends : List Nat
  /-- Islands of the run: handle and a member. -/
  isles : List (Nat × Nat)
  /-- A round of this epoch closed at its timeout. -/
  inc : Bool
  deriving DecidableEq, Repr

/-- The island engine (R188-R206). -/
structure Isl where
  /-- The engine runs; a write of 1 waits for the group's boundary (R188). reset: false. -/
  on : Bool
  armed : Bool
  init : Bool
  q : List Delivery
  /-- Islands of the last final run in the order of R196; the first 4,096 hold records. -/
  islands : List Island
  branches : List Branch
  nextHandle : Nat
  prov : List ProvEvt
  lastKey : Nat
  lastT : Nat
  overflow : Nat
  elog : List (Word × (Word × Word))
  elogNext : Nat
  /-- Epochs whose label rounds run, the one whose open round started earliest first (R202). reset: none. -/
  rounds : List Rounds
  roundsUsed : Nat
  incomplete : Bool
  incRun : Nat
  /-- Labels at the end of the rounds of past epochs, by key, then by handle (R278). reset: none. -/
  prevLabels : List (Nat × List (Nat × Nat))
  /-- Own boundary nodes learnt toward a neighbour: neighbour and node (R277). -/
  learnt : List (Nat × Nat)
  /-- LABELS messages of rounds not open yet, oldest first (R202). reset: none. -/
  inbox : List LabMsg
  deriving DecidableEq, Repr

/-- A libration mode slot (R219-R225). -/
structure Mode where
  held : Bool
  stale : Bool
  missed : Nat
  f : Int
  zeta : Int
  shape : List (Int × Int)
  q : Int × Int
  e1 : Int
  e2 : Int
  mq : Int
  updates : Nat
  cls : Nat
  cand : Nat
  candRun : Nat
  inCls : Nat
  damp : Bool
  dampRun : Nat
  forced : Bool
  forcedRun : Nat
  /-- Flow correlations of each def signal: c of p, q, th, lv (R224). -/
  flows : List (List (Int × Int))
  deriving DecidableEq, Repr

/-- A libration engine (R207-R233). -/
structure Lbe where
  running : Bool
  /-- Taken the first delivery and latched the rate (R227). -/
  started : Bool
  since : Nat
  rate : Nat
  group : Nat
  q : List Delivery
  prevKey : Option Nat
  /-- Detrend means of signals and auxiliaries; unwrap memories; biquad states (R214-R216). -/
  means : List (Option Int)
  unwraps : List (Option Int)
  biquads : List (List (BitVec 64))
  /-- Filtered vectors, newest first: value and filled (R217). -/
  hist : List (List (Int × Bool))
  w : List (List Int)
  p : List (List Int)
  trk : Nat
  skipped : Bool
  cfgstop : Bool
  /-- LBE.STOP was accepted with an update in progress, which completes first (R228). reset: false. -/
  stopping : Bool
  /-- Tracked updates that make a slot converged, as of the last update (R221, R229). reset: 0. -/
  cvgAt : Nat
  /-- Mode slots (R219), the duration of the last update (R226) and the bytes of the pool in use (R218). -/
  modes : List Mode
  lastT : Nat
  mem : Nat
  /-- Key of the last update; it stays readable after LBE.STOP (R228). -/
  lastKey : Nat
  /-- Signals with def = 1 of the last update, with the w3 of their records (R229). -/
  defs : List (Nat × Word)
  /-- DAMP, AMP, CLS and CLS2 as they are in force (R230, R11). reset: the registers' reset words. -/
  cfg : List Word
  deriving DecidableEq, Repr

/-- A rule's state (R239-R242, R260). -/
structure RuleSt where
  id : Nat
  active : Bool
  latched : Bool
  prov : Bool
  dwell : Nat
  skipped : Bool
  /-- The last evaluation found the clear condition (R240). -/
  clearOk : Bool
  value : Word
  key : Nat
  /-- The auxiliary word of its last change (R249). reset: 0. -/
  aux : Nat
  /-- Key and handle of the provisional event that activated it (R239). -/
  byKey : Nat
  byHandle : Nat
  /-- A matching event was raised by the present final run (R239). -/
  matched : Bool
  /-- SET, CLR, RELEASE, WITHDRAW, SKIP (R261). -/
  cnt : List Nat
  deriving DecidableEq, Repr

/-- A watch entry's state (R116, R260). -/
structure WatchSt where
  id : Nat
  active : Bool
  /-- Sample time of the first evaluated frame of the run in which the condition holds (R116). -/
  since : Option Nat
  skipped : Bool
  value : Word
  key : Nat
  sets : Nat
  clrs : Nat
  deriving DecidableEq, Repr

/-- An alarm pin (R243, R244). -/
structure Pin where
  /-- Ball level driven (R243, R244). reset: false (low, R418). -/
  ball : Bool
  /-- Logical state (R243). reset: false. -/
  logical : Bool
  /-- A minimum width or pulse runs (R243). reset: false. -/
  width : Bool
  lastNs : Nat
  misses : Nat
  readback : Bool
  /-- The Coma driver's copy of ALM_Pp_CFG (R244). reset: 0. -/
  mirror : Word
  deriving DecidableEq, Repr

/-- A GOOSE block (R246, R247). -/
structure Goose where
  st : Nat
  sq : Nat
  /-- t of the latest data change: SOC, 24-bit fraction, quality (R246). -/
  t : List Byte
  vals : List Bool
  times : List (List Byte)
  repeatI : Nat
  deriving DecidableEq, Repr

/-- What an event of class OSC_DAMP or OSC_FORCED carries (R225): engine, slot, f in uHz, zeta in 0.001 %, amplitude as binary32; for
OSC_FORCED the source hint. -/
structure OscEvt where
  eng : Nat
  slot : Nat
  f : Word
  zeta : Word
  amp : Word
  hint : Option Nat
  deriving DecidableEq, Repr

/-- An alarm change (R242). -/
structure Change where
  /-- 1 set, 2 clear, 3 provisional set, 4 confirm, 5 withdraw, 6 released (R249). -/
  state : Nat
  rule : Bool
  idx : Nat
  cls : Nat
  out : Word
  srca : Nat
  chan : Nat
  value : Word
  aux : Nat
  /-- Evidence time, TAI ns. -/
  evid : Nat
  deriving DecidableEq, Repr

structure Alm where
  rules : List RuleSt
  watches : List WatchSt
  pins : List Pin
  goose : List Goose
  /-- Sequence number of each stream's datagrams (R249). reset: 0. -/
  dgSeq : List Nat
  /-- Rule evaluation in force, and a change waiting for a common boundary (R261). reset: true, none. -/
  rulesOn : Bool
  rulesWait : Option Bool
  /-- While the changes of one boundary are applied: the blocks that take a new stNum in any case; else none (R242, R246). reset: none. -/
  gooseHold : Option (List Nat)
  /-- The alarm changes of that boundary gathered so far, which its end applies in the order of R242. reset: none. -/
  held : List Change
  /-- The last event of an oscillation that was offered (R225). reset: none. -/
  osc : Option OscEvt
  deriving DecidableEq, Repr

/-- A frame in an egress stream queue (R250-R252). -/
structure EgrFrame where
  kind : Nat
  bytes : List Byte
  /-- Key of a C37 data frame (R257). -/
  key : Option Nat
  /-- Tag: key slot, offset of the 16 tag bytes, first covered byte (R248, R249). -/
  auth : Option (Nat × (Nat × Nat))
  /-- GOOSE block (R248). -/
  gcb : Nat
  deriving DecidableEq, Repr

structure Stream where
  q : Queue EgrFrame
  on : Bool
  lastKey : Option Nat
  /-- Images sent in the present second (R256). -/
  cmds : Nat
  /-- TAI ns of the last commit that changed the stream's section (R255). -/
  cfgAt : Option Nat
  /-- Gap fillers still to be sent (R257). -/
  fill : Nat
  deriving DecidableEq, Repr

structure Egr where
  streams : List Stream
  deriving DecidableEq, Repr

/-- An orrery neighbour (R264-R266, R273). -/
structure Nb where
  up : Bool
  depth : Nat
  /-- Missed heartbeats in a row (R280 ORY_W_STAT). reset: 0. -/
  missed : Nat
  /-- A heartbeat has come in the present heartbeat period. reset: false. -/
  heard : Bool
  bitmap : List Nat
  ofs : Int
  dly : Int
  breach : Bool
  tcnt : Nat
  tclr : Nat
  /-- Egress and ingress of the last TIMECHK received (R270). -/
  tchk : Option (Nat × Nat)
  deriving DecidableEq, Repr

/-- Replay state of one origin (R268). -/
structure Replay where
  origin : Nat
  session : Nat
  high : Nat
  win : BitVec 64
  deriving DecidableEq, Repr

/-- An orrery message waiting on the transmit queue: port, bytes of the frame (R267, R269). -/
structure OryFrame where
  port : Nat
  bytes : List Byte
  own : Bool
  deriving DecidableEq, Repr

/-- A tag-checked message at the engine: ingress port, stamp, Ndevar bytes (R268). -/
structure OryMsg where
  port : Nat
  pri : Nat
  arrival : Nat
  /-- Bytes held in staging memory (R89). -/
  len : Nat
  srcMac : Nat
  /-- The UDP payload (R267). -/
  bytes : List Byte
  deriving DecidableEq, Repr

structure Ory where
  joined : Bool
  root : Bool
  pendJoin : Bool
  pendLeave : Bool
  /-- Heartbeats are being sent (R274). reset: false. -/
  beating : Bool
  orphan : Bool
  depth : Nat
  id : Nat
  slot : Nat
  session : Nat
  count : Nat
  nbs : List Nb
  replay : List Replay
  rx : List OryMsg
  tx : Queue OryFrame
  /-- Tag failures on the Coma side not yet reported (R268). reset: 0. -/
  tagFails : Nat
  deriving DecidableEq, Repr

/-- A metering point (R282-R293). -/
structure Point where
  id : Nat
  /-- Enabled in force; a change waits for the cycle boundary (R282). -/
  on : Bool
  /-- The four accumulators in units of 2^-32: 96 bits (R287, R288). -/
  acc : List Nat
  /-- The copy of the last completed snapshot (R291). -/
  snap : List Nat
  exportDir : Bool
  opp : Nat
  missing : Bool
  p : Word
  q : Word
  dem : Word
  maxDem : Word
  /-- Energy that A+ and A- gained since the last demand interval ended, in units of 2^-32 (R292). -/
  demA : Nat
  demB : Nat
  /-- MISS, OVR, REVCNT, DEMCNT (R298). -/
  cnt : List Nat
  /-- Phasor powers of delivered epochs: key, rate, P and Q in 2^-64 W and var, missing (R285). -/
  parts : List (Nat × (Nat × (Int × (Int × Bool))))
  /-- TAI ns of the start of the next cycle to be added (R283). -/
  cycAt : Nat
  /-- The descriptors of the channels used, as they stood when the point was enabled (R282). -/
  sig : List Nat
  deriving DecidableEq, Repr

/-- A pending snapshot: its number and instant, whether NRG.SNAPSHOT commanded it, and the copies taken so far, by point (R291). -/
structure Snap where
  num : Nat
  inst : Nat
  cmd : Bool
  copies : List (Nat × List Nat)
  deriving DecidableEq, Repr

structure Nrg where
  points : List Point
  cold : Bool
  /-- Pending snapshots, oldest first (R291). reset: none. -/
  snaps : List Snap
  snapNum : Nat
  snapT : Nat
  /-- Number of the next snapshot requested (R291). reset: 1. -/
  nextNum : Nat
  lastDemand : Nat
  /-- The last FINAL delivery of each group (R285). reset: none. -/
  finals : List Delivery
  deriving DecidableEq, Repr

/-- A pulse output (R294-R299). -/
structure Pul where
  /-- Residue in units of 2^-32 (R294). reset: 0. -/
  r : Nat
  /-- Scheduled due instants, TAI ns, in order (R294). reset: none. -/
  due : List Nat
  inPulse : Bool
  inGap : Bool
  /-- TAI ns at which the pulse in progress ends, and its gap (R295). reset: 0. -/
  widthEnd : Nat
  gapEnd : Nat
  pend : Nat
  late : Nat
  count : Nat
  lastNs : Nat
  ball : Bool
  readback : Bool
  misses : Nat
  /-- PUL_Pp_CFG has been written since chip reset (R296). reset: false. -/
  written : Bool
  deriving DecidableEq, Repr

/-- A closed summary (R353, R354). -/
structure Summ where
  metric : Nat
  kind : Nat
  inst : Nat
  ivl : Nat
  opmin : Nat
  payload : List Byte
  /-- Pending repeats (R357). -/
  reps : Nat
  deriving DecidableEq, Repr

/-- A staging summary in progress: the counts or samples of a metric's instance (R353). -/
structure Stage where
  metric : Nat
  inst : Nat
  vals : List Int
  /-- Extremes so far: minimum and maximum by place (R354 kind 1). -/
  ext : List (Option (Int × Int))
  deriving DecidableEq, Repr

structure Rec where
  /-- Slots of the MRAM log that have been written: slot and its 128 bytes (R351). reset: none, log 16. -/
  log : List (Nat × List Byte)
  bad : List Nat
  nextSeq : Nat
  newest : Nat
  any : Bool
  notes : List (Nat × List Byte)
  selfIdx : Nat
  selfCnt : Nat
  wrapped : Bool
  /-- The write queue, 512 summaries (R355). reset: empty. -/
  q : Queue Summ
  /-- AON_OPMIN at the first drop of each GAP marker of the queue, and of the drops that have none yet (R354, R376). reset: none. -/
  gapAt : List Nat
  /-- A trailer rewrite that waits: sequence number (R356). reset: none. -/
  rewrites : List Nat
  frozen : Bool
  clearing : Bool
  halted : Bool
  selfBad : Bool
  seqEnd : Bool
  badRun : Nat
  stage : List Stage
  /-- Flags for the first record after start-up: retention loss, RSTCAUSE valid, staging lost (R351, R358). -/
  firstFlags : Nat
  tampSeen : Nat
  /-- Operating minutes at which the intervals in progress began (R353, R358). reset: 0. -/
  lastClose : Nat
  lastHour : Nat
  lives : List (Nat × Life)
  deriving DecidableEq, Repr

/-- An update session of one half (R392-R395). -/
structure Upd where
  port : Option Nat
  len : Nat
  data : List Byte
  verified : Bool
  verifying : Bool
  switching : Bool
  /-- The new image has reported ready (R394 step 4). reset: false. -/
  ready : Bool
  rollback : Bool
  /-- TAI seconds of the last switch and its dispatch pause in us (R401 SWT, SWDLY); TAI ns at which the pause began. -/
  switchAt : Nat
  delay : Nat
  pausedAt : Nat
  deriving DecidableEq, Repr

structure Update where
  coma : Upd
  nuc : Upd
  /-- The boot flash's density in bytes and its two directory copies as read or last written (R385-R387). reset: none, empty. -/
  density : Option Nat
  copy0 : List Byte
  copy1 : List Byte
  /-- The boot-flash directory in use, and whether it is copy 1 (R387). reset: none, false. -/
  dir : Option Directory
  dirAt : Bool
  /-- Bytes of the flash's image regions by the address at which each starts, as read or last written (R386). reset: [], no region known yet (DESIGN CHOICE, log 167). -/
  flash : List (Nat × List Byte)
  deriving DecidableEq, Repr

/-- The state of the block. -/
structure State where
  /-- Commands waiting, first in, first out. reset: empty. -/
  pending : List Instr
  pwr : Power
  cmd : Cmd
  attn : Attn
  regC : RegFile
  regN : RegFile
  flt : Faults
  core : Cores
  tlkC : TlkEnd
  tlkN : TlkEnd
  sys : SysState
  prt : List Port
  xcv : List Xcv
  tim : Tim
  aon : Aon
  keys : Keys
  afe : Afe
  tbl : Tables
  ing : Ing
  aln : Aln
  phx : Phx
  isl : Isl
  lbe : List Lbe
  alm : Alm
  egr : Egr
  ory : Ory
  nrg : Nrg
  pul : List Pul
  rcd : Rec
  upd : Update
  /-- The model's own counter of free values drawn (log 12). reset: 0, DESIGN CHOICE. -/
  free : Nat
  deriving DecidableEq, Repr

/-- Reasons the machine can stop with a fault: none. No meaning of the model raises one (the spec gives the block no
stop); the type has one constructor so that it is inhabited. It is raised by nobody. Safe. -/
inductive Fault where
  /-- Raised by no command. Safe. -/
  | never
  deriving DecidableEq, Repr

/-- Reasons a command has no meaning. -/
inductive Refusal where
  /-- An arm of exec that has no meaning yet, by the table's mnemonic. Safe: nothing can be proved of it. -/
  | notModelled (mnemonic : String)
  deriving DecidableEq, Repr

/-! ## The reset state: chip reset has just been released, phase P1 begins (R389, R407). -/

def RegFile.empty : RegFile := { rw := [], ctr := [], evt := [], win := [], cor := [] }

def Queue.new {α : Type} (cap : Nat) : Queue α := { entries := [], pend := 0, cap := cap }

def RetPath.none : RetPath := { mac := 0, v6 := false, tag := Option.none, dscp := 0, pri := 0, len := 0 }

/-- Words of the host reply pool: 64 KiB (R374). -/
def replyPoolWords : Nat := 16384

def CmdPort.fresh (id : Nat) : CmdPort :=
  { id := id, net := 0, v6 := false, ip := 0, udp := 0, path := RetPath.none, expected := 0, last := none,
    dropped := false, q := Queue.new replyPoolWords, cursor := false }

def Cmd.reset : Cmd :=
  { ports := [CmdPort.fresh 0], ops := [], recs := [], waiting := [], servedC := List.replicate 16 none,
    servedN := List.replicate 16 none, answers := [], hspOut := [], discards := 0 }

def Attn.reset : Attn := { level := 0, bits := 0, gen := 0, evLevel := 0, evBits := 0 }

def Power.reset : Power :=
  { mode := .standby, trans := .none, backToService := false, phase := 1, inReset := false, resetDue := false, dueAt := 0,
    grave := false, nrst := false, stopped := false, rom := false, hspBoot := false, fw := false, cslot := false, nslot := false,
    fail := 0, straps := 0, held := false, main := true, lockout := false, onVbat := false, vddioLow := false,
    timer := false, low := [], vbat := true, rstN := true, trst := true, tap := .idcode, tapCells := [], tapOut := [] }

def FltSrc.clear : FltSrc :=
  { handling := false, real := false, forced := false, missed := false, present := false, occ := 0, supp := 0,
    lvl := 0 }

def Faults.reset : Faults :=
  { coma := List.replicate 96 FltSrc.clear, nuc := List.replicate 64 FltSrc.clear, windows := [], held := [],
    pulse := false, errnSw := false, rstCause := 0, graveSrc := 0, heldTrapC := false, heldTrapN := false,
    errnMiss := 0, errnLevel := true }

def Cores.reset : Cores :=
  { coma := List.replicate 3 .retired, nuc := List.replicate 5 .retired, pausedC := false, pausedN := false, testing := [],
    repairing := [], due := [] }

def TlkEnd.reset : TlkEnd :=
  { up := false, rt := none, rxSub := none, txSub := none, replay := false, meas := none, txPkt := 0, rxPkt := 0,
    part := List.replicate 4 [], got := List.replicate 4 [] }

def Scrub.reset : Scrub := { mins := 0, passes := 0 }

def SysState.reset : SysState :=
  { scrubC := Scrub.reset, scrubN := Scrub.reset, tjC := 0, tjN := 0, tjxC := none, tjxN := none, vmon := List.replicate 10 0, verC := 0, verN := 0,
    xbus := { sel := none, mux := none, clocks := 0, stops := 0 } }

def Port.reset : Port :=
  { link := false, lock := false, hiBer := false, rfault := false, sendsFault := true, pause := List.replicate 8 0, xoff := 0,
    occ := List.replicate 8 0, fw := [], pfc := List.replicate 8 none, served := List.replicate 8 63, wire := [], loop := [], answers := 0,
    rxBytes := 0, txBytes := 0, bers := 0, linkDelay := 0, delayKnown := false, pdreq := none, pdseq := 0, pdtwo := none, offAfter := none }

def Xcv.reset : Xcv :=
  { present := false, los := false, txflt := false, txHold := false, txFail := false, idValid := false, idDone := false, ddm := false,
    extCal := false, wearing := false, lifeDue := false, tries := 0, a0 := [], a2 := [], debounce := none,
    diag := [0, 0, 0, 0, 0], life := none, inserted := false, pollDue := false }

def Domain.reset (utc : Int) : Domain :=
  { parent := 0, pstate := 0, healthy := false, syncOk := false, annOk := false, gm := none, ofs := 0, hist := [], outliers := [], integ := 0, prop := 0,
    mpds := [], nmpd := 0, base := 0, overs := 0, frozen := false, suspect := false, check := false, ref := 0, ref0 := 0,
    pps0 := none, refLost := false, ppsLost := false, utc := utc, utcValid := false, leap61 := false, leap59 := false,
    taken := false, announced := false, twoStep := none, dreq := none, dseq := 0, lastSync := none }

def Tim.reset (utc : Int) : Tim :=
  { now := 0, count := 0, rate := 0, rates := [], rateAt := 0, state := .unset, sel := .a, stepped := false, restep := false, disagree := false,
    ppsValid := false, ppsRun := 0, ppsSec := 0, ppsOfs := 0, tref := false, trefErr := 0, utc := utc, utcValid := false,
    leap61 := false, leap59 := false, leapInst := 0, leapUntil := 0, leapDir := false, utcBefore := utc, utcAt := none, calSet := false, hoAt := 0,
    hoErr := 0, ppsOut := false, ppsBall := false, follow := 0, fofs := 0, valid := [], domA := Domain.reset utc, domB := Domain.reset utc }

def KeySlot.empty : KeySlot :=
  { st := 0, derived := false, parent := 0, gen := 0, masked := 0, mask := 0, window := false }

def Keys.reset : Keys := { slots := List.replicate 64 KeySlot.empty, rsp := 0, remaskOk := false, vendor := Config.vendorKey }

def Aon.reset : Aon :=
  { year := 2000, month := 1, day := 1, hour := 0, minute := 0, second := 0, calValid := false,
    stopped := false, prescAt := none, calPend := false, utcofs := 37, tampCnt := 0, tampDate := 0, tampTime := 0, t0 := false, t1 := false,
    mesh := false, meshMiss := 0, meshMatch := 0, lfsr := 1, tampPend := false, vbatMv := 0, batUse := 0, batAge := 0,
    batPresent := false, batDue := false, batRaised := false, batPend := false, synced := false, pwrCyc := 0, opMin := 0, retCnt := 0,
    retLatch := false, retPend := false }

def Chain.reset : Chain :=
  { running := false, integ := [], comb := [], outReg := 0, fir := [], outs := 0, periods := 0, level := false, same := 0, last := 0,
    g0 := 0, vals := [] }

def Chan.reset : Chan :=
  { running := false, x1 := false, quiet := 0, custom := none, taps := none, wave := [], lastCyc := [] }

def Afe.reset : Afe :=
  { chans := List.replicate 8 Chan.reset, chains := List.replicate 13 Chain.reset,
    gain := (List.range 13).map Config.trimGain, ofs := (List.range 13).map Config.trimOffset,
    calT := List.replicate 13 0, rover := none, calQ := [], bgNext := 0, bgDue := 0, sync := none, syncAt := 0, autoWait := false, lastSync := 0,
    lastSyncSrc := 0, synced := false, syncEdge := none, syncLow := false, seqAlarm := false, seqRun := 0,
    neutAlarm := false, neutRun := 0, seqAng := 0, rvMism := 0, cycDone := 0 }

def Tbl.reset : Tbl := { active := [], staging := none, holder := none, pendingCommit := false }

def Tables.reset : Tables :=
  { tbl := List.replicate 9 Tbl.reset, commits := [], drain := [], oldTopo := none }

def Ing.reset : Ing := { cands := [], svs := [], q := Queue.new 16384, srcs := [] }

def Grp.reset : Grp :=
  { run := .stopped, since := 0, stopAt := 0, ended := none, conjs := [], lastKey := 0, last := 0, lastT := 0, provT := 0xFFFFFFFF, qstat := 0,
    expect := 0 }

def Aln.reset : Aln := { grps := List.replicate 8 Grp.reset, spares := 4, repair := false, repLeft := 0 }

def Phx.reset : Phx := { ests := [], pairs := [] }

def Isl.reset : Isl :=
  { on := false, armed := false, init := true, q := [], islands := [], branches := [], nextHandle := 1, prov := [],
    lastKey := 0, lastT := 0, overflow := 0, elog := [], elogNext := 0, rounds := [], roundsUsed := 0,
    incomplete := false, incRun := 0, prevLabels := [], learnt := [],
    inbox := [] }

def Mode.free : Mode :=
  { held := false, stale := false, missed := 0, f := 0, zeta := 0, shape := [], q := (0, 0), e1 := 0, e2 := 0, mq := 0,
    updates := 0, cls := 0, cand := 0, candRun := 0, inCls := 0, damp := false, dampRun := 0, forced := false,
    forcedRun := 0, flows := [] }

def Lbe.reset : Lbe :=
  { running := false, started := false, since := 0, rate := 0, group := 0, q := [], prevKey := none, means := [],
    unwraps := [], biquads := [], hist := [], w := [], p := [], trk := 0, skipped := false, cfgstop := false, stopping := false, cvgAt := 0,
    modes := List.replicate 16 Mode.free, lastT := 0, mem := 0, lastKey := 0, defs := [],
    cfg := [0x1E32012C, 0, 0x5A33C832, 0x3C] }

def Pin.reset : Pin :=
  { ball := false, logical := false, width := false, lastNs := 0, misses := 0, readback := false, mirror := 0 }

def Goose.reset : Goose := { st := 0, sq := 0, t := [], vals := [], times := [], repeatI := 0 }

def Alm.reset : Alm :=
  { rules := [], watches := [], pins := List.replicate 8 Pin.reset, goose := List.replicate 16 Goose.reset,
    dgSeq := List.replicate 64 0, rulesOn := true, rulesWait := none, gooseHold := none, held := [], osc := none }

def Stream.reset : Stream := { q := Queue.new 0, on := false, lastKey := none, cmds := 0, cfgAt := none, fill := 0 }

def Egr.reset : Egr := { streams := List.replicate 64 Stream.reset }

def Nb.reset : Nb :=
  { up := false, depth := 0, missed := 0, heard := false, bitmap := [], ofs := 0, dly := 0, breach := false, tcnt := 0, tclr := 0, tchk := none }

def Ory.reset : Ory :=
  { joined := false, root := false, pendJoin := false, pendLeave := false, beating := false, orphan := false, depth := 0,
    id := 0, slot := 0, session := 0, count := 0, nbs := List.replicate 32 Nb.reset, replay := [], rx := [],
    tx := Queue.new 262144, tagFails := 0 }

def Nrg.reset : Nrg :=
  { points := [], cold := true, snaps := [], snapNum := 0, snapT := 0, nextNum := 1, lastDemand := 0, finals := [] }

def Pul.reset : Pul :=
  { r := 0, due := [], inPulse := false, inGap := false, widthEnd := 0, gapEnd := 0, pend := 0, late := 0, count := 0, lastNs := 0, ball := false,
    readback := false, misses := 0, written := false }

def Rec.reset : Rec :=
  { log := [], bad := [], nextSeq := 1, newest := 0, any := false, notes := [], selfIdx := 0, selfCnt := 0, wrapped := false,
    q := Queue.new 512, rewrites := [], frozen := false, clearing := false, halted := false, selfBad := false,
    seqEnd := false, badRun := 0, gapAt := [], stage := [], firstFlags := 0, tampSeen := 0, lastClose := 0, lastHour := 0,
    lives := [] }

def Upd.reset : Upd :=
  { port := none, len := 0, data := [], verified := false, verifying := false, switching := false, ready := false,
    rollback := false, switchAt := 0, delay := 0, pausedAt := 0 }

/-- The session released; what the registers say of the last switch stays (R392, R401). -/
def Upd.released (u : Upd) : Upd := { Upd.reset with rollback := u.rollback, switchAt := u.switchAt, delay := u.delay }

def Update.reset : Update := { coma := Upd.reset, nuc := Upd.reset, density := none, copy0 := [], copy1 := [], dir := none, dirAt := false, flash := [] }

/-- The machine right after chip reset is released: phase P1 begins (R389, R407). -/
def State.reset : State :=
  { pending := [], pwr := Power.reset, cmd := Cmd.reset, attn := Attn.reset, regC := RegFile.empty, regN := RegFile.empty,
    flt := Faults.reset, core := Cores.reset, tlkC := TlkEnd.reset, tlkN := TlkEnd.reset, sys := SysState.reset,
    prt := List.replicate 4 Port.reset, xcv := List.replicate 4 Xcv.reset, tim := Tim.reset 37, aon := Aon.reset,
    keys := Keys.reset, afe := Afe.reset, tbl := Tables.reset, ing := Ing.reset, aln := Aln.reset, phx := Phx.reset,
    isl := Isl.reset, lbe := List.replicate 32 Lbe.reset, alm := Alm.reset, egr := Egr.reset, ory := Ory.reset,
    nrg := Nrg.reset, pul := List.replicate 4 Pul.reset, rcd := Rec.reset, upd := Update.reset, free := 0 }

end Sys2Proof.Machine
end

