-- ==== Sys2Proof/Machine/Ops.lean ====
section
/-! DEFINITION. The named operations every meaning is made of: bit fields, lists by index and by key, sparse word maps in
their canonical form, registers that are storage, counters, event bits, free values, the time base. -/

namespace Sys2Proof.Machine

/-! ## Words and bit fields (R9, R10) -/

/-- Bits hi..lo of a word. -/
def bits (w : Word) (hi lo : Nat) : Nat := (w.toNat >>> lo) % 2 ^ (hi + 1 - lo)

/-- Bit i of a word. -/
def bit (w : Word) (i : Nat) : Bool := w.getLsbD i

/-- The word of a number, modulo 2^32. -/
def w32 (n : Nat) : Word := BitVec.ofNat 32 n

/-- The word of a signed number, two's complement. -/
def wInt (i : Int) : Word := BitVec.ofInt 32 i

/-- 1 for true, 0 for false. -/
def b2n (b : Bool) : Nat := if b then 1 else 0

/-- A signed number of k bits from its two's complement. -/
def sext (k n : Nat) : Int := if n % 2 ^ k < 2 ^ (k - 1) then (n % 2 ^ k : Nat) else (n % 2 ^ k : Nat) - (2 ^ k : Nat)

/-- The k-bit two's complement of a signed number. -/
def twos (k : Nat) (i : Int) : Nat := (i % (2 ^ k : Nat)).toNat

/-- A number held at its largest k-bit value (a saturating field). -/
def sat (k n : Nat) : Nat := if n < 2 ^ k then n else 2 ^ k - 1

/-- A signed number held in the k-bit range (a saturating signed field). -/
def satI (k : Nat) (i : Int) : Int :=
  if i < -(2 ^ (k - 1) : Nat) then -(2 ^ (k - 1) : Nat) else if i ≥ (2 ^ (k - 1) : Nat) then (2 ^ (k - 1) : Nat) - 1 else i

/-- High and low word of a 64-bit value (R406: high word first). -/
def hiW (n : Nat) : Word := w32 (n >>> 32)
def loW (n : Nat) : Word := w32 n

/-- The number spelled by bytes, most significant first (R9). -/
def beNat (bs : List Byte) : Nat := bs.foldl (fun a b => a * 256 + b.toNat) 0

/-- A number as n bytes, most significant first (R9). -/
def beBytes : Nat → Nat → List Byte
  | 0, _ => []
  | n + 1, v => BitVec.ofNat 8 (v >>> (8 * n)) :: beBytes n v

/-- The bytes at offset o, n of them. -/
def slice (o n : Nat) (bs : List Byte) : List Byte := (bs.drop o).take n

/-- The number in the n bytes at offset o. -/
def fieldAt (o n : Nat) (bs : List Byte) : Nat := beNat (slice o n bs)

/-- The bytes with those at offset o replaced by the new ones. -/
def patch (o : Nat) (new bs : List Byte) : List Byte := bs.take o ++ new ++ bs.drop (o + new.length)

/-- Words as bytes, first byte in bits 31-24 (R9). -/
def bytesOf (ws : List Word) : List Byte := ws.flatMap (fun w => beBytes 4 w.toNat)

/-- Bytes as words, four to a word, the last filled with zeros. -/
def wordsN : Nat → List Byte → List Word
  | 0, _ => []
  | n + 1, bs => w32 (beNat ((bs ++ [0, 0, 0, 0]).take 4)) :: wordsN n (bs.drop 4)

/-- Bytes as the fewest words that hold them. -/
def wordsOf (bs : List Byte) : List Word := wordsN ((bs.length + 3) / 4) bs

/-- Rounding of a quotient to the nearest whole number, halves up. -/
def roundDiv (a : Int) (b : Nat) : Int := if b = 0 then 0 else (2 * a + b).fdiv (2 * b)

/-- The largest whole number whose square is at most n, found bit by bit. -/
def isqrtAux (n : Nat) : Nat → Nat → Nat
  | 0, r => r
  | k + 1, r => let r' := r + 2 ^ k; isqrtAux n k (if r' * r' ≤ n then r' else r)

def isqrt (n : Nat) : Nat := isqrtAux n (n.log2 / 2 + 1) 0

/-! ## Lists by index and by key -/

/-- The element at an index, or a value where there is none. -/
def nth {α : Type} (d : α) (l : List α) (i : Nat) : α := l.getD i d

/-- The list with the element at an index changed; unchanged where there is none. -/
def at' {α : Type} (l : List α) (i : Nat) (f : α → α) : List α := l.modify i f

/-- The list with element x put in the place of the one of its key, or inserted where keys keep rising. -/
def insertBy {α : Type} (key : α → Nat) (x : α) : List α → List α
  | [] => [x]
  | y :: ys => if key x < key y then x :: y :: ys else if key x = key y then x :: ys else y :: insertBy key x ys

/-- The element of a key. -/
def findBy {α : Type} (key : α → Nat) (k : Nat) (l : List α) : Option α := l.find? (fun y => key y == k)

/-- Removes the element of a key. -/
def eraseBy {α : Type} (key : α → Nat) (k : Nat) (l : List α) : List α := l.filter (fun y => key y != k)

/-- The sum of a list. -/
def sumN (l : List Nat) : Nat := l.foldl (· + ·) 0
def sumI (l : List Int) : Int := l.foldl (· + ·) 0

/-- The least and greatest of a list, or a value where it is empty. -/
def minN (d : Nat) : List Nat → Nat
  | [] => d
  | x :: xs => xs.foldl Nat.min x
def maxN (d : Nat) : List Nat → Nat
  | [] => d
  | x :: xs => xs.foldl Nat.max x

/-- Insertion into a rising list of integers, and sorting by insertion. -/
def insertI (x : Int) : List Int → List Int
  | [] => [x]
  | y :: ys => if x ≤ y then x :: y :: ys else y :: insertI x ys
def sortI (l : List Int) : List Int := l.foldr insertI []
/-- A number put into a rising list, before its equals. -/
def insertN (x : Nat) : List Nat → List Nat
  | [] => [x]
  | y :: ys => if x ≤ y then x :: y :: ys else y :: insertN x ys

/-- The middle of eight sorted values: the mean of the 4th and 5th (R66); of any other number, the lower-middle pair's mean. -/
def medianI (l : List Int) : Int :=
  let q := sortI l
  if q.length % 2 = 1 then nth 0 q (q.length / 2) else (nth 0 q (q.length / 2 - 1) + nth 0 q (q.length / 2)).fdiv 2

/-! ## Sparse word maps -/

/-- The word at a key; where the map lists none, the word of the default. -/
def WMap.get (d : Nat → Word) (m : WMap) (k : Nat) : Word :=
  match m with
  | [] => d k
  | (k', v) :: r => if k = k' then v else WMap.get d r k

/-- The map without a key. -/
def WMap.erase (k : Nat) : WMap → WMap
  | [] => []
  | (k', v) :: r => if k = k' then WMap.erase k r else (k', v) :: WMap.erase k r

/-- The map with a word listed at a key. -/
def WMap.insert (k : Nat) (w : Word) : WMap → WMap
  | [] => [(k, w)]
  | (k', v) :: r => if k = k' then (k, w) :: r else if k < k' then (k, w) :: (k', v) :: r else (k', v) :: WMap.insert k w r

/-- The map after a write: a word equal to the default is not listed, so equal contents are equal maps. -/
def WMap.put (d : Nat → Word) (m : WMap) (k : Nat) (w : Word) : WMap := if w = d k then WMap.erase k m else WMap.insert k w m

/-- Canonical form: keys strictly rise and no listed word equals its default. -/
def WMap.wfFrom (d : Nat → Word) (lo : Nat) : WMap → Bool
  | [] => true
  | (k, v) :: r => decide (lo ≤ k) && decide (v ≠ d k) && WMap.wfFrom d (k + 1) r
def WMap.wf (d : Nat → Word) (m : WMap) : Bool := WMap.wfFrom d 0 m

/-- The default of a table, a counter, an event register: all words 0. -/
def zeroW : Nat → Word := fun _ => 0

/-! ## Register addresses (R404, R405) -/

def aPrt (n o : Nat) : Nat := 0x020000 + 0x800 * n + o
def aXcv (n o : Nat) : Nat := 0x030000 + 0x100 * n + o
def aDom (d : Dom) (o : Nat) : Nat := (match d with | .a => 0x040400 | .b => 0x040800) + o
def aAfeC (c o : Nat) : Nat := 0x060080 + 0x80 * c + o
def aCicC (c o : Nat) : Nat := 0x068080 + 0x80 * c + o
def aNrg (m o : Nat) : Nat := 0x070100 + 0x10 * m + o
def aPul (p o : Nat) : Nat := 0x078000 + 0x40 * p + o
def fltBase (h : Half) : Nat := match h with | .coma => 0x080000 | .nucleus => 0x090000
def aFlt (h : Half) (n o : Nat) : Nat := fltBase h + 0x80 + 0x10 * n + o
def aGrp (g o : Nat) : Nat := 0x030400 + 0x100 * g + o
def aLbe (e o : Nat) : Nat := 0x060100 + 0x80 * e + o
def aPin (p o : Nat) : Nat := 0x070100 + 0x20 * p + o
def aGse (c o : Nat) : Nat := 0x070200 + 0x20 * c + o
def aEgr (s o : Nat) : Nat := 0x078080 + 0x10 * s + o
def aNb (k o : Nat) : Nat := 0x080100 + 0x10 * k + o
def aKey (k o : Nat) : Nat := 0x058080 + 8 * k + o
def aLane (l o : Nat) : Nat := 0x010080 + 0x20 * l + o

/-- Offset o of instance of a repeated sub-block: instance and offset of an address, where it lies in one (R405). -/
def inst (first stride n size a : Nat) : Option (Nat × Nat) :=
  if first ≤ a ∧ (a - first) / stride < n ∧ (a - first) % stride < size then some ((a - first) / stride, (a - first) % stride) else none

/-! ## Fault classes (R336-R339), which give the reset words of the source configurations -/

def fltClass (h : Half) (n : Nat) : Nat :=
  match h with
  | .coma =>
    if n ∈ [34, 42, 47, 48, 49, 50, 60, 61, 62, 88, 89, 90, 91, 92, 93, 94, 95] then 0
    else if n ∈ [8, 33, 35, 86] then 1
    else if n ∈ [5, 6] then 4
    else if n ∈ [2, 9, 37, 38, 39, 43, 44, 45, 46, 51, 52, 53, 54, 55, 56, 57, 58, 76, 77, 78, 79, 80, 82, 83, 85, 87] then 2
    else if 12 ≤ n ∧ n ≤ 20 then 2
    else if 63 ≤ n ∧ n ≤ 75 then 2
    else 3
  | .nucleus =>
    if n ∈ [8, 24, 61] then 0
    else if n ∈ [5, 7] then 1
    else if n = 3 then 4
    else if n ∈ [4, 6, 12, 13, 14, 15, 16, 21, 23, 25, 58, 62, 63] then 2
    else if 26 ≤ n ∧ n ≤ 57 then 2
    else 3

/-- Default reactions: attn 0, trap 1, brst 2, crst 3, errp 4 (R336, R337). -/
def fltDefault (h : Half) (n : Nat) : Word :=
  if (h = .coma ∧ (n = 0 ∨ n = 7)) ∨ (h = .nucleus ∧ n ≤ 1) then 0x18
  else match fltClass h n with
    | 2 => 0x01
    | 3 => 0x12
    | 4 => 0x10
    | _ => 0

/-- The reset domain of a source (R342). -/
def fltDomain (h : Half) (n : Nat) : Option ResetDomain :=
  match h with
  | .coma =>
    if 43 ≤ n ∧ n ≤ 46 then some (.prt (n - 43))
    else if 47 ≤ n ∧ n ≤ 50 then some (.prt (n - 47))
    else if 92 ≤ n ∧ n ≤ 95 then some (.prt (n - 92))
    else if 51 ≤ n ∧ n ≤ 55 then some .xcv
    else if 88 ≤ n ∧ n ≤ 91 then some .xcv
    else if 56 ≤ n ∧ n ≤ 59 then some .tim
    else if 60 ≤ n ∧ n ≤ 75 then some .afe
    else if 37 ≤ n ∧ n ≤ 39 then some (.core .coma (n - 37))
    else if n = 85 ∨ n = 35 then some .recorder
    else if n = 83 ∨ n = 84 then some .key
    else none
  | .nucleus =>
    if 12 ≤ n ∧ n ≤ 16 then some (.core .nucleus (n - 12))
    else if n = 24 ∨ n = 25 then some .isl
    else if 26 ≤ n ∧ n ≤ 57 then some (.lbe (n - 26))
    else none

/-- The dependants of a domain (R342). -/
def fltDependant (d : ResetDomain) (h : Half) (n : Nat) : Bool :=
  match d, h with
  | .prt p, .coma => n == 47 + p || n == 92 + p || n == 88 + p
  | .xcv, .coma => decide (88 ≤ n) && decide (n ≤ 91)
  | .tim, .nucleus => n == 4 || n == 62
  | .afe, .nucleus => n == 23
  | .core .coma _, .coma => n == 7
  | .core .nucleus _, .nucleus => n == 1
  | .recorder, .coma => n == 35
  | _, _ => false

/-! ## Reset words (R408, and the whole-register resets of the chapters) -/

def resetC (a : Nat) : Word :=
  if a < 0x020000 then 0
  else if a < 0x030000 then
    match inst 0x020000 0x800 4 0x1C0 a with
    | some (n, o) =>
      if o = 0 then 0x5 else if o = 4 then 0x600
      else if o = 0x10 then w32 ((Config.portMac n).toNat >>> 32)
      else if o = 0x14 then w32 (Config.portMac n).toNat
      else if o = 0x2C then 0x4000 else if o = 0x30 then 0xCB99CB98
      else if o = 0x44 then 0xFFFF01C0 else if o = 0x48 then 0x000C0020 else if o = 0x4C then 0x20 else 0
    | none => 0
  else if a < 0x040000 then
    match inst 0x030000 0x100 4 0xC0 a with
    | some (n, o) => if o = 0 then (if n = 0 then 0xE005 else 1) else if o = 0xC then 0x80 else 0
    | none => 0
  else if a < 0x050000 then
    if a = 0x040000 then 0x3C07 else if a = 0x040008 then 0x3E8 else if a = 0x04000C then 0x80FA07D0
    else if a = 0x040014 then 0x100 else if a = 0x040024 then 1 else if a = 0x04002C then 0x64 else if a = 0x040060 then 0xF0
    else if a = 0x040400 then 0x00070011 else if a = 0x040800 then 0x00070010
    else if a = 0x040404 then 0x00070001 else if a = 0x040804 then 0x00070002
    else if a = 0x040408 ∨ a = 0x040808 then 0x00030000
    else if a = 0x04040C ∨ a = 0x04080C then 0x10 else 0
  else if a < 0x058000 then
    if a = 0x050000 then 0xF else if a = 0x05002C then 0x07D00A28 else if a = 0x050030 then 0x3C5000DC else 0
  else if a < 0x060000 then (if a = 0x058000 then 0x10 else 0)
  else if a < 0x070000 then
    if a = 0x060000 then 0x71 else if a = 0x06000C then 0x1405012C else if a = 0x060014 then 0x190A0A0A
    else if a = 0x060018 then 3 else 0
  else if a < 0x078000 then
    if a = 0x070000 then 0xCF
    else match inst 0x070100 0x10 256 0x10 a with
      | some (_, o) => if o = 8 then 0x3F800000 else 0
      | none => 0
  else if a < 0x080000 then
    match inst 0x078000 0x40 4 0x30 a with
    | some (_, o) => if o = 0 then 0x2000 else if o = 4 then 1000 else if o = 8 then 0x00640064 else 0
    | none => 0
  else if a < 0x090000 then
    if a = 0x080000 then 2
    else match inst 0x080080 0x10 96 0xC a with
      | some (n, o) => if o = 0 then fltDefault .coma n else 0
      | none => 0
  else if a = 0x090000 then 0x3C03
  else if a = 0x0A0000 then 0x100 else if a = 0x0A0004 then 0x4220 else if a = 0x0A0008 then 0xCA86
  else if 0x0A000C ≤ a ∧ a ≤ 0x0A0018 then 0x04000400
  else if a = 0x0A001C then 0x100 else if a = 0x0A0020 then 0x14 else 0

def resetN (a : Nat) : Word :=
  if a < 0x020000 then 0
  else if a < 0x030000 then
    if a = 0x020000 then 0x21 else if a = 0x020010 then 0x100 else if a = 0x020014 then 0x240 else 0
  else if a < 0x040000 then
    if a = 0x030000 then 1 else if a = 0x030020 then 0x40
    else match inst 0x030400 0x100 8 0xC0 a with
      | some (_, o) => if o = 4 then 2 else if o = 8 then 0x01800100 else if o = 0xC ∨ o = 0x10 then 0xFFFFFFFF else 0
      | none => 0
  else if a < 0x050000 then
    if a = 0x040000 then 0x43 else if a = 0x04000C then 0x7D0 else if a = 0x040010 then 0xFD00 else 0
  else if a < 0x060000 then (if a = 0x050004 then 0x00020E18 else if a = 0x05002C then 0x01F40008 else 0)
  else if a < 0x070000 then
    if a = 0x060000 then 1
    else match inst 0x060100 0x80 32 0x70 a with
      | some (_, o) => if o = 4 then 0x1E32012C else if o = 0xC then 0x5A33C832 else if o = 0x10 then 0x3C else 0
      | none => 0
  else if a < 0x078000 then
    if a = 0x070000 then 3
    else match inst 0x070200 0x20 16 0x20 a with
      | some (_, o) => if o = 4 then 0x03E80002 else 0
      | none => 0
  else if a < 0x080000 then
    match inst 0x078080 0x10 64 0xC a with
    | some (_, o) => if o = 0 then 0x00401000 else 0
    | none => 0
  else if a < 0x090000 then
    if a = 0x080000 then 2 else if a = 0x080014 then 0x30A else if a = 0x080018 then 0x00032710 else if a = 0x08001C then 0x81 else 0
  else if a < 0x0A0000 then
    match inst 0x090080 0x10 64 0xC a with
    | some (n, o) => if o = 0 then fltDefault .nucleus n else 0
    | none => 0
  else if a = 0x0A0000 then 0x100 else if a = 0x0A0004 then 0x4220 else if a = 0x0A0008 then 0xCA86
  else if 0x0A000C ≤ a ∧ a ≤ 0x0A0018 then 0x04000400
  else if a = 0x0A001C then 0x100 else if a = 0x0A0020 then 0x14
  else if a = 0x0B0000 then 2 else 0

/-- The reset word of a register (R408). -/
def resetWord (h : Half) (a : Nat) : Word := match h with | .coma => resetC a | .nucleus => resetN a

/-! ## Registers that are storage (R10, R403, R407) -/

def State.regs (h : Half) (s : State) : RegFile := match h with | .coma => s.regC | .nucleus => s.regN

/-- The state with a half's register file changed. -/
def State.mapRegs (h : Half) (f : RegFile → RegFile) (s : State) : State :=
  { s with regC := (match h with | .coma => f s.regC | .nucleus => s.regC)
           regN := (match h with | .coma => s.regN | .nucleus => f s.regN) }

/-- An RW register: the last value written, or the reset word (R10). -/
def State.rw (h : Half) (a : Nat) (s : State) : Word := WMap.get (resetWord h) (s.regs h).rw a
abbrev State.rwC (a : Nat) (s : State) : Word := s.rw .coma a
abbrev State.rwN (a : Nat) (s : State) : Word := s.rw .nucleus a

/-- Stores an RW register's word. -/
def State.putRw (h : Half) (a : Nat) (w : Word) (s : State) : State :=
  s.mapRegs h (fun r => { r with rw := WMap.put (resetWord h) r.rw a w })

/-- A counter. -/
def State.ctr (h : Half) (a : Nat) (s : State) : Word := WMap.get zeroW (s.regs h).ctr a

/-- A 32-bit saturating counter goes up by n (R407). -/
def State.bump (h : Half) (a n : Nat) (s : State) : State :=
  s.mapRegs h (fun r => { r with ctr := WMap.put zeroW r.ctr a (w32 (sat 32 ((WMap.get zeroW r.ctr a).toNat + n))) })
abbrev State.bumpC (a n : Nat) (s : State) : State := s.bump .coma a n
abbrev State.bumpN (a n : Nat) (s : State) : State := s.bump .nucleus a n

/-- Clears every counter in an address range (a CLR register, R407). -/
def State.clearCtr (h : Half) (lo hi : Nat) (s : State) : State :=
  s.mapRegs h (fun r => { r with ctr := r.ctr.filter (fun e => e.1 < lo || hi ≤ e.1) })

/-- The latched event bits of a W1C register. -/
def State.evt (h : Half) (a : Nat) (s : State) : Word := WMap.get zeroW (s.regs h).evt a

/-- Latches bits of a W1C register (R10). -/
def State.latch (h : Half) (a : Nat) (w : Word) (s : State) : State :=
  s.mapRegs h (fun r => { r with evt := WMap.put zeroW r.evt a (WMap.get zeroW r.evt a ||| w) })
abbrev State.latchC (a i : Nat) (s : State) : State := s.latch .coma a (w32 (2 ^ i))
abbrev State.latchN (a i : Nat) (s : State) : State := s.latch .nucleus a (w32 (2 ^ i))

/-- A write to a W1C register: each 1 clears its bit (R10). -/
def State.w1c (h : Half) (a : Nat) (w : Word) (s : State) : State :=
  s.mapRegs h (fun r => { r with evt := WMap.put zeroW r.evt a (WMap.get zeroW r.evt a &&& ~~~w) })

/-- A clear-on-read value (R406), and its replacement. -/
def State.cor (h : Half) (a : Nat) (s : State) : Word := WMap.get zeroW (s.regs h).cor a
def State.putCor (h : Half) (a : Nat) (w : Word) (s : State) : State :=
  s.mapRegs h (fun r => { r with cor := WMap.put zeroW r.cor a w })

/-- A clear-on-read maximum takes a new value. -/
def State.corMax (h : Half) (a n : Nat) (s : State) : State := s.putCor h a (w32 (Nat.max (s.cor h a).toNat n))

/-- Every register of an address range back at its reset value: a reset that covers the block (R407). -/
def RegFile.resetRange (lo hi : Nat) (r : RegFile) : RegFile :=
  { rw := r.rw.filter (fun e => e.1 < lo || hi ≤ e.1), ctr := r.ctr.filter (fun e => e.1 < lo || hi ≤ e.1),
    evt := r.evt.filter (fun e => e.1 < lo || hi ≤ e.1), win := r.win.filter (fun e => e.1 < lo || hi ≤ e.1),
    cor := r.cor.filter (fun e => e.1 < lo || hi ≤ e.1) }

/-! ## Free values (log 12) -/

/-- A fresh value the spec leaves open, and the state whose counter has moved on. -/
def State.freeWord (s : State) : Word := Config.freeWord s.free
def State.freed (s : State) : State := { s with free := s.free + 1 }

/-! ## The time base (R53) -/

/-- The programmable increment of a rate adjustment in 2^-40: nominally one cycle of the 800 MHz Coma clock, 1.25 ns, in 2^-40 ns (R53; the
clock is the Coma PLL's of R29, DEDUCED, log 122). -/
def increment (rate : Int) : Nat := (5 * 2 ^ 38 * (2 ^ 40 + rate) / 2 ^ 40).toNat
/-- The count, in 2^-40 ns, at the first cycle that has reached n ns (R53). -/
def countAt (rate : Int) (count n : Nat) : Nat :=
  let k := increment rate
  count + ((n * 2 ^ 40 - count + k - 1) / k) * k
/-- The time base set to n ns exactly (R56, R57). -/
def State.setTime (n : Nat) (s : State) : State :=
  { s with tim := { s.tim with now := n, count := n * 2 ^ 40, utcAt := none }, aon := { s.aon with prescAt := none } }

/-- The time base has reached the instant of a command, if that lies ahead (log 3); its count stands at the cycle that did. -/
def State.reach (t : Nat) (s : State) : State :=
  let n := Nat.max s.tim.now t
  { s with tim := { s.tim with now := n, count := countAt s.tim.rate s.tim.count n } }

/-- The follower's time, by which the Nucleus judges boundaries and timed rules: the time base plus its offset, in whole ns (R18, R129). -/
def State.follower (s : State) : Nat := ((s.tim.now : Int) + s.tim.follow.fdiv 256).toNat
/-- The follower has reached t. -/
def State.reachF (t : Nat) (s : State) : State := s.reach ((t : Int) - s.tim.follow.fdiv 256).toNat

/-- TAI seconds, and nanoseconds within the second (R53). -/
def State.sec (s : State) : Nat := s.tim.now / 1000000000
def State.nsec (s : State) : Nat := s.tim.now % 1000000000

end Sys2Proof.Machine
end

