-- ==== Sys2Proof/Machine/Flags.lean ====
section
/-! DEFINITION. The attention state (R41-R43), the power conditions that decide who serves (R27, R30, R390), and the queues
of the common discipline (R374-R379). -/

namespace Sys2Proof.Machine

/-! ## Attention (R41-R43) -/

/-- A half's fault sources. -/
def Faults.list (h : Half) (f : Faults) : List FltSrc := match h with | .coma => f.coma | .nucleus => f.nuc

/-- The level of the persisting conditions (R42): grave, or the highest of the sources in handling. -/
def State.persist (s : State) : Nat :=
  if s.pwr.grave then 4 else (s.flt.coma ++ s.flt.nuc).foldl (fun a x => if x.handling then Nat.max a x.lvl else a) 0

/-- Attention fields that the conditions and the unacknowledged events give (R42). -/
def State.attnLevel (s : State) : Nat := Nat.max s.persist s.attn.evLevel
def State.attnBits (s : State) : BitVec 5 := s.attn.evBits ||| (if s.persist = 0 then 0 else 1)

/-- The attention state recomputed; the count moves when told so, or when a field changes (R41). -/
def State.reattn (always : Bool) (s : State) : State :=
  { s with attn := { s.attn with
      level := s.attnLevel, bits := s.attnBits,
      gen := if always || decide (s.attnLevel ≠ s.attn.level) || decide (s.attnBits ≠ s.attn.bits) then s.attn.gen + 1 else s.attn.gen } }

/-- A new event: summary bit 16 + i at a level (R42). -/
def State.raise (i level : Nat) (s : State) : State :=
  State.reattn true { s with attn := { s.attn with evLevel := Nat.max s.attn.evLevel level,
                                                   evBits := s.attn.evBits ||| BitVec.ofNat 5 (2 ^ i) } }

/-- The events of R42 by summary bit. -/
abbrev State.evFault (l : Nat) (s : State) : State := s.raise 0 l
abbrev State.evTime (l : Nat) (s : State) : State := s.raise 1 l
abbrev State.evAlarm (l : Nat) (s : State) : State := s.raise 2 l
abbrev State.evQueue (l : Nat) (s : State) : State := s.raise 3 l
abbrev State.evService (l : Nat) (s : State) : State := s.raise 4 l

/-- Whether an ATTN.ACK that quotes g is of the present count (R43). -/
def State.ackFresh (g : Nat) (s : State) : Bool := s.attn.gen == BitVec.ofNat 8 g

/-- The attention state after a fresh ATTN.ACK: the persisting conditions alone, and one more count (R43). -/
def State.acked (s : State) : State := State.reattn true { s with attn := { s.attn with evLevel := 0, evBits := 0 } }

/-! ## Power (R27, R30, R345, R389, R390) -/

/-- The Coma half's logic runs: main power good and chip reset released. -/
def State.comaUp (s : State) : Bool := s.pwr.main && !s.pwr.inReset

/-- The Nucleus half's logic runs: in service, not in reset, no transition under way (R30, R31, R345). -/
def State.nucUp (s : State) : Bool :=
  s.comaUp && decide (s.pwr.mode = .service) && decide (s.pwr.trans = .none) && !s.pwr.nrst && !s.pwr.grave

/-- The half's logic runs. -/
def State.halfUp (h : Half) (s : State) : Bool := match h with | .coma => s.comaUp | .nucleus => s.nucUp

/-- A step of the half's logic: nothing comes about while that logic is stopped (log 19). -/
def whenUp (h : Half) (f : State → State) (s : State) : State := if s.halfUp h then f s else s

/-! ## The common queue discipline (R374-R379) -/

/-- Slots of an entry; a marker takes one (R376). -/
def QEntry.slots {α : Type} : QEntry α → Nat
  | .item _ n => n
  | .gap _ => 1
  | .flush => 1

/-- Slots in use. -/
def Queue.used {α : Type} (q : Queue α) : Nat := sumN (q.entries.map QEntry.slots)

/-- An item of n slots fits: one slot stays free for a marker (R376). -/
def Queue.fits {α : Type} (n : Nat) (q : Queue α) : Bool := decide (q.used + n + 1 ≤ q.cap)

/-- One drop on the newest entry first: the entries in reverse. None when it cannot be added there. -/
def coalesce {α : Type} : List (QEntry α) → Option (List (QEntry α))
  | .gap n :: r => if n < 65535 then some (.gap (n + 1) :: r) else none
  | _ => none

/-- A drop is recorded (R376): added to the newest marker, or to a new marker, or to the pending count. -/
def Queue.drop {α : Type} (q : Queue α) : Queue α :=
  match coalesce q.entries.reverse with
  | some r => { q with entries := r.reverse }
  | none => if q.used + 1 ≤ q.cap then { q with entries := q.entries ++ [.gap 1] } else { q with pend := q.pend + 1 }

/-- A drop places a new marker (R376), which raises the event of R42. -/
def Queue.newMarker {α : Type} (q : Queue α) : Bool := (coalesce q.entries.reverse).isNone && decide (q.used + 1 ≤ q.cap)

/-- A push of a whole item: kept if it fits, dropped otherwise (R376). -/
def Queue.push {α : Type} (v : α) (n : Nat) (q : Queue α) : Queue α :=
  if q.fits n then { q with entries := q.entries ++ [.item v n] } else q.drop

/-- Pending drops placed in new markers while slots are free (R376). -/
def Queue.settle {α : Type} : Nat → Queue α → Queue α
  | 0, q => q
  | k + 1, q =>
    if q.pend = 0 ∨ ¬ (q.used + 1 ≤ q.cap) then q
    else Queue.settle k { q with entries := q.entries ++ [.gap (Nat.min q.pend 65535)], pend := q.pend - Nat.min q.pend 65535 }

/-- The queue after its oldest entry is taken (R377). -/
def Queue.pop {α : Type} (q : Queue α) : Queue α := Queue.settle (q.pend / 65535 + 1) { q with entries := q.entries.drop 1 }

/-- The oldest entry (R377). -/
def Queue.head {α : Type} (q : Queue α) : Option (QEntry α) := q.entries.head?

/-- A flush: everything discarded, one FLUSH marker placed (R379). -/
def Queue.flushed {α : Type} (q : Queue α) : Queue α := { q with entries := [.flush], pend := 0 }

/-- A flush that keeps what is committed (R275): only an item begun and not committed is discarded, of which this model's queues hold none, and
one FLUSH marker is placed where a slot is free (R379, log 154). -/
def Queue.flushBegun {α : Type} (q : Queue α) : Queue α := if q.used + 1 ≤ q.cap then { q with entries := q.entries ++ [.flush] } else q

/-- The items of a queue, oldest first. -/
def Queue.items {α : Type} (q : Queue α) : List α := q.entries.filterMap (fun e => match e with | .item v _ => some v | _ => none)

end Sys2Proof.Machine
end

