-- ==== Sys2Proof/Machine/Num.lean ====
section
/-! DEFINITION. Exact numbers: binary32 words as rationals and back (rounding to nearest, ties to even), and circular
functions on integers scaled by 2^64. The spec names no arithmetic for the circular functions (log 21): results differ from
exact ones by less than 2^-50, which shows only at a tie of the rounding that follows. -/

namespace Sys2Proof.Machine

/-! ## binary32 (IEEE 754) -/

/-- A rational m * 2^e. -/
def scale2 (m : Int) (e : Int) : Rat := if 0 ≤ e then ((m * (2 ^ e.toNat : Nat) : Int) : Rat) else mkRat m (2 ^ (-e).toNat)

/-- The value of a binary32 word; none for an infinity or a NaN. -/
def f32val (w : Word) : Option Rat :=
  let e := bits w 30 23
  let f := bits w 22 0
  let sg : Int := if bit w 31 then -1 else 1
  if e = 255 then none
  else if e = 0 then some (scale2 (sg * f) (-149))
  else some (scale2 (sg * (f + 2 ^ 23)) (e - 150))

/-- The value of a binary32 word, 0 for one that is not finite. -/
def f32q (w : Word) : Rat := (f32val w).getD 0

/-- A binary32 value as a rational; an infinity as one beyond every product with a finite value. -/
def f32x (w : Word) : Rat :=
  if bits w 30 23 = 255 ∧ bits w 22 0 = 0 then (if bit w 31 then -(2 ^ 600 : Nat) else (2 ^ 600 : Nat)) else f32q w

/-- Not a NaN, finite. -/
def f32finite (w : Word) : Bool := decide (bits w 30 23 ≠ 255)
def f32nan (w : Word) : Bool := decide (bits w 30 23 = 255) && decide (bits w 22 0 ≠ 0)

/-- Nearest whole number, ties to even, of a non-negative quotient. -/
def rneNat (n d : Nat) : Nat :=
  let q := n / d
  let r := n % d
  if 2 * r < d then q else if d < 2 * r then q + 1 else if q % 2 = 0 then q else q + 1

/-- Nearest whole number, ties away from zero (R254). -/
def roundAway (r : Rat) : Int :=
  let m := (2 * r.num.natAbs + r.den) / (2 * r.den)
  if r.num < 0 then -(m : Int) else m

/-- floor(log2) of a positive rational, as an exponent. -/
def log2Rat (n d : Nat) : Int :=
  let k : Int := (n.log2 : Int) - (d.log2 : Int)
  -- 2^(k-1) < n/d < 2^(k+1)
  if 0 ≤ k then (if n < d * 2 ^ k.toNat then k - 1 else k) else (if n * 2 ^ (-k).toNat < d then k - 1 else k)

/-- The binary32 word nearest a rational, ties to even; too large a magnitude gives an infinity (R114's saturation of an ANALOG
result read so: DESIGN CHOICE, log 155). -/
def f32of (r : Rat) : Word :=
  if r.num = 0 then 0
  else
    let sg : Nat := if r.num < 0 then 2 ^ 31 else 0
    let n := r.num.natAbs
    let d := r.den
    let k := log2Rat n d
    let e : Int := if k < -126 then -126 else k
    -- mantissa in units of 2^(e-23)
    let sh : Int := 23 - e
    let m := if 0 ≤ sh then rneNat (n * 2 ^ sh.toNat) d else rneNat n (d * 2 ^ (-sh).toNat)
    -- a carry out of the mantissa moves into the exponent by itself
    let body : Int := (if k < -126 then 0 else (e + 126) * (2 ^ 23 : Nat)) + m
    if 255 * 2 ^ 23 ≤ body then w32 (sg + 255 * 2 ^ 23) else w32 (sg + body.toNat)

/-- The binary32 of a whole number over 2^64. -/
def f32ofFix (i : Int) : Word := f32of (mkRat i (2 ^ 64))

/-! ## binary64 (R211) -/

/-- The value of a binary64 word; no result here reaches an infinity. -/
def f64q (w : BitVec 64) : Rat :=
  let n : Nat := w.toNat
  let ex : Nat := n / 2 ^ 52 % 2048
  let fr : Nat := n % 2 ^ 52
  let v : Rat := if ex = 0 then scale2 fr (-1074) else scale2 ((2 ^ 52 + fr : Nat)) ((ex : Int) - 1075)
  if 2 ^ 63 ≤ n then -v else v

/-- The binary64 nearest to a value, of two the even one. -/
def f64of (r : Rat) : BitVec 64 :=
  let n := r.num.natAbs
  let d := r.den
  let sg := if r.num < 0 then 2 ^ 63 else 0
  if n = 0 then 0
  else
    let k := log2Rat n d
    let e : Int := if k < -1022 then -1022 else k
    let sh : Int := 52 - e
    let m := if 0 ≤ sh then rneNat (n * 2 ^ sh.toNat) d else rneNat n (d * 2 ^ (-sh).toNat)
    let body : Int := (if k < -1022 then 0 else (e + 1022) * (2 ^ 52 : Nat)) + m
    BitVec.ofNat 64 (sg + (if 2047 * 2 ^ 52 ≤ body then 2047 * 2 ^ 52 else body.toNat))
def f64mul (a b : BitVec 64) : BitVec 64 := f64of (f64q a * f64q b)
def f64add (a b : BitVec 64) : BitVec 64 := f64of (f64q a + f64q b)
def f64sub (a b : BitVec 64) : BitVec 64 := f64of (f64q a - f64q b)

/-! ## Fixed point, units of 2^-64 -/

def one64 : Int := (2 ^ 64 : Nat)
/-- pi * 2^64, rounded. -/
def pi64 : Int := 57952155664616982739
def mulF (a b : Int) : Int := (a * b).fdiv one64
def divF (a b : Int) : Int := if b = 0 then 0 else (a * one64).fdiv b
def ratF (r : Rat) : Int := if r.den = 0 then 0 else (2 * r.num * one64 + r.den).fdiv (2 * r.den)
def sqrtF (a : Int) : Int := if a ≤ 0 then 0 else (isqrt (a.toNat * 2 ^ 64) : Nat)

/-- Sum of the series t(k+1) = t(k) * z / ((2k+2)(2k+3)) from k, terms left by fuel. -/
def sinSeries (z : Int) : Nat → Nat → Int → Int
  | 0, _, _ => 0
  | n + 1, k, t => t + sinSeries z n (k + 1) (-(mulF t z).fdiv ((2 * k + 2) * (2 * k + 3)))
def cosSeries (z : Int) : Nat → Nat → Int → Int
  | 0, _, _ => 0
  | n + 1, k, t => t + cosSeries z n (k + 1) (-(mulF t z).fdiv ((2 * k + 1) * (2 * k + 2)))

/-- sin and cos of an angle in radians, |x| ≤ pi. -/
def sinF (x : Int) : Int := sinSeries (mulF x x) 22 0 x
def cosF (x : Int) : Int := cosSeries (mulF x x) 22 0 one64

/-- The angle of a turn (2^64 to a turn, any value), taken into [-pi, pi). -/
def turnRad (t : Int) : Int :=
  let u := t % one64
  let v := if 2 * u ≥ one64 then u - one64 else u
  mulF v (2 * pi64)

/-- The quarter that an angle of a turn (2^64 to a turn, any value) lies in, and the radians past its start. -/
def quarterOf (t : Int) : Int := t % one64 * 4 / one64
def quarterRad (t : Int) : Int := mulF (t % (one64 / 4)) (2 * pi64)
/-- sin and cos of a turn, exact at whole quarters. -/
def sinTurn (t : Int) : Int :=
  let a := quarterRad t
  match quarterOf t with | 0 => sinF a | 1 => cosF a | 2 => -sinF a | _ => -cosF a
def cosTurn (t : Int) : Int := sinTurn (t + one64 / 4)

/-- Radians taken into (-pi, pi]. -/
def wrapRad (x : Int) : Int :=
  let u := x % (2 * pi64)
  if u > pi64 then u - 2 * pi64 else u

/-- atan of |z| ≤ 1, by halving the angle three times and a series. -/
def atanSeries (z2 : Int) : Nat → Nat → Int → Int
  | 0, _, _ => 0
  | n + 1, k, t => t.fdiv (2 * k + 1) + atanSeries z2 n (k + 1) (-(mulF t z2))
def halfTan (z : Int) : Int := divF z (one64 + sqrtF (one64 + mulF z z))
def atanF (z : Int) : Int :=
  let h := halfTan (halfTan (halfTan z))
  8 * atanSeries (mulF h h) 24 0 h

/-- The angle of the point (x, y) in (-pi, pi]; 0 at the origin. -/
def atan2F (y x : Int) : Int :=
  if x = 0 ∧ y = 0 then 0
  else if y.natAbs ≤ x.natAbs then
    let a := atanF (divF y x)
    if 0 < x then a else if 0 ≤ y then a + pi64 else a - pi64
  else
    let a := atanF (divF x y)
    if 0 < y then pi64 / 2 - a else -(pi64 / 2) - a

/-- Natural logarithm of a positive number of 2^-64 units, by exponent and atanh series. -/
def ln2F : Int := 12786308645202655660
def atanhSeries (z2 : Int) : Nat → Nat → Int → Int
  | 0, _, _ => 0
  | n + 1, k, t => t.fdiv (2 * k + 1) + atanhSeries z2 n (k + 1) (mulF t z2)
def lnF (a : Int) : Int :=
  if a ≤ 0 then 0
  else
    let e : Int := (a.toNat.log2 : Int) - 64
    let m := if 0 ≤ e then a / ((2 ^ e.toNat : Nat) : Int) else a * ((2 ^ (-e).toNat : Nat) : Int)
    let z := divF (m - one64) (m + one64)
    e * ln2F + 2 * atanhSeries (mulF z z) 40 0 z

/-- Angle in units of 2^-16 turn, nearest, from radians (R114). -/
def turn16 (x : Int) : Nat := ((2 * x * 65536 + 2 * pi64).fdiv (4 * pi64) % 65536).toNat

/-- Hypotenuse. -/
def hypotF (x y : Int) : Int := (isqrt (x * x + y * y).toNat : Nat)

/-! ## Complex numbers in units of 2^-64 -/

/-- Complex numbers in units of 2^-64. -/
abbrev Cx := Int × Int
def cxAdd (a b : Cx) : Cx := (a.1 + b.1, a.2 + b.2)
def cxArg (a : Cx) : Int := atan2F a.2 a.1
def cxAbs (a : Cx) : Int := hypotF a.1 a.2

end Sys2Proof.Machine
end

