-- ==== Sys2Proof/Machine/Clock.lean ====
section
/-! DEFINITION. What the time base shows: state codes, estimated error and time quality, UTC and the leap bits (R56, R74-R77). -/

namespace Sys2Proof.Machine

/-- TIM_STAT.state (R56). -/
def TState.code : TState → Nat
  | .unset => 0
  | .coarse => 1
  | .locked => 2
  | .holdover => 3
  | .fault => 4

def Tim.dom (d : Dom) (t : Tim) : Domain := match d with | .a => t.domA | .b => t.domB

/-- The state with one domain changed. -/
def State.mapDom (d : Dom) (f : Domain → Domain) (s : State) : State :=
  { s with tim := { s.tim with domA := (match d with | .a => f s.tim.domA | .b => s.tim.domA)
                               domB := (match d with | .a => s.tim.domB | .b => f s.tim.domB) } }

/-- Units of the error estimate in a nanosecond: 1/256 ps. -/
def errUnit : Nat := 256000

/-- The estimated error E in 1/256 ps (R77): grandmaster inaccuracy plus 8 ns plus the offset in pull-in while LOCKED; the
estimate at entry plus the drift while in HOLDOVER. -/
def State.errEst (s : State) : Nat :=
  match s.tim.state with
  | .locked =>
    let d := s.tim.dom s.tim.sel
    let inacc := match d.gm with | some g => g.inacc | none => 0
    (inacc + 8 + d.ofs.natAbs) * errUnit
  | .holdover => s.tim.hoErr + bits (s.rwC 0x040014) 15 0 * (s.tim.now - s.tim.hoAt) / 1000000
  | _ => 0

/-- The codes 1 to 11 whose bound exceeds E, from the smallest (R77). -/
def tqFind (e : Nat) : Nat → Nat → Nat
  | 0, _ => 0xF
  | n + 1, k => if e < 10 ^ (k - 1) * errUnit then k else tqFind e n (k + 1)

/-- TIM_STAT.tq (R77). -/
def State.tq (s : State) : Nat :=
  match s.tim.state with
  | .locked => if (s.tim.dom s.tim.sel).gm.any (fun g => g.cls == 6) then 0 else tqFind s.errEst 11 1
  | .holdover => tqFind s.errEst 11 1
  | _ => 0xF

/-- Leap pending: the 60 s before the leap second while a flag is set (R76 bit 4). -/
def State.leapPending (s : State) : Bool :=
  (s.tim.leap61 || s.tim.leap59) && decide (s.sec < s.tim.leapInst) && decide (s.tim.leapInst ≤ s.sec + 60)

/-- Leap occurred: 86,400 s from its start (R76 bit 5). -/
def State.leapOccurred (s : State) : Bool := decide (s.sec < s.tim.leapUntil)

/-- Leap direction (R76 bit 6). -/
def State.leapDelete (s : State) : Bool := if s.leapOccurred then s.tim.leapDir else s.tim.leap59

/-- The time-quality byte of FRACSEC (R76). -/
def State.tqByte (s : State) : Byte :=
  BitVec.ofNat 8 (64 * b2n s.leapDelete + 32 * b2n s.leapOccurred + 16 * b2n s.leapPending + s.tq)

/-- The offset in force at a TAI second: for one before the last leap second, the offset before it (R76). -/
def State.utcAt (sec : Nat) (s : State) : Int := if sec + 86400 < s.tim.leapUntil then s.tim.utcBefore else s.tim.utc
/-- SOC of a TAI second: TAI less the offset in force at it (R76). -/
def State.soc (sec : Nat) (s : State) : Nat := ((sec : Int) - s.utcAt sec).toNat

/-! ## The rate (R55, R59, R63) -/

/-- The first b ns of a history of rates. -/
def keepRates : Nat → List (Nat × Int) → List (Nat × Int)
  | _, [] => []
  | b, (d, r) :: l => if b ≤ d then [(b, r)] else (d, r) :: keepRates (b - d) l

/-- The present rate put into the history of the last 64 s of LOCKED operation (R59). -/
def Tim.logRate (t : Tim) : Tim :=
  { t with rates := if t.state = .locked then keepRates 64000000000 ((t.now - t.rateAt, t.rate) :: t.rates) else t.rates, rateAt := t.now }

/-- The mean rate of that history, by the time each rate held, rounded down (the spec states no rounding, log 9); with no history the present rate. -/
def Tim.meanRate (t : Tim) : Int :=
  let d := sumN (t.rates.map (·.1))
  if d = 0 then t.rate else (t.rates.foldl (fun (a : Int) (e : Nat × Int) => a + e.1 * e.2) 0).fdiv d

/-- A rate held within a limit, in 2^-40. -/
def clampI (m r : Int) : Int := if r < -m then -m else if m < r then m else r
/-- TIM_RATE limited to 200 ppm, and its phase part to 50 ppm (R55). -/
def limitRate (r : Int) : Int := clampI 219902325 r
def limitPull (r : Int) : Int := clampI 54975581 r

/-- The rate of a domain's two terms (R55, R63). -/
def Domain.steering (d : Domain) : Int := limitRate (d.integ + limitPull d.prop)

/-- In LOCKED the selected domain's terms become TIM_RATE (R63). -/
def State.steer (s : State) : State :=
  if s.tim.state = .locked then { s with tim := { s.tim.logRate with rate := (s.tim.dom s.tim.sel).steering } } else s

/-- The PMU time-quality code of C37.118.2 for E, 7 outside LOCKED and HOLDOVER (R255; the bounds are the standard's, log 17). -/
def State.pmuTq (s : State) : Nat :=
  match s.tim.state with
  | .locked | .holdover =>
    let e := s.errEst
    if e < 100 * errUnit then 1 else if e < 1000 * errUnit then 2 else if e < 10000 * errUnit then 3
    else if e < 100000 * errUnit then 4 else if e < 1000000 * errUnit then 5 else if e < 10000000 * errUnit then 6 else 7
  | _ => 7

/-- Largest n from 0 to 24 with 2^-n s at least E, else 31 (R246). -/
def qualFind (e : Nat) : Nat → Nat
  | 0 => if e ≤ 1000000000 * errUnit then 0 else 31
  | n + 1 => if e * 2 ^ (n + 1) ≤ 1000000000 * errUnit then n + 1 else qualFind e n

/-- The quality byte of a GOOSE time (R246). -/
def State.gooseQuality (s : State) : Byte :=
  let n := match s.tim.state with
    | .locked | .holdover => qualFind s.errEst 24
    | _ => 31
  BitVec.ofNat 8 (128 * b2n s.tim.utcValid + 64 * b2n (s.tim.state = .fault) + 32 * b2n (s.tim.state ≠ .locked) + n)

/-- A GOOSE time of the present moment: SOC, fraction in 3 bytes, quality (R246). -/
def State.gooseTime (s : State) : List Byte :=
  beBytes 4 (s.soc s.sec) ++ beBytes 3 (s.nsec * 2 ^ 24 / 1000000000) ++ [s.gooseQuality]

/-- TAI as 6 bytes of seconds and 4 of nanoseconds (R249, R270). -/
def taiBytes (t : Nat) : List Byte := beBytes 6 (t / 1000000000) ++ beBytes 4 (t % 1000000000)

end Sys2Proof.Machine
end

