-- ==== Sys2Proof/Machine/Crypto.lean ====
section
/-! DEFINITION. The check sequences and keyed digests the spec names: CRC-32C (R34), the Ethernet FCS, the CRC-CCITT of
C37.118.2 (R110), SHA-256, HMAC-SHA-256 and HKDF-SHA-256 (R248, R324, R329). -/

namespace Sys2Proof.Machine

/-! ## Cyclic redundancy checks -/

/-- One reflected CRC bit step. -/
def crcBit (poly : BitVec 32) (c : BitVec 32) : BitVec 32 := if c.getLsbD 0 then (c >>> 1) ^^^ poly else c >>> 1

def crcByte (poly : BitVec 32) (c : BitVec 32) (b : Byte) : BitVec 32 :=
  let x := c ^^^ b.setWidth 32
  crcBit poly (crcBit poly (crcBit poly (crcBit poly (crcBit poly (crcBit poly (crcBit poly (crcBit poly x)))))))

/-- A reflected CRC-32, initial value and final XOR all ones. -/
def crc32With (poly : BitVec 32) (bs : List Byte) : BitVec 32 := ~~~(bs.foldl (crcByte poly) 0xFFFFFFFF)

/-- CRC-32C (R34). -/
def crc32c (bs : List Byte) : Word := crc32With 0x82F63B78 bs

/-- The Ethernet frame check sequence, sent least significant byte first (IEEE 802.3). -/
def fcs (bs : List Byte) : List Byte :=
  let c := (crc32With 0xEDB88320 bs).toNat
  [BitVec.ofNat 8 c, BitVec.ofNat 8 (c >>> 8), BitVec.ofNat 8 (c >>> 16), BitVec.ofNat 8 (c >>> 24)]

def ccittBit (c : BitVec 16) : BitVec 16 := if c.getLsbD 15 then (c <<< 1) ^^^ 0x1021 else c <<< 1

def ccittByte (c : BitVec 16) (b : Byte) : BitVec 16 :=
  let x := c ^^^ (b.setWidth 16 <<< 8)
  ccittBit (ccittBit (ccittBit (ccittBit (ccittBit (ccittBit (ccittBit (ccittBit x)))))))

/-- CRC-CCITT, x^16 + x^12 + x^5 + 1, initial value 0xFFFF (C37.118.2 CHK). -/
def crcCcitt (bs : List Byte) : Nat := (bs.foldl ccittByte 0xFFFF).toNat

/-! ## SHA-256 (FIPS 180-4) -/

def shaK : List (BitVec 32) :=
  ([0x428A2F98, 0x71374491, 0xB5C0FBCF, 0xE9B5DBA5, 0x3956C25B, 0x59F111F1, 0x923F82A4, 0xAB1C5ED5] ++
   [0xD807AA98, 0x12835B01, 0x243185BE, 0x550C7DC3, 0x72BE5D74, 0x80DEB1FE, 0x9BDC06A7, 0xC19BF174] ++
   [0xE49B69C1, 0xEFBE4786, 0x0FC19DC6, 0x240CA1CC, 0x2DE92C6F, 0x4A7484AA, 0x5CB0A9DC, 0x76F988DA] ++
   [0x983E5152, 0xA831C66D, 0xB00327C8, 0xBF597FC7, 0xC6E00BF3, 0xD5A79147, 0x06CA6351, 0x14292967] ++
   [0x27B70A85, 0x2E1B2138, 0x4D2C6DFC, 0x53380D13, 0x650A7354, 0x766A0ABB, 0x81C2C92E, 0x92722C85] ++
   [0xA2BFE8A1, 0xA81A664B, 0xC24B8B70, 0xC76C51A3, 0xD192E819, 0xD6990624, 0xF40E3585, 0x106AA070] ++
   [0x19A4C116, 0x1E376C08, 0x2748774C, 0x34B0BCB5, 0x391C0CB3, 0x4ED8AA4A, 0x5B9CCA4F, 0x682E6FF3] ++
   [0x748F82EE, 0x78A5636F, 0x84C87814, 0x8CC70208, 0x90BEFFFA, 0xA4506CEB, 0xBEF9A3F7, 0xC67178F2] : List (BitVec 32))

def shaInit : List (BitVec 32) :=
  [0x6A09E667, 0xBB67AE85, 0x3C6EF372, 0xA54FF53A, 0x510E527F, 0x9B05688C, 0x1F83D9AB, 0x5BE0CD19]

def rotr (x : BitVec 32) (n : Nat) : BitVec 32 := (x >>> n) ||| (x <<< (32 - n))

/-- The message schedule, newest word first. -/
def shaSched : Nat → List (BitVec 32) → List (BitVec 32)
  | 0, w => w
  | n + 1, w =>
    let w15 := nth 0 w 14
    let w2 := nth 0 w 1
    let s0 := rotr w15 7 ^^^ rotr w15 18 ^^^ (w15 >>> 3)
    let s1 := rotr w2 17 ^^^ rotr w2 19 ^^^ (w2 >>> 10)
    shaSched n ((nth 0 w 15 + s0 + nth 0 w 6 + s1) :: w)

def shaRounds : List (BitVec 32) → List (BitVec 32) → List (BitVec 32) → List (BitVec 32)
  | k :: ks, w :: ws, [a, b, c, d, e, f, g, h] =>
    let t1 := h + (rotr e 6 ^^^ rotr e 11 ^^^ rotr e 25) + ((e &&& f) ^^^ (~~~e &&& g)) + k + w
    let t2 := (rotr a 2 ^^^ rotr a 13 ^^^ rotr a 22) + ((a &&& b) ^^^ (a &&& c) ^^^ (b &&& c))
    shaRounds ks ws [t1 + t2, a, b, c, d + t1, e, f, g]
  | _, _, v => v

/-- One 64-byte block. -/
def shaBlock (hs : List (BitVec 32)) (blk : List Byte) : List (BitVec 32) :=
  let w := (shaSched 48 (wordsN 16 blk).reverse).reverse
  List.zipWith (· + ·) hs (shaRounds shaK w hs)

def shaBlocks : Nat → List (BitVec 32) → List Byte → List (BitVec 32)
  | 0, hs, _ => hs
  | n + 1, hs, bs => shaBlocks n (shaBlock hs (bs.take 64)) (bs.drop 64)

def sha256 (bs : List Byte) : List Byte :=
  let z := (119 - bs.length % 64) % 64
  let m := bs ++ [0x80] ++ List.replicate z 0 ++ beBytes 8 (8 * bs.length)
  bytesOf (shaBlocks (m.length / 64) shaInit m)

/-! ## HMAC (RFC 2104) and HKDF (RFC 5869) with SHA-256 -/

def hmac (key msg : List Byte) : List Byte :=
  let k0 := if 64 < key.length then sha256 key else key
  let k := k0 ++ List.replicate (64 - k0.length) 0
  sha256 (k.map (· ^^^ 0x5C) ++ sha256 (k.map (· ^^^ 0x36) ++ msg))

/-- HKDF to one 32-byte output block. -/
def hkdf (ikm salt info : List Byte) : List Byte := hmac (hmac salt ikm) (info ++ [0x01])

/-! ## ECDSA P-256 (R331): the curve y^2 = x^3 - 3x + b over the field of p256p, points in Jacobian coordinates (X, Y, Z); Z = 0 is infinity -/

def p256p : Nat := 2 ^ 256 - 2 ^ 224 + 2 ^ 192 + 2 ^ 96 - 1
def p256n : Nat := 0xFFFFFFFF00000000FFFFFFFFFFFFFFFFBCE6FAADA7179E84F3B9CAC2FC632551
def p256g : Nat × Nat :=
  (0x6B17D1F2E12C4247F8BCE6E563A440F277037D812DEB33A0F4A13945D898C296, 0x4FE342E2FE1A7F9B8EE7EB4A7C0F9E162BCE33576B315ECECBB6406837BF51F5)

/-- a to the power e modulo m, over the lowest k bits of e. -/
def powMod (m a e : Nat) : Nat → Nat
  | 0 => 1
  | k + 1 =>
    let r := powMod m a (e / 2) k
    let q := r * r % m
    if e % 2 = 1 then q * a % m else q
/-- The inverse modulo a prime. -/
def invMod (m a : Nat) : Nat := powMod m a (m - 2) 256

def fSub (a b : Nat) : Nat := (a + p256p - b) % p256p
abbrev EcPoint := Nat × (Nat × Nat)

def ecDouble (q : EcPoint) : EcPoint :=
  let (x, (y, z)) := q
  let d := z * z % p256p
  let g := y * y % p256p
  let b := x * g % p256p
  let a := 3 * (fSub x d) * ((x + d) % p256p) % p256p
  let x3 := fSub (a * a % p256p) (8 * b % p256p)
  (x3, (fSub (a * fSub (4 * b % p256p) x3 % p256p) (8 * g * g % p256p), 2 * y * z % p256p))

def ecAdd (q r : EcPoint) : EcPoint :=
  let (x1, (y1, z1)) := q
  let (x2, (y2, z2)) := r
  if z1 = 0 then r
  else if z2 = 0 then q
  else
    let u1 := x1 * (z2 * z2 % p256p) % p256p
    let u2 := x2 * (z1 * z1 % p256p) % p256p
    let s1 := y1 * (z2 * z2 % p256p * z2 % p256p) % p256p
    let s2 := y2 * (z1 * z1 % p256p * z1 % p256p) % p256p
    if u1 = u2 then (if s1 = s2 then ecDouble q else (1, (1, 0)))
    else
      let h := fSub u2 u1
      let e := fSub s2 s1
      let h2 := h * h % p256p
      let h3 := h * h2 % p256p
      let v := u1 * h2 % p256p
      let x3 := fSub (fSub (e * e % p256p) h3) (2 * v % p256p)
      (x3, (fSub (e * fSub v x3 % p256p) (s1 * h3 % p256p), h * (z1 * z2 % p256p) % p256p))

/-- k times a point, over the lowest n bits of k. -/
def ecMul (q : EcPoint) (k : Nat) : Nat → EcPoint
  | 0 => (1, (1, 0))
  | n + 1 =>
    let r := ecDouble (ecMul q (k / 2) n)
    if k % 2 = 1 then ecAdd r q else r

/-- The signature (r, s) of a digest verifies under the public key (X, Y) (R331). -/
def ecdsaOk (key : Nat × Nat) (digest r s : Nat) : Bool :=
  if r = 0 ∨ p256n ≤ r ∨ s = 0 ∨ p256n ≤ s then false
  else
    let w := invMod p256n s
    let a := ecMul (p256g.1, (p256g.2, 1)) (digest * w % p256n) 256
    let b := ecMul (key.1, (key.2, 1)) (r * w % p256n) 256
    let c := ecAdd a b
    let zi := invMod p256p c.2.2
    decide (c.2.2 ≠ 0) && decide (c.1 * (zi * zi % p256p) % p256p % p256n = r)

/-- The SHA-256 digest of a public key as its 65-byte uncompressed point (R331 KEY_VPKH). -/
def keyDigest (key : Nat × Nat) : List Byte := sha256 ([0x04] ++ beBytes 32 key.1 ++ beBytes 32 key.2)

end Sys2Proof.Machine
end

