-- ==== Sys2Proof/Machine/Reply.lean ====
section
/-! DEFINITION. Replies, command ports, deferred completion, and the checks that come before a command executes
(R36-R40, R47, R51). -/

namespace Sys2Proof.Machine

/-! ## Completion codes (R40) -/

abbrev codeOk : Byte := 0x00
abbrev codePending : Byte := 0x01
abbrev eSync : Byte := 0x10
abbrev eCrc : Byte := 0x11
abbrev eLength : Byte := 0x12
abbrev eOpcode : Byte := 0x13
abbrev eParam : Byte := 0x14
abbrev eHalf : Byte := 0x15
abbrev eState : Byte := 0x16
abbrev eBusy : Byte := 0x17
abbrev eLocked : Byte := 0x18
abbrev eDate : Byte := 0x19
abbrev eKey : Byte := 0x1A
abbrev eTamper : Byte := 0x1B
abbrev eGrave : Byte := 0x1C
abbrev eSeq : Byte := 0x1D
abbrev eImage : Byte := 0x1E

/-! ## Command ports and the host reply pool (R38, R51) -/

def State.port? (p : Nat) (s : State) : Option CmdPort := findBy CmdPort.id p s.cmd.ports

/-- The state with one command port changed. -/
def State.mapPort (p : Nat) (f : CmdPort → CmdPort) (s : State) : State :=
  { s with cmd := { s.cmd with ports := s.cmd.ports.map (fun c => if c.id = p then f c else c) } }

/-- The sequence number the next packet of a port must have: after those that wait (R38, R382). -/
def State.expectedSeq (c : CmdPort) (s : State) : Word :=
  match (s.cmd.waiting.filter (fun k => k.hdr.port == c.id)).getLast? with
  | some k => k.hdr.seq + 1
  | none => c.expected

/-- Words of a reply: header 3, status 1, results, CRC 1 (R36). -/
def Reply.words (r : Reply) : Nat := 5 + r.results.length

/-- Words of the pool in use by every command port (R51). -/
def poolUsed (ps : List CmdPort) : Nat := sumN (ps.map (fun c => c.q.used))

/-- A port's queue seen with the room the pool leaves it (R51). -/
def pooled (ps : List CmdPort) (c : CmdPort) : Queue Reply :=
  { c.q with cap := replyPoolWords - (poolUsed ps - c.q.used) }

/-- The queue with its own capacity again. -/
def unpooled (q : Queue Reply) : Queue Reply := { q with cap := replyPoolWords }

/-- A reply put into its port's queue, or dropped (R51): the HSP's drop in a GAP marker, an in-band drop in its port's DROP. -/
def CmdPort.give (ps : List CmdPort) (r : Reply) (c : CmdPort) : CmdPort :=
  if c.id = 0 then { c with q := unpooled ((pooled ps c).push r r.words) }
  else if (pooled ps c).fits r.words then { c with q := { c.q with entries := c.q.entries ++ [.item r r.words] } }
  else { c with dropped := true }

/-- HSP_RQHWM takes the occupancy of the host reply queue (R412). -/
def State.noteReplies (s : State) : State := s.corMax .coma 0x0B000C (poolUsed s.cmd.ports)

def Stage.key (g : Stage) : Nat := g.metric * 2 ^ 40 + g.inst
/-- The staging summary of a metric and instance. -/
def State.staged (metric inst : Nat) (s : State) : Stage :=
  (findBy Stage.key (metric * 2 ^ 40 + inst) s.rcd.stage).getD { metric := metric, inst := inst, vals := [], ext := [] }
def State.putStage (g : Stage) (s : State) : State := { s with rcd := { s.rcd with stage := insertBy Stage.key g s.rcd.stage } }

/-- Drops of the host reply queue are counted in metric 0x0070 (R353, R374): a staging count by metric and place. -/
def State.stageAdd (metric inst : Nat) (i : Nat) (n : Int) (s : State) : State :=
  if !bit (s.rwC 0x090000) 0 then s
  else
  let g := s.staged metric inst
  s.putStage { g with vals := at' (g.vals ++ List.replicate (i + 1 - g.vals.length) 0) i (fun v => v + n) }

/-- A sample of an extremes metric (R354 kind 1). -/
def State.stageExt (metric inst : Nat) (i : Nat) (v : Int) (s : State) : State :=
  if !bit (s.rwC 0x090000) 0 then s
  else
  let g := s.staged metric inst
  s.putStage { g with ext := at' (g.ext ++ List.replicate (i + 1 - g.ext.length) none) i (fun e => match e with
    | some (lo, hi) => some (if v < lo then v else lo, if hi < v then v else hi)
    | none => some (v, v)) }

/-- A configuration write to a block or table, for metric 0x0001: total, HSP or in-band, and the port (R7, R353). -/
def State.countCfg (hf : Half) (blk port : Nat) (s : State) : State :=
  if !bit (s.rwC 0x090000) 1 then s
  else
    let i := 65536 * (match hf with | .coma => 0 | .nucleus => 1) + blk
    (((s.stageAdd 0x0001 i 0 1).stageAdd 0x0001 i (if port = 0 then 1 else 2) 1).stageAdd 0x0001 i (4 + port) 1)

/-- A reply of n words to a port is dropped and starts a GAP marker of the HSP, which is an event of the same step (R42, R51). -/
def State.marksGap (p n : Nat) (s : State) : Bool :=
  decide (p = 0) && (match s.port? p with
    | some c => !(pooled s.cmd.ports c).fits n && (pooled s.cmd.ports c).newMarker
    | none => false)

/-- A reply is queued on its port; a new GAP marker of the HSP raises the queue event (R42, R51). -/
def State.sendReply (r : Reply) (p : Nat) (s : State) : State :=
  match s.port? p with
  | none => s
  | some c =>
    let fits := (pooled s.cmd.ports c).fits r.words
    let s1 := (s.mapPort p (fun c => c.give s.cmd.ports r)).noteReplies
    let s2 := if s.marksGap p r.words then (s1.latchC 0x0B0008 4).evQueue 1 else s1
    if fits then s2 else (if p = 0 then s2.bumpC 0x0B0054 1 else s2).stageAdd 0x0070 0 65 1

/-- The reply of a command: the command's header, the completion, the attention fields of the moment (R36, R37). -/
def State.buildReply (h : Hdr) (op : Nat) (code : Byte) (detail : Nat) (results : List Word) (s : State) : Reply :=
  { half := h.half, resync := h.resync, tag := h.tag, opcode := BitVec.ofNat 16 op, seq := h.seq, code := code,
    level := s.attn.level, summary := s.attn.bits, gen := s.attn.gen, detail := BitVec.ofNat 8 (sat 8 detail),
    results := results, path := match s.port? h.port with | some c => c.path | none => RetPath.none }

/-- The priority of a class of work on a half's scheduler (R369, R383). -/
def State.classPri (hf : Half) (cls : Nat) (s : State) : Nat :=
  if cls < 4 then bits (s.rw hf 0x0A0004) (4 * cls + 3) (4 * cls) else bits (s.rw hf 0x0A0008) (4 * cls - 13) (4 * cls - 16)

/-- The priority of a command port's flow: class 1 is the HSP, class 2 the in-band ports (R369). -/
def State.flowPri (hf : Half) (p : Nat) (s : State) : Nat := s.classPri hf (if p = 0 then 1 else 2)

/-- A command of port p has been dispatched: its flow is the last served of its priority on the Coma scheduler, where every command waits, and on
the Nucleus scheduler where the command is that half's (R369, R370). -/
def State.served (hf : Half) (p : Nat) (s : State) : State :=
  { s with cmd := { s.cmd with
      servedC := at' s.cmd.servedC (s.flowPri .coma p) (fun _ => some p)
      servedN := match hf with | .coma => s.cmd.servedN | .nucleus => at' s.cmd.servedN (s.flowPri .nucleus p) (fun _ => some p) } }

/-- An accepted command is answered: the expected number moves on and the stored reply is replaced (R38); its flow is the last served
(R370). -/
def State.answer (h : Hdr) (op : Nat) (code : Byte) (detail : Nat) (results : List Word) (s : State) : State :=
  let r := s.buildReply h op code detail results
  ((s.served h.half h.port).mapPort h.port (fun c => { c with expected := h.seq + 1, last := some r })).sendReply r h.port

/-! ## Deferred completion (R47) -/

/-- What TBL.INFO shows for a bank that no command port holds (R44). -/
abbrev noPort : Nat := 0xFF

/-- Pending operations of a port. -/
def State.opsOf (p : Nat) (s : State) : Nat := (s.cmd.ops.filter (fun o => o.port == p)).length

/-- E_BUSY of R47: 32 operations pending on the port, or the same opcode pending on the same resource from it. -/
def State.opBusy (h : Hdr) (op res : Nat) (s : State) : Bool :=
  decide (32 ≤ s.opsOf h.port) || s.cmd.ops.any (fun o => o.port == h.port && o.opcode == op && o.res == res && o.half == h.half)

/-- E_LOCKED of R40 step 10: the resource is held by another port's unfinished operation. -/
def State.opLocked (h : Hdr) (op res : Nat) (s : State) : Bool :=
  s.cmd.ops.any (fun o => o.port != h.port && o.opcode == op && o.res == res && o.half == h.half)

/-- R40 step 10 for an operation on a resource: E_LOCKED before E_BUSY. -/
def State.claim (h : Hdr) (op res : Nat) (s : State) : Option Byte :=
  if s.opLocked h op res then some eLocked else if s.opBusy h op res then some eBusy else none

/-- An operation is pending. -/
def State.addOp (h : Hdr) (op res : Nat) (s : State) : State :=
  { s with cmd := { s.cmd with ops := s.cmd.ops ++ [{ port := h.port, half := h.half, opcode := op, res := res, tag := h.tag, seq := h.seq, done := none }] } }

/-- Dispatch of the half is stopped by UPD.SWITCH (R394 step 2). -/
def State.paused (h : Half) (s : State) : Bool := match h with | .coma => s.core.pausedC | .nucleus => s.core.pausedN

/-- Records of operations for their ports, and the event (R47, R42). -/
def State.recordOps (l : List (PendOp × Byte)) (s : State) : State :=
  if l.isEmpty then s
  else
    State.evService 1 { s with cmd := { s.cmd with
      recs := s.cmd.recs ++ l.map (fun x => { port := x.1.port, half := x.1.half, opcode := x.1.opcode, code := x.2, tag := x.1.tag, seq := x.1.seq }) } }

/-- The operations that a predicate picks complete with a code: a record each for their port (R47), which waits while their half's dispatch is
stopped (R394, R400). -/
def State.complete (pick : PendOp → Bool) (code : Byte) (s : State) : State :=
  let mine := fun (o : PendOp) => pick o && o.done.isNone
  let now := s.cmd.ops.filter (fun o => mine o && !s.paused o.half)
  State.recordOps (now.map (fun o => (o, code))) { s with cmd := { s.cmd with
    ops := (s.cmd.ops.filter (fun o => !(mine o && !s.paused o.half))).map (fun o => if mine o then { o with done := some code } else o) } }

/-- The records of the operations that completed while the half's dispatch was stopped (R400). -/
def State.writeRecords (hf : Half) (s : State) : State :=
  let l := s.cmd.ops.filterMap (fun o => if o.half = hf then o.done.map (fun c => (o, c)) else none)
  State.recordOps l { s with cmd := { s.cmd with ops := s.cmd.ops.filter (fun o => !(o.half == hf && o.done.isSome)) } }

/-- The pending operation of an opcode on a half and resource completes. -/
def State.completeOp (hf : Half) (op res : Nat) (code : Byte) (s : State) : State :=
  s.complete (fun o => o.half == hf && o.opcode == op && o.res == res) code

/-- An update session lets its port go (R392); a switch under way goes on and ends it. -/
def Upd.letGo (u : Upd) : Upd := if u.switching then { u with port := none } else u.released

/-- Release of a port's table staging, update sessions and recorder cursor (R38, R39, R392); the banks of an accepted commit go when it
completes; a verification of a released session ends with E_STATE (log 40). -/
def State.releaseHeld (p : Nat) (s0 : State) : State :=
  let s := s0.complete (fun o => o.port == p && o.opcode == 0x0D02) eState
  { s with
    tbl := { s.tbl with
      tbl := s.tbl.tbl.map (fun t => if t.holder = some p ∧ t.pendingCommit = false then { t with staging := none, holder := none } else t)
      commits := s.tbl.commits.map (fun k => if k.port = p ∧ k.gone = false then { k with released := true } else k) }
    upd := { s.upd with
      coma := if s.upd.coma.port = some p then s.upd.coma.letGo else s.upd.coma
      nuc := if s.upd.nuc.port = some p then s.upd.nuc.letGo else s.upd.nuc }
    cmd := { s.cmd with ports := s.cmd.ports.map (fun c => if c.id = p then { c with cursor := false } else c) } }

/-! ## Serving a command (R40 steps 5-11) -/

/-- What executing a command gives: completion code, detail, result words, and the state with its effects. -/
structure Res where
  code : Byte
  detail : Nat
  results : List Word
  st : State
  /-- What follows the reply: the next cycle of a fault collector (R343). -/
  after : State → State := id

/-- OK with results, or a failure that changes nothing (R40). -/
def Res.ok (st : State) (results : List Word := []) (detail : Nat := 0) : Res := { code := codeOk, detail := detail, results := results, st := st }
def Res.pending (st : State) (results : List Word := []) : Res := { code := codePending, detail := 0, results := results, st := st }
def Res.fail (st : State) (code : Byte) (detail : Nat := 0) (results : List Word := []) : Res :=
  { code := code, detail := detail, results := results, st := st }

/-- A parameter count other than the one listed: E_PARAM, detail the first missing or extra word (R44). DEDUCED, log 20. -/
def arity (n : Nat) (ps : List Word) (s : State) (k : Unit → Res) : Res :=
  if ps.length = n then k () else .fail s eParam (Nat.min ps.length n)

/-- Parameter word i, 0 where absent. -/
def par (ps : List Word) (i : Nat) : Word := nth 0 ps i

/-- The half that serves an opcode: some for one half, none within for either; none outside where no opcode (R44). -/
inductive Serves where
  | coma | nucleus | either | nobody
  deriving DecidableEq, Repr

def serves (op : Nat) : Serves :=
  if op ≤ 0x0003 then .either
  else if 0x0100 ≤ op ∧ op ≤ 0x0102 then .either
  else if 0x0200 ≤ op ∧ op ≤ 0x0204 then .nucleus
  else if 0x0300 ≤ op ∧ op ≤ 0x0302 then .nucleus
  else if 0x0400 ≤ op ∧ op ≤ 0x0404 then .coma
  else if op = 0x0500 then .nucleus
  else if 0x0600 ≤ op ∧ op ≤ 0x0602 then .nucleus
  else if 0x0700 ≤ op ∧ op ≤ 0x0701 then .nucleus
  else if 0x0800 ≤ op ∧ op ≤ 0x0802 then .coma
  else if 0x0900 ≤ op ∧ op ≤ 0x0905 then .coma
  else if 0x0A00 ≤ op ∧ op ≤ 0x0A04 then .coma
  else if 0x0B00 ≤ op ∧ op ≤ 0x0B05 then .coma
  else if 0x0C00 ≤ op ∧ op ≤ 0x0C02 then .either
  else if op = 0x0C03 then .coma
  else if 0x0D00 ≤ op ∧ op ≤ 0x0D04 then .either
  else if 0x0E00 ≤ op ∧ op ≤ 0x0E02 then .nucleus
  else if 0x0F00 ≤ op ∧ op ≤ 0x0F02 then .coma
  else .nobody

def servedBy (op : Nat) (h : Half) : Bool :=
  match serves op, h with
  | .either, _ => true
  | .coma, .coma => true
  | .nucleus, .nucleus => true
  | _, _ => false

/-- UPD.BEGIN, DATA, VERIFY, SWITCH: the opcodes of an image load (R390). -/
def isUpd (op : Nat) : Bool := decide (0x0D00 ≤ op) && decide (op ≤ 0x0D03)

/-- Whether the Nucleus half answers an opcode by its own cores or, while start-up holds it, by the Coma firmware (R390). -/
def State.nucServes (op : Nat) (s : State) : Bool := s.nucUp || (isUpd op && s.pwr.held)

/-- R40 steps 5 to 8, and who serves during start-up (R390): the code of the first failure. -/
def State.gate (op : Nat) (h : Hdr) (s : State) : Option Byte :=
  if s.pwr.grave ∧ ¬ (op = 0x0001 ∨ op = 0x0002 ∨ op = 0x0C00) then some eGrave
  else if serves op = .nobody then some eOpcode
  else if ¬ servedBy op h.half then some eHalf
  else if s.pwr.rom ∧ ¬ s.pwr.grave ∧ ¬ (h.half = .coma ∧ (op ≤ 0x0002 ∨ isUpd op)) then some eState
  else if s.pwr.stopped ∧ ¬ s.pwr.grave ∧ ¬ (h.half = .coma ∧ (op = 0x0001 ∨ op = 0x0002)) then some eState
  else if h.half = .nucleus ∧ ¬ s.nucServes op then some eState
  else none

/-- The scheduler can take commands: from the end of P2 on, or in an HSP boot or a stop of start-up over the HSP alone (R390). -/
def State.accepts (p : Nat) (s : State) : Bool :=
  s.comaUp && (s.pwr.fw || (decide (p = 0) && (s.pwr.rom || s.pwr.stopped))) && (s.port? p).isSome

/-- The reset domain that covers a register address (R342, R413). -/
def addrDomain (h : Half) (a : Nat) (d : ResetDomain) : Bool :=
  match h, d with
  | .coma, .prt n => decide (aPrt n 0 ≤ a) && decide (a < aPrt n 0x1C0)
  | .coma, .xcv => decide (0x030000 ≤ a) && decide (a < 0x030400)
  | .coma, .tim => decide (0x040000 ≤ a) && decide (a < 0x040C00)
  | .coma, .afe => decide (0x060000 ≤ a) && decide (a < 0x070000)
  | .coma, .recorder => decide (0x090000 ≤ a) && decide (a < 0x0A0000)
  | .coma, .key => decide (0x058000 ≤ a) && decide (a < 0x060000)
  | .nucleus, .isl => decide (0x050000 ≤ a) && decide (a < 0x060000)
  | .nucleus, .lbe e => decide (aLbe e 0 ≤ a) && decide (a < aLbe e 0x70)
  | _, _ => false

/-- A register command to a block held in block reset waits (R413). -/
def State.blockHeld (op : Nat) (h : Hdr) (ps : List Word) (s : State) : Bool :=
  decide (0x0100 ≤ op) && decide (op ≤ 0x0102) && s.flt.held.any (addrDomain h.half (par ps 0).toNat)

/-- SYS_C_PWRCTL (R409). -/
abbrev aPwrctl : Nat := 0x14

/-- A register write that reaches SYS_C_PWRCTL: a power-state request (R28). -/
def isPwrReq (op : Nat) (h : Hdr) (ps : List Word) : Bool :=
  decide (h.half = .coma) && ((op == 0x0101 && decide ((par ps 0).toNat ≤ aPwrctl) && decide (aPwrctl < (par ps 0).toNat + 4 * (ps.length - 1))) ||
    (op == 0x0102 && (par ps 0).toNat == aPwrctl))

/-- Two packets that are taken in the order in which the Coma scheduler accepts them whatever their ports: those of one port (R38), and a
power-state request beside a command to the Nucleus half (R31). -/
def ordered (k : Packet) (op : Nat) (h : Hdr) (ps : List Word) : Bool :=
  k.hdr.port == h.port || (isPwrReq k.opcode k.hdr k.params && decide (h.half = .nucleus)) || (isPwrReq op h ps && decide (k.hdr.half = .nucleus))

/-- A packet is held back: its half's dispatch is stopped, its block is in reset, or one that waits has to be taken before it (R31, R370). -/
def State.mustWait (op : Nat) (h : Hdr) (ps : List Word) (s : State) : Bool :=
  s.paused h.half || s.paused .coma || s.blockHeld op h ps || s.cmd.waiting.any (fun k => ordered k op h ps)

/-- The packet waits, with its own return path (R52, R382, R413). -/
def State.hold (op : Nat) (h : Hdr) (ps : List Word) (s : State) : State :=
  { s with cmd := { s.cmd with waiting := s.cmd.waiting ++
      [{ hdr := h, opcode := op, params := ps, path := match s.port? h.port with | some c => c.path | none => RetPath.none }] } }

/-- The packets that wait for the Nucleus half are answered by the Coma firmware as that half goes down, since the scheduler drops none (R30, R372);
while the Coma half's own dispatch is stopped they wait for it. -/
def State.refuseWaiting (s : State) : State :=
  if s.paused .coma then s
  else (s.cmd.waiting.filter (fun k => k.hdr.half == .nucleus)).foldl
    (fun (s : State) k => (s.mapPort k.hdr.port (fun c => { c with path := k.path })).answer k.hdr k.opcode ((s.gate k.opcode k.hdr).getD eState) 0 [])
    { s with cmd := { s.cmd with waiting := s.cmd.waiting.filter (fun k => k.hdr.half == .coma) } }

/-- Steps 5 to 11 of R40 on a packet that may run now: the gate, the opcode's own execution, the reply. -/
def State.run (op : Nat) (h : Hdr) (ps : List Word) (body : Hdr → List Word → State → Res) (s : State) : State :=
  match s.gate op h with
  | some code => s.answer h op code 0 []
  | none => (body h ps s).after ((body h ps s).st.answer h op (body h ps s).code (body h ps s).detail (body h ps s).results)

/-- An accepted packet: nothing while the scheduler takes none (R390), held back where R382, R394 or R413 say so, or run. -/
def State.serve (op : Nat) (h : Hdr) (ps : List Word) (body : Hdr → List Word → State → Res) (s : State) : State :=
  if !s.accepts h.port then s
  else if s.mustWait op h ps then s.hold op h ps
  else s.run op h ps body

end Sys2Proof.Machine
end

