-- ==== Sys2Proof/Machine/Frames.lean ====
section
/-! DEFINITION. Ethernet, IP and UDP framing (R52, R83, R84, R86, R251, R267), HMAC tags with a key slot (R248, R320, R326), and the
egress stream queues (R250, R252). Frames are held without their FCS; the transmitter adds it. -/

namespace Sys2Proof.Machine

/-! ## Addresses of a port (R83, R102) -/

def State.mac (p : Nat) (s : State) : Nat := bits (s.rwC (aPrt p 0x10)) 15 0 * 2 ^ 32 + (s.rwC (aPrt p 0x14)).toNat
def State.ip4 (p : Nat) (s : State) : Nat := (s.rwC (aPrt p 0x18)).toNat
def State.ip6 (p : Nat) (s : State) : Nat :=
  (((s.rwC (aPrt p 0x1C)).toNat * 2 ^ 32 + (s.rwC (aPrt p 0x20)).toNat) * 2 ^ 32 + (s.rwC (aPrt p 0x24)).toNat) * 2 ^ 32 +
    (s.rwC (aPrt p 0x28)).toNat

/-- The link-local address of a MAC by modified EUI-64 (R83). -/
def linkLocal (mac : Nat) : Nat :=
  let m := mac ^^^ (2 ^ 41)
  0xFE80 * 2 ^ 112 + (m >>> 24) * 2 ^ 40 + 0xFFFE * 2 ^ 24 + m % 2 ^ 24

/-- The port's IPv6 source: its global address, or the link-local one while that is zero (R83). -/
def State.src6 (p : Nat) (s : State) : Nat := if s.ip6 p = 0 then linkLocal (s.mac p) else s.ip6 p

def State.maxlen (p : Nat) (s : State) : Nat := bits (s.rwC (aPrt p 4)) 15 0

/-! ## Frame bytes -/

/-- One's-complement sum of 16-bit words, folded. -/
def sum16 : Nat → List Byte → Nat → Nat
  | 0, _, acc => acc
  | n + 1, a :: b :: r, acc => sum16 n r (acc + a.toNat * 256 + b.toNat)
  | _ + 1, [a], acc => acc + a.toNat * 256
  | _ + 1, [], acc => acc
def fold16 (n : Nat) : Nat := let a := n % 65536 + n / 65536; let b := a % 65536 + a / 65536; b % 65536 + b / 65536
def inetSum (bs : List Byte) (start : Nat) : Nat := 0xFFFF - fold16 (sum16 (bs.length + 1) bs start)

/-- An Ethernet header with an optional VLAN tag (VLAN ID, priority). -/
def ethHeader (dst src : Nat) (vlan : Option (Nat × Nat)) (etherType : Nat) : List Byte :=
  beBytes 6 dst ++ beBytes 6 src ++
    (match vlan with | some (vid, pcp) => beBytes 2 0x8100 ++ beBytes 2 (pcp * 8192 + vid) | none => []) ++ beBytes 2 etherType

/-- The IP and UDP layers of a datagram with both checksums (R251). -/
def udpPacket (v6 : Bool) (src dst sport dport ttl dscp : Nat) (payload : List Byte) : List Byte :=
  let ul := payload.length + 8
  let udp0 := beBytes 2 sport ++ beBytes 2 dport ++ beBytes 2 ul ++ beBytes 2 0 ++ payload
  let addr := if v6 then beBytes 16 src ++ beBytes 16 dst else beBytes 4 src ++ beBytes 4 dst
  let c := inetSum (addr ++ udp0) (17 + ul)
  let udp := patch 6 (beBytes 2 (if c = 0 then 0xFFFF else c)) udp0
  if v6 then beBytes 4 (6 * 2 ^ 28 + dscp * 2 ^ 22) ++ beBytes 2 ul ++ [17, BitVec.ofNat 8 ttl] ++ addr ++ udp
  else
    let h := [0x45, BitVec.ofNat 8 (dscp * 4)] ++ beBytes 2 (ul + 20) ++ beBytes 4 0 ++ [BitVec.ofNat 8 ttl, 17] ++ beBytes 2 0 ++ addr
    patch 10 (beBytes 2 (inetSum h 0)) h ++ udp

/-- A UDP frame, without FCS, filled to 60 bytes. -/
def padFrame (bs : List Byte) : List Byte := bs ++ List.replicate (60 - bs.length) 0
def udpFrame (dmac smac : Nat) (vlan : Option (Nat × Nat)) (v6 : Bool) (src dst sport dport ttl dscp : Nat) (payload : List Byte) : List Byte :=
  padFrame (ethHeader dmac smac vlan (if v6 then 0x86DD else 0x0800) ++ udpPacket v6 src dst sport dport ttl dscp payload)

/-- Length of the Ethernet header: 18 with a VLAN tag. -/
def ethLen (bs : List Byte) : Nat := if fieldAt 12 2 bs = 0x8100 then 18 else 14

/-- Offset of the UDP payload of a frame of udpFrame's form. -/
def udpOff (bs : List Byte) : Nat := ethLen bs + (if fieldAt (ethLen bs - 2) 2 bs = 0x86DD then 40 else 20) + 8

/-- UDP payload of such a frame, by the UDP length. -/
def udpBody (bs : List Byte) : List Byte := slice (udpOff bs) (fieldAt (udpOff bs - 4) 2 bs - 8) bs

/-- The frame with its UDP payload replaced by one of the same length, checksum recomputed (R70, R251). -/
def reUdp (bs payload : List Byte) : List Byte :=
  let o := udpOff bs
  let v6 := fieldAt (ethLen bs - 2) 2 bs == 0x86DD
  let ul := payload.length + 8
  let addr := if v6 then slice (ethLen bs + 8) 32 bs else slice (ethLen bs + 12) 8 bs
  let udp0 := patch 6 (beBytes 2 0) (slice (o - 8) 8 bs) ++ payload
  let c := inetSum (addr ++ udp0) (17 + ul)
  patch (o - 8) (patch 6 (beBytes 2 (if c = 0 then 0xFFFF else c)) udp0) bs

/-! ## Keys and tags (R248, R320, R326) -/

/-- The key of a slot: its two halves joined (R320). -/
def KeySlot.key (k : KeySlot) : List Byte := beBytes 32 (k.masked ^^^ k.mask).toNat

def State.slot (k : Nat) (s : State) : KeySlot := nth KeySlot.empty s.keys.slots k
def State.keyValid (k : Nat) (s : State) : Bool := decide ((s.slot k).st = 1)
/-- A frame can use slot k: it is VALID and not slot 0, which is never used directly (R321, DEDUCED, log 147). -/
def State.keyServes (k : Nat) (s : State) : Bool := decide (k ≠ 0) && s.keyValid k

/-- First 16 bytes of HMAC-SHA-256 under a slot's key. -/
def State.tag16 (k : Nat) (msg : List Byte) (s : State) : List Byte := (hmac (s.slot k).key msg).take 16

/-! ## Tables (R44, R46) -/

/-- Word of the active bank of a table (IDs from 1). -/
def State.tblW (id off : Nat) (s : State) : Word := WMap.get zeroW (nth Tbl.reset s.tbl.tbl (id - 1)).active off
def tblBank (t : WMap) (off : Nat) : Word := WMap.get zeroW t off

/-! ## Egress streams (R250-R252) -/

def State.egrCfg (i : Nat) (s : State) : Word := s.rwN (aEgr i 0)
def egrEn (c : Word) : Bool := bit c 0
def egrKind (c : Word) : Nat := bits c 3 1
def egrPort (c : Word) : Nat := bits c 5 4
def egrPri (c : Word) : Nat := bits c 8 6
def egrKib (c : Word) : Nat := bits c 25 16
def egrAuth (c : Word) : Bool := bit c 11
def egrSlot (c : Word) : Nat := bits c 31 26

def State.stream (i : Nat) (s : State) : Stream := nth Stream.reset s.egr.streams i
def State.mapStream (i : Nat) (f : Stream → Stream) (s : State) : State :=
  { s with egr := { s.egr with streams := at' s.egr.streams i f } }

/-- 32-bit words of a frame in its queue (R374). -/
def frameWords (bs : List Byte) : Nat := (bs.length + 3) / 4

/-- A slot whose frames are dropped: not VALID, and no hold window open (R326). -/
def State.slotBlocked (k : Nat) (s : State) : Bool := !s.keyServes k && !(decide (k ≠ 0) && (s.slot k).window)

/-- KEY_HOLDDROP and its event (R326, R333). -/
def State.holdDrop (s : State) : State := (s.bumpC 0x058054 1).latchC 0x058008 3

/-- The head frame of stream i, where it needs a key slot. -/
def State.headKey (i : Nat) (s : State) : Option (Nat × EgrFrame) :=
  match (s.stream i).q.head with
  | some (.item f _) => f.auth.map (fun a => (a.1, f))
  | _ => none

/-- Frames that need a blocked slot are dropped as they reach the head of their queue (R326), counted in the owning block. -/
def State.dropHeadsN (i : Nat) : Nat → State → State
  | 0, s => s
  | n + 1, s =>
    match s.headKey i with
    | some (k, f) =>
      if s.slotBlocked k then
        let s1 := (s.mapStream i (fun t => { t with q := t.q.pop })).holdDrop
        State.dropHeadsN i n (if f.kind = 5 then (s1.bumpN (aGse f.gcb 0x14) 1).latchN 0x070008 5
          else if f.kind = 2 then s1.bumpN 0x080058 1 else s1.bumpN (aEgr i 8) 1)
      else s
    | none => s
def State.dropHeads (i : Nat) (s : State) : State := s.dropHeadsN i (s.stream i).q.entries.length

/-- A delivery or record for a disabled stream or one of another kind (R250). -/
def State.kindMism (s : State) : State := s.bumpN 0x07805C 1

/-- A frame is committed to a stream's queue; too long it is not queued, and with no room it is dropped (R252). -/
def State.pushFrame (i : Nat) (f : EgrFrame) (s : State) : State :=
  let c := s.egrCfg i
  if s.maxlen (egrPort c) < f.bytes.length + 4 then (s.bumpN 0x078040 1).latchN 0x078000 1
  else
    let q := (s.stream i).q
    let n := frameWords f.bytes
    let s1 := s.mapStream i (fun t => { t with q := t.q.push f n })
    if q.fits n then s1.dropHeads i
    else
      let s2 := ((s1.bumpN (aEgr i 8) 1).latchN 0x078000 0).stageAdd 0x0070 0 i 1
      if q.newMarker then s2.evQueue 1 else s2
/-- A header record's word for a stream (R251). -/
def State.hdrRec (i k : Nat) (s : State) : Word := s.tblW 6 (16 * i + k)

/-- The VLAN tag of a stream: the header record's VLAN ID with the stream's priority (R251). -/
def State.streamVlan (i : Nat) (s : State) : Option (Nat × Nat) :=
  let w := s.hdrRec i 2
  if bit w 12 then some (bits w 11 0, egrPri (s.egrCfg i)) else none

/-- A UDP frame of a stream (R251). -/
def State.streamFrame (i : Nat) (payload : List Byte) (s : State) : List Byte :=
  let p := egrPort (s.egrCfg i)
  let v6 := bit (s.hdrRec i 2) 16
  let dmac := bits (s.hdrRec i 0) 15 0 * 2 ^ 32 + (s.hdrRec i 1).toNat
  let d6 := (((s.hdrRec i 3).toNat * 2 ^ 32 + (s.hdrRec i 4).toNat) * 2 ^ 32 + (s.hdrRec i 5).toNat) * 2 ^ 32 + (s.hdrRec i 6).toNat
  udpFrame dmac (s.mac p) (s.streamVlan i) v6 (if v6 then s.src6 p else s.ip4 p) (if v6 then d6 else (s.hdrRec i 6).toNat)
    (bits (s.hdrRec i 7) 31 16) (bits (s.hdrRec i 7) 15 0) (bits (s.hdrRec i 8) 7 0) (bits (s.hdrRec i 8) 13 8) payload

end Sys2Proof.Machine
end

