-- ==== Sys2Proof/Machine/OryTx.lean ====
section
/-! DEFINITION. Orrery neighbours, routes and the messages this device originates (R264-R272). -/

namespace Sys2Proof.Machine

def State.nbCfg (k : Nat) (s : State) : Word := s.rwN (aNb k 0)
def nbId (c : Word) : Nat := bits c 10 0
def nbPort (c : Word) : Nat := bits c 28 27
def nbRole (c : Word) : Nat := bits c 30 29
def nbValid (c : Word) : Bool := bit c 31

def State.nb (k : Nat) (s : State) : Nb := nth Nb.reset s.ory.nbs k
def State.mapNb (k : Nat) (f : Nb → Nb) (s : State) : State := { s with ory := { s.ory with nbs := at' s.ory.nbs k f } }
def State.nbMac (k : Nat) (s : State) : Nat := bits (s.rwN (aNb k 4)) 15 0 * 2 ^ 32 + (s.rwN (aNb k 8)).toNat

/-- Configured neighbours that a predicate picks, in rising k. -/
def State.nbsWhere (f : Nat → Bool) (s : State) : List Nat := (List.range 32).filter (fun k => nbValid (s.nbCfg k) && f k)

/-- The configured parent (R264). -/
def State.parentNb (s : State) : Option Nat := (s.nbsWhere (fun k => nbRole (s.nbCfg k) == 1)).head?

/-- The next hop toward an orrery ID by rules 2 to 4 of R266; none where rule 5 discards. -/
def State.route (x : Nat) (s : State) : Option Nat :=
  match (s.nbsWhere (fun k => (s.nb k).up && nbId (s.nbCfg k) == x)).head? with
  | some k => some k
  | none =>
    match (s.nbsWhere (fun k => (s.nb k).up && nbRole (s.nbCfg k) == 2 && (s.nb k).bitmap.elem x)).head? with
    | some k => some k
    | none => (s.nbsWhere (fun k => nbRole (s.nbCfg k) == 1 && (s.nb k).up)).head?

/-- The orrery UDP port number of a port (R267). -/
def State.oryUdp (p : Nat) (s : State) : Nat := bits (s.rwC (aPrt p 0x30)) 31 16

/-- A frame to neighbour k that carries Ndevar bytes (R267). TTL 64 and DSCP 0: DESIGN CHOICE, log 22. -/
def State.nbFrame (k : Nat) (nd : List Byte) (s : State) : List Byte :=
  let c := s.nbCfg k
  let p := nbPort c
  let v6 := bit c 26
  let hi := s.rwN (aNb k 4)
  udpFrame (s.nbMac k) (s.mac p) (if bit hi 28 then some (bits hi 27 16, 6) else none) v6
    (if v6 then s.src6 p else s.ip4 p) (if v6 then linkLocal (s.nbMac k) else (s.rwN (aNb k 0xC)).toNat)
    (s.oryUdp p) (s.oryUdp p) 64 0 nd

/-- Own messages that need the blocked join slot are dropped as they reach the head of the queue (R326, R268). -/
def State.dropOryN : Nat → State → State
  | 0, s => s
  | n + 1, s =>
    match s.ory.tx.head with
    | some (.item f _) =>
      if f.own && s.slotBlocked s.ory.slot then
        State.dropOryN n (({ s with ory := { s.ory with tx := s.ory.tx.pop } }.holdDrop).bumpN 0x080058 1)
      else s
    | _ => s
def State.dropOry (s : State) : State := s.dropOryN s.ory.tx.entries.length

/-- An orrery frame finds room: no longer than its port sends (R84), and the queue takes it (R269, R376). -/
def State.oryFits (f : OryFrame) (s : State) : Bool := decide (f.bytes.length + 4 ≤ s.maxlen f.port) && s.ory.tx.fits (frameWords f.bytes)

/-- A frame goes into the orrery transmit queue, or is dropped (R269, R376); one longer than PRTn_MAXLEN is never sent (R84, log 136). -/
def State.pushOry (f : OryFrame) (s : State) : State :=
  if s.maxlen f.port < f.bytes.length + 4 then (s.bumpN 0x080058 1).stageAdd 0x0070 0 64 1
  else
    let q := s.ory.tx
    let n := frameWords f.bytes
    let s1 := { s with ory := { s.ory with tx := q.push f n } }
    if q.fits n then s1.dropOry
    else
      let s2 := (s1.bumpN 0x080058 1).stageAdd 0x0070 0 64 1
      if q.newMarker then s2.evQueue 1 else s2

/-- Ndevar bytes of a message of this device with a zero tag, to be filled at transmission (R267, R268). -/
def State.ndevar (dst type flags : Nat) (payload : List Byte) (s : State) : List Byte :=
  beBytes 2 0x0DE7 ++ [1, BitVec.ofNat 8 type] ++ beBytes 2 s.ory.id ++ beBytes 2 dst ++ [12, BitVec.ofNat 8 flags] ++
    beBytes 2 payload.length ++ beBytes 4 s.ory.session ++ beBytes 4 (s.ory.count + 1) ++ payload ++ List.replicate 16 0

/-- The device originates a message to neighbour k (R268). -/
def State.originate (k dst type flags : Nat) (payload : List Byte) (s : State) : State :=
  let b := s.nbFrame k (s.ndevar dst type flags payload)
  State.pushOry { port := nbPort (s.nbCfg k), bytes := b, own := true } { s with ory := { s.ory with count := s.ory.count + 1 } }

/-- A message toward the parent; an orphan discards and counts it (R272). -/
def State.toParent (type flags : Nat) (payload : List Byte) (s : State) : State :=
  if !s.ory.joined || s.ory.root then s
  else match s.parentNb with
    | some k => if (s.nb k).up then s.originate k (nbId (s.nbCfg k)) type flags payload else s.bumpN 0x08005C 1
    | none => s.bumpN 0x08005C 1

/-- The device's own subtree: its ID and the bitmaps of its up children, in rising order (R266). -/
def State.subtree (s : State) : List Nat :=
  let kids := s.nbsWhere (fun k => nbRole (s.nbCfg k) == 2 && (s.nb k).up)
  kids.foldl (fun l k => (s.nb k).bitmap.foldl (fun l x => insertBy id x l) l) [s.ory.id]

/-- The 256 bytes of a subtree bitmap: ID i is bit 7 - (i mod 8) of byte i / 8 (R270). -/
def bitmapBytes (ids : List Nat) : List Byte :=
  (List.range 256).map (fun j => BitVec.ofNat 8 (sumN ((ids.filter (fun i => i / 8 == j)).map (fun i => 2 ^ (7 - i % 8)))))
def bitmapIds (bs : List Byte) : List Nat := (List.range 2048).filter (fun i => (nth 0 bs (i / 8)).getLsbD (7 - i % 8))

end Sys2Proof.Machine
end

