-- ==== Sys2Proof/Machine/Outputs.lean ====
section
/-! DEFINITION. What an alarm change drives: attention and counts, pins, GOOSE blocks, datagrams, orrery relay (R242-R249). -/

namespace Sys2Proof.Machine

/-! ## Output words (R115 w5, R235 w6) -/

def outPins (w : Word) : Nat := bits w 7 0
def outDgram (w : Word) : Bool := bit w 8
def outGoose (w : Word) : Bool := bit w 9
def outRelay (w : Word) : Bool := bit w 10
def outQgate (w : Word) : Bool := bit w 11
def outGcb (w : Word) : Nat := bits w 15 12
def outSev (w : Word) : Nat := bits w 19 16
def outDix (w : Word) : Nat := bits w 31 20

/-- Word k of rule i, and of watch entry e, in the active bank (R115, R235). -/
def State.ruleW (i k : Nat) (s : State) : Word := s.tblW 4 (8 * i + k)
def State.watchW (e k : Nat) (s : State) : Word := s.tblW 3 (8 * e + k)

/-- ALM_CTL.watch_out (R261). -/
def State.watchOut (s : State) : Bool := bit (s.rwN 0x070000) 1

/-- Output words of every active alarm that drives outputs (R243, R246, R261). -/
def State.driving (s : State) : List Word :=
  ((s.alm.rules.filter RuleSt.active).map (fun r => s.ruleW r.id 6)) ++
    (if s.watchOut then (s.alm.watches.filter WatchSt.active).map (fun w => s.watchW w.id 5) else [])

/-- The class of a watch entry's alarms (R116, R234). -/
def State.watchClass (e : Nat) (s : State) : Nat :=
  match bits (s.watchW e 0) 30 28 with
  | 0 => 0
  | 1 => 1
  | 6 => 9
  | _ =>
    let sev := outSev (s.watchW e 5)
    let r := if sev < 8 then s.rwN 0x07000C else s.rwN 0x070010
    bits r (4 * (sev % 8) + 3) (4 * (sev % 8))

/-! ## Pins (R243, R244) -/

def State.pin (p : Nat) (s : State) : Pin := nth Pin.reset s.alm.pins p
def State.mapPin (p : Nat) (f : Pin → Pin) (s : State) : State := { s with alm := { s.alm with pins := at' s.alm.pins p f } }

/-- The safe level applies: before the Nucleus first serves, and while it is in reset, STANDBY or the grave state (R244). -/
def State.pinsSafe (s : State) : Bool := !s.nucUp

/-- The asserted state the configuration asks of the ball (R243): force takes the place of the logical state; in level mode a width that
runs holds the ball whatever they say. Force has no activations, so in pulse mode it sets the ball itself (DEDUCED, log 144). -/
def pinWanted (cfg : Word) (logical width : Bool) : Bool :=
  let forced := decide (bits cfg 5 4 = 1)
  let free := decide (bits cfg 5 4 ≠ 1) && decide (bits cfg 5 4 ≠ 2)
  if bit cfg 2 then forced || (free && width) else forced || (free && logical) || width

/-- The level that stands for asserted or not (R261 pol). -/
def pinLevel (cfg : Word) (asserted : Bool) : Bool := asserted != bit cfg 0

/-- The ball level of a pin (R243, R244); with the safe level, the mirror's. -/
def State.pinBall (p : Nat) (s : State) : Bool :=
  let x := s.pin p
  if s.pinsSafe then bit x.mirror 1 else pinLevel (s.rwN (aPin p 0)) (pinWanted (s.rwN (aPin p 0)) x.logical x.width)

/-- The ball follows: a change is stamped, but for one while the Nucleus half is in reset, which holds ALM_Pp_LAST (R407); an assertion is counted and starts its minimum width (R243, R261). -/
def State.drivePin (p : Nat) (s : State) : State :=
  let cfg := s.rwN (aPin p 0)
  let x := s.pin p
  let lvl := s.pinBall p
  if lvl = x.ball then s
  else
    let asserting := !s.pinsSafe && (lvl == pinLevel cfg true)
    let s1 := s.mapPin p (fun y => { y with ball := lvl, lastNs := if s.pwr.nrst then y.lastNs else s.tim.now, width := y.width || (asserting && !bit cfg 2 && decide (0 < bits cfg 31 16)) })
    if asserting then s1.bumpN (aPin p 8) 1 else s1

/-- Every pin's ball brought to what its state asks. -/
def State.drivePins (s : State) : State := (List.range 8).foldl (fun s p => s.drivePin p) s

/-- Logical states recomputed: the OR over the active alarms that name the pin (R243). -/
def State.pinLogic (p : Nat) (ws : List Word) : Bool := ws.any (fun w => (outPins w).testBit p)

/-- The pins after a cycle's changes: logical states, and a pulse for each activation of a mapped alarm (R243). -/
def State.refreshPins (activated : List Word) (s : State) : State :=
  let ws := s.driving
  State.drivePins { s with alm := { s.alm with pins := s.alm.pins.zipIdx.map (fun (x, p) =>
    { x with logical := State.pinLogic p ws
             width := x.width || (bit (s.rwN (aPin p 0)) 2 && State.pinLogic p activated) }) } }

/-- What holds after every command: each ball at its safe level while that applies (R244), and the attention fields those that the
persisting conditions and the unacknowledged events give (R41, R42). -/
def State.settled (s : State) : State := (if s.pinsSafe then s.drivePins else s).reattn false

/-! ## GOOSE (R245-R248) -/

/-- Word of block c's template (R245). -/
def State.gooseW (c o : Nat) (s : State) : Word := s.tblW 6 (0x400 + 0x400 * c + o)
def State.gooseCfg (c : Nat) (s : State) : Word := s.rwN (aGse c 0)
def State.gooseEn (c : Nat) (s : State) : Bool := bit (s.gooseCfg c) 0
def State.gse (c : Nat) (s : State) : Goose := nth Goose.reset s.alm.goose c
def State.mapGse (c : Nat) (f : Goose → Goose) (s : State) : State := { s with alm := { s.alm with goose := at' s.alm.goose c f } }
def State.gooseN (c : Nat) (s : State) : Nat := bits (s.gooseW c 2) 24 16
def State.gooseEntry (c d : Nat) (s : State) : Word := s.gooseW c (0x10 + d)

/-- Values of block c's data entries: true while an active alarm names a BOOLEAN entry (R246). -/
def State.gooseVals (c : Nat) (s : State) : List Bool :=
  let ws := s.driving.filter (fun w => outGoose w && outGcb w == c)
  (List.range (s.gooseN c)).map (fun d => !bit (s.gooseEntry c d) 16 && ws.any (fun w => outDix w == d))

/-- The template's frame bytes with stNum, sqNum, t and the entries patched (R246). -/
def State.gooseFrame (c : Nat) (s : State) : List Byte :=
  let g := s.gse c
  let flen := bits (s.gooseW c 0) 11 0
  let raw := (bytesOf ((List.range ((flen + 3) / 4)).map (fun i => s.gooseW c (0x110 + i)))).take flen
  let f1 := patch (bits (s.gooseW c 1) 11 0) (beBytes 4 g.st) raw
  let f2 := patch (bits (s.gooseW c 1) 27 16) (beBytes 4 g.sq) f1
  let f3 := patch (bits (s.gooseW c 2) 11 0) g.t f2
  (List.range (s.gooseN c)).foldl (fun f d =>
    let e := s.gooseEntry c d
    if bit e 16 then patch (bits e 11 0) (nth g.t g.times (bits e 31 24)) f
    else patch (bits e 11 0) [if nth false g.vals d then 1 else 0] f) f3

/-- A frame with the VLAN tag of its stream's header record put after the source address (R251). -/
def withVlan (v : Option (Nat × Nat)) (bs : List Byte) : List Byte :=
  match v with
  | some (vid, pcp) => bs.take 12 ++ beBytes 2 0x8100 ++ beBytes 2 (pcp * 8192 + vid) ++ bs.drop 12
  | none => bs

/-- Block c's message goes on its stream (R247), tagged at transmission with ALM_Gc_CFG.auth (R248). -/
def State.sendGoose (c : Nat) (s : State) : State :=
  let cfg := s.gooseCfg c
  let i := bits cfg 13 8
  let e := s.egrCfg i
  if !s.nucUp || !bit (s.gooseW c 0) 31 then s
  else if !egrEn e || egrKind e ≠ 5 then s.kindMism
  else
    let t := s.gooseFrame c
    let v := s.streamVlan i
    let b := withVlan v t
    let o := ethLen t + (if v.isSome then 4 else 0)
    let oTag := bits (s.gooseW c 3) 11 0 + (if v.isSome then 4 else 0)
    (s.pushFrame i { kind := 5, bytes := b, key := none, gcb := c,
                     auth := if bit cfg 1 then some (bits cfg 7 2, oTag, o) else none }).bumpN (aGse c 0x10) 1

/-- stNum after one more change: 1 to 2^31 - 1, then 1 again (R246). -/
def nextSt (n : Nat) : Nat := if 2 ^ 31 - 1 ≤ n then 1 else n + 1
def nextSq (n : Nat) : Nat := if 2 ^ 31 - 1 ≤ n then 1 else n + 1

/-- A block makes a new stNum: its time, its values and the times of their changes. force: one is made whatever the values; all: it is the
enabling, with which every time is that of the change (R246, R262). -/
def State.gooseMake (force all : Bool) (c : Nat) (s : State) : State :=
  let g := s.gse c
  let vals := s.gooseVals c
  if !s.gooseEn c || (!force && decide (vals = g.vals)) then s
  else
    let t := s.gooseTime
    let times := (List.range vals.length).map (fun d =>
      if all || decide (g.times.length ≤ d) || (nth false vals d != nth false g.vals d) then t else nth t g.times d)
    (s.mapGse c (fun g => { g with st := nextSt g.st, sq := 0, t := t, vals := vals, times := times, repeatI := 0 })).sendGoose c

/-- A new stNum with the present values, and its message; with force, whatever the values. While the changes of one cycle are gathered, it waits
for their end (R242, R246). -/
def State.gooseNew (force : Bool) (c : Nat) (s : State) : State :=
  match s.alm.gooseHold with
  | some l => if force then { s with alm := { s.alm with gooseHold := some (c :: l) } } else s
  | none => s.gooseMake force false c

/-- The stNum made at enable (R246). -/
def State.gooseEnabled (c : Nat) (s : State) : State := s.gooseMake true true c

def State.refreshGoose (s : State) : State := (List.range 16).foldl (fun s c => s.gooseNew false c) s

/-! ## Datagrams (R249) -/

/-- Bytes 0-63 of the datagram of a change with a sequence number (R249). -/
def State.datagram (c : Change) (seq : Nat) (s : State) : List Byte :=
  let b := beBytes 2 0x0DA7 ++ [1, BitVec.ofNat 8 c.state] ++ beBytes 4 seq ++ beBytes 8 Config.serial.toNat ++
    beBytes 2 (if s.ory.joined then 0x8000 + s.ory.id else 0) ++ [if c.rule then 1 else 0, BitVec.ofNat 8 (16 * c.cls + outSev c.out)] ++
    beBytes 2 c.idx ++ beBytes 2 (outDix c.out) ++ beBytes 2 c.srca ++ beBytes 2 c.chan ++ beBytes 4 c.value.toNat ++ beBytes 4 c.aux ++
    taiBytes c.evid ++ taiBytes s.tim.now ++ beBytes 2 (outPins c.out) ++ beBytes 2 0
  b ++ beBytes 4 (crc32c b).toNat

/-- The distinct streams enabled in ALM_DG (R249). -/
def dgStreams (w : Word) : List Nat :=
  let a := if bit w 6 then [bits w 5 0] else []
  let b := if bit w 14 && !(bit w 6 && bits w 5 0 == bits w 13 8) then [bits w 13 8] else []
  a ++ b

/-- A datagram's 64 bytes go on a stream, tag bytes appended when the stream has auth (R249). -/
def State.sendDatagram (i : Nat) (b : List Byte) (s : State) : State :=
  let e := s.egrCfg i
  if !egrEn e || egrKind e ≠ 4 then s.kindMism
  else
    let body := if egrAuth e then b ++ List.replicate 16 0 else b
    let f := s.streamFrame i body
    (s.pushFrame i { kind := 4, bytes := f, key := none, gcb := 0,
                     auth := if egrAuth e then some (egrSlot e, udpOff f + 64, udpOff f) else none }).bumpN 0x070058 1

/-- A change's datagram on each stream of ALM_DG, with the stream's own sequence number (R249). -/
def State.datagrams (c : Change) (s : State) : State :=
  (dgStreams (s.rwN 0x070014)).foldl (fun s i =>
    let n := nth 0 s.alm.dgSeq i
    { s with alm := { s.alm with dgSeq := at' s.alm.dgSeq i (fun n => (n + 1) % 2 ^ 32) } }.sendDatagram i (s.datagram c n)) s

/-! ## Alarm changes (R242) -/

/-- Attention, event bits and counts of one change (R42, R242, R261). -/
def State.countChange (c : Change) (s : State) : State :=
  let lvl := if c.state = 1 ∨ c.state = 3 then 2 else 1
  let s := s.evAlarm lvl
  match c.state with
  | 1 | 3 => (s.latchN 0x070008 0).bumpN (if c.rule then 0x070048 else 0x070040) 1
  | 2 => (s.latchN 0x070008 1).bumpN (if c.rule then 0x07004C else 0x070044) 1
  | 5 => (s.latchN 0x070008 3).bumpN 0x070054 1
  | 6 => (s.latchN 0x070008 2).bumpN 0x070050 1
  | _ => s.bumpN 0x070048 1

/-- The outputs a change drives by itself: datagrams and relay (R242, R249, R270). Watch entries drive none with watch_out = 0. -/
def State.changeFrames (c : Change) (s : State) : State :=
  if !c.rule && !s.watchOut then s
  else
    let s1 := if outDgram c.out then s.datagrams c else s
    if outRelay c.out then s1.toParent 5 0 (s1.datagram c 0) else s1

/-- Changes applied in their order: counts, then pins, then GOOSE, then datagrams (R242, R246). -/
def State.applyChanges (cs : List Change) (s : State) : State :=
  if cs.isEmpty then s
  else
    let act := (cs.filter (fun c => (c.state == 1 || c.state == 3) && (c.rule || s.watchOut))).map Change.out
    let s1 := cs.foldl (fun s c => s.countChange c) s
    cs.foldl (fun s c => s.changeFrames c) ((s1.refreshPins act).refreshGoose)

/-- The changes of one Nucleus cycle (R242); while a boundary gathers its changes, they wait for its end. -/
def State.changes (cs : List Change) (s : State) : State :=
  if s.alm.gooseHold.isSome then { s with alm := { s.alm with held := s.alm.held ++ cs } } else s.applyChanges cs

/-- The place of a change in its cycle: watch entries before rules, ascending index within each (R242). -/
def Change.place (c : Change) : Nat := c.idx + 65536 * b2n c.rule
def insertChange (c : Change) : List Change → List Change
  | [] => [c]
  | e :: r => if e.place ≤ c.place then e :: insertChange c r else c :: e :: r
def inOrder (cs : List Change) : List Change := cs.foldl (fun l c => insertChange c l) []

/-- What comes about in one cycle: its changes are applied in the order of R242, and each block makes at most one new stNum, at the end (R246). -/
def State.oneCycle (f : State → State) (s : State) : State :=
  let s1 := f { s with alm := { s.alm with gooseHold := some [], held := [] } }
  let s2 := State.applyChanges (inOrder s1.alm.held) { s1 with alm := { s1.alm with held := [] } }
  let l := s2.alm.gooseHold.getD []
  (List.range 16).foldl (fun (s : State) c => s.gooseMake (l.elem c) false c) { s2 with alm := { s2.alm with gooseHold := none } }

end Sys2Proof.Machine
end

