-- ==== Sys2Proof/Machine/Sources.lean ====
section
/-! DEFINITION. The source table's fields (R104-R106), alignment keys (R23, R129), and lane words as values (R114, R116). -/

namespace Sys2Proof.Machine

/-! ## Table 0x01 (R104-R106): every accessor takes a bank -/

/-- The bank of table 0x01 in force. -/
def State.srcT (s : State) : WMap := (nth Tbl.reset s.tbl.tbl 0).active

def srcW (t : WMap) (i k : Nat) : Word := tblBank t (16 * i + k)
def srcValid (t : WMap) (i : Nat) : Bool := bit (srcW t i 0) 31
def srcProto (t : WMap) (i : Nat) : Nat := bits (srcW t i 0) 30 28
def srcPorts (t : WMap) (i : Nat) : Nat := bits (srcW t i 0) 27 24
def srcGroups (t : WMap) (i : Nat) : Nat := bits (srcW t i 0) 23 16
def srcIdcode (t : WMap) (i : Nat) : Nat := bits (srcW t i 0) 15 0
def srcArea (t : WMap) (i : Nat) : Nat := bits (srcW t i 1) 15 10
def srcNchan (t : WMap) (i : Nat) : Nat := bits (srcW t i 1) 9 0 + 1
def srcBase (t : WMap) (i : Nat) : Nat := bits (srcW t i 6) 31 12
def srcFormat (t : WMap) (i : Nat) : Nat := bits (srcW t i 6) 3 0
def srcTimeBase (t : WMap) (i : Nat) : Nat := bits (srcW t i 7) 23 0
def srcThr (t : WMap) (i : Nat) : Nat := bits (srcW t i 8) 31 16
def srcMargin (t : WMap) (i : Nat) : Nat := bits (srcW t i 8) 15 0
def src50 (t : WMap) (i : Nat) : Bool := bit (srcW t i 9) 0
def srcNblk (t : WMap) (i : Nat) : Nat := bits (srcW t i 9) 23 16
def srcWatchBase (t : WMap) (i : Nat) : Nat := bits (srcW t i 10) 29 16
def srcWatchCnt (t : WMap) (i : Nat) : Nat := bits (srcW t i 10) 7 0
def srcRoute (t : WMap) (i : Nat) : Nat := bits (srcW t i 11) 11 0

/-- Reporting rate of a rate code, fps (R105); 0 for a code that is none. -/
def rateFps (c : Nat) : Nat := nth 0 [10, 12, 15, 20, 25, 30, 50, 60, 100, 120, 200, 240] c
def srcRate (t : WMap) (i : Nat) : Nat := rateFps (bits (srcW t i 6) 11 8)

/-- Valid entries of the bank, in rising source ID, from the words it lists. -/
def validSources (t : WMap) : List Nat :=
  t.filterMap (fun (k, w) => if k < 0x100000 ∧ k % 16 = 0 ∧ bit w 31 then some (k / 16) else none)

/-- Descriptor j of region C (R104). -/
def descr (t : WMap) (j : Nat) : Nat :=
  let w := tblBank t (0x100000 + j / 2)
  if j % 2 = 0 then bits w 31 16 else bits w 15 0
def chDescr (t : WMap) (i c : Nat) : Nat := descr t (srcBase t i + c)
def descrKind (d : Nat) : Nat := d / 8192
def descrSkip (d : Nat) : Bool := d.testBit 12
def descrScale (d : Nat) : Nat := d % 4096
/-- Words 0 and 1 of scale record k (R106). -/
def scaleW (t : WMap) (k j : Nat) : Word := tblBank t (0x180000 + 2 * k + j)

/-- Channels of a source that have lanes. -/
def storedChans (t : WMap) (i : Nat) : Nat :=
  ((List.range (srcNchan t i)).filter (fun c => !descrSkip (chDescr t i c))).length

/-- Channel-samples per second of a source (R107, R109). -/
def srcLoad (t : WMap) (i : Nat) : Nat := storedChans t i * srcRate t i

/-- Lanes and configured load of a bank (R107, R109). -/
def tableLanes (t : WMap) : Nat := sumN ((validSources t).map (storedChans t))
def tableLoad (t : WMap) : Nat := sumN ((validSources t).map (srcLoad t))

/-- Members of group g (R105). -/
def groupMembers (t : WMap) (g : Nat) : List Nat := (validSources t).filter (fun i => (srcGroups t i).testBit g)

/-! ## Keys (R23, R129) -/

/-- T(n) in TAI ns of key n at a rate, rounded down. -/
def keyNs (rate n : Nat) : Nat := if rate = 0 then 0 else n * 1000000000 / rate

/-- The newest key n whose boundary T(n) lies at or before an instant, T(n) in whole ns (R129). -/
def keyAt (rate t : Nat) : Nat := ((t + 1) * rate - 1) / 1000000000

/-- The key whose exact instant is the last at or before an instant. -/
def nsKey (rate t : Nat) : Nat := t * rate / 1000000000

/-- An instant is a boundary T(n) of the rate, in whole ns. -/
def isBoundary (rate t : Nat) : Bool := keyNs rate (nsKey rate (t + 1)) == t || keyNs rate (nsKey rate t) == t

/-! ## Lane words as values (R114, R116) -/

def flagV : BitVec 4 := 8
def flagQ : BitVec 4 := 4
def flagL : BitVec 4 := 2
def flagU : BitVec 4 := 1
def laneV (l : Lane) : Bool := l.2.getLsbD 3
def laneQ (l : Lane) : Bool := l.2.getLsbD 2
def laneL (l : Lane) : Bool := l.2.getLsbD 1
def laneU (l : Lane) : Bool := l.2.getLsbD 0

/-- binary32 as a value to compare: an infinity lies beyond every finite value. -/
def f32ord (w : Word) : Rat := (f32val w).getD (if bit w 31 then -(2 ^ 200 : Nat) else (2 ^ 200 : Nat))

/-- A word in the encoding of a channel kind, as a value: magnitude code unsigned, FREQ and ROCOF signed, ANALOG binary32 (R116). -/
def kindVal (kind : Nat) (w : Word) : Rat :=
  match kind with
  | 0 => (bits w 31 16 : Nat)
  | 1 | 2 => (w.toInt : Int)
  | 3 => f32ord w
  | _ => (w.toNat : Nat)

/-- A threshold in the input's encoding: an unsigned magnitude code stands in the whole word. -/
def thrVal (kind : Nat) (w : Word) : Rat := match kind with | 0 => (w.toNat : Nat) | _ => kindVal kind w

/-- The condition by cmp (R115 w6). -/
def cmpHolds (cmp : Nat) (v t1 t2 : Rat) : Bool :=
  match cmp with
  | 0 => decide (t1 < v)
  | 1 => decide (v < t1)
  | 2 => decide (v < t1) || decide (t2 < v)
  | _ => decide (t1 ≤ v) && decide (v ≤ t2)

/-- The clear condition with the hysteresis (R116). -/
def cmpClears (cmp : Nat) (v t1 t2 hyst : Rat) : Bool :=
  match cmp with
  | 0 => decide (v ≤ t1 - hyst)
  | 1 => decide (t1 + hyst ≤ v)
  | 2 => decide (t1 + hyst ≤ v) && decide (v ≤ t2 - hyst)
  | _ => decide (v < t1 - hyst) || decide (t2 + hyst < v)

/-- The condition and the clear condition of a lane of a kind against three thresholds (R116, R236). -/
def laneTest (kind cmp : Nat) (lane t1 t2 hyst : Word) : Bool × Bool :=
  if kind = 4 then
    -- digital: the word in [31:16] against the pattern, where mask and valid mask select
    let diff := ((bits lane 31 16 ^^^ t2.toNat) &&& t1.toNat) &&& bits lane 15 0
    (decide (diff ≠ 0), decide (diff = 0))
  else
    let v := kindVal kind lane
    (cmpHolds cmp v (thrVal kind t1) (thrVal kind t2), cmpClears cmp v (thrVal kind t1) (thrVal kind t2) (thrVal kind hyst))

/-! ## What several units read of a source, of a group and of the front end -/

/-- Channel ch of source i of a bank is of a kind. -/
def chanIs (t : WMap) (i ch kind : Nat) : Bool := decide (ch < srcNchan t i) && descrKind (chDescr t i ch) == kind

/-- A valid source that lists group g. -/
def inGroup (t : WMap) (i g : Nat) : Bool := srcValid t i && (srcGroups t i).testBit g

/-- The rate code of group g (R150). -/
def State.grpCode (g : Nat) (s : State) : Nat := bits (s.rwN (aGrp g 0)) 3 0
def State.grpRate (g : Nat) (s : State) : Nat := rateFps (s.grpCode g)

/-- AFE_CTL.preset (R157). -/
def State.afePreset (s : State) : Nat := bits (s.rwC 0x060000) 1 0

def feLatency (preset : Nat) : Nat := nth 0 [1770750, 3593630, 7291500] preset

def fNom (t : WMap) (i : Nat) : Nat := if src50 t i then 50 else 60

/-- Magnitude of a PHASOR lane in its own units (R182). -/
def laneMag (t : WMap) (i c : Nat) (w : Word) : Rat := mkRat (bits w 31 16) 65535 * 2 * f32q (scaleW t (descrScale (chDescr t i c)) 1)

end Sys2Proof.Machine
end

