-- ==== Sys2Proof/Machine/Alm.lean ====
section
/-! DEFINITION. The alarm rule engine (R235-R242): rules on deliveries, on island events and on conditions; release. -/

namespace Sys2Proof.Machine

/-! ## A rule's record (R235) -/

def State.ruleT (s : State) : WMap := (nth Tbl.reset s.tbl.tbl 3).active
/-- Valid rules in rising index, from the words the bank lists. -/
def validRules (t : WMap) : List Nat :=
  t.filterMap (fun (k, w) => if k % 8 = 0 ∧ k < 0x8000 ∧ bit w 31 then some (k / 8) else none)

def ruleCtype (w0 : Word) : Nat := bits w0 30 28
def ruleClass (w0 : Word) : Nat := bits w0 27 24
def ruleGroup (w0 : Word) : Nat := bits w0 23 21
def ruleLatch (w0 : Word) : Bool := bit w0 20
def ruleProv (w0 : Word) : Bool := bit w0 19
def ruleQgate (w0 : Word) : Bool := bit w0 18
def ruleCmp (w0 : Word) : Nat := bits w0 17 16
def ruleSrc (w0 : Word) : Nat := bits w0 15 0

def RuleSt.fresh (i : Nat) : RuleSt :=
  { id := i, active := false, latched := false, prov := false, dwell := 0, skipped := false, clearOk := false, value := 0,
    key := 0, aux := 0, byKey := 0, byHandle := 0, matched := false, cnt := [0, 0, 0, 0, 0] }
def State.ruleSt (i : Nat) (s : State) : RuleSt := (findBy RuleSt.id i s.alm.rules).getD (RuleSt.fresh i)
def State.putRule (r : RuleSt) (s : State) : State := { s with alm := { s.alm with rules := insertBy RuleSt.id r s.alm.rules } }

/-- One count of a rule goes up: 0 SET, 1 CLR, 2 RELEASE, 3 WITHDRAW, 4 SKIP (R261). -/
def RuleSt.count (k : Nat) (r : RuleSt) : RuleSt := { r with cnt := at' r.cnt k (fun n => sat 32 (n + 1)) }

/-- The alarm change of a rule (R242, R249). -/
def State.ruleChange (i state : Nat) (value : Word) (aux evid : Nat) (s : State) : Change :=
  let w0 := s.ruleW i 0
  { state := state, rule := true, idx := i, cls := ruleClass w0, out := s.ruleW i 6, srca := if ruleCtype w0 = 2 then 0xFFFF else ruleSrc w0,
    chan := if ruleCtype w0 ≤ 1 then bits (s.ruleW i 1) 25 16 else 0, value := value, aux := aux, evid := evid }

/-- Activation (state 1 or 3): the dwell is over (R239, R260). -/
def RuleSt.activate (state key : Nat) (value : Word) (r : RuleSt) : RuleSt :=
  RuleSt.count 0 { r with active := true, latched := false, prov := decide (state = 3), dwell := 0, value := value, key := key, clearOk := false }
def RuleSt.inactive (key : Nat) (r : RuleSt) : RuleSt :=
  { r with active := false, latched := false, prov := false, dwell := 0, key := key, clearOk := true }

/-- The clear condition has come about: a latching rule stays active, marked latched (R240); another clears. -/
def RuleSt.tryClear (latch : Bool) (key : Nat) (r : RuleSt) : RuleSt × Option Nat :=
  if latch then ({ r with latched := true, clearOk := true }, none) else (RuleSt.count 1 (r.inactive key), some 2)

/-! ## Rules on deliveries: ctypes 0, 1, 4 (R236, R239) -/

/-- The lane of a channel of a source in a delivery. -/
def Delivery.lane (d : Delivery) (src ch : Nat) : Lane :=
  match findBy SrcLanes.id src d.srcs with
  | some l => if l.present then nth (0, 0) l.lanes ch else (0, 0)
  | none => (0, 0)

def Delivery.missing (d : Delivery) : Nat := (d.srcs.filter (fun l => !l.present)).length
def Delivery.lacks (d : Delivery) (src : Nat) : Bool :=
  match findBy SrcLanes.id src d.srcs with | some l => !l.present | none => false

/-- What one evaluation finds: skipped, or the condition, the clear condition and the operand value. -/
inductive Eval where
  | skip
  | found (cond clear : Bool) (value : Word)
  deriving DecidableEq, Repr

/-- An operand that a rule must skip (R239). -/
def laneSkip (qgate : Bool) (l : Lane) : Bool := !laneV l || laneU l || (qgate && laneQ l)

def State.evalRule (i : Nat) (d : Delivery) (s : State) : Eval :=
  let w0 := s.ruleW i 0
  let w1 := s.ruleW i 1
  match ruleCtype w0 with
  | 0 =>
    let l := d.lane (ruleSrc w0) (bits w1 25 16)
    if laneSkip (ruleQgate w0) l then .skip
    else
      let kind := descrKind (chDescr s.srcT (ruleSrc w0) (bits w1 25 16))
      let r := laneTest kind (ruleCmp w0) l.1 (s.ruleW i 3) (s.ruleW i 4) (s.ruleW i 5)
      .found r.1 r.2 l.1
  | 1 =>
    let la := d.lane (ruleSrc w0) (bits w1 25 16)
    let lb := d.lane (bits w1 15 0) (bits (s.ruleW i 2) 25 16)
    if laneSkip (ruleQgate w0) la || laneSkip (ruleQgate w0) lb then .skip
    else
      let dth := sext 16 (65536 + bits la.1 15 0 - bits lb.1 15 0)
      let t1 : Rat := (s.ruleW i 3).toInt
      let t2 : Rat := (s.ruleW i 4).toInt
      .found (cmpHolds (ruleCmp w0) dth t1 t2) (cmpClears (ruleCmp w0) dth t1 t2 (s.ruleW i 5).toInt) (wInt dth)
  | _ =>
    let miss := d.missing
    let b := if ruleSrc w0 = 0xFFFF then decide ((s.ruleW i 3).toNat ≤ miss) else d.lacks (ruleSrc w0)
    .found b (!b) (w32 miss)

/-- A rule after one evaluation on the delivery of a key, and the state of its change if it has one (R239). -/
def RuleSt.step (w0 : Word) (dwell key : Nat) (e : Eval) (r : RuleSt) : RuleSt × Option Nat :=
  match e with
  | .skip => (RuleSt.count 4 { r with skipped := true }, none)
  | .found cond clear v =>
    let r := { r with skipped := false, value := v }
    if r.active then
      if clear then r.tryClear (ruleLatch w0) key else ({ r with clearOk := false }, none)
    else if !cond then ({ r with dwell := 0 }, none)
    else if dwell ≤ r.dwell + 1 then (r.activate 1 key v, some 1)
    else ({ r with dwell := r.dwell + 1 }, none)

/-- The rules of a FINAL delivery's group, evaluated in rising index; the changes applied together (R238, R242). -/
def State.evalDelivery (d : Delivery) (s : State) : State :=
  if !s.alm.rulesOn || !d.final then s
  else
    let ids := (validRules s.ruleT).filter (fun i =>
      let w0 := s.ruleW i 0
      (ruleCtype w0 == 0 || ruleCtype w0 == 1 || ruleCtype w0 == 4) && ruleGroup w0 == d.group)
    let r := ids.foldl (fun (acc : State × List Change) i =>
      let w0 := acc.1.ruleW i 0
      let (st, ch) := (acc.1.ruleSt i).step w0 (bits (acc.1.ruleW i 2) 7 0) d.key (acc.1.evalRule i d)
      (acc.1.putRule st, match ch with
        | some k => acc.2 ++ [acc.1.ruleChange i k st.value 0 (keyNs d.rate d.key)]
        | none => acc.2)) (s, [])
    r.1.changes r.2

/-! ## Rules on island events: ctype 2 (R236, R239) -/

/-- An island event (R198): code 0 FORMATION, 1 MERGE, 2 DEAD, 3 LIVE, 4 CONFIRM, 5 WITHDRAW, 6 RELABEL; the handle; for 4 and
5 the key of the provisional event resolved. -/
structure IslEvt where
  code : Nat
  handle : Nat
  pkey : Nat
  deriving DecidableEq, Repr

/-- One ctype 2 rule at one event of a final or provisional run. -/
def RuleSt.island (w0 w1 : Word) (final : Bool) (key : Nat) (e : IslEvt) (r : RuleSt) : RuleSt × Option Nat :=
  let resolves := r.active && decide (r.byKey = e.pkey) && decide (r.byHandle = e.handle)
  if e.code = 4 ∧ r.prov ∧ resolves then ({ r with prov := false, matched := true, key := key, clearOk := false, aux := 4, value := w32 e.handle }, some 4)
  else if e.code = 5 ∧ r.prov ∧ resolves then (RuleSt.count 3 ({ r with aux := 5, value := w32 e.handle }.inactive key), some 5)
  else if (bits w1 6 0).testBit e.code then
    if r.active then ({ r with matched := r.matched || final, clearOk := false, aux := e.code, value := w32 e.handle }, none)
    else if final then ({ r with matched := true, aux := e.code }.activate 1 key (w32 e.handle), some 1)
    else if ruleProv w0 then ({ r with byKey := key, byHandle := e.handle, aux := e.code }.activate 3 key (w32 e.handle), some 3)
    else (r, none)
  else (r, none)

/-- The events of one run offered to the ctype 2 rules; after a final run, rules without a matching event clear, the provisionally active too
(R239). -/
def State.offerIsland (final : Bool) (close : Bool) (key : Nat) (evs : List IslEvt) (s : State) : State :=
  if !s.alm.rulesOn then s
  else
    let ids := (validRules s.ruleT).filter (fun i => ruleCtype (s.ruleW i 0) == 2)
    let s0 := evs.foldl (fun s e =>
      if ids.any (fun i => (bits (s.ruleW i 1) 6 0).testBit e.code) then s else s.bumpN 0x07005C 1) s
    let r := ids.foldl (fun (acc : State × List Change) i =>
      let w0 := acc.1.ruleW i 0
      let w1 := acc.1.ruleW i 1
      let st0 := { acc.1.ruleSt i with matched := false }
      let (st1, chs) := evs.foldl (fun (a : RuleSt × List Change) e =>
        let (st, ch) := a.1.island w0 w1 final key e
        (st, match ch with
          | some k => a.2 ++ [acc.1.ruleChange i k (w32 e.handle) e.code acc.1.tim.now]
          | none => a.2)) (st0, [])
      if close && st1.active && !st1.matched then
        let (st2, ch) := st1.tryClear (ruleLatch w0) key
        (acc.1.putRule st2, acc.2 ++ chs ++ (match ch with
          | some k => [acc.1.ruleChange i k st1.value st1.aux acc.1.tim.now]
          | none => []))
      else (acc.1.putRule st1, acc.2 ++ chs)) (s0, [])
    r.1.changes r.2

/-! ## Rules on conditions: ctype 3 (R236, R239) -/

/-- A condition of a class set or cleared at an origin; own and any: what still stands of that origin, and of the class. -/
def State.offerState (cls origin : Nat) (own any : Bool) (value : Word) (aux key : Nat) (s : State) : State :=
  if !s.alm.rulesOn then s
  else
    let hit := fun i =>
      let w0 := s.ruleW i 0
      ruleCtype w0 == 3 && ruleClass w0 == cls && (ruleSrc w0 == 0xFFFF ||
        (if cls = 4 ∨ cls = 5 then ruleSrc w0 % 32 == origin else ruleSrc w0 == origin))
    let ids := (validRules s.ruleT).filter hit
    if ids.isEmpty then s.bumpN 0x07005C 1
    else
      let r := ids.foldl (fun (acc : State × List Change) i =>
        let w0 := acc.1.ruleW i 0
        let on := if ruleSrc w0 = 0xFFFF then any else own
        let st := { acc.1.ruleSt i with value := value, aux := aux, skipped := false }
        let (st', ch) :=
          if on && !st.active then (st.activate 1 key value, some 1)
          else if !on && st.active then st.tryClear (ruleLatch w0) key
          else ({ st with clearOk := !on }, none)
        (acc.1.putRule st', match ch with
          | some k => acc.2 ++ [acc.1.ruleChange i k value aux acc.1.tim.now]
          | none => acc.2)) (s, [])
      r.1.changes r.2

/-! ## Clearing and release (R240, R241, R261) -/

/-- Rules cleared outright, with the outputs of a clearing where active (R241, R261). -/
def State.clearRules (ids : List Nat) (s : State) : State :=
  let chs := (ids.filter (fun i => (s.ruleSt i).active)).map (fun i => s.ruleChange i 2 (s.ruleSt i).value (s.ruleSt i).aux s.tim.now)
  let s1 := ids.foldl (fun s i =>
    let r := s.ruleSt i
    s.putRule ((if r.active then RuleSt.count 1 r else r).inactive r.key)) s
  s1.changes chs

/-- ALM.RELEASE (R240): detail 0 released or nothing to release, 1 latch kept. -/
def cmdAlmRelease (_ : Hdr) (ps : List Word) (s : State) : Res :=
  arity 1 ps s fun _ =>
    let i := bits (par ps 0) 11 0
    let r := s.ruleSt i
    if !bit (s.ruleW i 0) 31 then .fail s eParam 0
    else if !r.active || !r.latched then .ok s
    else if !r.clearOk then .ok s [] 1
    else .ok ((s.putRule (RuleSt.count 2 (r.inactive r.key))).changes [s.ruleChange i 6 r.value r.aux s.tim.now])

/-! ## Query (R260) -/

/-- w0 to w5 of a rule (R260). -/
def State.ruleWords (i : Nat) (s : State) : List Word :=
  let w0 := s.ruleW i 0
  let r := s.ruleSt i
  [w32 (b2n (bit w0 31) + 2 * b2n r.active + 4 * b2n r.latched + 8 * b2n r.prov + 16 * ruleClass w0 +
      256 * outSev (s.ruleW i 6) + 4096 * Nat.min 255 r.dwell + 2 ^ 20 * b2n r.skipped),
    r.value, w32 (r.key / 2 ^ 32 % 2 ^ 24), loW r.key, w32 (nth 0 r.cnt 0), w32 (nth 0 r.cnt 1)]

def WatchSt.fresh (e : Nat) : WatchSt := { id := e, active := false, since := none, skipped := false, value := 0, key := 0, sets := 0, clrs := 0 }
def State.watchSt (e : Nat) (s : State) : WatchSt := (findBy WatchSt.id e s.alm.watches).getD (WatchSt.fresh e)
def State.putWatch (w : WatchSt) (s : State) : State := { s with alm := { s.alm with watches := insertBy WatchSt.id w s.alm.watches } }

/-- w0 to w5 of a watch entry (R260). -/
def State.watchWords (e : Nat) (s : State) : List Word :=
  let r := s.watchSt e
  [w32 (b2n (bit (s.watchW e 0) 31) + 2 * b2n r.active + 16 * s.watchClass e + 256 * outSev (s.watchW e 5) + 2 ^ 20 * b2n r.skipped),
    r.value, w32 (r.key / 2 ^ 32 % 2 ^ 24), loW r.key, w32 r.sets, w32 r.clrs]

/-- Alarms that name pin p and are active (R260, R261). -/
def State.mapped (p : Nat) (s : State) : Nat := (s.driving.filter (fun w => (outPins w).testBit p)).length

/-- ALM_Pp_STAT (R261). -/
def State.pinStat (p : Nat) (s : State) : Word :=
  let x := s.pin p
  let f := bits (s.rwN (aPin p 0)) 5 4
  w32 (b2n x.logical + 2 * b2n x.readback + 4 * b2n (f = 1 ∨ f = 2) + 8 * b2n s.pinsSafe + 256 * sat 8 (s.mapped p))

/-- An entry of the list of active alarms (R260). -/
def listWord (idx : Nat) (latched prov : Bool) (cls sev : Nat) : Word :=
  w32 (idx + 2 ^ 16 * b2n latched + 2 ^ 17 * b2n prov + 2 ^ 20 * cls + 2 ^ 24 * sev)

def listWords (all : List Word) : List Word :=
  let k := Nat.min 255 all.length
  w32 (all.length % 65536 + 65536 * k) :: all.take k

/-- ALM.QUERY (R260). -/
def cmdAlmQuery (_ : Hdr) (ps : List Word) (s : State) : Res :=
  arity 1 ps s fun _ =>
    let kind := bits (par ps 0) 31 30
    let i := bits (par ps 0) 15 0
    match kind with
    | 0 =>
      if i = 0xFFFF then
        .ok s (listWords ((s.alm.rules.filter RuleSt.active).map (fun r =>
          listWord r.id r.latched r.prov (ruleClass (s.ruleW r.id 0)) (outSev (s.ruleW r.id 6)))))
      else if 4095 < i then .fail s eParam 0 else .ok s (s.ruleWords i)
    | 1 =>
      if i = 0xFFFF then
        .ok s (listWords ((s.alm.watches.filter WatchSt.active).map (fun w =>
          listWord w.id false false (s.watchClass w.id) (outSev (s.watchW w.id 5)))))
      else if 16383 < i then .fail s eParam 0 else .ok s (s.watchWords i)
    | 2 =>
      if i = 0xFFFF then .ok s ((List.range 8).map (fun p => s.pinStat p))
      else if 7 < i then .fail s eParam 0 else .ok s [s.pinStat i, w32 (s.mapped i), s.ctr .nucleus (aPin i 8)]
    | _ => .fail s eParam 0

end Sys2Proof.Machine
end

