-- ==== Sys2Proof/Machine/Summ.lean ====
section
/-! DEFINITION. The recorder's records, its write queue and repeats (R351, R355-R357), which every block's summaries and notes enter. -/

namespace Sys2Proof.Machine

abbrev recSlots : Nat := 4064

/-! ## Records (R351) -/

def recSeq (r : List Byte) : Nat := fieldAt 0 4 r
def recMetric (r : List Byte) : Nat := fieldAt 4 2 r
def recInst (r : List Byte) : Nat := fieldAt 20 4 r
/-- The repeat count, 1 where chk does not match. -/
def recRep (r : List Byte) : Nat :=
  if nth 0 r 126 = 0xFF ^^^ nth 0 r 124 ^^^ nth 0 r 125 then fieldAt 124 2 r else 1
def recGood (r : List Byte) : Bool := r.length == 128 && fieldAt 120 4 r == (crc32c (r.take 120)).toNat

/-- Bytes 124-127 (R351). -/
def recTrailer (rep : Nat) : List Byte :=
  let hi := BitVec.ofNat 8 (rep / 256)
  let lo := BitVec.ofNat 8 rep
  [hi, lo, 0xFF ^^^ hi ^^^ lo, 0]

def padTo (n : Nat) (bs : List Byte) : List Byte := (bs ++ List.replicate (n - bs.length) 0).take n

/-- The flags of the next record (R351): retention loss, RSTCAUSE and lost staging, which wait for the first record after P5 or in the grave
state (R358, R363), and a tamper count that has changed since the record before. -/
def State.recFlags (s : State) : Nat :=
  (if 5 ≤ s.pwr.phase ∨ s.pwr.grave then s.rcd.firstFlags else 0) ||| (4 * b2n (decide (s.aon.tampCnt ≠ s.rcd.tampSeen)))

/-- A record with the flags has been written: what they show starts anew. -/
def State.flagsWritten (s : State) : State :=
  { s with rcd := { s.rcd with firstFlags := if 5 ≤ s.pwr.phase ∨ s.pwr.grave then 0 else s.rcd.firstFlags, tampSeen := s.aon.tampCnt } }

/-- Bytes 0-127 of a summary's record under a sequence number, with the flags of the moment it is written. -/
def State.recordBytes (q : Nat) (x : Summ) (s : State) : List Byte :=
  let b := beBytes 4 q ++ beBytes 2 x.metric ++ [BitVec.ofNat 8 x.kind, BitVec.ofNat 8 s.recFlags] ++ beBytes 4 x.opmin ++
    beBytes 3 s.aon.pwrCyc ++ [0] ++ beBytes 4 x.ivl ++ beBytes 4 x.inst ++ padTo 96 x.payload
  b ++ beBytes 4 (crc32c b).toNat ++ recTrailer (Nat.min 65535 (1 + x.reps))

/-- A summary is identical to a record (R356). -/
def Summ.sameAs (r : List Byte) (x : Summ) : Bool :=
  recMetric r == x.metric && fieldAt 6 1 r == x.kind && recInst r == x.inst && fieldAt 16 4 r == x.ivl && slice 24 96 r == padTo 96 x.payload
def Summ.same (y x : Summ) : Bool :=
  y.metric == x.metric && y.kind == x.kind && y.inst == x.inst && y.ivl == x.ivl && padTo 96 y.payload == padTo 96 x.payload

/-! ## The write queue (R355-R357) -/

/-- The newest committed record of a metric and instance. -/
def State.newestOf (metric inst : Nat) (s : State) : Option (List Byte) :=
  (s.rcd.log.foldl (fun (b : Option (List Byte)) e =>
    if recGood e.2 && recMetric e.2 == metric && recInst e.2 == inst then
      match b with
      | some o => if recSeq o < recSeq e.2 then some e.2 else b
      | none => some e.2
    else b) none)

/-- The newest queued summary of a metric and instance takes one more pending repeat. -/
def bumpLast (metric inst : Nat) (q : Queue Summ) : Queue Summ :=
  let rec go : List (QEntry Summ) → List (QEntry Summ)
    | [] => []
    | .item x n :: r => if x.metric = metric ∧ x.inst = inst then .item { x with reps := x.reps + 1 } n :: r else .item x n :: go r
    | e :: r => e :: go r
  { q with entries := (go q.entries.reverse).reverse }

/-- A summary finds the write queue full (R355, R376): counted, and in metric 0x0070 as a fourth count of 32 bits, which R374 asks for and R353 does
not place (DESIGN CHOICE, log 165); the occurrence of the note to come is that of its first drop. -/
def State.summDropped (s : State) : State :=
  let q := s.rcd.q
  let first := q.newMarker || ((coalesce q.entries.reverse).isNone && decide (q.pend = 0))
  (({ s with rcd := { s.rcd with gapAt := if first then s.rcd.gapAt ++ [s.aon.opMin] else s.rcd.gapAt } }).bumpC 0x090034 1).stageAdd 0x0070 0 67 1

/-- A closed summary: a repeat of its record or queued predecessor, or a new queue entry (R355-R357). One whose record would carry flags is no
repeat of a record (R356): the flags of the moment are the next record's, that of the summary at the head of the queue. While the log is being
cleared no record is repeated: the summary waits in the queue (R362). -/
def State.closeSumm (x : Summ) (s : State) : State :=
  let queued := (s.rcd.q.items.filter (fun y => y.metric == x.metric && y.inst == x.inst)).getLast?
  let repeats : Option State :=
    if s.recFlags ≠ 0 ∧ s.rcd.q.entries = [] then none
    else match queued with
      | some y => if y.same x && decide (1 + y.reps < 65535) then
          some { s with rcd := { s.rcd with q := bumpLast x.metric x.inst s.rcd.q } } else none
      | none => match (if s.rcd.clearing then none else s.newestOf x.metric x.inst) with
        | some r =>
          if x.sameAs r && decide (recRep r + (s.rcd.rewrites.filter (fun q => q == recSeq r)).length < 65535) then
            some { s with rcd := { s.rcd with rewrites := s.rcd.rewrites ++ [recSeq r] } } else none
        | none => none
  match repeats with
  | some s1 => s1
  | none => { (if s.rcd.q.fits 1 then s else s.summDropped) with rcd := { (if s.rcd.q.fits 1 then s else s.summDropped).rcd with q := s.rcd.q.push x 1 } }

/-- A summary that closes now. -/
def State.summary (metric kind inst ivl : Nat) (payload : List Byte) (s : State) : State :=
  s.closeSumm { metric := metric, kind := kind, inst := inst, ivl := ivl, opmin := s.aon.opMin, payload := payload, reps := 0 }

/-- A note (R354 kind 4): its code, and count in w0. -/
def State.recNote (code n : Nat) (s : State) : State := s.summary 0x00F0 4 code 0 (beBytes 4 n ++ beBytes 4 s.aon.opMin)

/-- The intervals of the metrics start, at P5 or, where a start-up ends in the grave state, there; what was staged before is discarded, and
the note of lost staging is queued (R358). -/
def State.recBegin (s : State) : State :=
  State.recNote 2 0 { s with rcd := { s.rcd with stage := [], lastClose := s.aon.opMin, lastHour := s.aon.opMin } }

end Sys2Proof.Machine
end

