-- ==== Sys2Proof/Machine/Faults.lean ====
section
/-! DEFINITION. Fault collection and reaction (R335-R350), the grave state (R345), the clearing of the Nucleus half (R397),
core sparing (R367), and the block resets (R342) with what they clear in other blocks. -/

namespace Sys2Proof.Machine

/-! ## Sources -/

def State.src (h : Half) (n : Nat) (s : State) : FltSrc := nth FltSrc.clear (s.flt.list h) n
def State.mapSrc (h : Half) (n : Nat) (f : FltSrc → FltSrc) (s : State) : State :=
  { s with flt := { s.flt with coma := (match h with | .coma => at' s.flt.coma n f | .nucleus => s.flt.coma)
                               nuc := (match h with | .coma => s.flt.nuc | .nucleus => at' s.flt.nuc n f) } }

/-- Register offsets of a half's collector (R349). -/
def aFltR (h : Half) (o : Nat) : Nat := fltBase h + o

/-- Sources in handling of a half, and the bitmap of FLT.READ 0xFF (R350). -/
def State.handCount (h : Half) (s : State) : Nat := ((s.flt.list h).filter FltSrc.handling).length
def State.handWord (h : Half) (k : Nat) (s : State) : Word :=
  w32 (sumN ((List.range 32).map (fun i => 2 ^ i * b2n (nth FltSrc.clear (s.flt.list h) (32 * k + i)).handling)))

/-! ## The Nucleus half cleared (R397, R407): registers, source state, alignment, islands, engines, rules, streams, orrery neighbours -/

/-- The registers that belong to a join: ORY_HB and the neighbours' (R276). A Nucleus reset keeps the join (R397), and the device resumes with
its neighbours on return (R279), so these stay with it (DEDUCED, log 145). -/
def joinRange (x : Nat × Word) : Bool := x.1 == 0x080014 || (decide (0x080100 ≤ x.1) && decide (x.1 < 0x080300))

/-- A fault domain of the Nucleus half. -/
def onNucleus : ResetDomain → Bool
  | .core .nucleus _ | .isl | .lbe _ => true
  | _ => false

/-- Nucleus state after any reset of that half: every register at its Reset value, with the active tables, the pins' mirrors and balls, and the orrery
join kept (R397, R407). What waited for it in staging memory is gone, and the packets that waited for it are answered (R30). -/
def State.clearNucleus (s : State) : State :=
  State.refuseWaiting { s with
    regN := { RegFile.empty with rw := if s.ory.joined then s.regN.rw.filter joinRange else [] }
    ing := Ing.reset
    aln := { Aln.reset with spares := s.aln.spares }
    phx := Phx.reset
    isl := Isl.reset
    lbe := List.replicate 32 Lbe.reset
    alm := { Alm.reset with pins := s.alm.pins.map (fun p => { p with logical := false, width := false, lastNs := 0 }) }
    egr := Egr.reset
    ory := { s.ory with nbs := Ory.reset.nbs, replay := [], rx := [], tx := Ory.reset.tx, tagFails := 0, orphan := s.ory.joined && !s.ory.root,
                        beating := s.ory.joined, pendJoin := false, pendLeave := false }
    flt := { s.flt with nuc := Faults.reset.nuc, heldTrapN := false, windows := s.flt.windows.filter (fun d => !onNucleus d),
                        held := s.flt.held.filter (fun d => !onNucleus d) }
    tbl := { s.tbl with tbl := s.tbl.tbl.map (fun t => { t with staging := none, holder := none, pendingCommit := false }), commits := [], drain := [], oldTopo := none }
    upd := { s.upd with nuc := Upd.reset }
    cmd := { s.cmd with ops := s.cmd.ops.filter (fun o => o.half == .coma), recs := s.cmd.recs.filter (fun r => r.half == .coma),
                        servedN := Cmd.reset.servedN }
    core := { s.core with nuc := Cores.reset.nuc, pausedN := false, testing := s.core.testing.filter (fun x => x.1 != .nucleus),
                          repairing := s.core.repairing.filter (fun x => x.1 != .nucleus), due := s.core.due.filter (fun x => x.1 != .nucleus) }
    tlkC := { s.tlkC with up := false, rt := none, replay := false, part := TlkEnd.reset.part }
    tlkN := TlkEnd.reset
    sys := { s.sys with tjN := 0, tjxN := none, scrubN := Scrub.reset }
    tim := { s.tim with fofs := 0 }
    prt := s.prt.map (fun p => { p with occ := List.replicate 8 0 }) }

/-- The Nucleus half put into reset: cleared, its pins safe, the Tail link down (R344, R397). -/
def State.resetNucleus (s : State) : State :=
  (({ s with pwr := { s.pwr with nrst := true } }.clearNucleus).drivePins).reattn false

/-! ## Grave entry (R345) -/

/-- Entry into the grave state for a source: latch, MRAM record, Nucleus cleared and held, outputs at rest; a start-up ends here (R358). -/
def State.enterGrave (h : Half) (n : Nat) (s : State) : State :=
  let s1 : State := { s with
              pwr := { s.pwr with grave := true, nrst := true, resetDue := false }
              flt := { s.flt with graveSrc := w32 (n + 256 * b2n (decide (h = Half.nucleus)) + 2 ^ 15) }
              -- the ports send command replies and firmware answers alone
              prt := s.prt.map (fun p => { p with fw := p.fw.filter (fun f => f.kind == .plain), xoff := 0, pfc := List.replicate 8 none })
              pul := s.pul.zipIdx.map (fun (p, i) => { p with ball := bit (s.rwC (aPul i 0)) 1, inPulse := false, inGap := false }) }
  (if s.pwr.phase = 3 ∨ s.pwr.phase = 4 then s1.clearNucleus.drivePins.recBegin else s1.clearNucleus.drivePins)

/-! ## Events of the orrery and the ports that a block reset brings (R81, R265) -/

/-- PRTn counter offsets (R102). -/
abbrev prtFcserr : Nat := 0x130
abbrev prtRunt : Nat := 0x134
abbrev prtTrunc : Nat := 0x138
abbrev prtQdrop : Nat := 0x140
abbrev prtStgdrop : Nat := 0x144
abbrev prtMacctl : Nat := 0x148
abbrev prtIpdrop : Nat := 0x14C
abbrev prtUnknown : Nat := 0x150
abbrev prtFwdrop : Nat := 0x154
abbrev prtTxdown : Nat := 0x158
abbrev prtLinkdn : Nat := 0x15C
abbrev prtCmdrej : Nat := 0x160
abbrev prtDisdrop : Nat := 0x164

def State.port (p : Nat) (s : State) : Port := nth Port.reset s.prt p
def State.mapPrt (p : Nat) (f : Port → Port) (s : State) : State := { s with prt := at' s.prt p f }

/-! ## Libration alarms cleared (R225) -/

/-- f in µHz and zeta in 0.001 % of a mode, to nearest (R229, R249). -/
def Mode.fWord (m : Mode) : Word := wInt ((2 * m.f * 1000000 + one64).fdiv (2 * one64))
def Mode.zetaWord (m : Mode) : Nat := twos 32 ((2 * m.zeta * 100000 + one64).fdiv (2 * one64))

def State.lb (e : Nat) (s : State) : Lbe := nth Lbe.reset s.lbe e
def State.mapLbe (e : Nat) (f : Lbe → Lbe) (s : State) : State := { s with lbe := at' s.lbe e f }

/-! ## A mode's figures (R220, R224) -/

/-- Index of the signal of largest |shape|, the lowest of equals. -/
def topOf (sh : List Cx) : Nat :=
  (sh.zipIdx.foldl (fun (b : Nat × Int) x => let v := cxAbs x.1; if b.2 < v then (x.2, v) else b) (0, 0)).1

def Mode.amplitude (m : Mode) : Int := mulF (2 * cxAbs (nth (0, 0) m.shape (topOf m.shape))) (sqrtF m.mq)

/-- def_i(d) of the d-th def signal (R224). -/
def Mode.flow (key : Nat) (m : Mode) (d : Nat) : Int :=
  if m.mq ≤ 0 then (if m.held then Config.lbeOpen key (w32 d) else 0)
  else
    let c := nth [] m.flows d
    let r := sqrtF m.mq
    let x := fun (k : Nat) => let z := nth (0, 0) c k; (divF (2 * z.1) r, divF (2 * z.2) r)
    let im := fun (a b : Cx) => mulF a.2 b.1 - mulF a.1 b.2
    mulF (mulF pi64 m.f) (im (x 0) (x 2) + im (x 1) (x 3))

/-- The source hint: the def signal of the largest positive flow (R224). -/
def Mode.hint (key : Nat) (defs : List (Nat × Word)) (m : Mode) : Option Nat :=
  (defs.zipIdx.foldl (fun (b : Option Nat × Int) x =>
    let v := m.flow key x.2
    if b.2 < v then (some x.1.1, v) else b) (none, 0)).1

/-- An event of a slot is offered to the alarm rule engine with all that it carries (R225). -/
def State.offerOsc (e k : Nat) (damp own any : Bool) (m : Mode) (s : State) : State :=
  let l := s.lb e
  let ev : OscEvt := { eng := e, slot := k, f := m.fWord, zeta := m.zetaWord, amp := f32ofFix m.amplitude, hint := if damp then none else m.hint l.lastKey l.defs }
  State.offerState (if damp then 4 else 5) e own any ev.f m.zetaWord l.lastKey { s with alm := { s.alm with osc := some ev } }

/-- One alarm of a slot clears: counted, latched, offered (R225). damp: OSC_DAMP, else OSC_FORCED. -/
def State.clearOsc (e k : Nat) (damp : Bool) (s : State) : State :=
  let m := nth Mode.free (s.lb e).modes k
  if (if damp then m.damp else m.forced) then
    let s1 := s.mapLbe e (fun l => { l with modes := at' l.modes k (fun m =>
      if damp then { m with damp := false, dampRun := 0 } else { m with forced := false, forcedRun := 0 }) })
    let s2 := ((s1.bumpN (aLbe e (if damp then 0x58 else 0x60)) 1).bumpN 0x060054 1).latchN 0x06000C (if damp then 1 else 3)
    let on := fun (l : Lbe) => l.modes.any (fun m => if damp then m.damp else m.forced)
    s2.offerOsc e k damp (on (s2.lb e)) (s2.lbe.any on) m
  else s

/-- Every alarm of engine e clears (R225). -/
def State.clearOscAll (e : Nat) (s : State) : State :=
  (List.range 16).foldl (fun s k => (s.clearOsc e k true).clearOsc e k false) s

/-- A restart (R208): alarms cleared, then the engine's detrend, filter, embedding, subspace and mode state. -/
def State.lbeRestart (e : Nat) (s : State) : State :=
  let s1 := s.clearOscAll e
  ((s1.mapLbe e (fun l => { l with
      prevKey := none, means := [], unwraps := [], biquads := [], hist := [], w := [], p := [], trk := 0, skipped := false,
      modes := List.replicate 16 Mode.free })).bumpN (aLbe e 0x40) 1 |>.bumpN 0x060044 1).latchN 0x06000C 5

/-- LBE.STOP's effect (R228): alarms cleared, the state freed; the last results stay readable. -/
def State.lbeHalt (e : Nat) (s : State) : State :=
  let s1 := s.clearOscAll e
  s1.mapLbe e (fun l => { l with running := false, stopping := false, started := false, q := [], prevKey := none, mem := 0, hist := [], w := [], p := [] })

/-! ## Reactions (R337, R340) -/

/-- Reactions in force for a new occurrence: the configuration, or ATTN alone for a forced-only one (R343). -/
def State.reacts (h : Half) (n : Nat) (real : Bool) (s : State) : Word :=
  if real || bit (s.rw h (aFltR h 0)) 0 then s.rw h (aFlt h n 0) &&& 0x1F else 1

/-- The attention level of an occurrence (R42, R337). -/
def reactLevel (r : Word) : Nat := if bit r 1 then 3 else if bit r 0 then 2 else 0

/-- A dependant of an open window is suppressed, but for class C4 (R342). -/
def State.suppressed (h : Half) (n : Nat) (s : State) : Bool :=
  decide (fltClass h n ≠ 4) && s.flt.windows.any (fun d => fltDependant d h n)

/-- ERRP (R346): the pulse; the Coma firmware, where it runs, sets errn_sw with errpin_hold. -/
def State.errp (s : State) : State :=
  { s with flt := { s.flt with pulse := true, errnSw := s.flt.errnSw || (s.pwr.fw && bit (s.rwC 0x080000) 1) } }

/-- TRAP (R337, R347): taken by the half's firmware, or held in hardware while its image is switched. -/
def State.trapIn (h : Half) (s : State) : State :=
  let s1 := ((s.bump h (aFltR h 0x4C) 1).latch h (aFltR h 8) 16)
  let sw := match h with | .coma => s.upd.coma.switching && s.core.pausedC | .nucleus => s.upd.nuc.switching && s.core.pausedN
  if sw then { s1 with flt := { s1.flt with heldTrapC := s1.flt.heldTrapC || decide (h = .coma), heldTrapN := s1.flt.heldTrapN || decide (h = .nucleus) } }
  else s1.bump h 0x000090 1

/-- FLT_C_RSTCAUSE [31:16]: the other sources in handling in either half (R344). -/
def State.othersNow (s : State) : State :=
  { s with flt := { s.flt with rstCause := (s.flt.rstCause &&& 0xFFFF) ||| w32 (65536 * (s.handCount .coma + s.handCount .nucleus - 1)) } }

/-- CRST (R344): the cause in MRAM, and a chip reset due; of several in one cycle the Coma source of lowest index, else the Nucleus
source of lowest index, is recorded; a Nucleus one with the link down resets that half alone. -/
def State.crst (h : Half) (n : Nat) (s : State) : State :=
  if h = .nucleus ∧ ¬ s.tlkN.up then s.resetNucleus
  else
    let old := s.flt.rstCause
    let k := n + 256 * b2n (decide (h = Half.nucleus))
    let first := if s.pwr.resetDue && bit old 15 then Nat.min k (bits old 8 0) else k
    State.othersNow { s with
      pwr := { s.pwr with resetDue := true, dueAt := s.tim.now }
      flt := { s.flt with rstCause := w32 (first + 2 ^ 15) } }

/-- The reactions r of a source but BRST: ERRP, grave entry, CRST, TRAP (R343, R345, R347). -/
def State.react (h : Half) (n : Nat) (real : Bool) (r : Word) (s : State) : State :=
  let s2 := if bit r 4 then s.errp else s
  let due := s2.pwr.resetDue
  let s3 := if fltClass h n = 4 ∧ real then s2.enterGrave h n
            else if bit r 3 ∧ (¬ due ∨ s2.pwr.dueAt = s2.tim.now) ∧ ¬ s2.pwr.grave then s2.crst h n
            else if due ∧ s2.pwr.dueAt = s2.tim.now then s2.othersNow else s2
  if bit r 1 && !s3.pwr.resetDue then s3.trapIn h else s3

/-- The attention fields after a reaction r, or the level-1 event of a notice (R337, R343). -/
def State.reactAttn (h : Half) (n : Nat) (r : Word) (s : State) : State :=
  if bit r 0 || bit r 1 then s.reattn true
  else if fltClass h n ≤ 1 then s.evFault 1
  else s.reattn false

/-- Entry of a source into handling, with every reaction but BRST and those in apart, which its cycle has applied already or will not perform
(R340, R347). -/
def State.enterBut (apart : Word) (h : Half) (n : Nat) (real forced : Bool) (s : State) : State :=
  let r := s.reacts h n real
  let enter := fun (x : FltSrc) =>
    { x with handling := true, real := real, forced := forced, missed := false, lvl := reactLevel r, occ := sat 16 (x.occ + 1) }
  let s1 := (((s.mapSrc h n enter).bump h (aFltR h 0x40) 1).latch h (aFltR h 8) 1).stageAdd
              (match h with | .coma => 0x0030 | .nucleus => 0x0031) 0 n 1
  (s1.react h n real (r &&& ~~~apart)).reactAttn h n r

abbrev State.enterHandling (h : Half) (n : Nat) (real forced : Bool) (s : State) : State := s.enterBut 0 h n real forced

/-- The condition of a source arises in the cycle of its forced occurrence: FORCED and REAL stand together, and the configured reactions that the
forcing has not brought follow (R343). -/
def State.joinReal (apart : Word) (h : Half) (n : Nat) (s : State) : State :=
  let r := s.reacts h n true
  let s1 := s.mapSrc h n (fun x => { x with real := true, lvl := reactLevel r })
  (s1.react h n true (r &&& ~~~(s.reacts h n false) &&& ~~~apart)).reattn true

/-- An occurrence without its block reset: suppressed, missed while in handling, or taken (R340, R342, R347). Answers whether taken. -/
def State.occurBut (apart : Word) (h : Half) (n : Nat) (real forced : Bool) (s : State) : State × Bool :=
  if !s.halfUp h then (s, false)
  else if s.suppressed h n then
    ((((s.mapSrc h n (fun x => { x with supp := sat 16 (x.supp + 1) })).bump h (aFltR h 0x44) 1).latch h (aFltR h 8) 4), false)
  else if (s.src h n).handling then
    if real && forced && (s.src h n).forced && !(s.src h n).real then (s.joinReal apart h n, true)
    else (((s.mapSrc h n (fun x => { x with missed := true })).latch h (aFltR h 8) 2), false)
  else (s.enterBut apart h n real forced, true)

abbrev State.occur (h : Half) (n : Nat) (real forced : Bool) (s : State) : State × Bool := s.occurBut 0 h n real forced

/-! ## Neighbours and links down (R81, R265) -/

/-- Neighbour k goes down (R265): the loss of the parent makes an orphan and raises F_ORY_PARENT. -/
def State.nbDown (k : Nat) (s : State) : State :=
  if !(s.nb k).up then s
  else
    let s1 := (s.mapNb k (fun n => { n with up := false, bitmap := [], tchk := none })).latchN 0x080008 3
    let s2 := { s1 with isl := { s1.isl with learnt := s1.isl.learnt.filter (fun e => e.1 != k) } }
    if nbRole (s.nbCfg k) = 1 ∧ s.ory.joined then
      (({ s2 with ory := { s2.ory with orphan := true } }.latchN 0x080008 4).occur .nucleus 61 true false).1
    else s2

/-- The link of port p goes down (R81): counted, latched; neighbours on it go down (R265). -/
def State.portDown (p : Nat) (s : State) : State :=
  let was := (s.port p).link
  let s1 := s.mapPrt p (fun x => { x with link := false, sendsFault := true })
  if !was then s1
  else
    let s2 := (s1.bumpC (aPrt p prtLinkdn) 1).latchC (aPrt p 0xC) 1
    (s2.nbsWhere (fun k => nbPort (s2.nbCfg k) == p)).foldl (fun s k => s.nbDown k) s2

/-! ## Cores (R365-R368) -/

def Cores.list (h : Half) (c : Cores) : List CoreState := match h with | .coma => c.coma | .nucleus => c.nuc
def State.mapCores (h : Half) (f : List CoreState → List CoreState) (s : State) : State :=
  { s with core := { s.core with coma := (match h with | .coma => f s.core.coma | .nucleus => s.core.coma)
                                 nuc := (match h with | .coma => s.core.nuc | .nucleus => f s.core.nuc) } }
def setCore (n : Nat) (c : CoreState) (l : List CoreState) : List CoreState := at' l n (fun _ => c)
def idxOf (c : CoreState) (l : List CoreState) : Option Nat :=
  (l.zipIdx.find? (fun x => x.1 == c)).map (fun x => x.2)

/-- After the self-test: the cores that pass become active up to the count, the next the spare, the rest retired (R365). -/
def coreAssign : Nat → Bool → List Bool → List CoreState
  | _, _, [] => []
  | n, sp, false :: r => .retired :: coreAssign n sp r
  | 0, true, true :: r => .spare :: coreAssign 0 false r
  | 0, false, true :: r => .retired :: coreAssign 0 false r
  | n + 1, sp, true :: r => .active :: coreAssign n sp r

/-- The fault sources of a half: no spare left, and the watchdog of the last active core (R367). -/
def noSpareSrc (h : Half) : Nat := match h with | .coma => 40 | .nucleus => 17
def wdogSrc (h : Half) : Nat := match h with | .coma => 7 | .nucleus => 1

/-- A parity or watchdog fault of an active core (R367): the spare takes its place; a core in block reset is tested, another is retired. While the
half's dispatch is stopped for a switch, all this waits for it (R400). -/
def State.spareCore (h : Half) (n : Nat) (s : State) : State :=
  let cs := s.core.list h
  if nth .retired cs n ≠ .active then s
  else if s.paused h then
    (if s.core.due.elem (h, n) then s else { s with core := { s.core with due := s.core.due ++ [(h, n)] } })
  else
    let brst := s.flt.held.elem (.core h n)
    let s1 := s.mapCores h (setCore n .retired)
    let s2 := if brst then { s1 with core := { s1.core with testing := s1.core.testing ++ [(h, n)] } } else s1.latch h 0x000030 8
    match idxOf .spare cs with
    | some k => (((s2.mapCores h (setCore k .active)).bump h 0x00008C 1).latch h 0x000030 4).evService 2
    | none =>
      let s3 := (s2.occur h (noSpareSrc h) true false).1
      if (s3.core.list h).all (fun c => c != .active) then (s3.occur h (wdogSrc h) true false).1 else s3

/-- The sparings that waited for the half's switch (R400). -/
def State.spareDue (h : Half) (s : State) : State :=
  ((s.core.due.filter (fun x => x.1 == h)).map (fun x => x.2)).foldl (fun (s : State) n => s.spareCore h n)
    { s with core := { s.core with due := s.core.due.filter (fun x => x.1 != h) } }

/-! ## Block resets (R342) -/

/-- A domain's servo reset (R80, R342): the domain is unhealthy until a master is chosen anew and R62 holds. ASYM_SUSPECT, which only TIME.ASYM
clears, stays and keeps the servo frozen (R67). -/
def Domain.servoReset (d : Domain) : Domain :=
  { d with syncOk := false, annOk := false, hist := [], outliers := [], integ := 0, prop := 0, mpds := [], nmpd := 0, base := 0, overs := 0,
           frozen := d.suspect, check := d.suspect, ref := 0, pps0 := none, refLost := false, ppsLost := false, twoStep := none,
           dreq := none, lastSync := none, pstate := 0 }

/-- A branch of which nothing is stored but its counters (R192, R206, R407). -/
def Branch.bare (b : Branch) : Branch :=
  { id := b.id, cnt := 0, dth := none, st := 0, su := false, au := false, rate := 0, opens := b.opens, seps := b.seps }

/-- Discards the island state: as a write of 0 then 1 to ISL_CTL.enable, or with the engine disabled discarded alone; handles, the
event log and the counters go on; the hold of table 0x02's outgoing bank ends with its conjunctions (R188, R192, R197, R342, R407). -/
def Isl.discard (armed : Bool) (i : Isl) : Isl :=
  { Isl.reset with armed := armed, nextHandle := i.nextHandle, elog := i.elog, elogNext := i.elogNext, learnt := i.learnt,
                   branches := (i.branches.filter (fun b => decide (0 < b.opens ∨ 0 < b.seps))).map Branch.bare }

/-- A rover cycle is aborted: counted and an event (R164, R168). -/
def State.roverAborted (s : State) : State := ((s.bumpC 0x060024 1).bumpC 0x06049C 1).latchC 0x060008 7

/-- What the reset of a domain clears (R342). A rover cycle aborted with the chains starts again as after a sync (R164, DEDUCED, log 149). -/
def State.domainClear (d : ResetDomain) (s : State) : State :=
  match d with
  | .prt n =>
    (({ s with ing := { s.ing with cands := s.ing.cands.filter (fun c => c.port != n), svs := s.ing.svs.filter (fun c => c.port != n) } }.mapPrt n
      (fun p => { p with lock := false, hiBer := false, rfault := false, pause := List.replicate 8 0, xoff := 0,
                         occ := List.replicate 8 0, pfc := List.replicate 8 none }))).portDown n
  | .xcv => s
  | .tim => { s with tim := { s.tim with domA := s.tim.domA.servoReset, domB := s.tim.domB.servoReset } }
  | .afe =>
    let s1 := match s.afe.rover with
      | some r => if r.step = 0 then s else { s with afe := { s.afe with rover := some { r with step := 0 } } }.roverAborted
      | none => s
    { s1 with afe := { s1.afe with sync := some (s.afe.sync.getD 2), syncAt := if s.afe.sync.isSome then s.afe.syncAt else s.tim.now } }
  | .core _ _ => s
  | .recorder => s
  | .key => s
  | .isl => { s with isl := s.isl.discard (bit (s.rwN 0x050000) 0) }
  | .lbe e => if (s.lb e).running then s.lbeRestart e else s

/-- BRST (R342): the window opens or restarts; the domain is reset unless its reset is already in progress. -/
def State.brst (h : Half) (d : ResetDomain) (s : State) : State :=
  let s1 := ((s.bump h (aFltR h 0x48) 1).latch h (aFltR h 8) 8)
  let s2 := { s1 with flt := { s1.flt with windows := d :: s1.flt.windows.filter (fun x => x != d) } }
  if s2.flt.held.elem d then s2
  else ({ s2 with flt := { s2.flt with held := d :: s2.flt.held } }).domainClear d

/-- What the condition itself does, whatever the reactions: a failing core (R367), an error in an engine's state (R208), counts
of uncorrectable errors (R409). -/
def State.srcEffect (h : Half) (n : Nat) (s : State) : State :=
  match h with
  | .coma =>
    if 37 ≤ n ∧ n ≤ 39 then s.spareCore .coma (n - 37)
    else if 21 ≤ n ∧ n ≤ 32 then s.bumpC 0x000084 1
    else if n = 9 then (s.bumpC 0x010038 1).latchC 0x010004 4
    else if n = 34 then (s.bumpC 0x000088 1).latchC 0x000030 1
    else s
  | .nucleus =>
    if 12 ≤ n ∧ n ≤ 16 then s.spareCore .nucleus (n - 12)
    else if 9 ≤ n ∧ n ≤ 11 then s.bumpN 0x000084 1
    else if n = 22 then (s.bumpN 0x030018 1).stageAdd 0x0060 0 15 1
    else if n = 6 then (s.bumpN 0x010038 1).latchN 0x010004 4
    else if n = 8 then (s.bumpN 0x000088 1).latchN 0x000030 1
    else if 26 ≤ n ∧ n ≤ 57 then
      let e := n - 26
      let s1 := s.bumpN 0x06004C 1
      if !(s.lb e).running then s1
      else if bit (s.rwN 0x060000) 0 then s1.lbeRestart e else s1.lbeHalt e
    else s

/-- An occurrence whole: handling and reactions, the block reset, and what the condition itself does; but for the reactions in apart, and the block
reset of a domain among done. Answers whether it was taken. -/
def State.occurrenceBut (apart : Word) (done : List ResetDomain) (h : Half) (n : Nat) (real forced : Bool) (s : State) : State × Bool :=
  let (s1, taken) := s.occurBut apart h n real forced
  let r := s.reacts h n real &&& ~~~apart
  let s2 := if taken && bit r 2 && !s1.pwr.resetDue && !s1.pwr.grave then
      (match fltDomain h n with | some d => if done.elem d then s1 else s1.brst h d | none => s1)
    else s1
  -- a Nucleus CRST that cannot cross resets that half alone, and F_TLK_DOWN reacts (R344)
  let s3 := if taken && bit r 3 && decide (h = .nucleus) && !s.tlkN.up && !s.pwr.grave then (s2.occur .coma 11 true false).1 else s2
  (if real && s3.halfUp h && !s.suppressed h n then s3.srcEffect h n else s3, taken)

def State.occurrence (h : Half) (n : Nat) (real forced : Bool) (s : State) : State := (s.occurrenceBut 0 [] h n real forced).1

/-- A real occurrence of a source. -/
abbrev State.fault (h : Half) (n : Nat) (s : State) : State := s.occurrence h n true false
abbrev State.faultC (n : Nat) (s : State) : State := s.fault .coma n
abbrev State.faultN (n : Nat) (s : State) : State := s.fault .nucleus n

/-- A forced occurrence (R343). -/
def State.forceFault (h : Half) (n : Nat) (s : State) : State := s.occurrence h n false true

/-- What a cycle has applied so far: the halves that have trapped and the domains that have been reset (R347). -/
abbrev Applied := List Half × List ResetDomain

/-- One occurrence of a cycle: of each kind of reaction, only what the cycle has not applied yet; with a grave entry in the cycle, neither CRST nor
BRST (R345, R347). -/
def State.cycleOne (grave : Bool) (x : State × Applied) (o : Occ) : State × Applied :=
  let s := x.1
  let r := s.reacts o.half o.idx o.real
  let apart : Word := (if x.2.1.elem o.half then 2 else 0) ||| (if grave then 12 else 0)
  let y := s.occurrenceBut apart x.2.2 o.half o.idx o.real o.forced
  (y.1, (if y.2 && bit r 1 then o.half :: x.2.1 else x.2.1,
    if y.2 && bit r 2 then (match fltDomain o.half o.idx with | some d => d :: x.2.2 | none => x.2.2) else x.2.2))

/-- The occurrences of one cycle (R343, R344, R347): those with CRST first, since a chip reset that is due overrides every TRAP and BRST of the
cycle; those that enter the grave state last, since they clear the Nucleus half and let no chip reset and no block reset be performed. -/
def State.collectCycle (os : List Occ) (s : State) : State :=
  let c4 := fun (o : Occ) => o.real && decide (fltClass o.half o.idx = 4) && s.halfUp o.half
  let crst := fun (o : Occ) => bit (s.reacts o.half o.idx o.real) 3
  let rest := os.filter (fun o => !c4 o)
  let l := rest.filter crst ++ rest.filter (fun o => !crst o) ++ os.filter c4
  (l.foldl (State.cycleOne (os.any c4)) (s, ([], []))).1

/-! ## Conditions that last (R340, R350) -/

/-- A condition that a sample shows: it occurs as it arises and is present until a sample shows otherwise. -/
def State.condition (h : Half) (n : Nat) (on : Bool) (s : State) : State :=
  if on && !(s.src h n).present then (s.mapSrc h n (fun x => { x with present := true })).fault h n
  else if on then s
  else s.mapSrc h n (fun x => { x with present := false })

/-- A condition arises and stays present until it is over. -/
def State.lasting (h : Half) (n : Nat) (s : State) : State := (s.mapSrc h n (fun x => { x with present := true })).fault h n
def State.over (h : Half) (n : Nat) (s : State) : State := s.mapSrc h n (fun x => { x with present := false })

/-! ## Commands of the collectors (R335, R340, R343, R346, R350) -/

def fltCount (h : Half) : Nat := match h with | .coma => 96 | .nucleus => 64

/-- FLT_x_Sn_CFG as read: reactions, class, domain (R350). -/
def State.fltCfg (h : Half) (n : Nat) (s : State) : Word :=
  (s.rw h (aFlt h n 0) &&& 0x1F) ||| w32 (256 * fltClass h n + 2048 * b2n (fltDomain h n).isSome)
def FltSrc.stat (x : FltSrc) : Word :=
  w32 (b2n x.handling + 2 * b2n x.real + 4 * b2n x.forced + 8 * b2n x.missed + 16 * b2n x.present)
def FltSrc.cntW (x : FltSrc) : Word := w32 (x.occ + 65536 * x.supp)

def cmdFltRead (h : Hdr) (ps : List Word) (s : State) : Res :=
  arity 1 ps s fun _ =>
    let n := bits (par ps 0) 7 0
    if n = 0xFF then .ok s [s.handWord h.half 0, s.handWord h.half 1, if h.half = .coma then s.handWord h.half 2 else 0]
    else if fltCount h.half ≤ n then .fail s eParam 0
    else .ok s [s.fltCfg h.half n, (s.src h.half n).stat, (s.src h.half n).cntW]

/-- FLT.CLEAR (R340): out of handling; a condition still present occurs again. -/
def cmdFltClear (h : Hdr) (ps : List Word) (s : State) : Res :=
  arity 1 ps s fun _ =>
    let n := bits (par ps 0) 7 0
    if fltCount h.half ≤ n then .fail s eParam 0
    else if !(s.src h.half n).handling then .ok s
    else
      let s1 := (s.mapSrc h.half n (fun x => { x with handling := false, real := false, forced := false, missed := false, lvl := 0 })).reattn false
      { Res.ok s1 with after := if (s.src h.half n).present then State.fault h.half n else id }

def cmdFltForce (h : Hdr) (ps : List Word) (s : State) : Res :=
  arity 1 ps s fun _ =>
    let n := bits (par ps 0) 7 0
    if fltCount h.half ≤ n then .fail s eParam 0 else { Res.ok s with after := State.forceFault h.half n }

def cmdFltErrpin (_ : Hdr) (ps : List Word) (s : State) : Res :=
  arity 1 ps s fun _ => .ok { s with flt := { s.flt with errnSw := bit (par ps 0) 0 } }

/-- ERR_N is released (high) when no pulse runs, errn_sw is clear and the state is not grave (R346). -/
def State.errn (s : State) : Bool := !(s.flt.pulse || s.flt.errnSw || s.pwr.grave)

/-- ERRN_PULSE_END (R346). -/
def doErrnPulseEnd (s : State) : State := { s with flt := { s.flt with pulse := false } }

/-- The suppression window of a domain ends (R342). -/
def doWindowEnd (d : ResetDomain) (s : State) : State :=
  { s with flt := { s.flt with windows := s.flt.windows.filter (fun x => x != d) } }

/-- ERRN_PIN_SAMPLE (R338): two samples in a row that differ from the driven level raise F_ERRN_PIN. -/
def doErrnSample (level : Bool) (s : State) : State :=
  let wrong := level != s.errn
  let s1 := { s with flt := { s.flt with errnMiss := if wrong then Nat.min 2 (s.flt.errnMiss + 1) else 0, errnLevel := level } }
  if wrong ∧ s.flt.errnMiss = 1 then s1.lasting .coma 87 else if wrong then s1 else s1.over .coma 87

end Sys2Proof.Machine
end

