-- ==== Sys2Proof/Machine/Energy.lean ====
section
/-! DEFINITION. Integration of energy (R282-R288, R291, R293, R294, R297): points, cycles, accumulators, snapshots and the pulse schedule.
Energies are exact rationals, truncated to 2^-32 of the unit as they are added (R288). -/

namespace Sys2Proof.Machine

/-! ## Points (R282) -/

def Point.fresh (m : Nat) : Point :=
  { id := m, on := false, acc := [0, 0, 0, 0], snap := [0, 0, 0, 0], exportDir := false, opp := 0,
    missing := false, p := 0, q := 0, dem := 0, maxDem := 0, demA := 0, demB := 0, cnt := [0, 0, 0, 0], parts := [], cycAt := 0, sig := [] }
def State.point (m : Nat) (s : State) : Point := (findBy Point.id m s.nrg.points).getD (Point.fresh m)
def State.putPoint (x : Point) (s : State) : State := { s with nrg := { s.nrg with points := insertBy Point.id x s.nrg.points } }
def State.mapPoint (m : Nat) (f : Point → Point) (s : State) : State := s.putPoint (f (s.point m))
def Point.count (k n : Nat) (x : Point) : Point := { x with cnt := at' x.cnt k (fun c => sat 32 (c + n)) }

def State.nrgCfg (m : Nat) (s : State) : Word := s.rwC (aNrg m 0)
def nrgFeed (c : Word) : Nat := bits c 2 1
def State.nrgSrc (m : Nat) (s : State) : Nat := bits (s.rwC (aNrg m 4)) 15 0
def State.nrgK (m : Nat) (s : State) : Rat := f32q (s.rwC (aNrg m 8))

/-- Nominal frequency of a point's cycle grid (R282). -/
def State.nrgHz (m : Nat) (s : State) : Nat :=
  if nrgFeed (s.nrgCfg m) = 1 then (if bit (s.rwC 0x060000) 2 then 50 else 60) else fNom s.srcT (s.nrgSrc m)

/-- Cycle boundary k from TAI 0, and the index of the last boundary at or before an instant (R283). -/
def cycNs (hz k : Nat) : Nat := k * 1000000000 / hz
def cycIdx (hz t : Nat) : Nat := (t * hz + hz - 1) / 1000000000

/-- The point integrates: en = 1, power, no grave state (R297). -/
def State.nrgLive (m : Nat) (s : State) : Bool := (s.point m).on && !s.pwr.grave

/-- What a PHASOR-fed point's configuration names exists (R282). -/
def State.nrgFeedOk (c src : Word) (s : State) : Bool :=
  let t := s.srcT
  let i := bits src 15 0
  let ch := fun (o : Nat) => chanIs t i (bits src 25 16 + o) 0 && chanIs t i (bits c 25 16 + o) 0
  inGroup t i (bits c 5 3) && (if nrgFeed c = 2 then ch 0 && ch 1 && ch 2 else ch 0)

/-! ## Adding a cycle (R287, R288, R293) -/

/-- Energy in units of 2^-32 of the accumulator unit, rounded toward zero (R288). -/
def energyUnits (e : Rat) : Nat := (e.num.natAbs * 2 ^ 32) / e.den

/-- One accumulator receives an energy; a carry out of bit 63 wraps (R288). -/
def State.addAcc (m k n : Nat) (s : State) : State :=
  let v := nth 0 (s.point m).acc k + n
  let s1 := s.mapPoint m (fun x => { x with
    acc := at' x.acc k (fun _ => v % 2 ^ 96), demA := if k = 0 then x.demA + n else x.demA, demB := if k = 1 then x.demB + n else x.demB })
  if 2 ^ 96 ≤ v then (s1.latchC (0x070020 + 4 * (m / 32)) (m % 32)).latchC 0x070008 3 else s1

/-! ## Pulse schedule (R294) -/

def State.pulSt (p : Nat) (s : State) : Pul := nth Pul.reset s.pul p
def State.mapPul (p : Nat) (f : Pul → Pul) (s : State) : State := { s with pul := at' s.pul p f }
def State.pulCfg (p : Nat) (s : State) : Word := s.rwC (aPul p 0)

/-- The crossings of one cycle's energy over a span that starts at an instant: due instants to the nearest us (R294). -/
def pulseDues (r0 e k start hz : Nat) : List Nat :=
  if e = 0 ∨ k = 0 then []
  else (List.range ((r0 + e) / k)).map (fun i => ((start * hz * e + 1000000000 * ((i + 1) * k - r0)) * 2 + 1000 * hz * e) / (2000 * hz * e) * 1000)

/-- Energy of a cycle that ended, added to accumulator k of point m, counted by output p (R294, R295). -/
def State.pulseCount (p m k e hz fin : Nat) (s : State) : State :=
  let c := s.pulCfg p
  if !bit c 0 || bits c 9 2 ≠ m || bits c 11 10 ≠ k then s
  else
    let x := s.pulSt p
    let unit := (s.rwC (aPul p 4)).toNat * 2 ^ 32
    let at0 := fin + cycNs hz (cycIdx hz fin + bits c 18 12 - 1) - cycNs hz (cycIdx hz fin)
    let late := decide (at0 < s.tim.now)
    let start := if late then s.tim.now else at0
    s.mapPul p (fun _ => { x with
      r := if unit = 0 then x.r else (x.r + e) % unit
      due := (pulseDues x.r e unit start hz).foldl (fun l d => insertN d l) x.due
      late := if late then sat 16 (x.late + 1) else x.late })

/-- One cycle's energy of each kind goes into its accumulator and to the pulse outputs of the point (R287, R294). -/
def State.creditCycle (m hz fin ka ea kr er : Nat) (s : State) : State :=
  (List.range 4).foldl (fun s i => (s.pulseCount i m ka ea hz fin).pulseCount i m kr er hz fin) ((s.addAcc m ka ea).addAcc m kr er)

/-- The established direction after a cycle of power in one direction (R293). -/
def State.judgeDirection (m dwell : Nat) (neg : Bool) (s : State) : State :=
  let x := s.point m
  if dwell = 0 then s
  else if neg = x.exportDir then s.mapPoint m (fun x => { x with opp := 0 })
  else if dwell ≤ x.opp + 1 then
    (s.mapPoint m (fun x => Point.count 2 1 { x with opp := 0, exportDir := !x.exportDir })).latchC 0x070008 1
  else s.mapPoint m (fun x => { x with opp := x.opp + 1 })

/-- What a point shows of its last cycle (R286, R298). -/
def State.noteCycle (m : Nat) (missing : Bool) (p q : Word) (at0 : Nat) (s : State) : State :=
  let s1 := s.mapPoint m (fun x => { x with missing := missing, p := p, q := q, cycAt := at0 })
  (if missing then (s1.mapPoint m (Point.count 0 1)).latchC 0x070008 2 else s1).bumpC 0x0700A8 1

/-- A cycle's energies e_act and e_rea (mWh, mvarh) are added; missing: some part was. Whole: all of it. (R286, R287, R293). -/
def State.addCycle (m hz fin : Nat) (p q : Rat) (missing whole : Bool) (s : State) : State :=
  let c := s.nrgCfg m
  let pj : Rat := if bit c 7 then -p else p
  let qj : Rat := if bit c 7 then -q else q
  let s1 := if whole then s else
    s.creditCycle m hz fin (if pj < 0 then 1 else 0) (energyUnits (pj * mkRat 5 18)) (if qj < 0 then 3 else 2) (energyUnits (qj * mkRat 5 18))
  let s2 := s1.noteCycle m missing (f32of (pj * hz)) (f32of (qj * hz)) (cycNs hz (cycIdx hz fin))
  if missing || decide (pj = 0) then s2 else s2.judgeDirection m (bits c 31 26) (decide (pj < 0))

/-! ## Snapshots (R291) -/

/-- The point has added the cycle that a copy for an instant takes: its next cycle ends after that instant. -/
def State.pointReady (m inst : Nat) (s : State) : Bool :=
  let hz := s.nrgHz m
  decide (inst < cycNs hz (cycIdx hz (s.point m).cycAt + 1))

/-- A copy of the accumulators of point m, the first that a snapshot takes of it. -/
def Snap.copy (m : Nat) (acc : List Nat) (x : Snap) : Snap :=
  if (findBy (fun e => e.1) m x.copies).isSome then x else { x with copies := insertBy (fun e => e.1) (m, acc) x.copies }

/-- Every enabled point has added the cycle that its copy takes. -/
def Snap.whole (points : List Point) (x : Snap) : Bool := points.all (fun p => !p.on || (findBy (fun e => e.1) p.id x.copies).isSome)

/-- The oldest pending snapshot is complete once no point owes its copy. -/
def State.snapHead (s : State) : State :=
  match s.nrg.snaps with
  | [] => s
  | x :: r =>
    if !x.whole s.nrg.points then s
    else
      (State.latchC 0x070008 4 { s with nrg := { s.nrg with
        snaps := r, snapNum := x.num, snapT := x.inst,
        points := s.nrg.points.map (fun p => { p with snap := match findBy (fun e => e.1) p.id x.copies with | some e => e.2 | none => [0, 0, 0, 0] }) } }).bumpC 0x0700A0 1

/-- The pending snapshots that are complete. -/
def State.snapDone (s : State) : State := s.nrg.snaps.foldl (fun s _ => s.snapHead) s

/-- A snapshot is requested for an instant: copies of the points that owe it no cycle are taken now. -/
def State.snapStart (inst : Nat) (cmd : Bool) (s : State) : State :=
  let ready := s.nrg.points.filter (fun x => !x.on || s.pointReady x.id inst)
  let x : Snap := { num := s.nrg.nextNum, inst := inst, cmd := cmd, copies := ready.map (fun x => (x.id, x.acc)) }
  State.snapDone { s with nrg := { s.nrg with nextNum := s.nrg.nextNum + 1, snaps := s.nrg.snaps ++ [x] } }

/-- After a point's addition: its copies, where its next cycle lies beyond their instants. -/
def State.snapCycle (m : Nat) (s : State) : State :=
  let acc := (s.point m).acc
  State.snapDone { s with nrg := { s.nrg with snaps := s.nrg.snaps.map (fun x => if s.pointReady m x.inst then x.copy m acc else x) } }

/-! ## Waveform-fed cycles (R284, R286) -/

/-- A waveform word's value in counts, and its flags (R154). -/
def waveVal (w : Word) : Int := w.toInt.fdiv 16
def waveU (w : Word) : Bool := bit w 3
def waveOvr (w : Word) : Bool := bit w 1

def presetRate (p : Nat) : Nat := nth 4800 [9600, 4800, 2400] p

/-- The first sample time at or after a TAI instant, in periods of 1/9,600 s: every preset's output period is a whole number of them. -/
def tickOf (t : Nat) : Nat := (t * 9600 + 999999999) / 1000000000

/-- The words of a channel whose sample times lie in [a, b). -/
def Chan.between (a b : Nat) (c : Chan) : List Wave := c.wave.filter (fun w => decide (a ≤ w.tick) && decide (w.tick < b))

/-- The rms fundamental phasor of a cycle of n periods of 1/9,600 s from its samples, counts times 2^64 (R165, R284). -/
def cyclePhasor (n : Nat) (xs : List Wave) : Cx :=
  let s := xs.foldl (fun (a : Cx) (x : Wave) =>
    let t := ((x.tick % n : Nat) * one64 : Int).fdiv n
    let v := waveVal x.word * x.per
    (a.1 + v * cosTurn t, a.2 - v * sinTurn t)) (0, 0)
  let r2 := sqrtF (2 * one64)
  if n = 0 then (0, 0) else (mulF r2 (s.1.fdiv n), mulF r2 (s.2.fdiv n))

/-- The used channels of a waveform-fed point. -/
def nrgChans : List Nat := [0, 1, 2, 4, 5, 6]

/-- P and Q of the cycle [a, b) in J and var s, and what was missing: a part, all of it; the words with ovr (R284, R286). -/
def State.waveCycle (m hz a b : Nat) (s : State) : (Rat × Rat) × (Bool × (Bool × Nat)) :=
  let lo := tickOf a
  let hi := tickOf b
  let rows := nrgChans.map (fun c => (nth Chan.reset s.afe.chans c).between lo hi)
  let ok := fun (w : Wave) => rows.all (fun r => match findBy Wave.tick w.tick r with | some x => !waveU x.word | none => false)
  let used := rows.map (fun r => r.filter ok)
  let good := nth [] used 0
  let val := fun (c t : Nat) => match findBy Wave.tick t (nth [] used c) with | some x => waveVal x.word | none => 0
  let e := sumI (good.map (fun w => w.per * sumI ((List.range 3).map (fun c => val c w.tick * val (c + 3) w.tick))))
  let qs := sumI ((List.range 3).map (fun c =>
    let v := cyclePhasor (9600 / hz) (nth [] used c)
    let i := cyclePhasor (9600 / hz) (nth [] used (c + 3))
    mulF v.2 i.1 - mulF v.1 i.2))
  let k := s.nrgK m
  ((k * mkRat e (2 ^ 52 * 9600), k * mkRat qs (2 ^ 64 * 2 ^ 52 * hz)),
    (decide (sumN (good.map Wave.per) < hi - lo), good.isEmpty, sumN (rows.map (fun r => (r.filter (fun w => waveOvr w.word)).length))))

/-- Every word of a cycle that ends at b has been formed, or is no longer waited for (R284). -/
def State.waveReady (b : Nat) (s : State) : Bool :=
  decide (b ≤ s.tim.now) &&
    (decide (b + feLatency s.afePreset + 5000 ≤ s.tim.now) ||
      nrgChans.all (fun c => let x := nth Chan.reset s.afe.chans c
        !x.running || (match x.wave.getLast? with | some w => decide (tickOf b ≤ w.tick + w.per) | none => false)))

/-- A waveform-fed point's cycle [a, b) is added. -/
def State.addWave (m hz a b : Nat) (s : State) : State :=
  let ((p, q), (miss, (whole, ovr))) := s.waveCycle m hz a b
  ((s.mapPoint m (Point.count 1 ovr)).addCycle m hz b (if whole then 0 else p) (if whole then 0 else q) miss whole).snapCycle m

/-! ## Phasor-fed cycles (R285, R286) -/

/-- The descriptors of the channels that a phasor-fed point uses (R282). -/
def State.nrgSig (m : Nat) (s : State) : List Nat :=
  let i := s.nrgSrc m
  let v0 := bits (s.rwC (aNrg m 4)) 25 16
  let i0 := bits (s.nrgCfg m) 25 16
  (if nrgFeed (s.nrgCfg m) = 2 then [0, 1, 2] else [0]).flatMap (fun o => [chDescr s.srcT i (v0 + o), chDescr s.srcT i (i0 + o)])

/-- P and Q of a delivery for a point in 2^-64 units, and whether any used lane is missing: one without V, or a source removed or with
other channels than at the enabling (R282, R286). -/
def State.phasorPower (m : Nat) (d : Delivery) (s : State) : (Int × Int) × Bool :=
  let c := s.nrgCfg m
  let i := s.nrgSrc m
  let v0 := bits (s.rwC (aNrg m 4)) 25 16
  let i0 := bits c 25 16
  let t := s.srcT
  let phs := if nrgFeed c = 2 then [0, 1, 2] else [0]
  let mult : Rat := if nrgFeed c = 2 then 1 else 3
  let lanes := phs.map (fun o => (d.lane i (v0 + o), d.lane i (i0 + o)))
  let bad := fun (l : Lane) => !laneV l || laneU l || (bit c 6 && laneQ l)
  let pw := phs.map (fun o =>
    let v := d.lane i (v0 + o)
    let a := d.lane i (i0 + o)
    let mag := ratF (mult * s.nrgK m * laneMag t i (v0 + o) v.1 * laneMag t i (i0 + o) a.1)
    let th := ((bits v.1 15 0 : Int) - bits a.1 15 0) * 2 ^ 48
    (mulF mag (cosTurn th), mulF mag (sinTurn th)))
  ((sumI (pw.map (fun x => x.1)), sumI (pw.map (fun x => x.2))),
    !s.nrgFeedOk c (s.rwC (aNrg m 4)) || s.nrgSig m != (s.point m).sig || lanes.any (fun l => bad l.1 || bad l.2))

/-- A delivery's powers are held for one point. -/
def State.nrgPart (m : Nat) (d : Delivery) (s : State) : State :=
  let ((p, q), miss) := s.phasorPower m d
  s.mapPoint m (fun x => { x with parts := insertBy (fun e => e.1) (d.key, (d.rate, (p, (q, miss)))) x.parts })

/-- A FINAL delivery reaches the phasor-fed points of its group (R140, R285); the group's last one is held for points yet to be enabled. -/
def State.nrgDelivery (d : Delivery) (s : State) : State :=
  (s.nrg.points.filter (fun x => x.on && decide (2 ≤ nrgFeed (s.nrgCfg x.id)) && bits (s.nrgCfg x.id) 5 3 == d.group)).foldl
    (fun s x => s.nrgPart x.id d) { s with nrg := { s.nrg with finals := insertBy Delivery.group d s.nrg.finals } }

/-- W of a group in ns for its rate (R142). -/
def winNs (w : Word) (rate : Nat) : Nat := if rate = 0 then 0 else bits w 3 0 * 1000000000 / rate + bits w 31 8 * 1000
def State.grpWinNs (g : Nat) (s : State) : Nat := winNs (s.rwN (aGrp g 4)) (s.grpRate g)

/-- The epochs that overlap a cycle, with the overlap in ns (R285). -/
def overlaps (rate a b : Nat) : List (Nat × Nat) :=
  if rate = 0 then [] else
  let n0 := nsKey rate a
  (List.range (nsKey rate (b - 1) + 1 - n0)).map (fun d =>
    let n := n0 + d
    (n, Nat.min b (keyNs rate (n + 1)) - Nat.max a (keyNs rate n)))

/-- Every epoch that overlaps a cycle is FINAL or past its window; one whose group cannot deliver is past once the cycle is (R285, R297). -/
def State.phasorReady (m a b : Nat) (s : State) : Bool :=
  let g := bits (s.nrgCfg m) 5 3
  let rate := s.grpRate g
  let past := fun (n : Nat) => if s.nucUp then decide (keyNs rate n + s.grpWinNs g ≤ s.tim.now) else decide (b ≤ s.tim.now)
  (decide (rate ≠ 0) || decide (b ≤ s.tim.now)) &&
    (overlaps rate a b).all (fun e => (findBy (fun y => y.1) e.1 (s.point m).parts).isSome || past e.1)

/-- A phasor-fed point's cycle [a, b) is added from the epochs held. -/
def State.addPhasor (m hz a b : Nat) (s : State) : State :=
  let x := s.point m
  let rate := s.grpRate (bits (s.nrgCfg m) 5 3)
  let eps := overlaps rate a b
  let use := (eps.map (fun e => (e.2, findBy (fun y => y.1) e.1 x.parts))).filterMap (fun e => match e.2 with
    | some (_, (_, (p, (q, false)))) => some (e.1, (p, q))
    | _ => none)
  let p : Rat := mkRat (sumI (use.map (fun e => e.2.1 * e.1))) (2 ^ 64 * 1000000000)
  let q : Rat := mkRat (sumI (use.map (fun e => e.2.2 * e.1))) (2 ^ 64 * 1000000000)
  let miss := decide (use.length < eps.length) || eps.isEmpty
  ((s.addCycle m hz b p q miss use.isEmpty).mapPoint m (fun x => { x with
    parts := x.parts.filter (fun e => decide (b < keyNs rate (e.1 + 1))) })).snapCycle m

/-! ## A step of the time base (R297) -/

/-- The cycles of point m up to an instant, the last of them cut short there. -/
def State.cutPoint (t m : Nat) (s : State) : State :=
  let hz := s.nrgHz m
  let k0 := cycIdx hz (s.point m).cycAt
  (List.range (cycIdx hz t + 1 - k0)).foldl (fun (s : State) d =>
    let a := cycNs hz (k0 + d)
    let b := Nat.min t (cycNs hz (k0 + d + 1))
    if b ≤ a then s else if nrgFeed (s.nrgCfg m) = 1 then s.addWave m hz a b else s.addPhasor m hz a b) s

/-- Before a step: each enabled point's cycle ends with the energy so far; every pending snapshot takes the copies that it lacks, since the
instant it names is the end of a cycle that has ended now (R297; for the snapshots and the schedule of pulses DESIGN CHOICE, log 140). -/
def State.cutCycles (s : State) : State :=
  if s.pwr.grave then s
  else
    let s1 := (s.nrg.points.filter Point.on).foldl (fun s x => s.cutPoint s.tim.now x.id) s
    State.snapDone { s1 with nrg := { s1.nrg with
      snaps := s1.nrg.snaps.map (fun x => s1.nrg.points.foldl (fun (x : Snap) (p : Point) => x.copy p.id p.acc) x) } }

/-- After a step by j: the grids restart at the next boundary, and what is scheduled keeps its distance from now. -/
def State.rebaseCycles (j : Int) (s : State) : State :=
  let mv := fun (t : Nat) => ((t : Int) + j).toNat
  { s with
    nrg := { s.nrg with
      lastDemand := if s.nrg.lastDemand = 0 then 0 else mv s.nrg.lastDemand
      points := s.nrg.points.map (fun x => { x with parts := [], cycAt := cycNs (s.nrgHz x.id) (cycIdx (s.nrgHz x.id) s.tim.now + 1) }) }
    pul := s.pul.map (fun x => { x with due := x.due.map mv, widthEnd := mv x.widthEnd, gapEnd := mv x.gapEnd })
    afe := { s.afe with cycDone := 0, syncAt := mv s.afe.syncAt, chans := s.afe.chans.map (fun (c : Chan) => { c with wave := [] }) } }

end Sys2Proof.Machine
end

