-- ==== Sys2Proof/Machine/TimeBase.lean ====
section
/-! DEFINITION. The life of the time base: health of the domains, disagreement, step, switching, holdover, asymmetry, PPS,
leap seconds, and the TIME commands (R53-R69, R75-R80). -/

namespace Sys2Proof

/-- The other domain, and a domain's number (R53, R79). -/
def Dom.other : Dom → Dom
  | .a => .b
  | .b => .a
def Dom.idx : Dom → Nat
  | .a => 0
  | .b => 1

end Sys2Proof

namespace Sys2Proof.Machine

/-- Some alignment group runs, or is stopping with conjunctions open (R61, R80). -/
def State.anyRunning (s : State) : Bool := s.aln.grps.any (fun g => g.run != .stopped)

/-- The events of TIM_EVT (R79) sit at the positions of their TIM_STAT bits. -/
abbrev State.timEvt (i : Nat) (s : State) : State := s.latchC 0x040038 i

/-! ## Health (R62) and disagreement (R64) -/

/-- The conditions of R62. -/
def State.domOk (d : Dom) (s : State) : Bool :=
  let x := s.tim.dom d
  let cfg := s.rwC (aDom d 0)
  bit cfg 0 && decide (x.pstate = 2) && (s.port x.parent).link && x.syncOk && x.annOk &&
    (match x.gm with | some g => decide (g.cls ≤ bits cfg 23 16) | none => false) && !x.frozen && decide (0 < x.nmpd)

/-- A change in health is a time event, latched; a reference lost in a confirmation window is noted (R62, R66). -/
def State.judgeHealth (d : Dom) (s : State) : State :=
  let ok := s.domOk d
  if ok = (s.tim.dom d).healthy then s
  else
    let s1 := ((s.mapDom d (fun x => { x with healthy := ok })).timEvt (4 + d.idx)).evTime 2
    if ok then s1 else s1.mapDom d.other (fun x => { x with refLost := x.refLost || (x.check && decide (x.ref = 1)) })

def State.disagreement (s : State) : Int :=
  if s.tim.domA.healthy && s.tim.domB.healthy then s.tim.domA.ofs - s.tim.domB.ofs else 0

/-- TIM_STAT.disagree follows the disagreement with the hysteresis of R64. -/
def State.judgeDisagree (s : State) : State :=
  let tol := bits (s.rwC 0x040008) 15 0
  let m := s.disagreement.natAbs
  let both := s.tim.domA.healthy && s.tim.domB.healthy
  let new := if !both then false else if s.tim.disagree then !decide (10 * m < 9 * tol) else decide (tol < m)
  if new = s.tim.disagree then s
  else
    let s1 := { s with tim := { s.tim with disagree := new } }.timEvt 8
    if both then s1.evTime 2 else s1

/-! ## The step (R57) -/

/-- The last eight offsets lie within 1 us (R57). -/
def Domain.settled (d : Domain) : Bool :=
  decide (d.hist.length = 8) &&
    decide ((sortI d.hist).getLast?.getD 0 - (sortI d.hist).head?.getD 0 ≤ 1000)

/-- A time-base jump of j ns moves every domain's offsets by -j. -/
def Domain.jump (j : Int) (d : Domain) : Domain :=
  { d with ofs := d.ofs - j, hist := d.hist.map (· - j), outliers := d.outliers.map (· - j),
           twoStep := none, dreq := none, lastSync := none }

/-- Phase P5 begins (R58); the mesh sequence is seeded from the random number generator (R313). -/
def State.toP5 (s : State) : State :=
  if s.pwr.phase = 4 then
    State.recBegin { s with
             free := s.free + 1
             pwr := { s.pwr with phase := 5 }
             aon := { s.aon with lfsr := (Config.random s.free).setWidth 15, meshMiss := 0, meshMatch := 0 } }
  else s

/-- The single step to domain d (R57): within 8 ns of its time, by a free residue (log 9). R57 says that B becomes the selected domain by
the step where it alone qualifies; R65 and R42 do not say whether that is a switch. The model neither counts it in TIM_SWCNT nor raises the
event of a switch (DESIGN CHOICE, log 123). Nor does R57 say what the servos' terms, formed from offsets before the step, hold after it: they
stay until each domain's next Sync (DESIGN CHOICE, log 151). -/
def State.stepTo (d : Dom) (s0 : State) : State :=
  let s := s0.cutCycles
  let r := Config.stepError s.free
  let j := (s.tim.dom d).ofs + (if r < -8 then -8 else if 8 < r then 8 else r)
  let n := ((s.tim.now : Int) + j).toNat
  let s1 : State := { s with
    free := s.free + 1
    tim := { s.tim with now := n, count := n * 2 ^ 40, rateAt := n, state := .locked, stepped := true, restep := false, calSet := false, sel := d, utcAt := none,
                        domA := s.tim.domA.jump j, domB := s.tim.domB.jump j }
    aon := { s.aon with synced := false, prescAt := none }
    afe := { s.afe with autoWait := true, synced := false } }
  ((s1.rebaseCycles j).steer.toP5.bumpC 0x040068 1).completeOp .coma 0x0902 0 codeOk

/-- The step is made the first time R57 holds in UNSET or COARSE; the selected domain goes first. -/
def State.judgeStep (s : State) : State :=
  if s.tim.state = .unset ∨ s.tim.state = .coarse then
    let can := fun d => (s.tim.dom d).healthy && (s.tim.dom d).settled
    if can s.tim.sel then s.stepTo s.tim.sel
    else if can s.tim.sel.other then s.stepTo s.tim.sel.other
    else s
  else s

/-! ## Switching, holdover and fault (R59, R60, R65) -/

/-- A healthy domain's offset lies within 1 ms. -/
def State.within1ms (d : Dom) (s : State) : Bool := (s.tim.dom d).healthy && decide ((s.tim.dom d).ofs.natAbs ≤ 1000000)
def State.beyond1ms (d : Dom) (s : State) : Bool := (s.tim.dom d).healthy && decide (1000000 < (s.tim.dom d).ofs.natAbs)
/-- The condition of FAULT (R59). -/
def State.faultTime (s : State) : Bool := (s.beyond1ms .a || s.beyond1ms .b) && !(s.within1ms .a || s.within1ms .b)

/-- A switch of the selected domain is an event and counted (R65); only which terms steer changes. -/
def State.switchTo (d : Dom) (s : State) : State :=
  ((State.steer { s with tim := { s.tim with sel := d, domA := { s.tim.domA with taken := false }, domB := { s.tim.domB with taken := false } } }).bumpC 0x04006C 1).evTime 2

/-- FAULT is entered: F_TIM_OFFSET, present until FAULT is left (R59). -/
def State.toFault (s : State) : State :=
  (((({ s with tim := { s.tim with state := .fault } }.bumpC 0x040070 1).evTime 2).mapSrc .coma 56 (fun x => { x with present := true }))).faultC 56

/-- HOLDOVER is entered: the rate is frozen at the mean of the last 64 s of LOCKED, the estimate of E is kept (R59, R77). -/
def State.toHoldover (s : State) : State :=
  let t := s.tim.logRate
  State.evTime 2 { s with tim := { t with state := .holdover, rate := limitRate t.meanRate, hoAt := s.tim.now, hoErr := s.errEst } }

/-- LOCKED again: the selected domain steers (R60). -/
def State.toLocked (s : State) : State :=
  State.evTime 2 (State.mapSrc .coma 56 (fun x => { x with present := false })
    (State.steer { s with tim := { s.tim with state := .locked, rateAt := s.tim.now } }))

/-- LOCKED, HOLDOVER and FAULT judged (R59, R60, R65). -/
def State.judgeSteer (s : State) : State :=
  let auto := bit (s.rwC 0x040000) 0
  let o := s.tim.sel.other
  match s.tim.state with
  | .locked =>
    if (s.tim.dom s.tim.sel).healthy && !(s.tim.dom s.tim.sel).suspect then (if s.faultTime then s.toHoldover.toFault else s)
    else if auto && s.within1ms o then s.switchTo o
    else if s.faultTime then s.toHoldover.toFault else s.toHoldover
  | .holdover | .fault =>
    if s.within1ms s.tim.sel then s.toLocked
    else if auto && s.within1ms o then (s.switchTo o).toLocked
    else if s.tim.state = .holdover && s.faultTime then s.toFault else s
  | _ => s

/-- Everything that follows a change of a domain (R57-R65). -/
def State.judge (s : State) : State :=
  if s.comaUp then ((((s.judgeHealth .a).judgeHealth .b).judgeDisagree).judgeStep).judgeSteer else s

/-! ## Path delay and asymmetry (R66, R67) -/

def asymStep (s : State) : Int := (bits (s.rwC 0x04000C) 15 0 * 256 : Nat)
def asymConfirm (s : State) : Int := (bits (s.rwC 0x04000C) 27 16 : Nat)

/-- The freeze of R66: the reference is chosen and its offset kept. -/
def State.freeze (d : Dom) (s : State) : State :=
  let x := s.tim.dom d
  let y := s.tim.dom d.other
  let ref := if y.healthy then 1 else if s.tim.ppsValid then 2 else 0
  (s.mapDom d (fun x => { x with
      frozen := true, check := true, ref := ref, ref0 := x.ofs - y.ofs, pps0 := if s.tim.ppsValid then some (x.ofs + s.tim.ppsOfs) else none,
      refLost := false, ppsLost := false })).bumpC (aDom d 0x5C) (if x.frozen then 0 else 1)

/-- One path-delay measurement, in 2^-8 ns (R66). -/
def State.pathDelay (d : Dom) (v : Int) (s : State) : State :=
  let x := s.tim.dom d
  let m := (v :: x.mpds).take 8
  let n := x.nmpd + 1
  let med := medianI m
  let s1 := s.mapDom d (fun x => { x with mpds := m, nmpd := n })
  if n < 8 then s1
  else if n = 8 then s1.mapDom d (fun x => { x with base := med, overs := 0 })
  else if x.check then s1
  else
    let overs := if asymStep s < (med - x.base).natAbs then x.overs + 1 else 0
    if 4 ≤ overs && !x.frozen then (s1.mapDom d (fun x => { x with overs := 0 })).freeze d
    else s1.mapDom d (fun x => { x with overs := overs, base := x.base + (med - x.base).fdiv 16 })

/-- The confirmation window ends (R66): accepted as symmetric, or ASYM_SUSPECT, which leaves the check pending and the baseline as it is. -/
def doAsymWindow (d : Dom) (s : State) : State :=
  let x := s.tim.dom d
  let y := s.tim.dom d.other
  if !x.check || x.suspect then s
  else
    let ppsOk := s.tim.ppsValid && !x.ppsLost
    let fine :=
      if x.ref = 1 ∧ y.healthy ∧ ¬ x.refLost then decide (((x.ofs - y.ofs) - x.ref0).natAbs ≤ asymConfirm s)
      else if (x.ref = 1 ∨ x.ref = 2) ∧ ppsOk then
        (match x.pps0 with
         | some p => decide (((x.ofs + s.tim.ppsOfs) - p).natAbs ≤ asymConfirm s)
         | none => false)
      else false
    if fine then
      ((s.mapDom d (fun x => { x with base := medianI x.mpds, frozen := false, check := false })).bumpC (aDom d 0x60) 1).judge
    else
      (((((s.mapDom d (fun x => { x with suspect := true })).timEvt (6 + d.idx)).bumpC (aDom d 0x64) 1).evTime 2).mapSrc .coma 57
        (fun x => { x with present := true })).faultC 57 |>.judge

/-- TIME.ASYM mode 0 (R67): the value is entered, the baseline reset, the suspicion cleared, the servo unfrozen. -/
def State.enterAsym (d : Dom) (w : Word) (s : State) : State :=
  let was := (s.tim.dom d).suspect
  let s1 := (s.putRw .coma (aDom d 0x20) w).mapDom d (fun x => { x with
    base := medianI x.mpds, suspect := false, frozen := false, check := false, overs := 0 })
  let s2 := if was then s1.timEvt (6 + d.idx) else s1
  (if s2.tim.domA.suspect || s2.tim.domB.suspect then s2 else s2.mapSrc .coma 57 (fun x => { x with present := false })).judge

/-- The end of a validation against PPS (R67 mode 1), of the one begun first: the mean difference is entered, rounded down, or the record holds E_STATE where PPS_IN
was lost or its edges varied by more than 100 ns. -/
def doAsymValidation (s : State) : State :=
  match s.tim.valid with
  | [] => s
  | v :: rest =>
    let s1 := { s with tim := { s.tim with valid := rest } }
    let q := sortI v.edges
    let spread := q.getLast?.getD 0 - q.head?.getD 0
    if v.lost || v.samples.isEmpty || decide (100 < spread) then s1.completeOp .coma 0x0903 v.dom.idx eState
    else (s1.enterAsym v.dom (wInt ((sumI v.samples).fdiv v.samples.length))).completeOp .coma 0x0903 v.dom.idx codeOk

/-! ## The servo (R63) -/

/-- A new offset of a domain, or of PPS_IN, for metric 0x0040 (R353). -/
def State.recOfs (i : Nat) (o : Int) (s : State) : State :=
  let s1 := s.stageExt 0x0040 0 i o
  if s1.tim.domA.healthy && s1.tim.domB.healthy then s1.stageExt 0x0040 0 2 s1.disagreement else s1

/-- One offset measurement of domain d, ns (R63): outliers set aside, eight of them in a row taken as the new history. R63 tests against the
median of the last eight and does not say what holds before eight exist: the test is not applied then (DESIGN CHOICE, log 124). Both domains'
servos learn; the selected one steers. -/
def State.offsetSample (d : Dom) (o : Int) (s : State) : State :=
  let x := s.tim.dom d
  if x.frozen then (s.mapDom d (fun x => { x with ofs := o })).recOfs d.idx o
  else
    let far := decide (x.hist.length = 8) && decide (1000 < (o - medianI x.hist).natAbs)
    if far && decide (x.outliers.length < 7) then
      (s.mapDom d (fun x => { x with outliers := o :: x.outliers })).bumpC (aDom d 0x58) 1
    else
      let hist := if far then (o :: x.outliers).take 8 else (o :: x.hist).take 8
      let tc := bits (s.rwC (aDom d 0xC)) 8 0
      let logS := sext 8 (bits (s.rwC (aDom d 8)) 7 0)
      let s1 := (s.mapDom d (fun x => { x with ofs := o, hist := hist, outliers := [], prop := Config.servoProp tc logS o,
                                               integ := x.integ + Config.servoGain tc logS o })).recOfs d.idx o
      if s.tim.sel = d then s1.steer else s1

/-! ## UTC and leap seconds (R75, R76) -/

/-- What a domain shows while no announce of it has been taken since chip reset: the offset stored in AON_UTCOFS (R75). -/
def Domain.storedUtc (u : Int) (x : Domain) : Domain := if x.announced then x else { x with utc := u }

/-- AON_UTCOFS follows the offset in force (R75). -/
def State.setUtc (u : Int) (s : State) : State :=
  { s with tim := { s.tim with utc := u, utcAt := some s.tim.now, domA := s.tim.domA.storedUtc u, domB := s.tim.domB.storedUtc u }, aon := { s.aon with utcofs := u } }

/-- The TAI second at which a flagged leap second starts: the end of the UTC day for an insertion, a second before it for a deletion. -/
def State.leapStart (utc : Int) (delete : Bool) (s : State) : Nat :=
  let soc := ((s.sec : Int) - utc).toNat
  (((soc / 86400 + 1) * 86400 : Nat) + utc - (if delete then 1 else 0)).toNat

/-- An announce's UTC data of domain d taken (R75); with no flag set, TIM_LEAPINST is the last leap second's (R79). -/
def State.takeUtc (d : Dom) (off : Int) (valid l61 l59 : Bool) (s : State) : State :=
  let late := s.leapOccurred && decide (s.sec < s.tim.leapInst + 1)
  let f61 := l61 && !late
  let f59 := l59 && !late
  let s1 := s.mapDom d (fun x => { x with utc := off, utcValid := valid, leap61 := f61, leap59 := f59, taken := true, announced := true })
  if s.tim.sel ≠ d then s1
  else
    let fresh := (f61 || f59) && !(s.tim.leap61 || s.tim.leap59)
    let last := s.tim.leapUntil - 86400
    let s2 := { s1 with tim := { s1.tim with utcValid := valid, leap61 := f61, leap59 := f59,
                                             leapInst := if f61 || f59 then s.leapStart off f59 else last } }
    let s3 := if off = s.tim.utc then s2 else (s2.setUtc off).evTime 2
    if fresh then s3.evTime 1 else s3

/-- LEAP_SECOND_START (R75, R76): the offset changes, the flags clear, the leap-occurred day begins. -/
def doLeapSecond (s : State) : State :=
  if !(s.tim.leap61 || s.tim.leap59) then s
  else
    let del := s.tim.leap59 && !s.tim.leap61
    let s1 := s.reach (s.tim.leapInst * 1000000000)
    let clr := fun (x : Domain) => { x with leap61 := false, leap59 := false }
    let s2 : State := { s1 with tim := { s1.tim with
      utcBefore := s1.tim.utc, leap61 := false, leap59 := false, leapUntil := s1.tim.leapInst + 86400, leapDir := del,
      domA := clr s1.tim.domA, domB := clr s1.tim.domB } }
    s2.setUtc (s1.tim.utc + (if del then -1 else 1))

/-! ## PPS (R68, R69) -/

/-- PPS_IN_EDGE at an instant (R68): after the cable delay, within 50 us of a second boundary it qualifies. A validation keeps the edge, and
the difference of the second it marks and the domain's second, taken without the asymmetry already entered: the difference is the asymmetry
itself, by R63's sign (R67, DEDUCED, log 125). -/
def doPpsEdge (t : Nat) (s0 : State) : State :=
  let s := s0.reach t
  let cfg := s.rwC 0x040024
  if !bit cfg 0 then s
  else
    let st : Int := (t : Int) - sext 24 (bits cfg 31 8)
    let secN := ((st + 500000000).fdiv 1000000000).toNat
    let x : Int := st - (secN * 1000000000 : Nat)
    let steady := s.tim.state != .unset && s.tim.state != .coarse
    if !steady || decide (50000 < x.natAbs) then s.bumpC 0x040064 1
    else
      let run := if s.tim.ppsSec + 1 = secN ∧ 0 < s.tim.ppsRun then s.tim.ppsRun + 1 else 1
      let now := s.tim.ppsValid || decide (3 ≤ run)
      let s1 : State := { s with tim := { s.tim with
        ppsRun := run
        ppsSec := secN
        ppsOfs := x
        ppsValid := now
        valid := s.tim.valid.map (fun v => { v with
          samples := v.samples ++ [(s.rwC (aDom v.dom 0x20)).toInt - ((s.tim.dom v.dom).ofs + x) * 65536], edges := v.edges ++ [x] }) } }
      let s2 := State.stageExt 0x0040 0 3 x s1
      if now && !s.tim.ppsValid then s2.timEvt 9 else s2

/-- PPS_IN_LOST (R68): 1.5 s after the last qualifying edge; the validations in progress fail (R78). -/
def doPpsLost (s : State) : State :=
  if !s.tim.ppsValid then { s with tim := { s.tim with ppsRun := 0 } }
  else
    let lose := fun (x : Domain) => { x with ppsLost := x.ppsLost || x.check }
    let s1 : State := { s with tim := { s.tim with
      ppsValid := false, ppsRun := 0, domA := lose s.tim.domA, domB := lose s.tim.domB,
      valid := s.tim.valid.map (fun v => { v with lost := true }) } }
    s.tim.valid.foldl (fun (s : State) _ => doAsymValidation s) ((s1.timEvt 9).evTime 2)

/-- PPS_OUT is gated in by TIM_CTL.ppsout_mode (R69). -/
def State.ppsGate (s : State) : Bool :=
  match bits (s.rwC 0x040000) 3 2 with
  | 0 => decide (s.tim.state ≠ .unset)
  | 1 => decide (s.tim.state = .locked) || decide (s.tim.state = .holdover) || decide (s.tim.state = .fault)
  | _ => decide (s.tim.state = .locked)

/-- The PPS_OUT ball: the pulse is high, or low where TIM_PPSOUT.pol is set (R69). -/
def State.ppsLevel (s : State) : State := { s with tim := { s.tim with ppsBall := s.tim.ppsOut != bit (s.rwC 0x04002C) 9 } }

/-! The front end's sync requests come here because a second boundary makes one (R159). -/

/-- A sync request (R159, R164): merged with a pending one, which is then the automatic one if either is (DESIGN CHOICE, log 141: CIC_STAT
shows one source of a merged sync, and R164 does not say which); a rover cycle is aborted and starts again after the sync. -/
def State.syncRequest (src : Nat) (s : State) : State :=
  let s1 := match s.afe.rover with
    | some r => if r.step = 0 then s else
      State.roverAborted ({ s with afe := { s.afe with rover := some { r with step := 0 } } }.bumpC 0x068024 1)
    | none => s
  match s.afe.sync with
  | some o => State.bumpC 0x068020 1 { s1 with afe := { s1.afe with sync := some (if src = 2 then 2 else o) } }
  | none => { s1 with afe := { s1.afe with sync := some src, syncAt := s.tim.now } }

/-- The automatic request at the first second boundary after a step (R159). -/
def State.autoSync (s : State) : State :=
  if !s.afe.autoWait then s
  else
    let s1 : State := { s with afe := { s.afe with autoWait := false } }
    if bit (s.rwC 0x060000) 5 then s1.syncRequest 2 else s1

/-- The module of port n is managed over the two-wire bus (R92). -/
def State.managed (n : Nat) (s : State) : Bool := decide (n = 0) || bit (s.rwC (aXcv 0 0)) 2

/-- A second's diagnostics polls become due (R93); one of the second before that has not come is a poll overrun. R103 names that counter and no
condition for it: a poll that its second did not hold (DESIGN CHOICE, log 132). -/
def State.pollSecond (s : State) : State :=
  (List.range 4).foldl (fun (s : State) n =>
    let x := nth Xcv.reset s.xcv n
    let due := x.present && x.ddm && s.managed n && bit (s.rwC (aXcv n 0)) 0
    let s1 : State := { s with xcv := at' s.xcv n (fun x => { x with pollDue := due }) }
    if x.pollDue && due then s1.bumpC (aXcv n 0x94) 1 else s1) s

/-- A second boundary of the time base: PPS_OUT's leading edge; counts of the second start anew (R69, R86, R256, R338). -/
def doSecond (s0 : State) : State :=
  let s := s0.reach ((s0.sec + 1) * 1000000000)
  let s1 : State := { s with
    cmd := { s.cmd with discards := 0 }
    tim := { s.tim with ppsOut := s.tim.ppsOut || s.ppsGate }
    prt := s.prt.map (fun p => { p with answers := 0, bers := if s.sec % 60 = 0 then 0 else p.bers })
    egr := { s.egr with streams := s.egr.streams.map (fun x => { x with cmds := 0 }) } }
  s1.ppsLevel.pollSecond.autoSync.judge

/-- The pulse ends: its full width has passed (R69). -/
def doPpsOutEnd (s : State) : State := State.ppsLevel { s with tim := { s.tim with ppsOut := false } }

/-- Loss of Sync or announce messages of a domain (R62). The lost grandmaster's inaccuracy still counts at an entry of HOLDOVER (R77). -/
def doPtpTimeout (d : Dom) (announce : Bool) (s : State) : State :=
  if announce then
    ((s.mapDom d (fun x => { x with annOk := false })).bumpC (aDom d 0x54) 1).judge.mapDom d (fun x => { x with gm := none, pstate := 0 })
  else ((s.mapDom d (fun x => { x with syncOk := false })).bumpC (aDom d 0x50) 1).judge

/-- TREF_IN appears or is lost (R54): a change of the clock source is an event; lost while in use it is a fault. -/
def doTref (on : Bool) (err : Int) (s : State) : State :=
  let use := bit (s.rwC 0x040000) 1
  let s1 := { s with tim := { s.tim with tref := on, trefErr := err } }
  if on = s.tim.tref || !use then s1
  else
    let s2 := (s1.bumpC 0x04007C 1).evTime 1
    if on then s2.over .coma 58 else s2.lasting .coma 58

/-- P4 ends after TIM_CTL.acqwait without a step (R58). -/
def doAcqwait (s : State) : State := s.toP5

/-- TIM_CTL.acqwait seconds after an accepted RESTEP without a step (R61). -/
def doRestepTimeout (s : State) : State :=
  if s.tim.restep then { s with tim := { s.tim with restep := false } }.completeOp .coma 0x0902 0 eState else s

/-! ## Commands (R44, R61, R65, R67) -/

/-- TIM_STAT (R79). -/
def State.timStat (s : State) : Word :=
  let t := s.tim
  w32 (t.state.code + 8 * t.sel.idx + 16 * b2n t.domA.healthy + 32 * b2n t.domB.healthy + 64 * b2n t.domA.suspect +
    128 * b2n t.domB.suspect + 256 * b2n t.disagree + 512 * b2n t.ppsValid + 1024 * b2n t.tref + 2048 * b2n t.stepped +
    4096 * b2n t.restep + 8192 * b2n s.leapPending + 16384 * b2n s.leapDelete + 32768 * b2n s.leapOccurred + 65536 * s.tq)

def cmdTimeRead (_ : Hdr) (ps : List Word) (s : State) : Res :=
  arity 0 ps s fun _ =>
    let n := s.tim.count / 2 ^ 40
    let sec := n / 1000000000
    .ok s [w32 (sec / 2 ^ 32 % 65536), loW sec, w32 (n % 1000000000), w32 (s.tim.count / 2 ^ 24 % 65536), s.timStat]

def cmdTimeSelect (_ : Hdr) (ps : List Word) (s : State) : Res :=
  arity 1 ps s fun _ =>
    let d : Dom := if bit (par ps 0) 0 then .b else .a
    if d = s.tim.sel then .ok s
    else if !(s.tim.dom d).healthy || s.tim.disagree then .fail s eState
    else .ok (s.switchTo d).judge

def cmdTimeRestep (h : Hdr) (ps : List Word) (s : State) : Res :=
  arity 0 ps s fun _ =>
    if s.opLocked h 0x0902 0 then .fail s eLocked
    else if s.opBusy h 0x0902 0 then .fail s eBusy
    else if s.anyRunning then .fail s eState
    else
      -- leaving HOLDOVER, or FAULT, which is holdover with a fault, is an event of level 2 (R42)
      let s1 := if s.tim.state = .holdover ∨ s.tim.state = .fault then s.evTime 2 else s
      .pending ({ s1 with tim := { s1.tim.logRate with state := .coarse, restep := true } }.mapSrc .coma 56 (fun x => { x with present := false })
        |>.addOp h 0x0902 0).judge

def cmdTimeAsym (h : Hdr) (ps : List Word) (s : State) : Res :=
  arity 2 ps s fun _ =>
    let d : Dom := if bit (par ps 0) 0 then .b else .a
    match bits (par ps 0) 9 8 with
    | 0 => .ok (s.enterAsym d (par ps 1))
    | 1 =>
      if s.opLocked h 0x0903 d.idx then .fail s eLocked
      else if s.opBusy h 0x0903 d.idx then .fail s eBusy
      else if !s.tim.ppsValid then .fail s eState
      else .pending (State.addOp h 0x0903 d.idx { s with tim := { s.tim with valid := s.tim.valid ++ [{ dom := d, samples := [], edges := [], lost := false }] } })
    | _ => .fail s eParam 0

/-! ## The table's rows -/

/-- TIME_READ (R44). -/
def execTimeRead (h : Hdr) (ps : List Word) (s : State) : Host.Outcome State Fault Refusal :=
  .next (State.settled (s.serve 0x0900 h ps cmdTimeRead))

/-- TIME_SELECT (R65). -/
def execTimeSelect (h : Hdr) (ps : List Word) (s : State) : Host.Outcome State Fault Refusal :=
  .next (State.settled (s.serve 0x0901 h ps cmdTimeSelect))

/-- TIME_RESTEP (R61). -/
def execTimeRestep (h : Hdr) (ps : List Word) (s : State) : Host.Outcome State Fault Refusal :=
  .next (State.settled (s.serve 0x0902 h ps cmdTimeRestep))

/-- TIME_ASYM (R67). -/
def execTimeAsym (h : Hdr) (ps : List Word) (s : State) : Host.Outcome State Fault Refusal :=
  .next (State.settled (s.serve 0x0903 h ps cmdTimeAsym))

/-- PTP_RECEIPT_TIMEOUT (R62). -/
def execPtpReceiptTimeout (d : Dom) (announce : Bool) (s : State) : Host.Outcome State Fault Refusal :=
  .next (State.settled (whenUp .coma (doPtpTimeout d announce) s))

/-- ASYM_WINDOW_EXPIRY (R66). -/
def execAsymWindowExpiry (d : Dom) (s : State) : Host.Outcome State Fault Refusal :=
  .next (State.settled (whenUp .coma (doAsymWindow d) s))

/-- ASYM_VALIDATION_COMPLETE (R67). -/
def execAsymValidationComplete (s : State) : Host.Outcome State Fault Refusal :=
  .next (State.settled (whenUp .coma doAsymValidation s))

/-- ACQWAIT_EXPIRY (R58). -/
def execAcqwaitExpiry (s : State) : Host.Outcome State Fault Refusal :=
  .next (State.settled (whenUp .coma doAcqwait s))

/-- RESTEP_TIMEOUT (R61). -/
def execRestepTimeout (s : State) : Host.Outcome State Fault Refusal :=
  .next (State.settled (whenUp .coma doRestepTimeout s))

/-- PPS_IN_EDGE (R68). -/
def execPpsInEdge (t : Nat) (s : State) : Host.Outcome State Fault Refusal :=
  .next (State.settled (whenUp .coma (doPpsEdge t) s))

/-- PPS_IN_LOST (R68). -/
def execPpsInLost (s : State) : Host.Outcome State Fault Refusal :=
  .next (State.settled (whenUp .coma doPpsLost s))

/-- TIME_BASE_SECOND (R69). -/
def execTimeBaseSecond (s : State) : Host.Outcome State Fault Refusal :=
  .next (State.settled (whenUp .coma doSecond s))

/-- PPS_OUT_PULSE_END (R69). -/
def execPpsOutPulseEnd (s : State) : Host.Outcome State Fault Refusal :=
  .next (State.settled (whenUp .coma doPpsOutEnd s))

/-- TREF_PRESENCE_CHANGE (R54). -/
def execTrefPresenceChange (on : Bool) (err : Int) (s : State) : Host.Outcome State Fault Refusal :=
  .next (State.settled (whenUp .coma (doTref on err) s))

/-- LEAP_SECOND_START (R75). -/
def execLeapSecondStart (s : State) : Host.Outcome State Fault Refusal :=
  .next (State.settled (whenUp .coma doLeapSecond s))

end Sys2Proof.Machine
end

