-- ==== Sys2Proof/Machine/Keys.lean ====
section
/-! DEFINITION. The key store (R320-R334): slots, installation, derivation, revocation, hold windows, re-masking, zeroing,
challenge-response. -/

namespace Sys2Proof.Machine

def State.mapSlot (k : Nat) (f : KeySlot → KeySlot) (s : State) : State :=
  { s with keys := { s.keys with slots := at' s.keys.slots k f } }

/-- KEY_Sk_CFG (R333). -/
def State.keyCfg (k : Nat) (s : State) : Word := s.rwC (aKey k 0)

/-- A tamper source is active (R314, R328). -/
def State.tamperOn (s : State) : Bool := s.aon.t0 || s.aon.t1 || s.aon.mesh

/-- The always-on domain is powered (R27, R300). -/
def State.aonUp (s : State) : Bool := decide (s.pwr.mode ≠ .off)

/-! ## Queues that wait on slots (R326) -/

/-- Drops every head frame whose slot is blocked, on every queue. -/
def State.dropAllHeads (s : State) : State := ((List.range 64).foldl (fun s i => s.dropHeads i) s).dropOry

/-- Frames wait on slot k: the head of some queue needs it while its hold window is open (R326). -/
def State.holding (k : Nat) (s : State) : Bool :=
  (s.slot k).window && ((List.range 64).any (fun i => match s.headKey i with | some (j, _) => j == k | none => false) ||
    (match s.ory.tx.head with | some (.item f _) => f.own && s.ory.slot == k | _ => false))

/-! ## Leaving VALID, descendants (R322, R326) -/

/-- Slot a is reached from slot k by following the recorded parents. -/
def State.descends (a : Nat) : Nat → Nat → State → Bool
  | 0, _, _ => false
  | n + 1, k, s => (s.slot k).derived && ((s.slot k).parent == a || State.descends a n (s.slot k).parent s)

/-- The slots derived from slot a, to any depth. -/
def State.descendants (a : Nat) (s : State) : List Nat := (List.range 64).filter (fun k => k != a && s.descends a 64 k)

/-- A slot becomes INVALID; one that leaves VALID opens its hold window (R326). -/
def State.invalidate (k : Nat) (s : State) : State :=
  s.mapSlot k (fun x => { x with st := 2, window := x.window || (decide (x.st = 1) && decide (0 < bits (s.keyCfg k) 15 0)) })

/-- Every descendant of slot a becomes INVALID; those that were VALID are counted (R322, R333). -/
def State.invalidateBelow (a : Nat) (s : State) : State :=
  let ds := s.descendants a
  let n := (ds.filter (fun k => s.keyValid k)).length
  let s1 := ds.foldl (fun s k => s.invalidate k) s
  if n = 0 then s1 else (s1.bumpC 0x05804C n).latchC 0x058008 2

/-- A key is put into a slot under a fresh mask (R320, R322, R323): VALID, one generation on, its window closed. -/
def State.storeKey (k : Nat) (derived : Bool) (parent : Nat) (key : BitVec 256) (s : State) : State :=
  let m := Config.random s.free
  let s1 := s.invalidateBelow k
  ({ s1 with free := s1.free + 1 }.mapSlot k (fun x =>
    { st := 1, derived := derived, parent := parent, gen := x.gen + 1, masked := key ^^^ m, mask := m, window := false })).dropAllHeads

/-! ## Tamper zeroing (R328) and retention loss (R311) -/

/-- Every slot EMPTY with its parent record cleared; frames that waited are dropped at once (R328, R332). -/
def State.zeroKeys (s : State) : State :=
  let old := s.keys.slots
  -- the frames that wait are dropped before a new window opens
  let wipe := fun (x : KeySlot) => { x with st := 0, derived := false, parent := 0, masked := 0, mask := 0, window := false }
  let s1 : State := { s with keys := { s.keys with slots := old.map (fun x => if x.window then wipe x else x) } }
  let s2 := s1.dropAllHeads
  let s3 : State := { s2 with keys := { s2.keys with slots := old.zipIdx.map (fun (x, k) =>
    { wipe x with window := x.window || (decide (x.st = 1) && decide (0 < bits (s.keyCfg k) 15 0)) }) } }
  ((s3.bumpC 0x058058 1).latchC 0x058008 0).dropAllHeads

/-- Retention loss: every slot emptied, generations 0, windows discarded, frames that need them dropped (R311, R322, R332). -/
def State.emptyKeys (s : State) : State := { s with keys := { Keys.reset with rsp := s.keys.rsp, vendor := s.keys.vendor } }.dropAllHeads

/-! ## Commands -/

/-- E_KEY, counted in KEY_EUSE (R333). -/
def Res.eKeyUse (s : State) : Res := .fail (s.bumpC 0x058050 1) eKey

/-- The key that eight words spell (R323). -/
def keyOf (ws : List Word) : BitVec 256 := BitVec.ofNat 256 (beNat (bytesOf ws))

def cmdKeyInstall (_ : Hdr) (ps : List Word) (s : State) : Res :=
  arity 9 ps s fun _ =>
    let k := bits (par ps 0) 5 0
    if bits (par ps 0) 31 6 ≠ 0 then .fail s eParam 0
    else if s.tamperOn then .fail s eTamper
    else if s.pwr.lockout then .fail s eState
    else .ok ((s.storeKey k false 0 (keyOf (ps.drop 1))).bumpC 0x058040 1)

/-- HKDF's salt and info from the parameter words of KEY.DERIVE (R324). -/
def deriveSalt (ps : List Word) : List Byte :=
  let sl := bits (par ps 0) 22 16
  if sl = 0 then List.replicate 32 0 else (bytesOf (ps.drop 1)).take sl
def deriveInfo (ps : List Word) : List Byte :=
  (bytesOf (ps.drop (1 + (bits (par ps 0) 22 16 + 3) / 4))).take (bits (par ps 0) 31 24)

def cmdKeyDerive (_ : Hdr) (ps : List Word) (s : State) : Res :=
  let w := par ps 0
  let sl := bits w 22 16
  let il := bits w 31 24
  let n := 1 + (sl + 3) / 4 + (il + 3) / 4
  let p := bits w 5 0
  let c := bits w 13 8
  if ps.isEmpty then .fail s eParam 0
  else if 64 < sl ∨ 128 < il then .fail s eParam 0
  else if ps.length ≠ n then .fail s eParam (Nat.min ps.length n)
  else if c = 0 ∨ c = p ∨ s.descends c 64 p then .fail s eParam 0
  else if s.tamperOn then .fail s eTamper
  else if !s.keyValid p then .eKeyUse s
  else if s.pwr.lockout then .fail s eState
  else .ok ((s.storeKey c true p (BitVec.ofNat 256 (beNat (hkdf (s.slot p).key (deriveSalt ps) (deriveInfo ps))))).bumpC 0x058044 1)

def cmdKeyRevoke (_ : Hdr) (ps : List Word) (s : State) : Res :=
  arity 1 ps s fun _ =>
    let k := bits (par ps 0) 5 0
    if s.pwr.lockout then .fail s eState
    else if !s.keyValid k then .ok s [] 1
    else .ok ((((s.invalidateBelow k).invalidate k).bumpC 0x058048 1).latchC 0x058008 1).dropAllHeads

/-- The 28 bytes of a challenge (R329). -/
def challengeMsg (ws : List Word) (c : Word) : List Byte :=
  bytesOf ws ++ beBytes 8 Config.serial.toNat ++ beBytes 4 c.toNat

def cmdKeyChallenge (_ : Hdr) (ps : List Word) (s : State) : Res :=
  arity 5 ps s fun _ =>
    let k := bits (par ps 0) 5 0
    if k = 0 ∨ ¬ s.keyValid k ∨ ¬ bit (s.keyCfg k) 16 then .eKeyUse s
    else if s.keys.rsp = 0xFFFFFFFF then .fail (s.latchC 0x058008 5) eState
    else
      let c := s.keys.rsp + 1
      .ok { s with keys := { s.keys with rsp := c } } (c :: wordsN 4 (s.tag16 k (challengeMsg (ps.drop 1) c)))

/-- KEY_Sk_STAT (R333). -/
def State.keyStat (k : Nat) (s : State) : Word :=
  let x := s.slot k
  w32 (x.st + 4 * b2n x.derived + 8 * b2n (s.holding k) + 16 * x.parent + 65536 * x.gen.toNat)

/-- KEY_STAT (R333). -/
def State.keyStatAll (s : State) : Word :=
  w32 (b2n (s.keyValid 0) + 2 * (s.keys.slots.filter (fun x => x.st == 1)).length + 256 * b2n s.tamperOn + 512 * b2n s.keys.remaskOk +
    1024 * b2n ((List.range 64).any (fun k => s.holding k)))

def cmdKeyStatus (_ : Hdr) (ps : List Word) (s : State) : Res :=
  arity 1 ps s fun _ =>
    let k := bits (par ps 0) 7 0
    if k = 0xFF then .ok s ((List.range 64).map (fun k => s.keyStat k))
    else if 63 < k then .fail s eParam 0 else .ok s [s.keyStat k]

/-! ## Events -/

/-- KEY_HOLD_EXPIRY (R326): the window closes; what waited is dropped. -/
def doKeyHoldExpiry (k : Nat) (s : State) : State :=
  if (s.slot k).window then (s.mapSlot k (fun x => { x with window := false })).dropAllHeads else s

/-- KEY_REMASK (R327): new masks for every slot, or an abandoned pass. -/
def doKeyRemask (healthy : Bool) (s : State) : State :=
  if !s.aonUp then s
  else if !healthy then
    let s1 := { s with keys := { s.keys with remaskOk := false } }.latchC 0x058008 4
    if s1.comaUp then s1.faultC 83 else s1
  else
    let s1 : State := { s with
             free := s.free + 64
             keys := { s.keys with remaskOk := true, slots := s.keys.slots.zipIdx.map (fun (x, k) =>
               let m := Config.random (s.free + k)
               { x with masked := x.masked ^^^ (x.mask ^^^ m), mask := m }) } }
    s1.bumpC 0x05805C 1

/-- KEY_HMAC_SELFTEST (R338). -/
def doKeySelftest (ok : Bool) (s : State) : State := if ok then s else s.faultC 84

/-! ## The table's rows -/

/-- KEY_INSTALL (R323). -/
def execKeyInstall (h : Hdr) (ps : List Word) (s : State) : Host.Outcome State Fault Refusal :=
  .next (State.settled (s.serve 0x0A00 h ps cmdKeyInstall))

/-- KEY_DERIVE (R324). -/
def execKeyDerive (h : Hdr) (ps : List Word) (s : State) : Host.Outcome State Fault Refusal :=
  .next (State.settled (s.serve 0x0A01 h ps cmdKeyDerive))

/-- KEY_REVOKE (R325). -/
def execKeyRevoke (h : Hdr) (ps : List Word) (s : State) : Host.Outcome State Fault Refusal :=
  .next (State.settled (s.serve 0x0A02 h ps cmdKeyRevoke))

/-- KEY_CHALLENGE (R329). -/
def execKeyChallenge (h : Hdr) (ps : List Word) (s : State) : Host.Outcome State Fault Refusal :=
  .next (State.settled (s.serve 0x0A03 h ps cmdKeyChallenge))

/-- KEY_STATUS (R330). -/
def execKeyStatus (h : Hdr) (ps : List Word) (s : State) : Host.Outcome State Fault Refusal :=
  .next (State.settled (s.serve 0x0A04 h ps cmdKeyStatus))

/-- KEY_HOLD_EXPIRY (R326). -/
def execKeyHoldExpiry (k : Nat) (s : State) : Host.Outcome State Fault Refusal :=
  .next (State.settled (doKeyHoldExpiry k s))

/-- KEY_REMASK (R327). -/
def execKeyRemask (healthy : Bool) (s : State) : Host.Outcome State Fault Refusal :=
  .next (State.settled (doKeyRemask healthy s))

/-- KEY_HMAC_SELFTEST (R338). -/
def execKeyHmacSelftest (ok : Bool) (s : State) : Host.Outcome State Fault Refusal :=
  .next (State.settled (whenUp .coma (doKeySelftest ok) s))

end Sys2Proof.Machine
end

