-- ==== Sys2Proof/Machine/Aon.lean ====
section
/-! DEFINITION. The always-on domain (R300-R319): calendar, backup cell, tamper inputs and mesh, retention. -/

namespace Sys2Proof.Machine

/-! ## The Gregorian calendar (R301) -/

def leapYear (y : Nat) : Bool := (y % 4 == 0 && y % 100 != 0) || y % 400 == 0

/-- Days of a month. -/
def monthDays (y m : Nat) : Nat :=
  if m = 2 then (if leapYear y then 29 else 28) else if m = 4 ∨ m = 6 ∨ m = 9 ∨ m = 11 then 30 else 31

/-- Year, month, day of a number of days after 1970-01-01, counted in 400-year eras that begin on 1 March (R301). -/
def civil (days : Nat) : Nat × (Nat × Nat) :=
  let z := days + 719468
  let era := z / 146097
  let doe := z % 146097
  let yoe := (doe - doe / 1460 + doe / 36524 - doe / 146096) / 365
  let doy := doe - (365 * yoe + yoe / 4 - yoe / 100)
  let mp := (5 * doy + 2) / 153
  let d := doy - (153 * mp + 2) / 5 + 1
  let m := if mp < 10 then mp + 3 else mp - 9
  (yoe + era * 400 + (if m ≤ 2 then 1 else 0), (m, d))

/-- Days of a date after 1970-01-01, the inverse of civil. -/
def daysOf (y m d : Nat) : Nat :=
  let y' := if m ≤ 2 then y - 1 else y
  let mp := if 2 < m then m - 3 else m + 9
  y' / 400 * 146097 + (365 * (y' % 400) + y' % 400 / 4 - y' % 400 / 100) + ((153 * mp + 2) / 5 + d - 1) - 719468

def Aon.dateWord (a : Aon) : Word := w32 (a.year * 65536 + a.month * 256 + a.day)
def Aon.timeWord (a : Aon) : Word := w32 (a.hour * 65536 + a.minute * 256 + a.second)

/-- The calendar as UTC seconds of the SOC scale (R56). -/
def Aon.utcSec (a : Aon) : Nat := daysOf a.year a.month a.day * 86400 + a.hour * 3600 + a.minute * 60 + a.second

/-- The next second (R301); the end of the range is the caller's. -/
def Aon.tick (a : Aon) : Aon :=
  if a.second < 59 then { a with second := a.second + 1 }
  else if a.minute < 59 then { a with second := 0, minute := a.minute + 1 }
  else if a.hour < 23 then { a with second := 0, minute := 0, hour := a.hour + 1 }
  else if a.day < monthDays a.year a.month then { a with second := 0, minute := 0, hour := 0, day := a.day + 1 }
  else if a.month < 12 then { a with second := 0, minute := 0, hour := 0, day := 1, month := a.month + 1 }
  else { a with second := 0, minute := 0, hour := 0, day := 1, month := 1, year := a.year + 1 }

/-- The last second of the range (R306). -/
def Aon.atEnd (a : Aon) : Bool :=
  a.year == 2399 && a.month == 12 && a.day == 31 && a.hour == 23 && a.minute == 59 && a.second == 59

/-- The calendar holds a date and time that is one of the calendar's. -/
def Aon.dateOk (a : Aon) : Bool :=
  decide (2000 ≤ a.year) && decide (a.year ≤ 2399) && decide (1 ≤ a.month) && decide (a.month ≤ 12) && decide (1 ≤ a.day) &&
    decide (a.day ≤ monthDays a.year a.month) && decide (a.hour ≤ 23) && decide (a.minute ≤ 59) && decide (a.second ≤ 59)

/-- cal_valid is cleared (R308): the calendar goes on from 2000-01-01 00:00:00; the event comes when main power is present. -/
def State.calInvalid (s : State) : State :=
  let s1 : State := { s with aon := { s.aon with
    year := 2000, month := 1, day := 1, hour := 0, minute := 0, second := 0, calValid := false, stopped := false } }
  if s1.comaUp then s1.evTime 1 else { s1 with aon := { s1.aon with calPend := true } }

/-! ## The backup cell (R315, R316) -/

/-- AON_BATUSE in uAh and AON_BATAGE in hours (R318). -/
def Aon.useUah (a : Aon) : Nat := a.batUse / 3600000
def Aon.ageHours (a : Aon) : Nat := a.batAge / 3600

/-- The charge drawn or the age makes the cell due (R315). -/
def State.cellWorn (s : State) : Bool :=
  decide (bits (s.rwC 0x050030) 15 0 * 10 * bits (s.rwC 0x050030) 23 16 ≤ s.aon.useUah) ||
    decide (bits (s.rwC 0x050030) 31 24 * 730 ≤ s.aon.ageHours)

/-- The conditions under which the cell is due (R315). -/
def State.cellDue (s : State) : Bool := decide (s.aon.vbatMv < bits (s.rwC 0x05002C) 11 0) || s.cellWorn

/-- The cell judged: it becomes due with one event until a replacement (R315); with the Coma half down the event waits for it. -/
def State.judgeCell (s : State) : State :=
  let due := s.cellDue
  let s1 := { s with aon := { s.aon with batDue := due } }
  if due && !s.aon.batRaised then
    let s2 := { s1 with aon := { s1.aon with batRaised := true } }.latchC 0x050008 6
    if s2.comaUp then s2.evService 1 else { s2 with aon := { s2.aon with batPend := true } }
  else s1

/-! ## The count of seconds (R301, R303-R306) -/

/-- CALENDAR_SECOND (R301, R306): the prescaler passes from 32,767 to 0, one second on; the cell ages, and in BACKUP is drawn from (R315). -/
def doCalendarSecond (s : State) : State :=
  if !s.aonUp then s
  else
    let s0 : State := { s with aon := { s.aon with
      prescAt := some s.tim.now, batAge := s.aon.batAge + 1
      batUse := s.aon.batUse + (if s.pwr.mode = .backup then bits (s.rwC 0x05002C) 31 16 else 0) } }
    let s1 := if s0.cellWorn && !s0.aon.batDue then s0.judgeCell else s0
    if s1.aon.stopped then s1
    else if s1.aon.atEnd then
      let s2 := (s1.latchC 0x050008 7).calInvalid
      { s2 with aon := { s2.aon with stopped := true } }
    else
      let s2 : State := { s1 with aon := s1.aon.tick }
      -- phase P1: the nanoseconds are 0 at the calendar's next second (R56)
      if s2.tim.calSet && decide (s2.tim.state = .coarse) && s2.comaUp then
        let s3 := State.setTime (((s2.aon.utcSec : Int) + s2.aon.utcofs).toNat * 1000000000) { s2 with tim := { s2.tim with calSet := false } }
        { s3 with aon := { s3.aon with prescAt := some s3.tim.now } }
      else s2

/-- A write of the calendar at an instant of the time base: the seconds with the rest, and the prescaler 0 (R303). -/
def Aon.write (now y mo d h mi sec : Nat) (a : Aon) : Aon :=
  { a with year := y, month := mo, day := d, hour := h, minute := mi, second := sec, calValid := true, stopped := false, prescAt := some now }

/-- AON_PRESC at an instant of the time base: 0 at the transition or the write that made it so (R301, R303); no command marks the crystal's
periods, so a later instant reads a free value (log 45). -/
def State.presc (s : State) : Word := if s.aon.prescAt = some s.tim.now then 0 else s.freeWord &&& 0x7FFF

/-- AON_CTL.rtc_sync with the time base LOCKED: the calendar follows the time base (R304). -/
def State.calFollows (s : State) : Bool := bit (s.rwC 0x050000) 0 && decide (s.tim.state = .locked)

/-- RTC.SET (R302, R304, R310). -/
def cmdRtcSet (_ : Hdr) (ps : List Word) (s : State) : Res :=
  arity 2 ps s fun _ =>
    let w := par ps 0
    let v := par ps 1
    let a := s.aon.write s.tim.now (bits w 31 16) (bits w 15 8) (bits w 7 0) (bits v 23 16) (bits v 15 8) (bits v 7 0)
    if s.calFollows || s.pwr.lockout then .fail s eState
    else if !a.dateOk || decide (bits v 31 24 ≠ 0) then .fail s eDate
    else .ok { s with aon := a }

/-- RTC.READ (R307): one command reads date and time together, so the two reads agree. -/
def cmdRtcRead (_ : Hdr) (ps : List Word) (s : State) : Res :=
  arity 0 ps s fun _ => .ok s [s.aon.dateWord, s.aon.timeWord, w32 (1 + 2 * b2n s.aon.calValid)]

/-- CALENDAR_SYNC_WRITE (R304): at a second boundary of the time base, UTC goes into the calendar; only a valid date. A change of the offset
is followed by the first boundary after it: for a leap second, its end (R305). -/
def doCalendarSync (s0 : State) : State :=
  if !s0.calFollows || s0.pwr.lockout || s0.aon.stopped then s0
  else
    let s := if s0.nsec = 0 ∧ s0.tim.utcAt ≠ some s0.tim.now then s0 else s0.reach ((s0.sec + 1) * 1000000000)
    let u := s.soc s.sec
    let c := civil (u / 86400)
    let a := s.aon.write s.tim.now c.1 c.2.1 c.2.2 (u % 86400 / 3600) (u % 3600 / 60) (u % 60)
    if a.dateOk then { s with aon := { a with synced := true } } else s

/-- Xn_TXDIS is driven high (R94): the port disabled, the module absent, its identity read not complete, or a transmit fault. -/
def State.txdis (n : Nat) (s : State) : Bool :=
  let x := nth Xcv.reset s.xcv n
  !bit (s.rwC (aPrt n 0)) 0 || !x.present || (s.managed n && !x.idDone) || x.txHold

/-- A powered minute of a module's life record; the bias baseline is the mean over the first 60 with TXDIS released (R98), rounded down: the
spec states no rounding of a mean (DESIGN CHOICE, log 130). -/
def Life.minute (lit : Bool) (l : Life) : Life :=
  let m := if lit && decide (l.baseMin < 60) then l.baseMin + 1 else l.baseMin
  { l with minutes := l.minutes + 1, baseMin := m
           biasBase := if m = 60 ∧ l.baseMin = 59 then l.baseSum / Nat.max 1 l.baseCnt else l.biasBase }

def State.mapLife (i : Nat) (f : Life → Life) (s : State) : State :=
  { s with rcd := { s.rcd with lives := s.rcd.lives.map (fun e => if e.1 = i then (i, f e.2) else e) } }

def State.lifeMinutes (s : State) : State :=
  (List.range 4).foldl (fun (s : State) n =>
    match (nth Xcv.reset s.xcv n).life with
    | some i => s.mapLife i (Life.minute (!s.txdis n))
    | none => s) s

/-- The scrubber of a half. -/
def State.scrub (h : Half) (s : State) : Scrub := match h with | .coma => s.sys.scrubC | .nucleus => s.sys.scrubN
def State.mapScrub (h : Half) (f : Scrub → Scrub) (s : State) : State :=
  { s with sys := { s.sys with scrubC := (match h with | .coma => f s.sys.scrubC | .nucleus => s.sys.scrubC)
                               scrubN := (match h with | .coma => s.sys.scrubN | .nucleus => f s.sys.scrubN) } }

/-- A minute of a scrub pass (R380): a pass that SCRUB_PASS_DEADLINE did not find late was completed in its 1,440 minutes, and the next is in its
first (DESIGN CHOICE, log 41). -/
def Scrub.minute (x : Scrub) : Scrub :=
  if 1440 ≤ x.mins then { mins := 1, passes := sat 16 (x.passes + 1) } else { x with mins := x.mins + 1 }

/-- OPERATING_MINUTE (R309): main power is present. -/
def doOperatingMinute (s : State) : State :=
  if s.pwr.main then
    let s1 : State := State.lifeMinutes { s with aon := { s.aon with opMin := sat 32 (s.aon.opMin + 1) } }
    let s2 := if s1.comaUp then (s1.mapScrub .coma Scrub.minute).stageAdd 0x0040 0 s1.tim.state.code 1 else s1
    if s2.nucUp then s2.mapScrub .nucleus Scrub.minute else s2
  else s

/-! ## The cell measured, removed and replaced (R315, R316) -/

/-- VBAT_MEASURE (R315). -/
def doVbatMeasure (mv : Nat) (s : State) : State :=
  if s.pwr.main then
    let s1 : State := { s with aon := { s.aon with vbatMv := mv } }
    (if s1.comaUp then s1.stageExt 0x0090 0 0 mv else s1).judgeCell
  else s

/-- BACKUP_CELL_REMOVED (R316). -/
def doCellRemoved (s : State) : State :=
  if s.pwr.main then { s with aon := { s.aon with batPresent := false }, pwr := { s.pwr with vbat := false } }.latchC 0x050008 4 else s

/-- An insertion (R316): latched, present, measured, use and age from 0. -/
def State.cellInserted (mv : Nat) (s : State) : State :=
  let s1 : State := { s with
    aon := { s.aon with batPresent := true, vbatMv := mv, batUse := 0, batAge := 0, batRaised := false } }
  ((if s1.comaUp then s1.stageExt 0x0090 0 0 mv else s1).latchC 0x050008 5).judgeCell

/-- BACKUP_CELL_INSERTED (R316). -/
def doCellInserted (mv : Nat) (s : State) : State :=
  if s.pwr.main then { s with pwr := { s.pwr with vbat := true } }.cellInserted mv else s

/-- A write of 1 to AON_CLR.bat_new (R316): as an insertion; what the measurement gives is a free value (log 12). -/
def State.cellRenewed (s : State) : State :=
  { s with free := s.free + 1 }.cellInserted (Config.freeNat s.free % 4096)

/-! ## Tamper (R312-R314) -/

/-- A tamper event of source i: 0 TAMP0, 1 TAMP1, 2 mesh (R314). -/
def State.tamperEvent (i : Nat) (s : State) : State :=
  let s1 := s.zeroKeys
  let s2 := { s1 with aon := { s1.aon with tampCnt := sat 8 (s1.aon.tampCnt + 1), tampDate := s1.aon.dateWord, tampTime := s1.aon.timeWord } }.latchC 0x050008 i
  if s2.comaUp then s2.faultC 81 else { s2 with aon := { s2.aon with tampPend := true } }

/-- TAMPER_INPUT_QUALIFY (R312): 1 ms at the active level. -/
def doTamperQualify (i : Nat) (s : State) : State :=
  let ctl := s.rwC 0x050000
  if !s.aonUp then s
  else if i = 0 then (if bit ctl 2 && !s.aon.t0 then { s with aon := { s.aon with t0 := true } }.tamperEvent 0 else s)
  else if i = 1 then (if bit ctl 3 && !s.aon.t1 then { s with aon := { s.aon with t1 := true } }.tamperEvent 1 else s)
  else s

/-- TAMPER_INPUT_RELEASE (R312). -/
def doTamperRelease (i : Nat) (s : State) : State :=
  { s with aon := { s.aon with t0 := s.aon.t0 && i != 0, t1 := s.aon.t1 && i != 1 } }

/-- One bit of the 15-bit LFSR x^15 + x^14 + 1 (R313). -/
def lfsrNext (x : BitVec 15) : BitVec 15 := (x <<< 1) ||| BitVec.ofNat 15 (b2n (x.getLsbD 14 != x.getLsbD 13))

/-- MESH_SAMPLE (R313): the sample against the bit driven, the top bit of the LFSR. -/
def doMeshSample (b : Bool) (s : State) : State :=
  if !s.aonUp || !bit (s.rwC 0x050000) 1 then s
  else
    let wrong := b != s.aon.lfsr.getLsbD 14
    let miss := if wrong then Nat.min 2 (s.aon.meshMiss + 1) else 0
    let mat := if wrong then 0 else Nat.min 16 (s.aon.meshMatch + 1)
    let s1 : State := { s with aon := { s.aon with
      lfsr := lfsrNext s.aon.lfsr, meshMiss := miss, meshMatch := mat
      mesh := if s.aon.mesh then decide (mat < 16) else decide (2 ≤ miss) } }
    if s1.aon.mesh && !s.aon.mesh then s1.tamperEvent 2 else s1

/-- A write of AON_CTL: a source that is no longer enabled is no longer active (R312, R313). -/
def State.tamperEnables (w : Word) (s : State) : State :=
  { s with aon := { s.aon with
    t0 := s.aon.t0 && bit w 2, t1 := s.aon.t1 && bit w 3, mesh := s.aon.mesh && bit w 1
    meshMiss := if bit w 1 then s.aon.meshMiss else 0
    meshMatch := if bit w 1 then s.aon.meshMatch else 0 } }

/-! ## Retention (R311) -/

/-- RETENTION_RAIL_LOW (R311). -/
def doRetentionLow (s : State) : State := { s with aon := { s.aon with retLatch := true } }

/-- The domain at its Reset values (R300): the registers, the calendar invalidated with its event to come (R308), every key slot emptied; the
counts in MRAM, the retention latch and a tamper fault that waits stay. -/
def State.aonClear (s : State) : State :=
  let a := s.aon
  let s1 : State := { s with
    aon := { Aon.reset with pwrCyc := a.pwrCyc, opMin := a.opMin, retCnt := a.retCnt, calPend := true, retLatch := a.retLatch,
                            retPend := a.retPend, tampPend := a.tampPend }
    regC := s.regC.resetRange 0x050000 0x060000
    rcd := { s.rcd with tampSeen := 0 } }
  s1.emptyKeys

/-- The clearing of R311 on the return to main power: the domain cleared, the loss counted, latched and passed to the recorder. -/
def State.retentionClear (s : State) : State :=
  let s1 := s.aonClear
  State.latchC 0x050008 3 { s1 with
    aon := { s1.aon with retCnt := sat 32 (s1.aon.retCnt + 1), retLatch := false, retPend := true }
    rcd := { s1.rcd with firstFlags := s1.rcd.firstFlags ||| 1 } }

/-! ## The table's rows -/

/-- RTC_SET (R302). -/
def execRtcSet (h : Hdr) (ps : List Word) (s : State) : Host.Outcome State Fault Refusal :=
  .next (State.settled (s.serve 0x0904 h ps cmdRtcSet))

/-- RTC_READ (R307). -/
def execRtcRead (h : Hdr) (ps : List Word) (s : State) : Host.Outcome State Fault Refusal :=
  .next (State.settled (s.serve 0x0905 h ps cmdRtcRead))

/-- CALENDAR_SECOND (R301). -/
def execCalendarSecond (s : State) : Host.Outcome State Fault Refusal :=
  .next (State.settled (doCalendarSecond s))

/-- CALENDAR_SYNC_WRITE (R304). -/
def execCalendarSyncWrite (s : State) : Host.Outcome State Fault Refusal :=
  .next (State.settled (whenUp .coma doCalendarSync s))

/-- OPERATING_MINUTE (R309). -/
def execOperatingMinute (s : State) : Host.Outcome State Fault Refusal :=
  .next (State.settled (doOperatingMinute s))

/-- VBAT_MEASURE (R315). -/
def execVbatMeasure (mv : Nat) (s : State) : Host.Outcome State Fault Refusal :=
  .next (State.settled (doVbatMeasure mv s))

/-- BACKUP_CELL_REMOVED (R316). -/
def execBackupCellRemoved (s : State) : Host.Outcome State Fault Refusal :=
  .next (State.settled (doCellRemoved s))

/-- BACKUP_CELL_INSERTED (R316). -/
def execBackupCellInserted (mv : Nat) (s : State) : Host.Outcome State Fault Refusal :=
  .next (State.settled (doCellInserted mv s))

/-- TAMPER_INPUT_QUALIFY (R312). -/
def execTamperInputQualify (i : Nat) (s : State) : Host.Outcome State Fault Refusal :=
  .next (State.settled (doTamperQualify i s))

/-- TAMPER_INPUT_RELEASE (R312). -/
def execTamperInputRelease (i : Nat) (s : State) : Host.Outcome State Fault Refusal :=
  .next (State.settled (doTamperRelease i s))

/-- MESH_SAMPLE (R313). -/
def execMeshSample (bit : Bool) (s : State) : Host.Outcome State Fault Refusal :=
  .next (State.settled (doMeshSample bit s))

/-- RETENTION_RAIL_LOW (R311). -/
def execRetentionRailLow (s : State) : Host.Outcome State Fault Refusal :=
  .next (State.settled (doRetentionLow s))

end Sys2Proof.Machine
end

