-- ==== Sys2Proof/Machine/Session.lean ====
section
/-! DEFINITION. The session commands (R43, R44, R47). -/

namespace Sys2Proof.Machine

def cmdNop (_ : Hdr) (ps : List Word) (s : State) : Res := arity 0 ps s fun _ => .ok s

/-- IDENT (R44). -/
def cmdIdent (h : Hdr) (ps : List Word) (s : State) : Res :=
  arity 0 ps s fun _ =>
    .ok s [0x8820, w32 (0xB0 * 2 ^ 24 + 65536 * b2n (decide (h.half = .nucleus))), hiW Config.serial.toNat, loW Config.serial.toNat,
      (match h.half with | .coma => s.sys.verC | .nucleus => s.sys.verN),
      if s.ory.joined then w32 (2 ^ 31 + s.ory.id) else 0, w32 h.port, 0]

/-- STATUS w0 (R47). -/
def State.statusWord (h : Hdr) (k : Nat) (s : State) : Word :=
  w32 ((if s.pwr.mode = .service then 3 else 2) * 2 ^ 30 + 2 ^ 29 * b2n s.pwr.grave + 2 ^ 28 * b2n (decide (s.tim.state = .locked)) +
    2 ^ 27 * b2n (decide (s.tim.sel = .b)) + 2 ^ 26 * b2n (decide (s.tim.state = .holdover) || decide (s.tim.state = .fault)) +
    65536 * s.opsOf h.port + 256 * k + h.port)

/-- The records a STATUS returns: the oldest of the port and half, at most 8 (R47). -/
def mineRec (h : Hdr) (r : Record) : Bool := r.port == h.port && r.half == h.half

/-- A list without its first n elements of a kind. -/
def dropFirst {α : Type} (p : α → Bool) : Nat → List α → List α
  | _, [] => []
  | 0, l => l
  | n + 1, x :: r => if p x then dropFirst p n r else x :: dropFirst p (n + 1) r

/-- STATUS (R47): a record is removed once returned. -/
def cmdStatus (h : Hdr) (ps : List Word) (s : State) : Res :=
  arity 0 ps s fun _ =>
    let rs := (s.cmd.recs.filter (mineRec h)).take 8
    .ok { s with cmd := { s.cmd with recs := dropFirst (mineRec h) 8 s.cmd.recs } }
      (s.statusWord h rs.length :: rs.flatMap (fun r => [w32 (65536 * r.opcode + 256 * r.code.toNat + r.tag.toNat), r.seq]))

/-- ATTN.ACK (R43): an event that its own reply raises is of the same step and comes before the compare (DEDUCED, log 170). -/
def cmdAttnAck (h : Hdr) (ps : List Word) (s : State) : Res :=
  arity 1 ps s fun _ =>
    if s.marksGap h.port 5 then .ok s [] 1
    else if s.ackFresh (bits (par ps 0) 7 0) then .ok s.acked else .ok s [] 1

/-! ## The table's rows -/

/-- NOP (R44). -/
def execNop (h : Hdr) (ps : List Word) (s : State) : Host.Outcome State Fault Refusal :=
  .next (State.settled (s.serve 0x0000 h ps cmdNop))

/-- IDENT (R44). -/
def execIdent (h : Hdr) (ps : List Word) (s : State) : Host.Outcome State Fault Refusal :=
  .next (State.settled (s.serve 0x0001 h ps cmdIdent))

/-- STATUS (R47). -/
def execStatus (h : Hdr) (ps : List Word) (s : State) : Host.Outcome State Fault Refusal :=
  .next (State.settled (s.serve 0x0002 h ps cmdStatus))

/-- ATTN_ACK (R43). -/
def execAttnAck (h : Hdr) (ps : List Word) (s : State) : Host.Outcome State Fault Refusal :=
  .next (State.settled (s.serve 0x0003 h ps cmdAttnAck))

end Sys2Proof.Machine
end

