-- ==== Sys2Proof/Machine/Tables.lean ====
section
/-! DEFINITION. The tables (R44, R46, R104-R109): capacities, commands of the banks, the channel map, and what each table's
commit checks (R107, R115, R171, R181, R191, R210-R213, R237, R245, R253). A check takes a view: the banks as they will
stand at the boundary where the commit takes effect, by table ID (log 23). -/

namespace Sys2Proof.Machine

/-! ## Banks -/

/-- Words of each table; 0 where there is none (R104, R190, R115, R235, R109, R245, R253, R209, R181). -/
def tblCap (id : Nat) : Nat :=
  match id with
  | 1 => 0x182000
  | 2 => 0x140000
  | 3 => 131072
  | 4 => 32768
  | 5 => 131076
  | 6 => 0x4400
  | 7 => 262144
  | 8 => 65536
  | 9 => 16384
  | _ => 0

def State.bank (id : Nat) (s : State) : Tbl := nth Tbl.reset s.tbl.tbl (id - 1)
def State.mapBank (id : Nat) (f : Tbl → Tbl) (s : State) : State :=
  { s with tbl := { s.tbl with tbl := at' s.tbl.tbl (id - 1) f } }

/-- A view of the active banks (log 23). -/
abbrev View := Nat → WMap
def State.view (s : State) : View := fun id => (s.bank id).active

/-! ## Channel map (R109) -/

/-- Lanes still held by removed channels (R22). -/
def State.heldLanes (s : State) : Nat := sumN (s.tbl.drain.map Drain.chans)

/-- A word of table 0x05. -/
def State.chanMap (off : Nat) (s : State) : Word :=
  let t := s.srcT
  if off < 0x20000 then
    let i := off / 2
    let v := srcValid t i
    if off % 2 = 0 then
      match s.tbl.drain.filter (fun d => d.src == i) with
      | [] => if v then w32 (2 ^ 31 + 65536 * storedChans t i + srcNchan t i) else 0
      | ds => w32 (2 ^ 31 * b2n v + 2 ^ 30 + 65536 * (if v then storedChans t i else sumN (ds.map Drain.chans)) + (if v then srcNchan t i else 0))
    else if v then w32 (srcLoad t i) else 0
  else if off = 0x20000 then w32 (tableLanes t)
  else if off = 0x20001 then w32 s.heldLanes
  else if off = 0x20002 then w32 (1048576 - tableLanes t - s.heldLanes)
  else w32 (tableLoad t)

/-! ## Commands (R44, R46) -/

def cmdTblRead (h : Hdr) (ps : List Word) (s : State) : Res :=
  arity 3 ps s fun _ =>
    let id := bits (par ps 0) 31 24
    let stg := bit (par ps 0) 16
    let o := (par ps 1).toNat
    let n := (par ps 2).toNat
    if tblCap id = 0 ∨ (id = 5 ∧ stg) then .fail s eParam 0
    else if tblCap id ≤ o then .fail s eParam 1
    else if n = 0 ∨ 256 < n ∨ tblCap id < o + n then .fail s eParam 2
    else if !stg then .ok s ((List.range n).map (fun k => if id = 5 then s.chanMap (o + k) else s.tblW id (o + k)))
    else match (s.bank id).staging, (s.bank id).holder with
      | some m, some p => if p = h.port then .ok s ((List.range n).map (fun k => tblBank m (o + k))) else .fail s eLocked
      | _, _ => .fail s eState

/-- The bank after words are written from an offset on; a word 0 is not listed. -/
def bankWrite (m : WMap) (o : Nat) (ws : List Word) : WMap :=
  (ws.foldl (fun (a : WMap × Nat) w => (WMap.put zeroW a.1 a.2 w, a.2 + 1)) (m, o)).1

def cmdTblWrite (h : Hdr) (ps : List Word) (s : State) : Res :=
  let id := bits (par ps 0) 31 24
  let o := (par ps 1).toNat
  let ws := ps.drop 2
  if ps.length < 3 then .fail s eParam ps.length
  else if tblCap id = 0 ∨ id = 5 then .fail s eParam 0
  else if tblCap id ≤ o then .fail s eParam 1
  else if tblCap id < o + ws.length then .fail s eParam (2 + (tblCap id - o))
  else
    let t := s.bank id
    if t.holder.isSome ∧ t.holder ≠ some h.port then .fail s eLocked
    else if t.pendingCommit ∨ (id = 2 ∧ s.tbl.oldTopo.isSome) then .fail s eBusy
    else .ok (s.mapBank id (fun t => { t with staging := some (bankWrite (t.staging.getD t.active) o ws), holder := some h.port }))

/-- Tables a port holds. -/
def State.heldTables (p : Nat) (s : State) : List Nat := ([1, 2, 3, 4, 6, 7, 8, 9]).filter (fun id => (s.bank id).holder == some p)

def cmdTblDiscard (h : Hdr) (ps : List Word) (s : State) : Res :=
  arity 1 ps s fun _ =>
    let id := bits (par ps 0) 31 24
    let free := fun (s : State) id => s.mapBank id (fun t => { t with staging := none, holder := none })
    if id = 0xFF then
      let mine := s.heldTables h.port
      let go := mine.filter (fun id => !(s.bank id).pendingCommit)
      .ok (go.foldl free s) [] (b2n (decide (go.length < mine.length)))
    else if tblCap id = 0 ∨ id = 5 then .fail s eParam 0
    else
      let t := s.bank id
      if t.holder = none then .ok s
      else if t.holder ≠ some h.port then .fail s eLocked
      else if t.pendingCommit then .fail s eState
      else .ok (free s id)

/-- TBL.INFO: the active size is the table's capacity (log 24). -/
def cmdTblInfo (_ : Hdr) (ps : List Word) (s : State) : Res :=
  arity 1 ps s fun _ =>
    let id := bits (par ps 0) 31 24
    if tblCap id = 0 then .fail s eParam 0
    else .ok s [w32 (tblCap id), w32 (tblCap id),
      w32 (2 ^ 24 * (if id = 5 then 0xFF else (s.bank id).holder.getD 0xFF) + b2n (id ≠ 5 && (s.bank id).pendingCommit))]

/-! ## Checks shared by the tables -/

/-- A rate code is a reporting rate of the nominal frequency (R2). -/
def rateOk (code : Nat) (f50 : Bool) : Bool :=
  decide (code < 12) && ((if f50 then [10, 25, 50, 100, 200] else [10, 12, 15, 20, 30, 60, 120, 240]).elem (rateFps code))



/-- Indices of records of a size whose first word is valid, from the words a bank lists in a range. -/
def validRecs (t : WMap) (base size n : Nat) : List Nat :=
  t.filterMap (fun (k, w) => if base ≤ k ∧ k < base + size * n ∧ (k - base) % size = 0 ∧ bit w 31 then some ((k - base) / size) else none)

/-- No two of a list satisfy a relation. -/
def noPair {α : Type} (r : α → α → Bool) : List α → Bool
  | [] => true
  | x :: xs => xs.all (fun y => !r x y) && noPair r xs

/-! ## Table 0x01 (R105, R107, R170, R171) -/

/-- The kinds of a source's channels, in order. -/
def srcKinds (t : WMap) (i : Nat) : List Nat := (List.range (srcNchan t i)).map (fun c => descrKind (chDescr t i c))

/-- PHASOR once or more, one FREQ, one ROCOF, then ANALOG, then DIGITAL (R107). -/
def frameOrder (l : List Nat) : Bool :=
  l.all (fun k => decide (k ≤ 4)) && (l.zip (l.drop 1)).all (fun x => decide (x.1 ≤ x.2)) &&
    l.head? == some 0 && l.count 1 == 1 && l.count 2 == 1

/-- What an estimator source's descriptors must be (R171). -/
def estKinds (w13 : Word) : List Nat :=
  List.replicate (((List.range 8).filter (fun b => bit w13 b)).length + b2n (bit w13 8) + b2n (bit w13 9)) 0 ++ [1, 2]

def estOk (t : WMap) (i : Nat) : Bool :=
  let w := srcW t i 13
  let fr := bits w 15 12
  decide (srcKinds t i = estKinds w) && decide (srcW t i 15 = 0) && decide (bits (srcW t i 14) 4 0 ≤ 16) && decide (fr ≤ 8) &&
    (!(bit w 8 || fr == 0) || decide (bits w 2 0 = 7)) && (!bit w 9 || decide (bits w 6 4 = 7)) &&
    (fr == 0 || bit w (fr - 1))

/-- The protocol fits the source ID (R107). -/
def protoFits (t : WMap) (i : Nat) : Bool :=
  match srcProto t i with
  | 1 | 2 | 3 => decide (i ≤ 0xFCFF) || (decide (0xFD01 ≤ i) && decide (i ≤ 0xFDFF))
  | 4 => decide (0xFE00 ≤ i)
  | 5 => decide (i = 0xFD00)
  | _ => false

/-- The continuation entries after a first entry (R105). -/
def chainOk (t : WMap) (i : Nat) : Bool :=
  decide (1 ≤ srcNblk t i) && (List.range (srcNblk t i - 1)).all (fun k =>
    let c := i + 1 + k
    srcValid t c && srcProto t c == 3 && srcNblk t c == 0 &&
      bits (srcW t c 6) 11 8 == bits (srcW t i 6) 11 8 && srcTimeBase t c == srcTimeBase t i)

/-- A continuation entry belongs to the chain of some first entry. -/
def inChain (t : WMap) (srcs : List Nat) (i : Nat) : Bool :=
  srcs.any (fun j => (srcProto t j == 1 || srcProto t j == 2) && decide (j < i) && decide (i < j + srcNblk t j))

/-- Fields with a range of their own (R105, R107); bits that must be 0 are not checked (log 25). -/
def entryFields (t : WMap) (i : Nat) : Bool :=
  let p := srcProto t i
  (p == 4 || p == 5 || decide (srcTimeBase t i ≠ 0)) && (p != 4 || decide (bits (srcW t i 7) 1 0 ≤ 2))

/-- Two entries share a lookup key (R107). -/
def sameKey (t : WMap) (i j : Nat) : Bool :=
  let addr := fun i => [srcW t i 2, srcW t i 3, srcW t i 4, srcW t i 5]
  let ports := srcPorts t i &&& srcPorts t j != 0
  let dp := fun i => bits (srcW t i 1) 31 16
  srcProto t i == srcProto t j && srcIdcode t i == srcIdcode t j && ports && addr i == addr j &&
    (srcProto t i == 4 || ((srcProto t i == 1 || srcProto t i == 2) && (dp i == dp j || dp i == 0 || dp j == 0)))


def State.checkSources (v : View) (s : State) : Bool :=
  let t := v 1
  let srcs := validSources t
  srcs.all (fun i =>
    protoFits t i && entryFields t i && rateOk (bits (srcW t i 6) 11 8) (src50 t i) &&
      (if srcProto t i = 4 ∨ srcProto t i = 5 then estOk t i else frameOrder (srcKinds t i)) &&
      decide (srcBase t i + srcNchan t i ≤ 1048576) &&
      (match srcProto t i with | 1 | 2 => chainOk t i | 3 => inChain t srcs i | _ => true) &&
      (List.range 8).all (fun g => !(srcGroups t i).testBit g || s.grpCode g == bits (srcW t i 6) 11 8)) &&
    noPair (fun i j => decide (srcBase t i < srcBase t j + srcNchan t j) && decide (srcBase t j < srcBase t i + srcNchan t i)) srcs &&
    noPair (sameKey t) srcs && decide (tableLanes t + s.heldLanes ≤ 1048576) && decide (tableLoad t ≤ 251658240)

/-! ## Table 0x02 (R190, R191) -/

def nodeW (t : WMap) (i k : Nat) : Word := tblBank t (2 * i + k)
def branchW (t : WMap) (j k : Nat) : Word := tblBank t (0x40000 + 4 * j + k)
def nodeValid (t : WMap) (i : Nat) : Bool := bit (nodeW t i 0) 31
def nodeMeas (t : WMap) (i : Nat) : Bool := bit (nodeW t i 0) 30
def nodeRemote (t : WMap) (i : Nat) : Bool := bit (nodeW t i 0) 29
def validNodes (t : WMap) : List Nat := validRecs t 0 2 131072
def validBranches (t : WMap) : List Nat := validRecs t 0x40000 4 262144
def brFrom (t : WMap) (j : Nat) : Nat := bits (branchW t j 0) 16 0
def brTo (t : WMap) (j : Nat) : Nat := bits (branchW t j 1) 16 0

def checkTopology (v : View) : Bool :=
  let t := v 2
  let src := v 1
  (validNodes t).all (fun i =>
      !nodeMeas t i || (let q := bits (nodeW t i 0) 15 0
        srcValid src q && chanIs src q (bits (nodeW t i 1) 25 16) 0 && chanIs src q (bits (nodeW t i 1) 9 0) 1)) &&
    (validBranches t).all (fun j =>
      let f := brFrom t j
      let o := brTo t j
      let w0 := branchW t j 0
      nodeValid t f && nodeValid t o && f != o && !(nodeRemote t f && nodeRemote t o) &&
        (!bit w0 30 || (let q := bits (branchW t j 2) 15 0
          srcValid src q && chanIs src q (bits (branchW t j 2) 25 16) 4)) &&
        (!bit w0 29 || (nodeMeas t f && nodeMeas t o && bits (branchW t j 1) 31 24 != 0 && bits (branchW t j 3) 15 0 != 0)))

/-! ## Tables 0x06 and the outputs that name it (R237, R245) -/

def tplW (t : WMap) (c o : Nat) : Word := tblBank t (0x400 + 0x400 * c + o)

/-- goose = 1 names a BOOLEAN entry of a valid template (R237). -/
def gooseNamed (t6 : WMap) (out : Word) : Bool :=
  !outGoose out || (bit (tplW t6 (outGcb out) 0) 31 && decide (outDix out < bits (tplW t6 (outGcb out) 2) 24 16) &&
    !bit (tplW t6 (outGcb out) (0x10 + outDix out)) 16)

/-- The patched fields of a template: offset and length (R245). -/
def tplFields (t : WMap) (c : Nat) : List (Nat × Nat) :=
  [(bits (tplW t c 1) 11 0, 4), (bits (tplW t c 1) 27 16, 4), (bits (tplW t c 2) 11 0, 8)] ++
    (if bits (tplW t c 3) 11 0 = 0 then [] else [(bits (tplW t c 3) 11 0, 16)]) ++
    (List.range (bits (tplW t c 2) 24 16)).map (fun d =>
      let e := tplW t c (0x10 + d)
      (bits e 11 0, if bit e 16 then 8 else 1))

def State.checkTemplate (t : WMap) (c : Nat) (s : State) : Bool :=
  let flen := bits (tplW t c 0) 11 0
  let fs := tplFields t c
  let n := bits (tplW t c 2) 24 16
  let port := egrPort (s.egrCfg (bits (s.gooseCfg c) 13 8))
  decide (64 ≤ flen) && decide (flen ≤ 3008) && decide (n ≤ 256) && fs.all (fun f => decide (f.1 + f.2 ≤ flen)) &&
    noPair (fun a b => decide (a.1 < b.1 + b.2) && decide (b.1 < a.1 + a.2)) fs &&
    (bits (tplW t c 3) 11 0 == 0 || bits (tplW t c 3) 11 0 + 16 == flen) && decide (flen + 4 ≤ s.maxlen port) &&
    (List.range n).all (fun d =>
      let e := tplW t c (0x10 + d)
      !bit e 16 || (decide (bits e 31 24 < n) && !bit (tplW t c (0x10 + bits e 31 24)) 16))

def State.checkGoose (v : View) (s : State) : Bool :=
  (List.range 16).all (fun c => !bit (tplW (v 6) c 0) 31 || s.checkTemplate (v 6) c)

/-! ## Table 0x03 (R115) -/

def watchRec (t : WMap) (e k : Nat) : Word := tblBank t (8 * e + k)
def validWatches (t : WMap) : List Nat := validRecs t 0 8 16384

/-- The channel kinds of an input (R115). -/
def inputKindOk (src : WMap) (i input ch : Nat) : Bool :=
  match input with
  | 0 => chanIs src i ch 1
  | 1 => chanIs src i ch 2
  | 2 => chanIs src i ch 0
  | 3 => chanIs src i ch 3
  | 4 => chanIs src i ch 4
  | 5 => true
  | 6 => chanIs src i ch 0 && chanIs src i (ch + 1) 0 && chanIs src i (ch + 2) 0
  | _ => false

def checkWatches (v : View) : Bool :=
  let t := v 3
  let src := v 1
  (validWatches t).all (fun e =>
    let w0 := watchRec t e 0
    let i := bits w0 15 0
    srcValid src i && i != 0xFD00 && decide (i < 0xFE00) && decide (srcWatchBase src i ≤ e) &&
      decide (e < srcWatchBase src i + srcWatchCnt src i) && inputKindOk src i (bits w0 30 28) (bits w0 25 16) &&
      gooseNamed (v 6) (watchRec t e 5))

/-! ## Table 0x04 (R237) -/

def ruleRec (t : WMap) (i k : Nat) : Word := tblBank t (8 * i + k)

def checkRules (v : View) : Bool :=
  let t := v 4
  let src := v 1
  (validRules t).all (fun i =>
    let w0 := ruleRec t i 0
    let ct := ruleCtype w0
    let cls := ruleClass w0
    let a := ruleSrc w0
    let b := bits (ruleRec t i 1) 15 0
    let cha := bits (ruleRec t i 1) 25 16
    let chb := bits (ruleRec t i 2) 25 16
    let dw := bits (ruleRec t i 2) 7 0
    let g := ruleGroup w0
    decide (ct ≤ 4) && (!ruleProv w0 || ct == 2) && gooseNamed (v 6) (ruleRec t i 6) && !outQgate (ruleRec t i 6) &&
      (match ct with
       | 0 => decide (cls ≤ 10) && inGroup src a g && decide (cha < srcNchan src a) && decide (1 ≤ dw) && a != 0xFFFF
       | 1 => decide (cls ≤ 10) && inGroup src a g && inGroup src b g && chanIs src a cha 0 && chanIs src b chb 0 && decide (1 ≤ dw) && a != 0xFFFF
       | 2 => cls == 3 && dw == 0
       | 3 => (cls == 4 || cls == 5 || cls == 6 || cls == 7 || cls == 9 || cls == 10) && dw == 0
       | _ => cls == 8 && (a == 0xFFFF || inGroup src a g) && decide (1 ≤ dw)))

/-! ## Table 0x07 (R253) -/

def cfgW (t : WMap) (i o : Nat) : Word := tblBank t (0x1000 * i + o)
/-- Map entries of a section, as their two words. -/
def cfgMap (t : WMap) (i : Nat) : List (Word × Word) :=
  (List.range (bits (cfgW t i 2) 31 16)).map (fun e => (cfgW t i (0x10 + 2 * e), cfgW t i (0x11 + 2 * e)))

/-- The map cut into blocks at the block starts; entries before the first start form a block of their own. -/
def cfgBlocks : List (Word × Word) → List (List (Word × Word))
  | [] => []
  | e :: r =>
    match cfgBlocks r with
    | [] => [[e]]
    | b :: bs => if (b.head?.map (fun x => bit x.1 31)).getD false then [e] :: b :: bs else (e :: b) :: bs

def checkSection (v : View) (i : Nat) : Bool :=
  let t := v 7
  let src := v 1
  let m := cfgMap t i
  let bs := cfgBlocks m
  let fmt := bits (cfgW t i 2) 3 0
  let rate := rateFps (bits (cfgW t i 1) 27 24)
  decide (1 ≤ m.length) && decide (m.length ≤ 1000) && bs.length == bits (cfgW t i 2) 15 8 && decide (1 ≤ bs.length) &&
    (m.head?.map (fun x => bit x.1 31)).getD false && bs.all (fun b => frameOrder (b.map (fun e => bits e.1 30 28))) &&
    rate != 0 && bits (cfgW t i 1) 23 0 % rate == 0 && bits (cfgW t i 1) 23 0 != 0 &&
    decide (bits (cfgW t i 3) 15 0 ≤ 4096) && decide (bits (cfgW t i 3) 31 16 ≤ 4096) &&
    m.all (fun e =>
      let q := bits e.1 15 0
      let kind := bits e.1 30 28
      srcValid src q && chanIs src q (bits e.1 25 16) kind &&
        (!((kind == 0 && !fmt.testBit 1) || (kind == 3 && !fmt.testBit 2)) || (f32finite e.2 && decide (f32q e.2 ≠ 0))))

def checkStreams (v : View) : Bool := (List.range 64).all (fun i => !bit (cfgW (v 7) i 0) 31 || checkSection v i)

/-! ## Table 0x08 (R210-R213) -/

def lbeW (t : WMap) (e o : Nat) : Word := tblBank t (0x800 * e + o)
def lbeGroup (t : WMap) (e : Nat) : Nat := bits (lbeW t e 0) 26 24
def lbeM (t : WMap) (e : Nat) : Nat := bits (lbeW t e 0) 23 16 + 1
def lbeL (t : WMap) (e : Nat) : Nat := bits (lbeW t e 0) 13 8
def lbeRank (t : WMap) (e : Nat) : Nat := bits (lbeW t e 0) 5 0
def lbeSig (t : WMap) (e i k : Nat) : Word := lbeW t e (0x40 + 4 * i + k)
def lbeNbiq (t : WMap) (e : Nat) : Nat := bits (lbeW t e 1) 19 16

def checkSignal (src t : WMap) (e i : Nat) : Bool :=
  let w0 := lbeSig t e i 0
  let w1 := lbeSig t e i 1
  let g := lbeGroup t e
  let a := bits w0 15 0
  let b := bits w1 15 0
  let ca := bits w0 25 16
  let cb := bits w1 25 16
  let kind := bits w0 30 28
  let gain := lbeSig t e i 2
  bit w0 31 && inGroup src a g && f32finite gain && decide (f32q gain ≠ 0) && (!bit (lbeSig t e i 3) 31 || kind == 4) &&
    (match kind with
     | 1 => chanIs src a ca 1
     | 2 => chanIs src a ca 0
     | 3 | 4 => chanIs src a ca 0 && inGroup src b g && chanIs src b cb 0
     | 5 => chanIs src a ca 3
     | _ => false)

def checkBiquad (t : WMap) (e b : Nat) : Bool :=
  let w := fun k => lbeW t e (0x10 + 6 * b + k)
  if b < lbeNbiq t e then
    let a1 := (w 3).toInt
    let a2 := (w 4).toInt
    let one : Int := (2 ^ 30 : Nat)
    w 5 == 0 && decide (a2.natAbs < 2 ^ 30) && decide ((a1.natAbs : Int) < one + a2)
  else (List.range 6).all (fun k => w k == 0)

def checkLbe (v : View) (e : Nat) : Bool :=
  let t := v 8
  let h1 := lbeW t e 1
  let m := lbeM t e
  let l := lbeL t e
  let r := lbeRank t e
  (List.range m).all (fun i => checkSignal (v 1) t e i) &&
    t.all (fun (k, _) => !(decide (0x800 * e ≤ k) && decide (k < 0x800 * e + 0x800)) ||
      !((decide (0x800 * e + 4 ≤ k) && decide (k ≤ 0x800 * e + 15)) || (decide (0x800 * e + 0x40 + 4 * m ≤ k) && decide (k < 0x800 * e + 0x440)))) &&
    decide (2 ≤ l) && decide (l ≤ 32) && decide (2 ≤ r) && decide (r ≤ Nat.min 32 (m * (l - 1))) &&
    decide (10 ≤ bits h1 9 0) && decide (bits h1 9 0 ≤ 600) && decide (1 ≤ bits h1 15 10) && decide (lbeNbiq t e ≤ 8) &&
    decide (1 ≤ bits h1 31 24) && decide (bits (lbeW t e 2) 31 16 ≤ 45000) && decide (bits (lbeW t e 2) 15 0 < bits (lbeW t e 2) 31 16) &&
    decide (1 ≤ bits (lbeW t e 3) 7 0) && decide (1 ≤ bits (lbeW t e 3) 15 8) && (List.range 8).all (fun b => checkBiquad t e b) &&
    decide (((List.range m).filter (fun i => bit (lbeSig t e i 3) 31)).length ≤ 64)

def checkLbes (v : View) : Bool := (List.range 32).all (fun e => !bit (lbeW (v 8) e 0) 31 || checkLbe v e)

/-- A running engine whose section a bank would change (R213). -/
def State.changesRunning (old new : WMap) (s : State) : Bool :=
  (List.range 32).any (fun e => (s.lb e).running &&
    decide (old.filter (fun x => x.1 / 0x800 = e) ≠ new.filter (fun x => x.1 / 0x800 = e)))

/-! ## Table 0x09 (R181) -/

def pairW (t : WMap) (p k : Nat) : Word := tblBank t (4 * p + k)
def validPairs (t : WMap) : List Nat := validRecs t 0 4 4096
def isInternal (i : Nat) : Bool := decide (i = 0xFD00) || decide (0xFE00 ≤ i)

def checkPairs (v : View) : Bool :=
  let t := v 9
  let src := v 1
  (validPairs t).all (fun p =>
    let w0 := pairW t p 0
    let w1 := pairW t p 1
    let w2 := pairW t p 2
    let g := bits w2 26 24
    let k := bits w0 30 28
    decide (k ≤ 1) && inGroup src (bits w0 15 0) g && inGroup src (bits w1 15 0) g && !isInternal (bits w0 15 0) && isInternal (bits w1 15 0) &&
      chanIs src (bits w0 15 0) (bits w0 25 16) k && chanIs src (bits w1 15 0) (bits w1 25 16) k &&
      bits w2 15 0 != 0 && bits w2 23 16 != 0)

/-- What a commit of one table checks, on the view it would leave (R46). -/
def State.checkTable (v : View) (s : State) (id : Nat) : Byte :=
  let ok : Bool := match id with
    | 1 => s.checkSources v && checkPairs v
    | 2 => checkTopology v
    | 3 => checkWatches v
    | 4 => checkRules v
    | 6 => s.checkGoose v
    | 7 => checkStreams v
    | 8 => checkLbes v
    | 9 => checkPairs v
    | _ => true
  if !ok then eParam
  else if id = 8 ∧ s.changesRunning (s.bank 8).active (v 8) then eState
  else codeOk

/-! ## The table's rows -/

/-- TBL_READ (R46). -/
def execTblRead (h : Hdr) (ps : List Word) (s : State) : Host.Outcome State Fault Refusal :=
  .next (State.settled (s.serve 0x0200 h ps cmdTblRead))

/-- TBL_WRITE (R46). -/
def execTblWrite (h : Hdr) (ps : List Word) (s : State) : Host.Outcome State Fault Refusal :=
  .next (State.settled (s.serve 0x0201 h ps cmdTblWrite))

/-- TBL_DISCARD (R46). -/
def execTblDiscard (h : Hdr) (ps : List Word) (s : State) : Host.Outcome State Fault Refusal :=
  .next (State.settled (s.serve 0x0203 h ps cmdTblDiscard))

/-- TBL_INFO (R44). -/
def execTblInfo (h : Hdr) (ps : List Word) (s : State) : Host.Outcome State Fault Refusal :=
  .next (State.settled (s.serve 0x0204 h ps cmdTblInfo))

end Sys2Proof.Machine
end

