-- ==== Sys2Proof/Machine/Ingest.lean ====
section
/-! DEFINITION. Ingest (R104-R127): the C37.118.2 parser, fast-path watch entries, the ingest queue, arrival ephemerides and time
suspicion. -/

namespace Sys2Proof.Machine

/-! ## Sources with state (R119-R127) -/

def Src.fresh (i : Nat) : Src :=
  { id := i, slots := [], keys := [], ewma := 0, hist := List.replicate 32 0, nframes := 0, suspect := false, run := 0,
    stepped := false, lastPort := 0, lastStored := 0, route := 0, margin := 0, stored := false, good := 0, lastDly := 0,
    lastKey := 0, watched := none, cnt := List.replicate 14 0 }

def State.srcSt (i : Nat) (s : State) : Src := (findBy Src.id i s.ing.srcs).getD (Src.fresh i)
def State.putSrc (x : Src) (s : State) : State := { s with ing := { s.ing with srcs := insertBy Src.id x s.ing.srcs } }
def State.mapSrcSt (i : Nat) (f : Src → Src) (s : State) : State := s.putSrc (f (s.srcSt i))

/-- Counters of R127, in their order. -/
abbrev cFrames : Nat := 0
abbrev cDup : Nat := 1
abbrev cEarly : Nat := 2
abbrev cOld : Nat := 3
abbrev cLate : Nat := 4
abbrev cOffgrid : Nat := 5
abbrev cFmterr : Nat := 6
abbrev cTrunc : Nat := 7
abbrev cBdrop : Nat := 8
abbrev cQframes : Nat := 9
abbrev cSusp : Nat := 10
abbrev cRoute : Nat := 11
abbrev cCfgchg : Nat := 12
abbrev cWact : Nat := 13
def Src.count (k : Nat) (x : Src) : Src := { x with cnt := at' x.cnt k (fun n => sat 32 (n + 1)) }
def State.srcCount (i k : Nat) (s : State) : State := s.mapSrcSt i (Src.count k)

/-- Ingest counters and their metric (R126, R353 metric 0x0060). -/
def State.ingCount (a metric n : Nat) (s : State) : State := (s.bumpN a n).stageAdd 0x0060 0 metric n

/-! ## The ephemeris (R119) -/

/-- The bin of a delay in us. -/
def delayBin (u : Nat) : Nat :=
  if u < 16 then 0 else Nat.min (2 * (u.log2 - 4) + 1 + b2n (u.testBit (u.log2 - 1))) 31

/-- The upper bound of a bin, us. -/
def binUpper (b : Nat) : Nat :=
  if b = 0 then 16 else if b % 2 = 1 then 3 * 2 ^ (4 + (b - 1) / 2 - 1) else 2 ^ (4 + (b - 1) / 2 + 1)

/-- The least bin at which the running sum reaches 99 % of the total. -/
def b99Find (total : Nat) : List Nat → Nat → Nat → Nat
  | [], _, b => b
  | x :: r, acc, b => if 99 * total ≤ 100 * (acc + x) then b else b99Find total r (acc + x) (b + 1)
def Src.b99 (x : Src) : Nat := b99Find (sumN x.hist) x.hist 0 0
def Src.ready (x : Src) : Bool := decide (64 ≤ x.nframes)
def Src.p99 (x : Src) : Nat := binUpper x.b99
/-- The deadline in us after the sample time, where there is one (R119). -/
def Src.deadline (x : Src) : Option Nat := if x.ready ∧ x.b99 < 31 then some (x.p99 + x.margin) else none

/-- One delay in ns learnt (R119). -/
def Src.learn (d : Int) (x : Src) : Src :=
  let h := at' x.hist (delayBin (d.toNat / 1000)) (· + 1)
  { x with ewma := if x.nframes = 0 then d else x.ewma + (d - x.ewma).fdiv 64
           hist := if h.any (· == 255) then h.map (· / 2) else h
           nframes := Nat.min (x.nframes + 1) 65535, lastDly := d }

/-- The ephemeris as reset (R108, R127). -/
def Src.resetEph (x : Src) : Src := { x with ewma := 0, hist := List.replicate 32 0, nframes := 0, run := 0, stepped := false }

/-! ## TIME_SUSPECT (R121) -/

/-- TIME_SUSPECT set or cleared: counted, latched, offered to the rule engine. -/
def State.setSuspect (i : Nat) (on : Bool) (s : State) : State :=
  let x := s.srcSt i
  if x.suspect = on then s.mapSrcSt i (fun x => { x with good := 0 })
  else
    let s1 := (s.mapSrcSt i (fun x => (x.count cSusp))).mapSrcSt i (fun x => { x with suspect := on, good := 0 })
    let s2 := if on then (s1.latchN 0x020004 2).bumpN 0x020080 1 else s1.latchN 0x020004 3
    s2.offerState 6 i on (s2.ing.srcs.any Src.suspect) 0 0 x.lastKey

/-! ## Lookup and sizes (R105, R110) -/

/-- Source address words of an entry: IPv4 or IPv6 as one number. -/
def srcAddr (t : WMap) (i : Nat) : Nat :=
  if srcProto t i = 1 then (srcW t i 5).toNat else beNat (bytesOf [srcW t i 2, srcW t i 3, srcW t i 4, srcW t i 5])

/-- The entry that a frame's port, protocol version, address, IDCODE and UDP port name (R110 step 5). -/
def State.lookup (c : Cand) (idcode : Nat) (s : State) : Option Nat :=
  let t := s.srcT
  (validSources t).find? (fun i => srcProto t i == (if c.v6 then 2 else 1) && (srcPorts t i).testBit c.port && srcIdcode t i == idcode &&
    srcAddr t i == c.srcIp && (bits (srcW t i 1) 31 16 == 0 || bits (srcW t i 1) 31 16 == c.dport))

/-- Bytes of a channel of a kind in a format (R114; IEEE C37.118.2). -/
def chanBytes (fmt kind : Nat) : Nat :=
  match kind with
  | 0 => if fmt.testBit 1 then 8 else 4
  | 1 | 2 => if fmt.testBit 3 then 4 else 2
  | 3 => if fmt.testBit 2 then 4 else 2
  | _ => 2

/-- Bytes of one PMU block, its STAT included. -/
def blockBytes (t : WMap) (i : Nat) : Nat := 2 + sumN ((srcKinds t i).map (chanBytes (srcFormat t i)))

/-- The blocks of a frame: the entry and its continuation entries (R105). -/
def chainOf (t : WMap) (i : Nat) : List Nat := (List.range (srcNblk t i)).map (fun k => i + k)

/-! ## Sample time (R111) -/

/-- TAI less UTC for a frame: within 60 s of the leap instant the frame's own leap-occurred bit decides. The 60 s are measured from the frame's
own SOC with the present offset, not from its arrival (DEDUCED, log 156). -/
def State.frameUtc (soc : Nat) (occurred : Bool) (s : State) : Int :=
  let t := s.tim
  let near := decide (((soc : Int) + t.utc - t.leapInst).natAbs ≤ 60) && decide (0 < t.leapInst)
  let flagged := t.leap61 || t.leap59
  if !near then t.utc
  else if flagged then (if occurred then t.utc + (if t.leap59 && !t.leap61 then -1 else 1) else t.utc)
  else if occurred then t.utc else t.utcBefore

/-- The key of a frame, and whether FRACSEC lies on the reporting grid. -/
def gridKey (rate tb frac : Nat) (sec : Nat) : Option Nat :=
  let k := if tb = 0 then 0 else (2 * frac * rate + tb) / (2 * tb)
  if k < rate ∧ tb ≠ 0 ∧ 2000000 * ((frac * rate : Nat) - (k * tb : Nat) : Int).natAbs ≤ 1000000 * rate + 2 * rate * tb
  then some (sec * rate + k) else none

/-! ## Lane words (R112, R114) -/

/-- A rational held at the largest 32-bit signed value (R114). -/
def sat32 (i : Int) : Word := wInt (satI 32 i)

/-- The magnitude code against the nominal magnitude; where R114 gives none, the free one (log 46). -/
def magCode (free : Nat) (m nom : Rat) : Nat :=
  if nom = 0 ∨ m / nom < 0 then free else Nat.min (roundAway (m / (2 * nom) * 65535)).toNat 0xFFFF

/-- A PHASOR lane word from a magnitude, the nominal magnitude and an angle in radians (units of 2^-64). -/
def phasorWord (m nom : Rat) (th : Int) : Word := w32 (magCode (bits (Config.laneOpen 0 0 0) 15 0) m nom * 65536 + turn16 th)

/-- A square root of a rational of denominator at most 2^298, as the squares of binary32 values are, as a rational of denominator 2^213. -/
def sqrtRat (r : Rat) : Rat := if r ≤ 0 then 0 else mkRat (isqrt ((r.num.toNat * 2 ^ 426) / r.den) : Nat) (2 ^ 213)

/-- The angle of the point of two binary32 values, both held exactly in units of 2^-149. -/
def atan2Q (im re : Rat) : Int := atan2F (im * (2 ^ 149 : Nat)).num (re * (2 ^ 149 : Nat)).num

/-- The field of a channel is marked missing, whatever its scale: an integer field of 0x8000, or a float NaN (R114). -/
def laneMissing (kind fmt : Nat) (f : List Byte) : Bool :=
  let bad := fun (o : Nat) => fieldAt o 2 f == 0x8000
  let nan := fun (o : Nat) => f32nan (w32 (fieldAt o 4 f))
  match kind with
  | 0 => if fmt.testBit 1 then nan 0 || nan 4 else if fmt.testBit 0 then bad 2 else bad 0 || bad 2
  | 1 | 2 => if fmt.testBit 3 then nan 0 else bad 0
  | 3 => if fmt.testBit 2 then nan 0 else bad 0
  | _ => false

/-- The magnitude of a phasor's fields and its angle in radians (units of 2^-64), each where the fields give it. -/
def phasorParts (fmt : Nat) (f : List Byte) : Option Rat × Option Int :=
  let i16 := fun o => sext 16 (fieldAt o 2 f)
  let a := w32 (fieldAt 0 4 f)
  let b := w32 (fieldAt 4 4 f)
  if fmt.testBit 1 then
    if fmt.testBit 0 then (if f32nan a then none else some (f32x a), if f32finite b then some (ratF (f32q b)) else none)
    else if f32nan a || f32nan b then (none, none)
    else (some (sqrtRat (f32x a * f32x a + f32x b * f32x b)), if f32finite a || f32finite b then some (atan2Q (f32x b) (f32x a)) else none)
  else if fmt.testBit 0 then (some (fieldAt 0 2 f : Nat), some (ratF (mkRat (i16 2) 10000)))
  else (some (sqrtRat ((i16 0 * i16 0 + i16 2 * i16 2 : Int) : Rat)), some (atan2F (i16 2) (i16 0)))

/-- A stored channel's lane word (R114); the part that the conversion gives no value is free, a PHASOR's magnitude and angle apart (log 46). -/
def laneWord (kind fmt : Nat) (f : List Byte) (w0 w1 : Word) (f50 : Bool) : Word :=
  let sc := f32q w0
  let nom := f32q w1
  let scaled := f32finite w0 && f32finite w1
  let i16 := fun o => sext 16 (fieldAt o 2 f)
  let fl := fun o => w32 (fieldAt o 4 f)
  let free := Config.laneOpen kind (fl 0) (fl 4)
  match kind with
  | 0 =>
    let (m, th) := phasorParts fmt f
    let fm := bits free 31 16
    let endless := fmt.testBit 1 && !(f32finite (fl 0) && (fmt.testBit 0 || f32finite (fl 4)))
    let mag := match m with
      | some m => if scaled && !(endless && decide (sc = 0)) then magCode fm (m * sc) nom else fm
      | none => fm
    w32 (mag * 65536 + (th.map turn16).getD (bits free 15 0))
  | 1 =>
    if fmt.testBit 3 then (if f32nan (fl 0) then Config.laneOpen 1 (fl 0) 0 else sat32 (roundAway ((f32x (fl 0) - (if f50 then 50 else 60)) * 1000000)))
    else sat32 (i16 0 * 1000)
  | 2 =>
    if fmt.testBit 3 then (if f32nan (fl 0) then Config.laneOpen 2 (fl 0) 0 else sat32 (roundAway (f32x (fl 0) * 1000000)))
    else sat32 (i16 0 * 10000)
  | 3 =>
    if !scaled then free
    else if fmt.testBit 2 then
      (if f32nan (fl 0) || (!f32finite (fl 0) && decide (sc = 0)) then Config.laneOpen 3 (fl 0) 0 else f32of (f32x (fl 0) * sc + nom))
    else f32of ((i16 0 : Rat) * sc + nom)
  | _ => w32 (fieldAt 0 2 f * 65536 + bits w0 15 0)

/-- Q from STAT and the FRACSEC time-quality code (R112). -/
def statQ (w9 : Word) (stat : Nat) (fracsec : Word) : Bool :=
  let unl := bits w9 3 2
  let tq := bits w9 6 4
  decide (stat / 2 ^ 14 ≠ 0) || stat.testBit 13 || stat.testBit 12 || (stat.testBit 9 && bit w9 1) ||
    (tq != 0 && decide (tq ≤ stat / 64 % 8)) || (unl != 0 && decide (unl ≤ stat / 16 % 4)) || bits fracsec 27 24 == 15

/-- The lanes of a block from its channels on, by channel; a skipped channel has none and reads V = 0 (R106). -/
def laneList (t : WMap) (i : Nat) (q : Bool) : List Nat → List Byte → List Lane
  | [], _ => []
  | c :: cs, bs =>
    let d := chDescr t i c
    let n := chanBytes (srcFormat t i) (descrKind d)
    let w := laneWord (descrKind d) (srcFormat t i) (bs.take n) (scaleW t (descrScale d) 0) (scaleW t (descrScale d) 1) (src50 t i)
    let miss := laneMissing (descrKind d) (srcFormat t i) (bs.take n)
    (if descrSkip d then (0, 0) else (w, (if q then flagQ else 0) ||| (if miss then 0 else flagV))) :: laneList t i q cs (bs.drop n)

/-- The PMU blocks of a frame from an offset: STAT word and block. -/
def parseBlocks (t : WMap) (fracsec : Word) : List Nat → List Byte → List (Nat × Blk)
  | [], _ => []
  | i :: r, bs =>
    let stat := fieldAt 0 2 bs
    let q := statQ (srcW t i 9) stat fracsec
    (stat, { src := i, lanes := laneList t i q (List.range (srcNchan t i)) (bs.drop 2), chs := storedChans t i,
             ent := (List.range 16).map (fun k => srcW t i k) }) :: parseBlocks t fracsec r (bs.drop (blockBytes t i))

/-! ## Watch entries (R116, R117) -/

/-- What one evaluation of a watch entry finds. -/
def State.evalWatch (e : Nat) (b : Blk) (stat : Nat) (susp : Bool) (s : State) : Eval :=
  let w0 := s.watchW e 0
  let input := bits w0 30 28
  let ch := bits w0 25 16
  let cmp := bits (s.watchW e 6) 1 0
  let qg := outQgate (s.watchW e 5)
  let lane := fun c => nth (0, 0) b.lanes c
  let skip := fun c => !laneV (lane c) || (qg && (laneQ (lane c) || susp))
  let t1 := s.watchW e 1
  let t2 := s.watchW e 2
  match input with
  | 5 =>
    let c := decide ((w32 stat ^^^ t2) &&& t1 ≠ 0)
    .found c (!c) (w32 stat)
  | 6 =>
    if skip ch || skip (ch + 1) || skip (ch + 2) then .skip
    else
      let th := fun c => bits (lane c).1 15 0
      let off := fun a b => decide (t1.toNat < (((65536 + th a - th b) % 65536 : Nat) - 21845 : Int).natAbs)
      let mags := (List.range 3).all (fun k => decide (t2.toNat ≤ bits (lane (ch + k)).1 31 16))
      let c := mags && (off ch (ch + 1) || off (ch + 1) (ch + 2))
      .found c (!c) (lane ch).1
  | 7 => .skip
  | _ =>
    if skip ch then .skip
    else
      let kind := match input with | 0 => 1 | 1 => 2 | 2 => 0 | 3 => 3 | _ => 4
      let r := laneTest kind cmp (lane ch).1 t1 t2 (s.watchW e 3)
      .found r.1 r.2 (lane ch).1

/-- A watch entry after one evaluation on a frame of a sample time and key, and the state of its change if it has one. -/
def WatchSt.step (dwell sample key : Nat) (e : Eval) (w : WatchSt) : WatchSt × Option Nat :=
  match e with
  | .skip => ({ w with skipped := true }, none)
  | .found cond clear v =>
    let w := { w with skipped := false, value := v }
    if w.active then
      if clear then ({ w with active := false, since := none, key := key, clrs := sat 32 (w.clrs + 1) }, some 2) else (w, none)
    else if !cond then ({ w with since := none }, none)
    else
      let t0 := w.since.getD sample
      if dwell ≤ sample - t0 then ({ w with active := true, since := none, key := key, sets := sat 32 (w.sets + 1) }, some 1)
      else ({ w with since := some t0 }, none)

/-- The alarm change of a watch entry (R242, R249). -/
def State.watchChange (e state : Nat) (value : Word) (evid : Nat) (s : State) : Change :=
  let w0 := s.watchW e 0
  { state := state, rule := false, idx := e, cls := s.watchClass e, out := s.watchW e 5, srca := bits w0 15 0,
    chan := bits w0 25 16, value := value, aux := 0, evid := evid }

/-- The watch entries of a block's source on a frame later than the last one evaluated (R116). -/
def State.runWatches (key sample : Nat) (stat : Nat) (b : Blk) (s : State) : State :=
  let x := s.srcSt b.src
  if (match x.watched with | some t => decide (sample ≤ t) | none => false) then s.bumpN 0x020074 1
  else
    let s1 := s.mapSrcSt b.src (fun x => { x with watched := some sample })
    let t := s1.srcT
    let es := ((List.range (srcWatchCnt t b.src)).map (fun k => srcWatchBase t b.src + k)).filter (fun e =>
      bit (s1.watchW e 0) 31 && bits (s1.watchW e 0) 15 0 == b.src)
    let r := es.foldl (fun (acc : State × List Change) e =>
      let (w, ch) := (acc.1.watchSt e).step (acc.1.watchW e 4).toNat sample key (acc.1.evalWatch e b stat x.suspect)
      let s2 := acc.1.putWatch w
      match ch with
      | some k => (if k = 1 then s2.srcCount b.src cWact else s2, acc.2 ++ [s2.watchChange e k w.value sample])
      | none => (s2, acc.2)) (s1, [])
    r.1.changes r.2

/-- Watch entries cleared outright with the outputs of a clearing, their dwell restarted (R116). -/
def State.clearWatches (ids : List Nat) (s : State) : State :=
  let chs := (ids.filter (fun e => (s.watchSt e).active)).map (fun e => s.watchChange e 2 (s.watchSt e).value s.tim.now)
  let s1 := ids.foldl (fun s e =>
    let w := s.watchSt e
    s.putWatch { w with active := false, since := none, skipped := false, clrs := if w.active then sat 32 (w.clrs + 1) else w.clrs }) s
  s1.changes chs

/-! ## The ingest queue (R118) -/

/-- A frame enters the ingest queue, or is dropped whole. -/
def State.pushItem (it : Item) (s : State) : State :=
  let q := s.ing.q
  let s1 := { s with ing := { s.ing with q := q.push it 1 } }
  let s2 := s1.corMax .nucleus 0x02000C s1.ing.q.used
  if q.fits 1 then s2
  else
    let n := sumN (it.blocks.map Blk.chs)
    let s3 := ((s2.ingCount 0x02006C 0 1).ingCount 0x020070 1 n).latchN 0x020004 0
    ((it.blocks.foldl (fun s b => s.srcCount b.src cBdrop) s3).stageAdd 0x0070 0 66 1).evQueue 2

/-! ## Command frames of C37 streams (R256) -/

/-- The enabled C37 stream with cmd_en that a command frame is sent to. -/
def State.cmdStream (c : Cand) (idcode : Nat) (s : State) : Option Nat :=
  (List.range 64).find? (fun i =>
    let e := s.egrCfg i
    egrEn e && egrKind e == 1 && bit e 10 && egrPort e == c.port && bits (s.hdrRec i 7) 31 16 == c.dport &&
      bit (cfgW (s.bank 7).active i 0) 31 && bits (cfgW (s.bank 7).active i 0) 15 0 == idcode)

/-- FRACSEC of an instant for a TIME_BASE: time-quality byte, then the fraction (R76, R254). -/
def State.fracsecNow (tb : Nat) (s : State) : Nat := s.tqByte.toNat * 2 ^ 24 + s.nsec * tb / 1000000000 % 2 ^ 24

/-- Image bytes of stream i: CFG-2 or CFG-3 (R253). -/
def State.cfgImage (i : Nat) (three : Bool) (s : State) : List Byte :=
  let t := (s.bank 7).active
  let n := if three then bits (cfgW t i 3) 31 16 else bits (cfgW t i 3) 15 0
  (bytesOf ((List.range ((n + 3) / 4)).map (fun k => cfgW t i ((if three then 0xC00 else 0x800) + k)))).take n

/-- An image with SOC, FRACSEC and CHK of the moment (R256). -/
def State.stampImage (i : Nat) (img : List Byte) (s : State) : List Byte :=
  let b := patch 10 (beBytes 4 (s.fracsecNow (bits (cfgW (s.bank 7).active i 1) 23 0))) (patch 6 (beBytes 4 (s.soc s.sec)) img)
  let body := b.take (b.length - 2)
  body ++ beBytes 2 (crcCcitt body)

/-- Bytes of a frame handed to a port to send on a priority. -/
def State.pushFwKind (p pri : Nat) (bs : List Byte) (k : FwKind) (s : State) : State :=
  { s with prt := at' s.prt p (fun x => { x with fw := x.fw ++ [{ pri := pri, bytes := bs, kind := k }] }) }
abbrev State.pushFw (p pri : Nat) (bs : List Byte) (s : State) : State := s.pushFwKind p pri bs .plain

/-- An image is sent to a command's source (R256), at most 10 a second. -/
def State.sendImage (i : Nat) (c : Cand) (img : List Byte) (s : State) : State :=
  if img.isEmpty then s.bumpN 0x078050 1
  else if 10 ≤ (s.stream i).cmds then s.bumpN 0x078054 1
  else
    let w8 := s.hdrRec i 8
    let f := udpFrame c.srcMac (s.mac c.port) (s.streamVlan i) c.v6 (if c.v6 then s.src6 c.port else s.ip4 c.port) c.srcIp
      c.dport c.sport (bits w8 7 0) (bits w8 13 8) (s.stampImage i img)
    let s1 := s.mapStream i (fun x => { x with cmds := x.cmds + 1 })
    if s.maxlen c.port < f.length + 4 then (s1.bumpN 0x078040 1).latchN 0x078000 1 else s1.pushFwKind c.port (egrPri (s.egrCfg i)) f .relayed

/-- A diverted command frame (R256). -/
def State.commandFrame (i : Nat) (c : Cand) (s : State) : State :=
  let p := c.payload
  let n := p.length
  if n < 18 ∨ fieldAt 2 2 p ≠ n ∨ crcCcitt (p.take (n - 2)) ≠ fieldAt (n - 2) 2 p then (s.bumpN 0x07804C 1).latchN 0x078000 4
  else
    let s1 := (s.bumpN 0x078048 1).latchN 0x078000 3
    match fieldAt 14 2 p with
    | 1 => s1.mapStream i (fun x => { x with on := false })
    | 2 => s1.mapStream i (fun x => { x with on := true })
    | 4 =>
      let img := s.cfgImage i false
      s1.sendImage i c (patch 1 [((nth 0 img 1) &&& 0x8F) ||| 0x20] img |>.take img.length)
    | 5 => s1.sendImage i c (s.cfgImage i false)
    | 6 => s1.sendImage i c (s.cfgImage i true)
    | _ => s1.bumpN 0x078050 1

/-! ## C37_FRAME_PARSE (R110) -/

/-- Steps 6 to 8 of R110 and stage 3, for a frame whose entry is i. Of a frame of several blocks the counts of step 6, and SRC_TRUNC of step 1,
name the entry that the IDCODE matches, those of steps 7 and 8 every entry of its chain (DESIGN CHOICE, log 157). -/
def State.parseFrame (i : Nat) (c : Cand) (s : State) : State :=
  let t := s.srcT
  let p := c.payload
  let chain := chainOf t i
  let rate := srcRate t i
  let fs := w32 (fieldAt 10 4 p)
  let sec := ((fieldAt 6 4 p : Int) + s.frameUtc (fieldAt 6 4 p) (bit fs 29)).toNat
  if fieldAt 2 2 p ≠ 16 + sumN (chain.map (blockBytes t)) then (s.ingCount 0x020060 3 1).srcCount i cFmterr
  else match gridKey rate (srcTimeBase t i) (bits fs 23 0) sec with
  | none => chain.foldl (fun s j => s.srcCount j cOffgrid) s
  | some n =>
    if keyAt rate c.arrival + 16 ≤ n then
      chain.foldl (fun s j => ((s.srcCount j cEarly).stageAdd 0x0060 0 6 1).setSuspect j true) s
    else
      let bl := parseBlocks t fs chain (p.drop 14)
      let s1 := s.bumpN (0x020050 + 4 * c.port) 1
      let s2 := bl.foldl (fun s b =>
        let s' := s.srcCount b.2.src cFrames
        let s' := if b.1.testBit 10 then (s'.srcCount b.2.src cCfgchg).latchN 0x020004 1 else s'
        s'.runWatches n (keyNs rate n) b.1 b.2) s1
      s2.pushItem { port := c.port, key := n, sample := keyNs rate n, arrival := c.arrival, blocks := bl.map (·.2) }

/-- A candidate frame checked (R110). -/
def State.parseCand (c : Cand) (s : State) : State :=
  let p := c.payload
  let b1 := (nth 0 p 1).toNat
  if !bit (s.rwN 0x020000) 0 then s.ingCount 0x020060 3 1
  else if c.trunc then
    let s1 := (s.ingCount 0x020068 2 1).latchN 0x020004 5
    match s.lookup c (fieldAt 4 2 p) with
    | some i => if 6 ≤ p.length then s1.srcCount i cTrunc else s1
    | none => s1
  else if nth 0 p 0 = 0xAA ∧ b1 / 16 % 8 = 4 ∧ (s.cmdStream c (fieldAt 4 2 p)).isSome then
    s.commandFrame ((s.cmdStream c (fieldAt 4 2 p)).getD 0) c
  else if nth 0 p 0 ≠ 0xAA ∨ b1 / 16 % 8 ≠ 0 ∨ ¬ (b1 % 16 = 1 ∨ b1 % 16 = 2) ∨ p.length < 16 then s.ingCount 0x020060 3 1
  else if fieldAt 2 2 p ≠ p.length then s.ingCount 0x020060 3 1
  else if crcCcitt (p.take (p.length - 2)) ≠ fieldAt (p.length - 2) 2 p then s.ingCount 0x020064 4 1
  else match s.lookup c (fieldAt 4 2 p) with
  | none => s.bumpN (0x020040 + 4 * c.port) 1
  | some i => s.parseFrame i c

/-- The staging memory of a frame is freed (R89). -/
def State.unstage (p pri n : Nat) (s : State) : State :=
  { s with prt := at' s.prt p (fun x => { x with occ := at' x.occ pri (fun k => k - n) }) }

/-- C37_FRAME_PARSE: the oldest candidate. -/
def doC37Parse (s : State) : State :=
  match s.ing.cands with
  | [] => s
  | c :: r => State.parseCand c ({ s with ing := { s.ing with cands := r } }.unstage c.port c.pri c.len)

/-! ## Stage 4 (R119-R122) -/

/-- The peers of a source on a port and route that stored a frame in the last second, and how many are stepped (R120). -/
def State.peers (i port route : Nat) (s : State) : List Src :=
  s.ing.srcs.filter (fun x => x.id != i && x.stored && x.lastPort == port && x.route == route && decide (s.tim.now ≤ x.lastStored + 1000000000))

/-- Lateness, step and future tests against the ephemeris before the item, then its update (R119-R121). -/
def State.stage4 (i port : Nat) (d : Int) (ent : List Word) (s : State) : State :=
  let w8 := nth 0 ent 8
  let x := s.srcSt i
  let thr := bits w8 31 16
  let stepped := x.ready && thr != 0 && decide ((thr * 1000 : Int) < (d - x.ewma).natAbs)
  let late := match x.deadline with | some dl => decide ((dl * 1000 : Int) < d) | none => false
  let fut := decide (d < -((bits (s.rwN 0x020000) 11 4 * 1000 : Nat) : Int))
  let run := if stepped then x.run + 1 else 0
  let x1 := { (x.learn d) with stepped := stepped, run := if run = 4 then 0 else run, route := bits (nth 0 ent 11) 11 0, margin := bits w8 15 0 }
  let s1 := (s.putSrc (if late then x1.count cLate else x1)).stageAdd 0x0050 0 (delayBin (d.toNat / 1000)) 1
  let s2 :=
    if run = 4 then
      let ps := s1.peers i port x1.route
      let st := (ps.filter Src.stepped).length
      let ro := s.rwN 0x020014
      if bits ro 11 8 ≤ ps.length ∧ bits ro 7 0 * ps.length ≤ st * 256 then
        ((s1.mapSrcSt i (fun x => ({ x with ewma := d, hist := List.replicate 32 0, nframes := 0 }).count cRoute)).bumpN 0x020084 1).latchN 0x020004 4
      else (s1.mapSrcSt i (fun x => { x with ewma := d })).setSuspect i true
    else s1
  if fut then s2.setSuspect i true else s2

/-- A TIME-class pair of the source in breach keeps TIME_SUSPECT while PHX_CTL.time_susp = 1 (R183). -/
def State.suspHeld (i : Nat) (s : State) : Bool :=
  bit (s.rwN 0x040000) 2 && s.phx.pairs.any (fun p => p.breach && p.timeCls && bits (pairW (s.bank 9).active p.id 0) 15 0 == i)

/-- TIME_SUSPECT clears after ING_SUSP.clr consecutive good stored frames (R121). -/
def State.goodFrame (i : Nat) (fut : Bool) (s : State) : State :=
  let x := s.srcSt i
  if !x.suspect then s
  else if x.stepped || fut then s.mapSrcSt i (fun x => { x with good := 0 })
  else if bits (s.rwN 0x020010) 15 0 ≤ x.good + 1 ∧ s.suspHeld i = false then s.setSuspect i false
  else s.mapSrcSt i (fun x => { x with good := x.good + 1 })

/-- SRC_STAT to SRC counters as the window shows them (R127). R127 gives no value where one does not fit or is not there: SRC_EWMA wraps at 32
bits, SRC_LASTDLY is held at them, SRC_P99 reads 0 at b99 = 31 and SRC_DEADLINE 0 without a deadline (DESIGN CHOICE, log 137). -/
def State.srcWindow (i : Nat) (s : State) : List Word :=
  let x := s.srcSt i
  let v := srcValid s.srcT i
  [w32 (b2n v + 2 * b2n x.suspect + 4 * b2n x.ready + 8 * b2n x.deadline.isNone + 16 * b2n x.stepped + 32 * x.b99 + 65536 * x.nframes),
    wInt x.ewma, w32 (if x.b99 < 31 then x.p99 else 0), w32 (x.deadline.getD 0), wInt (satI 32 x.lastDly), hiW x.lastKey, loW x.lastKey] ++
    (List.range 8).map (fun k => w32 (sumN ((List.range 4).map (fun j => nth 0 x.hist (4 * k + j) * 256 ^ j)))) ++ x.cnt.map w32

/-! ## The table's rows -/

/-- C37_FRAME_PARSE (R110). -/
def execC37FrameParse (s : State) : Host.Outcome State Fault Refusal :=
  .next (State.settled (whenUp .nucleus doC37Parse s))

end Sys2Proof.Machine
end

