-- ==== Sys2Proof/Machine/Phx.lean ====
section
/-! DEFINITION. Waveforms, phasor estimation and cross-checks (R113, R170-R187). Sums and angles are taken in units of 2^-64 (log 21);
the resampler's kernel and the window's end points are constants of Config (log 10). -/

namespace Sys2Proof.Machine

/-! ## Estimator sources (R170-R175) -/

/-- PHX_CTL.enable and the Nucleus in SERVICE: what every estimator needs (R172). -/
def State.phxOn (s : State) : Bool := bit (s.rwN 0x040000) 0 && s.nucUp


/-- Rate codes of R173: 0 4,800/s, 1 9,600, 2 2,400, 3 4,000, 4 14,400. -/
def State.waveCode (i : Nat) (s : State) : Nat :=
  if i = 0xFD00 then (match s.afePreset with | 0 => 1 | 1 => 0 | _ => 2)
  else match bits (srcW s.srcT i 7) 1 0 with | 0 => 3 | 1 => 0 | _ => 4

def codeRate (c : Nat) : Nat := nth 4800 [4800, 9600, 2400, 4000, 14400] c

/-- Input j serves output k where |a j - b k| is at most c: multipliers and half-length of the kernel, on the common grid (R173). -/
def codeGrid (c : Nat) : Nat × (Nat × Nat) :=
  match c with
  | 0 => (1, 1, 0)
  | 1 => (1, 2, 31)
  | 2 => (2, 1, 31)
  | 3 => (6, 5, 95)
  | _ => (1, 3, 47)

/-- Least and greatest input index in the kernel of output k. -/
def kernLo (c k : Nat) : Nat := let (a, b, n) := codeGrid c; (k * b - n + a - 1) / a
def kernHi (c k : Nat) : Nat := let (a, b, n) := codeGrid c; (k * b + n) / a

/-- Resampler latency L_rs and front-end latency L_fe, ns (R173, R157). -/
def rsLatency (c : Nat) : Nat := nth 0 [0, 3229167, 6458333, 3958333, 3263889] c

/-- Samples of frequency step (R175). -/
def stepH : Nat := 12

/-- W of a class, nominal frequency and rate (R175). -/
def windowW (m f50 : Bool) (rate : Nat) : Nat :=
  if f50 then
    (if !m then 192 else if rate = 10 then 960 else if rate = 25 then 384 else if rate = 50 then 288 else 192)
  else if !m then 160
  else if rate = 10 then 960 else if rate = 12 then 800 else if rate = 15 then 640 else if rate = 20 then 480
  else if rate = 30 then 320 else if rate = 60 then 240 else 160

def estClass (t : WMap) (i : Nat) : Bool := bit (srcW t i 13) 10
def estW (t : WMap) (i : Nat) : Nat := windowW (estClass t i) (src50 t i) (srcRate t i)
def estMask (t : WMap) (i : Nat) : Nat := bits (srcW t i 13) 7 0

/-- Window value at offset k, units of 2^-64 (R175). -/
def windowAt (m : Bool) (w : Nat) (k : Int) : Int :=
  let e := Config.windowEnd m % 2
  if m then (one64 + cosTurn ((k * one64).fdiv (w + 2 * e : Nat))) / 2
  else one64 - (k.natAbs * one64) / (w / 2 + e : Nat)

def windowList (m : Bool) (w : Nat) : List Int := (List.range (w + 1)).map (fun (j : Nat) => windowAt m w ((j : Int) - (w / 2 : Nat)))

/-! ## Estimators in State -/

def Est.fresh (i : Nat) : Est :=
  { id := i, running := false, ftrk := 0, waves := List.replicate 8 [], last := none, spans := [], done := none, rcs := [], lastKey := 0, from0 := 0,
    uNow := false, qNow := false, cnt := List.replicate 8 0 }
def State.est (i : Nat) (s : State) : Est := (findBy Est.id i s.phx.ests).getD (Est.fresh i)
def State.putEst (e : Est) (s : State) : State := { s with phx := { s.phx with ests := insertBy Est.id e s.phx.ests } }
def State.mapEst (i : Nat) (f : Est → Est) (s : State) : State := s.putEst (f (s.est i))

/-- A PHX counter: the common one and the source's own (R185, R186). -/
def State.phxCount (a k i n : Nat) (s : State) : State :=
  (s.bumpN a n).mapEst i (fun e => { e with cnt := at' e.cnt k (fun c => sat 32 (c + n)) })

/-- An estimator as it starts or restarts: no samples, f_trk at nominal, settled W + 2h samples on (R176, R178). -/
def State.estStart (i : Nat) (again : Bool) (s : State) : State :=
  s.mapEst i (fun e => { e with
    running := true, ftrk := 0, waves := List.replicate 8 [], last := none, spans := [], done := none, rcs := [], from0 := s.tim.now * 4800 / 1000000000 + 1,
    uNow := false, qNow := false, cnt := if again then at' e.cnt 6 (fun c => sat 32 (c + 1)) else e.cnt })

/-- Estimators run for the valid internal entries while R172 holds, and stop otherwise. -/
def State.phxSync (s : State) : State :=
  let want := if s.phxOn then (validSources s.srcT).filter isInternal else []
  let s1 := { s with phx := { s.phx with ests := s.phx.ests.map (fun e =>
    if e.running && !want.elem e.id then { e with running := false, waves := List.replicate 8 [], last := none, spans := [] } else e) } }
  want.foldl (fun s i => if (s.est i).running then s else s.estStart i (s.phx.ests.any (fun e => e.id == i))) s1

/-! ## Waveforms (R173) -/

/-- A sample kept: two seconds of each waveform hold every window. -/
def keepSamp (rate : Nat) (x : Samp) (l : List Samp) : List Samp :=
  insertBy Samp.idx x (l.filter (fun y => decide (x.idx < y.idx + 2 * rate)))

/-- A waveform's input sample reaches a running estimator. -/
def State.pushSamp (i wave : Nat) (x : Samp) (s : State) : State :=
  if (s.est i).running then s.mapEst i (fun e => { e with waves := at' e.waves wave (keepSamp (codeRate (s.waveCode i)) x) }) else s

/-- Output sample k on the 4,800/s grid of one waveform (R173). -/
def resample (code : Nat) (ws : List Samp) (k : Nat) : Samp :=
  let js := (List.range (kernHi code k + 1 - kernLo code k)).map (fun d => kernLo code k + d)
  let xs := js.map (fun j => findBy Samp.idx j ws)
  let vs := xs.map (fun x => match x with | some y => y.v | none => 0)
  { idx := k, arr := 0, v := if code = 0 then nth 0 vs 0 else Config.resampled code (k * codeRate code % 4800) vs,
    u := xs.any (fun x => match x with | some y => y.u | none => true),
    q := xs.any (fun x => match x with | some y => y.q | none => false) }

/-! ## The estimator (R176-R178) -/

def cxMul (a b : Cx) : Cx := (mulF a.1 b.1 - mulF a.2 b.2, mulF a.1 b.2 + mulF a.2 b.1)

/-- Sum of win[k] wave[k] exp(-j 2 pi f t): f in 2^-64 Hz, t = k / 4,800 less an offset in turns. -/
def dftSum (f off : Int) : Int → List Int → List Int → Cx
  | _, [], _ => (0, 0)
  | _, _, [] => (0, 0)
  | k, v :: vs, w :: ws =>
    let t := (f * k).fdiv 4800 - off
    cxAdd (mulF (w * v) (cosTurn t), -(mulF (w * v) (sinTurn t))) (dftSum f off (k + 1) vs ws)

/-- The rms phasor of a window at a shift d (R176). -/
def phasorOf (f off : Int) (win vals : List Int) (w : Nat) (d : Int) : Cx :=
  let x := dftSum f off (d - (w / 2 : Nat)) ((vals.drop (d + stepH).toNat).take (w + 1)) win
  let n := sumI win
  let r2 := sqrtF (2 * one64)
  (mulF r2 (divF x.1 n), mulF r2 (divF x.2 n))

/-- The positive sequence of three phasors (R176). -/
def posSeq (acb : Bool) (a b c : Cx) : Cx :=
  let h := sqrtF (3 * one64) / 2
  let op : Cx := (-(one64 / 2), if acb then -h else h)
  let x := cxAdd a (cxAdd (cxMul op b) (cxMul (cxMul op op) c))
  (x.1.fdiv 3, x.2.fdiv 3)

/-- What one epoch's computation gives. -/
structure EstOut where
  lanes : List Lane
  ftrk : Int
  rc : Int
  u : Bool
  q : Bool

/-- Primary units of one count of a waveform: volts at the balls for the front end, 10 mV and 1 mA of the data set (R154, R113). -/
def waveUnit (i wave : Nat) : Rat := if i = 0xFD00 then mkRat 1 (2 ^ 26) else if wave < 4 then mkRat 1 100 else mkRat 1 1000

/-- The estimated waveforms' output samples around T(n), from W/2 + h before to W/2 + h after; empty for a waveform left out. -/
def State.estWindow (i n : Nat) (s : State) : List (List Samp) :=
  let t := s.srcT
  let span := estW t i + 2 * stepH
  let k0 := n * 4800 / srcRate t i - (estW t i / 2 + stepH)
  (List.range 8).map (fun b => if (estMask t i).testBit b then
    (List.range (span + 1)).map (fun j => resample (s.waveCode i) (nth [] (s.est i).waves b) (k0 + j)) else [])

/-- The input indices of the window of epoch n. -/
def State.inputSpan (i n : Nat) (s : State) : Nat × Nat :=
  let t := s.srcT
  let m := n * 4800 / srcRate t i
  let r := estW t i / 2 + stepH
  (kernLo (s.waveCode i) (m - r), kernHi (s.waveCode i) (m + r))

/-- Half a modulator clock in turns of f: the fixed offset of R158 under BALANCED. -/
def halfClock (f : Int) : Int := f.fdiv 24576000

/-- The computation of R176 to R178 on epoch n of source i. -/
def State.estimate (i n : Nat) (s : State) : EstOut :=
  let t := s.srcT
  let e := s.est i
  let w13 := srcW t i 13
  let w := estW t i
  let f := (fNom t i : Nat) * one64 + e.ftrk
  let off := if i = 0xFD00 ∧ s.afePreset = 1 then halfClock f else 0
  let win := windowList (estClass t i) w
  let rows := s.estWindow i n
  let all := rows.flatten
  let u := all.any (fun x => x.u || decide (x.idx < e.from0 + w + 2 * stepH))
  let q := all.any Samp.q || (decide (s.tim.state = .fault) && bit (s.rwN 0x040000) 1)
  let ph := fun (d : Int) => rows.map (fun r => phasorOf f off win (r.map Samp.v) w d)
  let p0 := ph 0
  let g := fun (l : List Cx) b => nth (0, 0) l b
  let v1 := fun (l : List Cx) => posSeq (bit w13 11) (g l 0) (g l 1) (g l 2)
  let i1 := fun (l : List Cx) => posSeq (bit w13 11) (g l 4) (g l 5) (g l 6)
  let fr := bits w13 15 12
  let ref := fun (l : List Cx) => if fr = 0 then v1 l else g l (fr - 1)
  let am := cxArg (ref (ph (-stepH)))
  let a0 := cxArg (ref p0)
  let ap := cxArg (ref (ph stepH))
  let df := divF (wrapRad (ap - am)) (2 * pi64) * 200
  let rc := divF (wrapRad (ap - 2 * a0 + am)) (2 * pi64) * 160000
  let navg := Nat.max 1 (bits (srcW t i 14) 4 0)
  let rcs := (rc :: e.rcs).take navg
  let rocof := (sumI rcs).fdiv (Nat.max 1 rcs.length : Nat)
  let nomTurn := ((fNom t i * (n % srcRate t i) : Nat) * one64).fdiv (Nat.max 1 (srcRate t i) : Nat)
  let flags : BitVec 4 := flagV ||| (if q then flagQ else 0) ||| (if u then flagU else 0)
  let word := fun (c wave : Nat) (x : Cx) =>
    let k := descrScale (chDescr t i c)
    let m := mkRat (hypotF x.1 x.2) (2 ^ 64) * waveUnit i wave * f32q (scaleW t k 0)
    let th := wrapRad (cxArg x - turnRad nomTurn)
    phasorWord m (f32q (scaleW t k 1)) th
  let phs := ((List.range 8).filter (fun b => (estMask t i).testBit b)).map (fun b => (b, g p0 b)) ++
    (if bit w13 8 then [(0, v1 p0)] else []) ++ (if bit w13 9 then [(4, i1 p0)] else [])
  let words := phs.zipIdx.map (fun x => word x.2 x.1.1 x.1.2) ++
    [sat32 (roundAway (mkRat ((e.ftrk + df) * 1000000) (2 ^ 64))), sat32 (roundAway (mkRat (rocof * 1000000) (2 ^ 64)))]
  let lo : Int := -5 * one64
  let hi : Int := 5 * one64
  let nf := e.ftrk + df
  { lanes := words.zipIdx.map (fun x => if descrSkip (chDescr t i x.2) then (0, 0) else (x.1, flags)),
    ftrk := if nf < lo then lo else if hi < nf then hi else nf, rc := rc, u := u, q := q }

/-- Latency of R179 in ns, PHX_SVWAIT left out. -/
def State.estLatency (i : Nat) (s : State) : Nat :=
  (estW s.srcT i / 2 + stepH) * 1000000000 / 4800 + (if i = 0xFD00 then feLatency s.afePreset else 0) + rsLatency (s.waveCode i) + 10000

/-- The estimated waveforms of source i, as they stand. -/
def State.estWaves (i : Nat) (s : State) : List (List Samp) :=
  ((List.range 8).filter (fun b => (estMask s.srcT i).testBit b)).map (fun b => nth [] (s.est i).waves b)

/-- The first input index at or after the estimator's start. -/
def State.firstInput (i : Nat) (s : State) : Nat := ((s.est i).from0 * codeRate (s.waveCode i) + 4799) / 4800

/-- The input samples of the window of epoch n since the estimator's start, one list a waveform. -/
def State.windowInputs (i n : Nat) (s : State) : List (List (Option Samp)) :=
  let (lo, hi) := s.inputSpan i n
  let a := Nat.max lo (s.firstInput i)
  (s.estWaves i).map (fun ws => (List.range (hi + 1 - a)).map (fun d => findBy Samp.idx (a + d) ws))

/-- Every input sample of the window of epoch n has arrived, its resampler's kernel included (R174, DEDUCED, log 138). -/
def State.windowWhole (i n : Nat) (s : State) : Bool := (s.windowInputs i n).all (fun l => l.all Option.isSome)

/-- T(n) + (W/2 + h)/4,800 s + L_rs: the moment by which every sample on time has arrived; PHX_SVWAIT then runs (R174, R179). -/
def State.onTimeBy (i n : Nat) (s : State) : Nat :=
  keyNs (srcRate s.srcT i) n + (estW s.srcT i / 2 + stepH) * 1000000000 / 4800 + rsLatency (s.waveCode i)
def State.svWaitNs (s : State) : Nat := 1000 * bits (s.rwN 0x04000C) 15 0

/-- The epoch is computed now: its window is whole, be its samples' own clock ahead of TAI, or its samples are waited for no longer (R174). -/
def State.estimateDue (i n : Nat) (s : State) : Bool :=
  s.windowWhole i n || decide (s.onTimeBy i n + (if i = 0xFD00 then feLatency s.afePreset else s.svWaitNs) ≤ s.follower)

/-- The epoch's bound has passed: lat + 5 us, and PHX_SVWAIT more where a sampled value was not on time (R179). -/
def State.estimateLate (i n : Nat) (s : State) : Bool :=
  let onTime := s.windowWhole i n && ((s.windowInputs i n).all (fun l => l.all (fun x => match x with
    | some y => decide (y.arr ≤ s.onTimeBy i n)
    | none => false)))
  let wait := if i = 0xFD00 ∨ onTime = true then 0 else s.svWaitNs
  decide (keyNs (srcRate s.srcT i) n + s.estLatency i + wait + 5000 < s.follower)

/-- Sampled values that never came, from the last one looked for up to the window's end, counted (R174): those between windows too. -/
def State.countGaps (i n : Nat) (s : State) : State :=
  let e := s.est i
  let hi := (s.inputSpan i n).2
  let from_ := match e.last with | some x => x + 1 | none => s.firstInput i
  let ws := nth [] (s.estWaves i) 0
  let gaps := ((List.range (hi + 1 - from_)).filter (fun d => (findBy Samp.idx (from_ + d) ws).isNone)).length
  let s1 := s.mapEst i (fun e => { e with last := some (Nat.max hi (e.last.getD 0)), done := some n })
  if i ≠ 0xFD00 ∧ 0 < gaps then (s1.phxCount 0x04004C 3 i gaps).latchN 0x040008 3 else s1

/-- The computation's effects on the estimator, and its item's lanes; none where the window holds no input sample (R172). -/
def State.estimateEpoch (i n : Nat) (s : State) : Option (List Lane) × State :=
  let has := (s.windowInputs i n).any (fun l => l.any Option.isSome)
  let s0 := s.countGaps i n
  if !has then (none, s0)
  else
    let o := s.estimate i n
    let s1 := s0.mapEst i (fun e => { e with
      ftrk := o.ftrk, rcs := (o.rc :: e.rcs).take 16, lastKey := n, uNow := o.u, qNow := o.q, spans := (s.inputSpan i n :: e.spans).take 512 })
    let s2 := s1.phxCount 0x040040 0 i 1
    let s3 := if o.u then s2.phxCount 0x040044 1 i 1 else s2
    let s4 := if o.q then s3.phxCount 0x040048 2 i 1 else s3
    let s5 := if s.estimateLate i n then ((s4.phxCount 0x040058 7 i 1).latchN 0x040008 5).faultN 23 else s4
    (some o.lanes, s5)

/-! ## SV_ASDU_PARSE (R113, R174; the frame's layout is IEC 61850-9-2's, log 17) -/

/-- One tag, length, value of BER: tag, content, rest. -/
def berOne (bs : List Byte) : Option (Nat × (List Byte × List Byte)) :=
  match bs with
  | t :: l :: r =>
    let n := l.toNat
    let (len, o) := if n < 128 then (n, 0) else if n = 0x81 then (fieldAt 0 1 r, 1) else if n = 0x82 then (fieldAt 0 2 r, 2) else (65536, 0)
    if o + len ≤ r.length then some (t.toNat, ((r.drop o).take len, r.drop (o + len))) else none
  | _ => none

/-- Every element of a content, in order. -/
def berAll : Nat → List Byte → Option (List (Nat × List Byte))
  | _, [] => some []
  | 0, _ => none
  | k + 1, bs =>
    match berOne bs with
    | none => none
    | some (t, (c, r)) => (berAll k r).map (fun l => (t, c) :: l)
def berList (bs : List Byte) : Option (List (Nat × List Byte)) := berAll bs.length bs
def berGet (t : Nat) (l : List (Nat × List Byte)) : Option (List Byte) := (l.find? (fun e => e.1 == t)).map (fun e => e.2)

/-- An ASDU's fields. -/
structure Asdu where
  svid : List Byte
  smp : Nat
  conf : Nat
  synch : Nat
  data : List Byte

def asduOf (bs : List Byte) : Option Asdu :=
  match berList bs with
  | none => none
  | some l =>
    match berGet 0x80 l, berGet 0x82 l, berGet 0x83 l, berGet 0x85 l, berGet 0x87 l with
    | some id, some sm, some cf, some sy, some d =>
      if sm.length = 2 ∧ cf.length = 4 ∧ sy.length = 1 ∧ d.length = 64 then
        some { svid := id, smp := beNat sm, conf := beNat cf, synch := beNat sy, data := d }
      else none
    | _, _, _, _, _ => none

/-- The ASDUs of a frame after its EtherType: APPID, Length, two reserved fields, savPdu. -/
def asdusOf (p : List Byte) : Option (List Asdu) :=
  match berOne (p.drop 8) with
  | some (0x60, (c, _)) =>
    match berList c with
    | some l =>
      match berGet 0xA2 l with
      | some sq =>
        match berList sq with
        | some as => (as.mapM (fun e => if e.1 = 0x30 then asduOf e.2 else none))
        | none => none
      | none => none
    | none => none
  | _ => none

/-- The proto 4 entry of an ASDU (R113). -/
def State.svLookup (c : Cand) (svid : List Byte) (s : State) : Option Nat :=
  let t := s.srcT
  (validSources t).find? (fun i => srcProto t i == 4 && (srcPorts t i).testBit c.port && srcIdcode t i == fieldAt 0 2 c.payload &&
    bits (srcW t i 2) 15 0 * 2 ^ 32 + (srcW t i 3).toNat == c.mac && srcW t i 4 == crc32c svid && bits (srcW t i 5) 7 0 == svid.length)

/-- The index from TAI 0 of sample smp: in (arrival - 0.75 s, arrival + 0.25 s] (R113). -/
def svIndex (rate smp arrival : Nat) : Nat :=
  let lim := arrival + 250000000
  let s := if lim < smp * 1000000000 / rate then 0 else (lim - (smp * 1000000000 + rate - 1) / rate) / 1000000000
  s * rate + smp

/-- The flag of one value: validity, source, test, operatorBlocked, and the ASDU's synchronism. -/
def svFlag (q : Word) (synch : Nat) : Bool := decide (bits q 1 0 ≠ 0) || bit q 10 || bit q 11 || bit q 12 || decide (synch ≠ 2)

/-- One ASDU of source i. SRC_FRAMES of a proto 4 source counts it, as it does each epoch's item: R127 does not say which of the two are the
source's frames (DESIGN CHOICE, log 26). -/
def State.svAsdu (i : Nat) (c : Cand) (a : Asdu) (s : State) : State :=
  let t := s.srcT
  let rate := codeRate (s.waveCode i)
  if (srcW t i 12).toNat ≠ a.conf ∨ rate ≤ a.smp then s.srcCount i cFmterr
  else
    let idx := svIndex rate a.smp c.arrival
    let e := s.est i
    if e.running && e.waves.any (fun ws => (findBy Samp.idx idx ws).isSome) then s.phxCount 0x040050 4 i 1
    else
      let d : Int := (c.arrival : Int) - keyNs rate idx
      let s1 := ((s.srcCount i cFrames).mapSrcSt i (fun x => { x with lastPort := c.port })).stage4 i c.port d ((List.range 16).map (fun k => srcW t i k))
      let s2 := (List.range 8).foldl (fun s j =>
        let v := sext 32 (fieldAt (8 * j) 4 a.data)
        let q := svFlag (w32 (fieldAt (8 * j + 4) 4 a.data)) a.synch
        s.pushSamp i ((j + 4) % 8) { idx := idx, arr := c.arrival, v := v, u := false, q := q }) s1
      if e.running && e.spans.any (fun x => decide (x.1 ≤ idx) && decide (idx ≤ x.2)) then (s2.phxCount 0x040054 5 i 1).latchN 0x040008 4 else s2

/-- The proto 4 entry that a truncated frame's header alone identifies: the one entry of its port, MAC and APPID (R84). -/
def State.svByHeader (c : Cand) (s : State) : Option Nat :=
  let t := s.srcT
  match (validSources t).filter (fun i => srcProto t i == 4 && (srcPorts t i).testBit c.port && decide (2 ≤ c.payload.length) &&
    srcIdcode t i == fieldAt 0 2 c.payload && bits (srcW t i 2) 15 0 * 2 ^ 32 + (srcW t i 3).toNat == c.mac) with
  | [i] => some i
  | _ => none

/-- One sampled-value frame. ING_SVERR counts a frame that is none, and an ASDU that matches no entry: DESIGN CHOICE, log 26. -/
def State.parseSv (c : Cand) (s : State) : State :=
  if !bit (s.rwN 0x020000) 0 then s.ingCount 0x020060 3 1
  else if c.trunc then
    let s1 := (s.ingCount 0x020068 2 1).latchN 0x020004 5
    match s.svByHeader c with
    | some i => s1.srcCount i cTrunc
    | none => s1
  else match asdusOf c.payload with
  | none => s.bumpN 0x02007C 1
  | some as => as.foldl (fun s a => match s.svLookup c a.svid with
    | some i => s.svAsdu i c a
    | none => s.bumpN 0x02007C 1) s

/-- SV_ASDU_PARSE: the oldest sampled-value frame. -/
def doSvParse (s : State) : State :=
  match s.ing.svs with
  | [] => s
  | c :: r => State.parseSv c ({ s with ing := { s.ing with svs := r } }.unstage c.port c.pri c.len)

/-! ## Cross-checks (R181-R183) -/

def Pair.fresh (p : Nat) : Pair :=
  { id := p, breach := false, timeCls := false, dwell := 0, skipped := false, tve := 0, dang := 0, dt := 0, df := 0, maxTve := 0,
    key := 0, cnt := [0, 0, 0, 0] }
def State.pairSt (p : Nat) (s : State) : Pair := (findBy Pair.id p s.phx.pairs).getD (Pair.fresh p)
def State.putPair (x : Pair) (s : State) : State := { s with phx := { s.phx with pairs := insertBy Pair.id x s.phx.pairs } }
def Pair.count (k : Nat) (x : Pair) : Pair := { x with cnt := at' x.cnt k (fun n => sat 32 (n + 1)) }


/-- What one evaluation finds: breach, below 90 %, TIME, and the pair with its figures. mag_est = 0 leaves r open: a free value (log 12). -/
def State.evalPair (p key : Nat) (a b : Lane) (s : State) : Bool × (Bool × (Bool × Pair)) :=
  let t9 := (s.bank 9).active
  let t := s.srcT
  let w0 := pairW t9 p 0
  let w1 := pairW t9 p 1
  let thr := bits (pairW t9 p 2) 15 0
  let x := s.pairSt p
  if bits w0 30 28 = 0 then
    let me := laneMag t (bits w1 15 0) (bits w1 25 16) b.1
    let r := if me = 0 then ratF (mkRat (Config.freeNat s.free) 65536) else ratF (laneMag t (bits w0 15 0) (bits w0 25 16) a.1 / me)
    let dq := sext 16 (131072 + bits a.1 15 0 - bits b.1 15 0 - bits (pairW t9 p 3) 15 0)
    let th := turnRad (dq * 2 ^ 48)
    let x1 := mulF r (cosF th) - one64
    let y1 := mulF r (sinF th)
    let tve := hypotF x1 y1
    let dt := roundAway (mkRat (dq * 1000000000) (65536 * fNom t (bits w1 15 0)))
    let m := (roundAway (mkRat (tve * 100000) (2 ^ 64))).toNat
    (decide ((thr : Int) * one64 < tve * 10000), decide (tve * 100000 < 9 * (thr : Int) * one64),
      decide ((r - one64).natAbs * 160000 ≤ thr * bits (s.rwN 0x040000) 7 4 * 2 ^ 64),
      { x with tve := m, dang := dq, dt := dt, maxTve := Nat.max x.maxTve m, key := key })
  else
    let df := a.1.toInt - b.1.toInt
    (decide (thr * 100 < df.natAbs), decide (df.natAbs * 10 < 9 * thr * 100), false, { x with df := df, key := key })

/-- A pair's breach set or cleared (R183). -/
def State.setBreach (p : Nat) (on timeCls : Bool) (key : Nat) (s : State) : State :=
  let src := bits (pairW (s.bank 9).active p 0) 15 0
  let of := fun (x : Pair) => x.breach && bits (pairW (s.bank 9).active x.id 0) 15 0 == src
  let s1 := s.putPair (Pair.count (if on then 2 else 3) { s.pairSt p with breach := on, timeCls := on && timeCls, dwell := 0 })
  let s2 := if on then (s1.latchN 0x040008 0).bumpN 0x040060 1 else (s1.latchN 0x040008 1).bumpN 0x040064 1
  let s3 := if on && timeCls then s2.latchN 0x040008 2 else s2
  let s4 := s3.offerState 7 src (s3.phx.pairs.any of) (s3.phx.pairs.any Pair.breach) (w32 (s3.pairSt p).tve) 0 key
  if on && timeCls && bit (s.rwN 0x040000) 2 then s4.setSuspect src true else s4

/-- One pair on a FINAL delivery (R182). -/
def State.crossCheck (p : Nat) (d : Delivery) (s : State) : State :=
  let t9 := (s.bank 9).active
  let w0 := pairW t9 p 0
  let w1 := pairW t9 p 1
  let w2 := pairW t9 p 2
  let a := d.lane (bits w0 15 0) (bits w0 25 16)
  let b := d.lane (bits w1 15 0) (bits w1 25 16)
  if !laneV a || !laneV b || laneU b || laneQ b then s.putPair (Pair.count 1 { s.pairSt p with skipped := true })
  else
    let (br, below, tm, y) := s.evalPair p d.key a b
    let was := (s.pairSt p).breach
    let run := if was then below else br
    let n := if run then y.dwell + 1 else 0
    let s1 := (s.putPair (Pair.count 0 { y with skipped := false, dwell := Nat.min 255 n })).bumpN 0x04005C 1
    let s2 := s1.freed
    if run ∧ bits w2 23 16 ≤ n then s2.setBreach p (!was) tm d.key else s2

/-- Every valid pair of the delivery's group. -/
def State.crossChecks (d : Delivery) (s : State) : State :=
  ((validPairs (s.bank 9).active).filter (fun p => bits (pairW (s.bank 9).active p 2) 26 24 == d.group)).foldl (fun s p => s.crossCheck p d) s

/-! ## Windows (R185-R187) -/

def State.phxStat (s : State) : Word :=
  w32 ((s.phx.ests.filter Est.running).length + 1024 * (s.phx.pairs.filter Pair.breach).length)

def State.estWindowWords (i : Nat) (s : State) : List Word :=
  let e := s.est i
  let t := s.srcT
  [w32 (b2n e.running + 2 * b2n (estClass t i) + 4 * b2n e.uNow + 8 * b2n e.qNow + 16 * (if e.running then estMask t i else 0)),
    wInt (roundAway (mkRat (e.ftrk * 1000000) (2 ^ 64))), w32 ((s.estLatency i + 999) / 1000), w32 (estW t i + 65536 * stepH),
    hiW e.lastKey, loW e.lastKey, 0, 0] ++ e.cnt.map w32

def State.pairWindowWords (p : Nat) (s : State) : List Word :=
  let x := s.pairSt p
  [w32 (b2n (bit (pairW (s.bank 9).active p 0) 31) + 2 * b2n x.breach + 4 * b2n x.timeCls + 8 * x.dwell + 2048 * b2n x.skipped),
    w32 x.tve, wInt x.dang, wInt x.dt, wInt x.df, w32 x.maxTve, hiW x.key, loW x.key] ++ x.cnt.map w32

/-! ## The table's rows -/

/-- SV_ASDU_PARSE (R113). -/
def execSvAsduParse (s : State) : Host.Outcome State Fault Refusal :=
  .next (State.settled (whenUp .nucleus doSvParse s))

end Sys2Proof.Machine
end

