-- ==== Sys2Proof/Machine/Egr.lean ====
section
/-! DEFINITION. What a FINAL delivery and a straggler put on egress streams: C37.118.2 data frames, conjunction frames, late-fill
records (R250, R254, R255, R257, R258, R271). -/

namespace Sys2Proof.Machine

/-! ## Lane words as C37.118.2 fields (R254) -/

/-- Rounded, ties away from zero, held in a signed or unsigned 16-bit field. -/
def fieldS16 (r : Rat) : List Byte := beBytes 2 (twos 16 (satI 16 (roundAway r)))
def fieldU16 (r : Rat) : List Byte := beBytes 2 (Nat.min 65535 (roundAway r).toNat)
/-- The same limited to 32,767 in magnitude. -/
def fieldL16 (r : Rat) : List Byte :=
  let n := roundAway r
  beBytes 2 (twos 16 (if n < -32767 then -32767 else if 32767 < n then 32767 else n))
def fieldF (r : Rat) : List Byte := beBytes 4 (f32of r).toNat

/-- A value marked missing. -/
def missField (fmt kind : Nat) : List Byte :=
  match kind with
  | 0 => if fmt.testBit 1 then beBytes 4 0x7FC00000 ++ beBytes 4 0x7FC00000
         else if fmt.testBit 0 then beBytes 2 0 ++ beBytes 2 0x8000 else beBytes 2 0x8000 ++ beBytes 2 0x8000
  | 1 | 2 => if fmt.testBit 3 then beBytes 4 0x7FC00000 else beBytes 2 0x8000
  | 3 => if fmt.testBit 2 then beBytes 4 0x7FC00000 else beBytes 2 0x8000
  | _ => beBytes 2 0

/-- A lane word as an output field: nominal magnitude of its scale record, output scale, nominal frequency (R254). -/
def outField (fmt kind : Nat) (w : Word) (nom sc : Rat) (fnom : Nat) : List Byte :=
  match kind with
  | 0 =>
    let prim : Rat := mkRat (bits w 31 16) 65535 * 2 * nom
    let a : Int := if 32768 < bits w 15 0 then (bits w 15 0 : Int) - 65536 else bits w 15 0
    let th : Rat := mkRat (pi64 * a) (32768 * 2 ^ 64)
    let c : Rat := mkRat (cosTurn (a * 2 ^ 48)) (2 ^ 64)
    let n : Rat := mkRat (sinTurn (a * 2 ^ 48)) (2 ^ 64)
    if fmt.testBit 1 then (if fmt.testBit 0 then fieldF prim ++ fieldF th else fieldF (prim * c) ++ fieldF (prim * n))
    else if fmt.testBit 0 then fieldU16 (prim / sc) ++ fieldS16 (th * 10000)
    else fieldL16 (prim * c / sc) ++ fieldL16 (prim * n / sc)
  | 1 => if fmt.testBit 3 then fieldF (fnom + mkRat w.toInt 1000000) else fieldS16 (mkRat w.toInt 1000)
  | 2 => if fmt.testBit 3 then fieldF (mkRat w.toInt 1000000) else fieldS16 (mkRat w.toInt 10000)
  | 3 => if fmt.testBit 2 then beBytes 4 w.toNat else fieldL16 (f32ord w / sc)
  | _ => beBytes 2 (bits w 31 16)

/-! ## STAT (R255) -/

/-- TIM_HOSEC: seconds since the entry of HOLDOVER, in HOLDOVER and in FAULT, which goes on from it (R56, R79). R79 does not say what it reads in
UNSET, COARSE and LOCKED: 0 (DESIGN CHOICE, log 126). -/
def State.hoSec (s : State) : Nat := if s.tim.state = .holdover ∨ s.tim.state = .fault then (s.tim.now - s.tim.hoAt) / 1000000000 else 0

/-- The STAT word of a block from its lanes. -/
def State.statWord (i : Nat) (ls : List Lane) (s : State) : Nat :=
  let miss := ls.all (fun l => !laneV l)
  let q := ls.any laneQ
  let recent := match (s.stream i).cfgAt with | some t => decide (s.tim.now < t + 60000000000) | none => false
  let unl := match s.tim.state with
    | .locked => 0
    | .holdover => if s.hoSec < 10 then 1 else if s.hoSec < 100 then 2 else 3
    | _ => 3
  (if miss then 3 else if q then 1 else 0) * 2 ^ 14 + b2n (s.tim.state ≠ .locked) * 2 ^ 13 + b2n recent * 2 ^ 10 +
    b2n (ls.any laneU) * 2 ^ 9 + s.pmuTq * 64 + unl * 16

/-! ## C37.118.2 data frames (R254, R257) -/

/-- The data frame of stream i for a key, its lanes given by source and channel. -/
def State.c37Frame (i key : Nat) (lane : Nat → Nat → Lane) (s : State) : List Byte :=
  let t := (s.bank 7).active
  let src := s.srcT
  let fmt := bits (cfgW t i 2) 3 0
  let rate := rateFps (bits (cfgW t i 1) 27 24)
  let tb := bits (cfgW t i 1) 23 0
  let sec := key / rate
  let frac := key % rate * tb / rate
  let block := fun (es : List (Word × Word)) =>
    let ls := es.map (fun e => lane (bits e.1 15 0) (bits e.1 25 16))
    beBytes 2 (s.statWord i ls) ++ (es.zip ls).flatMap (fun x =>
      let e := x.1
      let l := x.2
      let kind := bits e.1 30 28
      let q := bits e.1 15 0
      if laneV l then outField fmt kind l.1 (f32q (scaleW src (descrScale (chDescr src q (bits e.1 25 16))) 1)) (f32q e.2) (fNom src q)
      else missField fmt kind)
  let body := beBytes 2 (bits (cfgW t i 0) 15 0) ++ beBytes 4 (s.soc sec) ++ [s.tqByte] ++ beBytes 3 frac ++ (cfgBlocks (cfgMap t i)).flatMap block
  let f := beBytes 2 0xAA01 ++ beBytes 2 (body.length + 6) ++ body
  f ++ beBytes 2 (crcCcitt f)

/-- A delivery on a C37 stream (R254, R256). -/
def State.c37Delivery (i : Nat) (d : Delivery) (s : State) : State :=
  let t := (s.bank 7).active
  if !(s.stream i).on || !bit (cfgW t i 0) 31 then s
  else if rateFps (bits (cfgW t i 1) 27 24) ≠ d.rate then (s.bumpN 0x078058 1).latchN 0x078000 5
  else
    s.pushFrame i { kind := 1, bytes := s.streamFrame i (s.c37Frame i d.key d.lane), key := some d.key, auth := none, gcb := 0 }

/-! ## Flags and runs (R258, R271) -/

/-- Flag nibbles of lanes, two to a byte, filled with zeros to a multiple of 4 bytes. -/
def packFlags : List Lane → List Byte
  | [] => []
  | [a] => [BitVec.ofNat 8 (a.2.toNat * 16)]
  | a :: b :: r => BitVec.ofNat 8 (a.2.toNat * 16 + b.2.toNat) :: packFlags r
def padTo4 (bs : List Byte) : List Byte := bs ++ List.replicate ((4 - bs.length % 4) % 4) 0

/-- Runs of at most 256 lanes with the index of their first channel. -/
def runsOf : Nat → Nat → List Lane → List (Nat × List Lane)
  | 0, _, _ => []
  | _, _, [] => []
  | k + 1, c, ls => (c, ls.take 256) :: runsOf k (c + 256) (ls.drop 256)
def laneRuns (ls : List Lane) : List (Nat × List Lane) := runsOf (ls.length / 256 + 1) 0 ls

/-! ## Late-fill records (R141, R258) -/

/-- The records of a straggler: payloads before the tag. -/
def lateRecords (g src key : Nat) (d : Int) (ls : List Lane) : List (List Byte) :=
  let rs := laneRuns ls
  rs.zipIdx.map (fun x =>
    let c := x.1.1
    let l := x.1.2
    let last := decide (x.2 + 1 = rs.length)
    let b := beBytes 2 0x0D1F ++ [1, BitVec.ofNat 8 (g % 8)] ++ beBytes 2 src ++ beBytes 2 c ++ beBytes 2 (32768 * b2n last + l.length) ++
      beBytes 2 0 ++ beBytes 8 (key % 2 ^ 56) ++ beBytes 4 (twos 32 (satI 32 d)) ++ l.flatMap (fun x => beBytes 4 x.1.toNat) ++ padTo4 (packFlags l)
    b ++ beBytes 4 (crc32c b).toNat)

/-- One record on a stream of kind 3; one lost to a full queue counts in ALN_Gg_LATEQDROP. -/
def State.lateRecord (g i : Nat) (b : List Byte) (s : State) : State :=
  let e := s.egrCfg i
  if !egrEn e || egrKind e ≠ 3 then s.kindMism
  else
    let body := if egrAuth e then b ++ List.replicate 16 0 else b
    let f := s.streamFrame i body
    let full := decide (f.length + 4 ≤ s.maxlen (egrPort e)) && !(s.stream i).q.fits (frameWords f)
    let s1 := s.pushFrame i { kind := 3, bytes := f, key := none, gcb := 0,
                              auth := if egrAuth e then some (egrSlot e, udpOff f + b.length, udpOff f) else none }
    if full then s1.bumpN (aGrp g 0x5C) 1 else s1

def State.lateFill (g i src key : Nat) (d : Int) (ls : List Lane) (s : State) : State :=
  (lateRecords g src key d ls).foldl (fun s b => s.lateRecord g i b) s

/-! ## Conjunction frames (R271) -/

/-- The entries of a delivery: a run each, an absent source with none. -/
def conjEntries (d : Delivery) : List (List Byte) :=
  d.srcs.flatMap (fun x =>
    let rs := if x.present then laneRuns x.lanes else [(0, [])]
    (if rs.isEmpty then [(0, [])] else rs).map (fun r =>
      beBytes 2 x.id ++ beBytes 2 r.1 ++ beBytes 2 (32768 * b2n x.present + r.2.length) ++ beBytes 2 0 ++
        r.2.flatMap (fun l => beBytes 4 l.1.toNat) ++ padTo4 (packFlags r.2)))

/-- Parts filled from the front: the list is cut at the entry that no longer fits. -/
def cutParts (cap : Nat) : List (List Byte) → List (List Byte) → Nat → List (List (List Byte))
  | [], acc, _ => [acc.reverse]
  | e :: r, acc, n =>
    if acc.isEmpty ∨ n + e.length ≤ cap then cutParts cap r (e :: acc) (n + e.length)
    else acc.reverse :: cutParts cap r [e] e.length

/-- Bytes of a frame of stream i outside the Ndevar payload: headers, Ndevar header and tag, FCS. -/
def State.conjOverhead (i : Nat) (s : State) : Nat :=
  14 + (if (s.streamVlan i).isSome then 4 else 0) + (if bit (s.hdrRec i 2) 16 then 40 else 20) + 8 + 36 + 4

/-- A conjunction message on a stream of kind 2, dst = parent (R270); 0xFFFF where the device has none, and no tag while it is not
joined: DESIGN CHOICE, log 27. -/
def State.sendConj (i : Nat) (type flags : Nat) (payload : List Byte) (s : State) : State :=
  let dst := match s.parentNb with
    | some k => if s.ory.joined then nbId (s.nbCfg k) else 0xFFFF
    | none => 0xFFFF
  let f := s.streamFrame i (s.ndevar dst type flags payload)
  State.pushFrame i { kind := 2, bytes := f, key := none, gcb := 0,
                      auth := if s.ory.joined then some (s.ory.slot, udpOff f + 20 + payload.length, udpOff f) else none }
    { s with ory := { s.ory with count := s.ory.count + 1 } }

/-- A delivery on a conjunction stream; an orphan discards what it would send to its parent (R272). -/
def State.conjDelivery (i : Nat) (d : Delivery) (s : State) : State :=
  let cap := s.maxlen (egrPort (s.egrCfg i)) - s.conjOverhead i - 16
  let parts := cutParts cap (conjEntries d) [] 0
  parts.zipIdx.foldl (fun s x =>
    if s.ory.joined && !s.ory.root && s.ory.orphan then s.bumpN 0x08005C 1
    else
      let h := [BitVec.ofNat 8 d.group, BitVec.ofNat 8 (bits d.reason 2 0)] ++ beBytes 2 x.2 ++ beBytes 8 (d.key % 2 ^ 56) ++
        beBytes 2 x.1.length ++ beBytes 2 0
      s.sendConj i 4 (b2n (decide (x.2 + 1 < parts.length))) (h ++ x.1.flatten)) s

/-- A FINAL delivery on the streams a mask selects (R250). -/
def State.egrDelivery (esm : BitVec 64) (d : Delivery) (s : State) : State :=
  ((List.range 64).filter (fun i => esm.getLsbD i)).foldl (fun s i =>
    let e := s.egrCfg i
    if !egrEn e then s.kindMism
    else match egrKind e with
    | 1 => s.c37Delivery i d
    | 2 => s.conjDelivery i d
    | _ => s.kindMism) s

/-! ## EGR registers (R252, R262) -/

/-- KiB allocated to enabled streams. -/
def State.egrPool (s : State) : Nat :=
  sumN (((List.range 64).filter (fun i => egrEn (s.egrCfg i))).map (fun i => egrKib (s.egrCfg i)))

/-- A write of EGR_Sn_CFG takes effect: the queue as enabled, or flushed (R252, R256, R379). -/
def State.egrApply (i : Nat) (w : Word) (s : State) : State :=
  let was := egrEn (s.egrCfg i)
  let s1 := s.putRw .nucleus (aEgr i 0) w
  if egrEn w ∧ ¬ was then
    s1.mapStream i (fun _ => { Stream.reset with q := Queue.new (egrKib w * 256), on := bit w 12, cfgAt := (s.stream i).cfgAt })
  else if was ∧ ¬ egrEn w then
    s1.mapStream i (fun x => { x with q := x.q.flushed, on := false, lastKey := none, fill := 0 })
  else s1

end Sys2Proof.Machine
end

