-- ==== Sys2Proof/Machine/Nrg.lean ====
section
/-! DEFINITION. Tie-line metering and pulse outputs: commands, events, demand, pulses (R282-R299). -/

namespace Sys2Proof.Machine

/-! ## Snapshots (R291) -/

/-- The end of the cycle in progress on the snapshot grid (R291). -/
def State.snapInstant (s : State) : Nat :=
  let hz := if bit (s.rwC 0x070000) 7 then 50 else 60
  cycNs hz (cycIdx hz s.tim.now + 1)

/-- NRG.SNAPSHOT (R291): an automatic snapshot pending for the same instant is the same snapshot. -/
def cmdNrgSnapshot (_ : Hdr) (ps : List Word) (s : State) : Res :=
  arity 0 ps s fun _ =>
    let inst := s.snapInstant
    let words := fun (n : Nat) => [w32 n, hiW (inst / 1000000000), loW (inst / 1000000000)]
    match s.nrg.snaps.find? (fun x => x.inst == inst && !x.cmd) with
    | some y => .ok { s with nrg := { s.nrg with snaps := s.nrg.snaps.map (fun x => if x.num = y.num then { x with cmd := true } else x) } } (words y.num)
    | none => if s.nrg.snaps.isEmpty then .ok (s.snapStart inst true) (words s.nrg.nextNum) else .fail s eBusy

/-- NRG.READ (R289): the integer parts. -/
def cmdNrgRead (_ : Hdr) (ps : List Word) (s : State) : Res :=
  arity 1 ps s fun _ =>
    let x := s.point (bits (par ps 0) 7 0)
    let a := if bit (par ps 0) 8 then x.snap else x.acc
    .ok s ((List.range 4).flatMap (fun k => [hiW (nth 0 a k / 2 ^ 32), loW (nth 0 a k / 2 ^ 32)]))

/-- NRG.PRESET (R290); before a pending snapshot's instant it reaches the copy of a point that adds no cycles too (R291). -/
def cmdNrgPreset (_ : Hdr) (ps : List Word) (s : State) : Res :=
  arity 4 ps s fun _ =>
    let m := bits (par ps 0) 7 0
    let k := bits (par ps 1) 1 0
    let v := ((par ps 2).toNat * 2 ^ 32 + (par ps 3).toNat) * 2 ^ 32
    let s1 := s.mapPoint m (fun x => { x with acc := at' x.acc k (fun _ => v) })
    let p := s1.point m
    .ok (State.bumpC 0x0700A4 1 { s1 with nrg := { s1.nrg with snaps := s1.nrg.snaps.map (fun x =>
      if !p.on && decide (s1.tim.now < x.inst) then { x with copies := insertBy (fun e => e.1) (m, p.acc) x.copies } else x) } })

/-! ## Cycles (R284-R286) -/

/-- NRG_CYCLE_END for a waveform-fed point: its next cycle is added once its words are formed. -/
def doNrgCycleEnd (m : Nat) (s : State) : State :=
  let hz := s.nrgHz m
  let a := (s.point m).cycAt
  let b := cycNs hz (cycIdx hz a + 1)
  if s.nrgLive m && nrgFeed (s.nrgCfg m) == 1 && s.waveReady b then s.addWave m hz a b else s

/-- NRG_PHASOR_CYCLE_COMPLETE: the point's next cycle, once each epoch is FINAL or past its window. -/
def doNrgPhasorCycle (m : Nat) (s : State) : State :=
  let hz := s.nrgHz m
  let a := (s.point m).cycAt
  let b := cycNs hz (cycIdx hz a + 1)
  if s.nrgLive m && decide (2 ≤ nrgFeed (s.nrgCfg m)) && s.phasorReady m a b then s.addPhasor m hz a b else s

/-! ## Demand (R292) -/

/-- The interval end that the step stands for: the last one not yet taken, or the next. -/
def State.demandEnd (s : State) : Nat :=
  let d := 60 * (bits (s.rwC 0x070000) 5 0)
  let u := (s.sec : Int) - s.tim.utc
  let prev := (u.fdiv d * d + s.tim.utc).toNat * 1000000000
  if s.nrg.lastDemand < prev then prev else ((u.fdiv d + 1) * d + s.tim.utc).toNat * 1000000000

/-- The end of the interval before the one that ends at t: dint minutes of UTC earlier, a leap second between them counted (R292). -/
def State.demandStart (t : Nat) (s : State) : Nat :=
  let sec := t / 1000000000
  let back := (sec : Int) - 60 * bits (s.rwC 0x070000) 5 0
  (back - s.utcAt sec + s.utcAt back.toNat).toNat * 1000000000

/-- One point's demand over an interval of so many ns: kW from mWh gained (R292). -/
def State.demandPoint (ns m : Nat) (s : State) : State :=
  let x := s.point m
  let kw := fun (a : Nat) => mkRat (a * 3600 * 1000) (ns * 2 ^ 32 : Nat)
  let imp := kw x.demA
  let ex := kw x.demB
  let thr := s.rwC (aNrg m 12)
  let overs := decide (f32q thr ≠ 0) && (decide (f32q thr < imp) || decide (f32q thr < ex))
  let dw := f32of imp
  let s1 := s.mapPoint m (fun x => { x with dem := dw, maxDem := if x.maxDem.toNat < dw.toNat then dw else x.maxDem, demA := 0, demB := 0 })
  if overs then (s1.mapPoint m (Point.count 3 1)).latchC 0x070008 0 else s1

/-- DEMAND_INTERVAL_END; with autosnap, a snapshot at its instant, which is the commanded one where that is due there too (R291, R292). -/
def doDemandIntervalEnd (s : State) : State :=
  let d := bits (s.rwC 0x070000) 5 0
  if d = 0 ∨ s.pwr.grave then s
  else
    let t := s.demandEnd
    let s1 := s.reach t
    let ns := t - (if s.nrg.lastDemand = 0 then s1.demandStart t else s.nrg.lastDemand)
    let s2 := (s1.nrg.points.filter Point.on).foldl (fun s x => s.demandPoint ns x.id) s1
    let s3 : State := { s2 with nrg := { s2.nrg with lastDemand := t } }
    if bit (s.rwC 0x070000) 6 && !s3.nrg.snaps.any (fun x => x.inst == t) && decide (s3.nrg.snapT ≠ t) then s3.snapStart t false else s3

/-! ## Point and output enables (R282, R296) -/

/-- CFG of a point that is not enabled takes a value: with en = 1 it integrates from the next cycle boundary on, from the epoch that runs
there too (R282, R285). A pending snapshot takes the energy it has now, where its first cycle ends after the instant (R291). -/
def State.nrgEnable (m : Nat) (w : Word) (s : State) : State :=
  let s1 := s.putRw .coma (aNrg m 0) w
  let hz := s1.nrgHz m
  if bit w 0 && !(s.point m).on then State.snapCycle m <|
    let s2 := s1.mapPoint m (fun x => { x with
      on := true, exportDir := false, opp := 0, parts := [], cycAt := cycNs hz (cycIdx hz s.tim.now + 1), demA := 0, demB := 0, sig := s1.nrgSig m })
    match findBy Delivery.group (bits w 5 3) s2.nrg.finals with
    | some d => if 2 ≤ nrgFeed w then s2.nrgPart m d else s2
    | none => s2
  else s1

/-- The inactive and asserted ball levels of an output (R299 pol). -/
def pulLevel (c : Word) (asserted : Bool) : Bool := asserted != bit c 1

/-- A pulse starts (R295). -/
def State.pulStart (p : Nat) (s : State) : State :=
  let w := s.rwC (aPul p 8)
  let e := s.tim.now + bits w 15 0 * 100000
  s.mapPul p (fun x => { x with
    inPulse := true, ball := pulLevel (s.pulCfg p) true, count := (x.count + 1) % 2 ^ 64, lastNs := s.tim.now
    widthEnd := e, gapEnd := e + bits w 31 16 * 100000 })

/-- PUL_Pp_CFG takes a value: clearing en clears r, the schedule and PEND; a pulse in progress completes (R296). -/
def State.pulApply (p : Nat) (w : Word) (s : State) : State :=
  let was := bit (s.pulCfg p) 0
  let s1 := s.putRw .coma (aPul p 0) w
  s1.mapPul p (fun x =>
    let y := { x with written := true, ball := if x.inPulse then x.ball else pulLevel w false }
    if was ∧ ¬ bit w 0 then { y with r := 0, due := [], pend := 0 } else if bit w 0 ∧ ¬ was then { y with r := 0 } else y)

/-! ## Pulse events (R294, R295) -/

/-- PULSE_DUE: the first scheduled crossing. -/
def doPulseDue (p : Nat) (s : State) : State :=
  let x := s.pulSt p
  match x.due with
  | [] => s
  | d :: r =>
    if s.pwr.grave then s
    else
      let s1 := (s.reach d).mapPul p (fun x => { x with due := r })
      if x.inPulse || x.inGap then
        if x.pend < 65535 then s1.mapPul p (fun x => { x with pend := x.pend + 1 }) else s1.bumpC (aPul p 0x2C) 1
      else s1.pulStart p

/-- A pending pulse starts as soon as the gap allows. -/
def State.pulNext (p : Nat) (s : State) : State :=
  if 0 < (s.pulSt p).pend then (s.mapPul p (fun x => { x with pend := x.pend - 1 })).pulStart p else s

/-- PULSE_WIDTH_END: width after the start. -/
def doPulseWidthEnd (p : Nat) (s : State) : State :=
  let x := s.pulSt p
  if !x.inPulse then s
  else
    let gap := decide (x.widthEnd < x.gapEnd)
    let s1 := (s.reach x.widthEnd).mapPul p (fun x => { x with inPulse := false, inGap := gap, ball := pulLevel (s.pulCfg p) false })
    if gap then s1 else s1.pulNext p

/-- PULSE_GAP_END: the gap after that. -/
def doPulseGapEnd (p : Nat) (s : State) : State :=
  if !(s.pulSt p).inGap then s else ((s.reach (s.pulSt p).gapEnd).mapPul p (fun x => { x with inGap := false })).pulNext p

/-- PUL_PIN_SAMPLE: the second wrong sample in a row raises F_PUL_PINp (R338). -/
def doPulPinSample (p : Nat) (level : Bool) (s : State) : State :=
  let x := s.pulSt p
  let bad := level != x.ball
  let s1 := s.mapPul p (fun x => { x with readback := level, misses := if bad then Nat.min 2 (x.misses + 1) else 0 })
  if bad ∧ x.misses = 1 ∧ p < 4 then s1.faultC (77 + p) else s1

/-! ## Windows (R298) -/

def State.pointWindow (m : Nat) (s : State) : List Word :=
  let x := s.point m
  [w32 (b2n x.on + 2 * b2n x.exportDir + 4 * b2n x.missing + 16 * x.opp), x.p, x.q, x.dem, x.maxDem] ++ x.cnt.map w32

def State.nrgRev (k : Nat) (s : State) : Word :=
  w32 (sumN ((s.nrg.points.filter (fun x => x.exportDir && x.id / 32 == k)).map (fun x => 2 ^ (x.id % 32))))

/-! ## The table's rows -/

/-- NRG_SNAPSHOT (R291). -/
def execNrgSnapshot (h : Hdr) (ps : List Word) (s : State) : Host.Outcome State Fault Refusal :=
  .next (State.settled (s.serve 0x0800 h ps cmdNrgSnapshot))

/-- NRG_READ (R289). -/
def execNrgRead (h : Hdr) (ps : List Word) (s : State) : Host.Outcome State Fault Refusal :=
  .next (State.settled (s.serve 0x0801 h ps cmdNrgRead))

/-- NRG_PRESET (R290). -/
def execNrgPreset (h : Hdr) (ps : List Word) (s : State) : Host.Outcome State Fault Refusal :=
  .next (State.settled (s.serve 0x0802 h ps cmdNrgPreset))

/-- NRG_CYCLE_END (R284). -/
def execNrgCycleEnd (m : Nat) (s : State) : Host.Outcome State Fault Refusal :=
  .next (State.settled (whenUp .coma (doNrgCycleEnd m) s))

/-- NRG_PHASOR_CYCLE_COMPLETE (R285). -/
def execNrgPhasorCycleComplete (m : Nat) (s : State) : Host.Outcome State Fault Refusal :=
  .next (State.settled (whenUp .coma (doNrgPhasorCycle m) s))

/-- DEMAND_INTERVAL_END (R292). -/
def execDemandIntervalEnd (s : State) : Host.Outcome State Fault Refusal :=
  .next (State.settled (whenUp .coma doDemandIntervalEnd s))

/-- PULSE_DUE (R294). -/
def execPulseDue (p : Nat) (s : State) : Host.Outcome State Fault Refusal :=
  .next (State.settled (whenUp .coma (doPulseDue p) s))

/-- PULSE_WIDTH_END (R295). -/
def execPulseWidthEnd (p : Nat) (s : State) : Host.Outcome State Fault Refusal :=
  .next (State.settled (whenUp .coma (doPulseWidthEnd p) s))

/-- PULSE_GAP_END (R295). -/
def execPulseGapEnd (p : Nat) (s : State) : Host.Outcome State Fault Refusal :=
  .next (State.settled (whenUp .coma (doPulseGapEnd p) s))

/-- PUL_PIN_SAMPLE (R338). -/
def execPulPinSample (p : Nat) (level : Bool) (s : State) : Host.Outcome State Fault Refusal :=
  .next (State.settled (whenUp .coma (doPulPinSample p level) s))

end Sys2Proof.Machine
end

