-- ==== Sys2Proof/Machine/Align.lean ====
section
/-! DEFINITION. Alignment (R128-R151): slots, conjunctions, close rules, deliveries, stragglers, group control, tile repair; and the
boundary at which table commits take effect (R22, R46, R108, R148, R192). -/

namespace Sys2Proof.Machine

def State.grp (g : Nat) (s : State) : Grp := nth Grp.reset s.aln.grps g
def State.mapGrp (g : Nat) (f : Grp → Grp) (s : State) : State := { s with aln := { s.aln with grps := at' s.aln.grps g f } }

/-! ## The tick (R130) -/

/-- The last tick of follower time at or before its present instant. -/
def State.tick (s : State) : Nat := s.follower / 1000 * 1000

/-- The first boundary at which a group runs: strictly after the acceptance of GRP.START (R144). -/
def State.firstNs (g : Nat) (s : State) : Nat := keyNs (s.grpRate g) (keyAt (s.grpRate g) (s.grp g).since + 1)

/-- The group runs at an instant: its first boundary reached, and no GRP.STOP accepted before the instant (R46, R134, R148). -/
def State.runsAt (g t : Nat) (s : State) : Bool :=
  (decide ((s.grp g).run = .running) || (decide ((s.grp g).run = .stopping) && decide (t ≤ (s.grp g).stopAt))) && decide (s.firstNs g ≤ t)

/-! ## Presence (R131-R133) -/

def Src.slotOf (key : Nat) (x : Src) : Option Slot := (findBy Slot.slot (key % 16) x.slots).filter (fun l => l.key == key)

/-- A source is present in a conjunction: it holds the key and has not been displaced (R133). -/
def State.present (c : Conj) (i : Nat) (s : State) : Bool := ((s.srcSt i).slotOf c.key).isSome && !c.displaced.elem i

def State.presentOf (c : Conj) (s : State) : List Nat := (c.expected.map (fun e => e.1)).filter (fun i => s.present c i)

/-- The item a source holds for a conjunction was stored under TIME_SUSPECT. -/
def State.suspItem (c : Conj) (i : Nat) (s : State) : Bool := (((s.srcSt i).slotOf c.key).map Slot.susp).getD false

/-! ## Close rules (R136-R138) -/

/-- The met count of R136; 0 where the quorum rule is not enabled. -/
def State.quorumMet (c : Conj) (s : State) : Nat :=
  if !bit c.cfg 6 then 0
  else
    let here := (s.presentOf c).filter (fun i => !(bit c.cfg 7 && s.suspItem c i))
    ((List.range 64).filter (fun a =>
      let ex := c.expected.filter (fun e => e.2 == a)
      let p := (ex.filter (fun e => here.elem e.1)).length
      c.qarea.getLsbD a && !ex.isEmpty &&
        (if bit c.qrule 0 then decide (bits c.qrule 23 16 * ex.length ≤ 256 * p) else decide (bits c.qrule 15 8 ≤ p)))).length

def State.quorum (c : Conj) (s : State) : Bool := bit c.cfg 6 && decide (bits c.qrule 30 24 ≤ s.quorumMet c)

/-- The deadline in force of a source, us (R119): none for proto 5. -/
def State.deadlineOf (i : Nat) (s : State) : Option Nat := if srcProto s.srcT i = 5 then none else (s.srcSt i).deadline

/-- The window has passed at the last tick, which lies at or after T(n); Conj.win is multiplied by the rate (R130). -/
def State.windowPassed (rate : Nat) (c : Conj) (s : State) : Bool :=
  decide (keyNs rate c.key ≤ s.tick) && decide (c.win ≤ (s.tick - keyNs rate c.key) * rate)

/-- Ephemeris close (R137). -/
def State.ephClose (rate : Nat) (c : Conj) (s : State) : Bool :=
  bit c.cfg 5 && (if bit c.cfg 6 then s.quorum c else !(s.presentOf c).isEmpty) &&
    (c.expected.filter (fun e => !s.present c e.1)).all (fun e => match s.deadlineOf e.1 with
      | none => false
      | some dl => !(decide (dl * 1000 * rate < c.win) && decide (s.tick < keyNs rate c.key + dl * 1000)))

/-- The conjunction with the rules that fire at this evaluation remembered (R135). -/
def State.fire (rate : Nat) (c : Conj) (s : State) : Conj :=
  { c with
    fComplete := c.fComplete || c.expected.all (fun e => s.present c e.1)
    fEph := c.fEph || s.ephClose rate c
    fWin := c.fWin || s.windowPassed rate c
    fQuorum := c.fQuorum || s.quorum c }

def Conj.final (c : Conj) : Bool := c.fComplete || c.fEph || c.fWin
/-- The reason by the order of R138. -/
def Conj.reason (c : Conj) : Nat := if c.fComplete then 0 else if c.fEph then 1 else 2

/-! ## Deliveries (R139, R140) -/

def State.snapshot (g rate : Nat) (c : Conj) (final : Bool) (reason : Word) (s : State) : Delivery :=
  { group := g, rate := rate, key := c.key, final := final, reason := reason, under := c.under,
    srcs := c.expected.map (fun e =>
      { id := e.1, present := s.present c e.1, lanes := if s.present c e.1 then (((s.srcSt e.1).slotOf c.key).map Slot.lanes).getD [] else [] }) }

def State.islGroup (s : State) : Nat := bits (s.rwN 0x050004) 2 0

def branchChanged (old new : WMap) (j : Nat) : Bool := decide ((List.range 4).map (branchW old j) ≠ (List.range 4).map (branchW new j))

/-- Branches a commit removes keep their counters alone (R407); those it changes lose their separation count and angle difference (R192). -/
def loseBranches (old new : WMap) (bs : List Branch) : List Branch :=
  bs.map (fun b => if !bit (branchW new b.id 0) 31 then b.bare else if branchChanged old new b.id then { b with cnt := 0, dth := none } else b)

/-- The outgoing bank of table 0x02 is let go once every conjunction opened under it, of whatever group (DEDUCED, log 153), is FINAL, and run
where the engine runs (R192). -/
def State.holdDone (s : State) : State :=
  match s.tbl.oldTopo with
  | some old =>
    if s.aln.grps.any (fun g => g.conjs.any (fun c => c.under && decide (c.st ≠ .final))) || s.isl.q.any Delivery.under then s
    else { s with tbl := { s.tbl with oldTopo := none }
                  isl := { s.isl with branches := loseBranches old (s.bank 2).active s.isl.branches } }
  | none => s

/-- A delivery to the island engine (R188): a PROVISIONAL before the first final run is none; one that finds another waiting is counted
(R189). -/
def State.toIsl (d : Delivery) (s : State) : State :=
  if s.isl.on && s.islGroup == d.group && (d.final || (bit (s.rwN 0x050004) 4 && !s.isl.init)) then
    let s1 : State := { s with isl := { s.isl with q := s.isl.q ++ [d] } }
    if s.isl.q.isEmpty then s1 else s1.bumpN 0x05004C 1
  else if d.final then s.holdDone
  else s

/-- A FINAL delivery to the libration engines of its group; the conjunction must open after LBE.START (R227). -/
def State.toLbe (d : Delivery) (s : State) : State :=
  { s with lbe := s.lbe.map (fun e =>
      if e.running && !e.stopping && e.group == d.group && decide (e.since < keyNs d.rate d.key) then { e with q := e.q ++ [d] } else e) }

/-- The conjunction of a group replaced by its next form. -/
def State.putConj (g : Nat) (c : Conj) (s : State) : State :=
  s.mapGrp g (fun x => { x with conjs := x.conjs.map (fun d => if d.key = c.key then c else d) })

/-- A conjunction enters PROVISIONAL, at the follower's present instant: that of the tick or of the write (R130). -/
def State.enterProv (g rate : Nat) (c : Conj) (s : State) : State :=
  let s1 := ((s.putConj g { c with st := .prov, provAt := some ((s.follower - keyNs rate c.key) / 1000) }).mapGrp g (fun x => { x with qstat := s.quorumMet c })).bumpN (aGrp g 0x50) 1
  s1.toIsl (s1.snapshot g rate c false 0)

/-- A conjunction enters FINAL: counts, ALN_Gg_LAST and the deliveries (R134, R140, R150). -/
def State.enterFinal (g rate : Nat) (c : Conj) (s : State) : State :=
  let dt := s.follower - keyNs rate c.key
  let here := s.presentOf c
  let miss := c.expected.length - here.length
  let last := w32 (c.reason + 4 * b2n c.provAt.isSome + 8 * b2n (c.heldP || c.heldF) + 256 * here.length)
  let bin := if c.win = 0 then 15 else Nat.min 15 (16 * dt * rate / c.win)
  let gated := if bit c.cfg 6 && bit c.cfg 7 then (here.filter (fun i => s.suspItem c i)).length else 0
  let d := s.snapshot g rate c true last
  let s1 := (s.putConj g { c with st := .final }).mapGrp g (fun x => { x with
    lastKey := c.key, last := last, lastT := dt / 1000, provT := c.provAt.getD 0xFFFFFFFF, qstat := s.quorumMet c })
  let s2 := (s1.bumpN (aGrp g (0x44 + 4 * c.reason)) 1).bumpN (aGrp g (0x80 + 4 * bin)) 1
  let s3 := if 0 < miss then ((s2.bumpN (aGrp g 0x54) miss).latchN 0x030008 g).stageAdd 0x0060 0 (7 + g) miss else s2
  let s4 := if 0 < gated then s3.bumpN (aGrp g 0x70) gated else s3
  (((((s4.egrDelivery c.esm d).toIsl d).toLbe d).evalDelivery d).crossChecks d).nrgDelivery d

/-! ## Evaluation of a group (R130, R135) -/

/-- One conjunction after the earlier ones: whether an earlier one has not reached FINAL, or PROVISIONAL. -/
def State.evalConj (g rate : Nat) (key : Nat) (acc : State × (Bool × Bool)) : State × (Bool × Bool) :=
  let (s, (blockF, blockP)) := acc
  match findBy Conj.key key (s.grp g).conjs with
  | none => acc
  | some c0 =>
    if c0.st = .final then acc
    else
      let c := s.fire rate c0
      let waitF := (if c.heldF then s else s.bumpN (aGrp g 0x68) 1).putConj g { c with heldF := true }
      let waitP := (if c.heldP then s else s.bumpN (aGrp g 0x68) 1).putConj g { c with heldP := true }
      if c.final then
        if blockF then (waitF, (true, blockP || decide (c.st = .opened))) else (s.enterFinal g rate c, (blockF, blockP))
      else if c.fQuorum && decide (c.st = .opened) then
        if blockP then (waitP, (true, true)) else (s.enterProv g rate c, (true, blockP))
      else (s.putConj g c, (true, blockP || decide (c.st = .opened)))

def State.evalGroup (g : Nat) (s : State) : State :=
  (((s.grp g).conjs.map Conj.key).foldl (fun a k => State.evalConj g (s.grpRate g) k a) (s, (false, false))).1

/-! ## Release (R131, R134, R22) -/

/-- The conjunctions that expect a source, as group and key. -/
def State.expecting (i : Nat) (s : State) : List (Nat × Nat) :=
  s.aln.grps.zipIdx.flatMap (fun x => (x.1.conjs.filter (fun c => c.expected.any (fun e => e.1 == i))).map (fun c => (x.2, c.key)))

/-- Lanes of removed sources freed where every conjunction that opened before the removal and expects them is released; a source that is
valid no more loses its state with them (R22). -/
def State.drainDone (s : State) : State :=
  let held := fun (d : Drain) => d.waits.any (fun w => (findBy Conj.key w.2 (s.grp w.1).conjs).isSome)
  let (keep, done) := s.tbl.drain.partition held
  let gone := (done.map Drain.src).filter (fun i => !srcValid s.srcT i && !keep.any (fun d => d.src == i))
  { s with
    tbl := { s.tbl with drain := keep }
    ing := { s.ing with srcs := s.ing.srcs.filter (fun x => !gone.elem x.id) } }

/-- FINAL conjunctions whose T(n + 16) has been reached are RELEASED. -/
def State.release (s : State) : State :=
  State.drainDone { s with aln := { s.aln with grps := s.aln.grps.zipIdx.map (fun x =>
    { x.1 with conjs := x.1.conjs.filter (fun c => !(decide (c.st = .final) && decide (keyNs (s.grpRate x.2) (c.key + 16) ≤ s.follower))) }) } }

/-! ## Commit effects -/

def entryWords (t : WMap) (i : Nat) : List Word := (List.range 16).map (fun k => srcW t i k)
def descrList (t : WMap) (i : Nat) : List Nat := (List.range (srcNchan t i)).map (fun c => chDescr t i c)

/-- The first entry of the frame that a source is a block of: itself, unless it continues one (R105). -/
def srcHead (t : WMap) (i : Nat) : Nat := (((List.range 256).map (fun k => i - k)).find? (fun j => srcProto t j != 3)).getD i

/-- A source's address, rate, format or descriptors differ between two banks (R108); the address of a continuation entry is its first entry's
and its place behind it, its own ports, dport and addr being unused (R105). -/
def srcChanged (old new : WMap) (i : Nat) : Bool :=
  let key := fun (t : WMap) =>
    let h := srcHead t i
    (h, srcProto t h, srcPorts t h, srcIdcode t h, bits (srcW t h 1) 31 16, bits (srcW t i 6) 11 8, srcFormat t i,
      [srcW t h 2, srcW t h 3, srcW t h 4, srcW t h 5], descrList t i)
  key old != key new

/-- The source leaves an open conjunction (R132, R148). -/
def State.displace (g key i : Nat) (s : State) : State :=
  match findBy Conj.key key (s.grp g).conjs with
  | some c =>
    if decide (c.st = .final) || c.displaced.elem i || !s.present c i || !c.expected.any (fun e => e.1 == i) then s
    else ((s.putConj g { c with displaced := i :: c.displaced }).bumpN (aGrp g 0x64) 1).latchN 0x030008 (8 + g)
  | none => s

/-- A changed source leaves an open conjunction that expects it, present or not yet (R22, R148). -/
def State.bar (g key i : Nat) (s : State) : State :=
  let s1 := s.displace g key i
  match findBy Conj.key key (s1.grp g).conjs with
  | some c =>
    if decide (c.st = .final) || c.displaced.elem i || !c.expected.any (fun e => e.1 == i) then s1
    else s1.putConj g { c with displaced := i :: c.displaced }
  | none => s1

/-- A changed source at the boundary: displaced, its slots, keys, ephemeris and counters reset, its queued items discarded (R108, R148). -/
def State.changeSource (i : Nat) (s : State) : State :=
  let s1 := (List.range 8).foldl (fun s g => ((s.grp g).conjs.map Conj.key).foldl (fun s k => s.bar g k i) s) s
  let drop := (s1.ing.q.items.map (fun it => (it.blocks.filter (fun b => b.src == i)).length)) |> sumN
  let q := s1.ing.q
  let s2 : State := { s1 with ing := { s1.ing with
    srcs := s1.ing.srcs.map (fun x => if x.id = i then { x.resetEph with slots := [], keys := [], cnt := List.replicate 14 0, stored := false } else x)
    q := { q with entries := q.entries.filterMap (fun e => match e with
      | .item it n =>
        let bs := it.blocks.filter (fun b => b.src != i)
        if bs.isEmpty then none else some (.item { it with blocks := bs } n)
      | x => some x) } } }
  if 0 < drop then s2.bumpN 0x020078 drop else s2

/-- A removed source keeps its lanes while a conjunction that opened before expects it (R22). -/
def State.removeSource (old : WMap) (i : Nat) (s : State) : State :=
  match s.expecting i with
  | [] => { s with ing := { s.ing with srcs := s.ing.srcs.filter (fun x => x.id != i) } }
  | ws => { s with tbl := { s.tbl with drain := s.tbl.drain ++ [{ src := i, chans := storedChans old i, waits := ws }] } }

/-- A source that a commit adds starts anew; what older conjunctions hold of a removed one under its ID stays (R22). -/
def State.addSource (i : Nat) (s : State) : State :=
  { s with ing := { s.ing with srcs := s.ing.srcs.map (fun x => if x.id = i then { Src.fresh i with slots := x.slots } else x) } }

def State.commitSources (old new : WMap) (s : State) : State :=
  let s1 := ((validSources old).filter (fun i => !srcValid new i)).foldl (fun s i => s.removeSource old i) s
  let s1' := ((validSources new).filter (fun i => !srcValid old i)).foldl (fun s i => s.addSource i) s1
  let s2 := ((validSources new).filter (fun i => srcValid old i && srcChanged old new i)).foldl (fun s i => s.changeSource i) s1'
  let est := (validSources new).filter (fun i => isInternal i && (s2.est i).running &&
    (srcW old i 13 != srcW new i 13 || srcW old i 14 != srcW new i 14 || bits (srcW old i 6) 11 8 != bits (srcW new i 6) 11 8 ||
      decide (descrList old i ≠ descrList new i)))
  (est.foldl (fun s i => s.estStart i true) s2).phxSync

/-- A commit of table 0x02: the outgoing bank is held for the conjunctions opened under it, whichever group the engine is set to and whether or
not it is enabled yet; changed branches lose their count and angle difference (R192); what was learnt of boundary nodes goes (R277). -/
def State.commitTopology (old new : WMap) (s : State) : State :=
  let held := s.aln.grps.any (fun g => g.conjs.any (fun c => decide (c.st ≠ .final))) || !s.isl.q.isEmpty
  { s with
    tbl := { s.tbl with oldTopo := if held then some old else none }
    aln := { s.aln with grps := s.aln.grps.map (fun g => { g with conjs := g.conjs.map (fun c => { c with under := decide (c.st ≠ .final) }) }) }
    isl := { s.isl with
      q := s.isl.q.map (fun d => { d with under := true })
      learnt := []
      branches := if held then s.isl.branches else loseBranches old new s.isl.branches } }

/-- Records of n words that an old bank holds valid and a new one changes or removes. -/
def changedRecs (n : Nat) (ids : List Nat) (old new : WMap) : List Nat :=
  ids.filter (fun i => (List.range n).any (fun k => tblBank old (n * i + k) != tblBank new (n * i + k)))

/-- What must happen with the outgoing bank still in force: clearings with the outputs of the old record (R116, R241, R183). -/
def State.beforeCommit (id : Nat) (old new : WMap) (s : State) : State :=
  match id with
  | 3 => s.clearWatches (changedRecs 8 (validWatches old) old new)
  | 4 => s.clearRules (changedRecs 8 (validRules old) old new)
  | 9 => (changedRecs 4 (validPairs old) old new).foldl (fun s p =>
      let s1 := if (s.pairSt p).breach then s.setBreach p false false (s.pairSt p).key else s
      { s1 with phx := { s1.phx with pairs := eraseBy Pair.id p s1.phx.pairs } }) s
  | _ => s

/-- What follows once the new bank is in force. -/
def State.afterCommit (id : Nat) (old new : WMap) (s : State) : State :=
  match id with
  | 1 => s.commitSources old new
  | 2 => s.commitTopology old new
  | 6 => ((List.range 16).filter (fun c =>
      decide ((old.filter (fun x => decide (0x400 + 0x400 * c ≤ x.1) && decide (x.1 < 0x800 + 0x400 * c))) ≠
        (new.filter (fun x => decide (0x400 + 0x400 * c ≤ x.1) && decide (x.1 < 0x800 + 0x400 * c)))))).foldl (fun s c => s.gooseNew true c) s
  | 7 => ((List.range 64).filter (fun i => decide (old.filter (fun x => x.1 / 0x1000 = i) ≠ new.filter (fun x => x.1 / 0x1000 = i)))).foldl
      (fun s i => s.mapStream i (fun x => { x with cfgAt := some s.tim.now })) s
  | _ => s

/-- Tables take the banks of a view (R46). -/
def State.adopt (ids : List Nat) (v : View) (s : State) : State :=
  let old := s.view
  let s1 := ids.foldl (fun s id => s.beforeCommit id (old id) (v id)) s
  let s2 := ids.foldl (fun s id => s.mapBank id (fun _ => { active := v id, staging := none, holder := none, pendingCommit := false })) s1
  ids.foldl (fun s id => s.afterCommit id (old id) (v id)) s2

/-- The record of a commit is written for its port; with a released port it is discarded (R39, R47). -/
def State.commitEnds (k : Commit) (code : Byte) (s : State) : State :=
  if k.gone then s
  else s.complete (fun o => o.half == .nucleus && o.opcode == 0x0202 && o.res == k.res && o.port == k.port) code

/-- One commit takes effect, whole or not at all, and its record is written (R46); the banks of a port that was resynchronised or
released since are released with it (R38, R39). -/
def State.applyCommit (k : Commit) (s : State) : State :=
  let v : View := fun id => if k.tables.elem id then ((s.bank id).staging).getD (s.bank id).active else (s.bank id).active
  let codes := (k.tables.map (fun id => s.checkTable v id)).filter (fun c => c != codeOk)
  if codes.isEmpty then
    let s3 := k.tables.foldl (fun (s : State) id => s.countCfg .nucleus (0x8000 + id) k.port) (s.adopt k.tables v)
    s3.commitEnds k codeOk
  else
    let s1 := k.tables.foldl (fun s id => s.mapBank id (fun t =>
      if k.released then { t with staging := none, holder := none, pendingCommit := false } else { t with pendingCommit := false })) s
    s1.commitEnds k (if codes.elem eParam then eParam else eState)

/-- The instant t is an epoch boundary of every group running at it (R46). -/
def State.common (t : Nat) (s : State) : Bool := (List.range 8).all (fun g => !s.runsAt g t || isBoundary (s.grpRate g) t)

/-- ALM_CTL.rules_en takes effect at a common boundary (R261). -/
def State.rulesDue (s : State) : State :=
  match s.alm.rulesWait with
  | none => s
  | some on =>
    let s1 : State := { s with alm := { s.alm with rulesWait := none } }
    let s2 := s1.clearRules (validRules s1.ruleT)
    { s2 with alm := { s2.alm with rulesOn := on } }

/-- What waits for a boundary common to every running group (R46, R261). -/
def State.commitsDue (t : Nat) (s : State) : State :=
  if s.common t then
    let ks := s.tbl.commits
    let s0 : State := { s with tbl := { s.tbl with commits := [] } }
    s0.oneCycle (fun s => (ks.foldl (fun (s : State) k => s.applyCommit k) s).rulesDue)
  else s

/-! ## Stopping (R145) -/

/-- The boundary in whose cycle GRP.STOP was accepted is still to open its conjunction (R148). -/
def State.opensYet (g : Nat) (s : State) : Bool :=
  let x := s.grp g
  let n := keyAt (s.grpRate g) x.stopAt
  decide (s.follower = x.stopAt) && isBoundary (s.grpRate g) x.stopAt && decide (s.firstNs g ≤ x.stopAt) &&
    x.conjs.all (fun c => decide (c.key < n))

/-- A stopping group with no conjunction OPEN or PROVISIONAL stops: all released, the record written. -/
def State.stopDone (g : Nat) (s : State) : State :=
  if decide ((s.grp g).run = .stopping) && (s.grp g).conjs.all (fun c => decide (c.st = .final)) && !s.opensYet g then
    ((s.mapGrp g (fun x => { x with run := .stopped, conjs := [], ended := if s.firstNs g ≤ x.stopAt then some (keyAt (s.grpRate g) x.stopAt) else x.ended })).drainDone.completeOp .nucleus 0x0301 g codeOk)
  else s

/-- With no group running, what waits for a common boundary happens at once (R46). -/
def State.idleCommits (s : State) : State :=
  if (List.range 8).any (fun g => s.runsAt g s.follower) then s else s.commitsDue s.follower

/-- The close rules of some groups are evaluated (R130). -/
def State.evalGroups (gs : List Nat) (s : State) : State :=
  (gs.foldl (fun (s : State) g => (s.evalGroup g).stopDone g) s).idleCommits

/-- Every group, as at a tick. -/
abbrev State.evalAll (s : State) : State := s.evalGroups (List.range 8)

/-! ## Opening (R133, R134, R143) -/

def State.openConj (g n : Nat) (s : State) : State :=
  let rate := s.grpRate g
  let t := s.srcT
  let w := s.rwN (aGrp g 4)
  let ex := (groupMembers t g).map (fun i => (i, srcArea t i))
  let c : Conj := { key := n, st := .opened, expected := ex, displaced := [], fQuorum := false, fComplete := false, fEph := false, fWin := false,
                    under := false, heldP := false, heldF := false, provAt := none, cfg := s.rwN (aGrp g 0), win := bits w 3 0 * 1000000000 + bits w 31 8 * 1000 * rate,
                    qrule := s.rwN (aGrp g 8), qarea := BitVec.ofNat 64 ((s.rwN (aGrp g 0xC)).toNat * 2 ^ 32 + (s.rwN (aGrp g 0x10)).toNat),
                    esm := BitVec.ofNat 64 ((s.rwN (aGrp g 0x14)).toNat * 2 ^ 32 + (s.rwN (aGrp g 0x18)).toNat), late := s.rwN (aGrp g 0x1C) }
  (s.mapGrp g (fun x => { x with conjs := x.conjs ++ [c], expect := ex.length })).bumpN (aGrp g 0x40) 1

/-- The group opens the conjunction of a boundary. -/
def State.opensAt (g t : Nat) (s : State) : Bool :=
  let rate := s.grpRate g
  let n := keyAt rate t
  s.runsAt g t && isBoundary rate t && (s.grp g).conjs.all (fun c => decide (c.key < n)) && decide (s.follower < keyNs rate (n + 16))

/-- Settings written since the last boundary of their group come into force (R11, R188, R230). -/
def State.latchSettings (t : Nat) (s : State) : State :=
  let at_ := fun g => decide (s.grpRate g ≠ 0) && isBoundary (s.grpRate g) t
  let s1 : State := { s with lbe := s.lbe.zipIdx.map (fun x =>
    if x.1.running && at_ x.1.group then { x.1 with cfg := [s.rwN (aLbe x.2 4), s.rwN (aLbe x.2 8), s.rwN (aLbe x.2 0xC), s.rwN (aLbe x.2 0x10)] } else x.1) }
  if s.isl.armed && at_ s.islGroup then { s1 with isl := { s1.isl with armed := false, on := true, init := true } } else s1

/-- TILE_MIGRATION_END and the last epoch of a migration (R147). -/
def State.migrated (s : State) : State :=
  if !s.aln.repair then s
  else
    let n := s.aln.spares - 1
    let s1 : State := { s with aln := { s.aln with repair := false, repLeft := 0, spares := n } }
    let s2 := ((((s1.bumpN 0x030010 1).latchN 0x030008 17).bumpN 0x0B0054 1).latchN 0x0B0008 4).completeOp .nucleus 0x0D04 1 codeOk
    if n = 0 then (s2.latchN 0x030008 18).evService 2 else s2

/-- The epochs of migration that remain count down at boundaries of the slowest running group; with the last of the 16 every slot has been
written anew or released, and the migration ends (R147). -/
def State.repairCount (t : Nat) (s : State) : State :=
  let rs := ((List.range 8).filter (fun g => s.runsAt g t)).map (fun g => s.grpRate g)
  if s.aln.repair && !rs.isEmpty && isBoundary (minN 0 rs) t then
    if s.aln.repLeft ≤ 1 then s.migrated else { s with aln := { s.aln with repLeft := s.aln.repLeft - 1 } }
  else s

/-- EPOCH_BOUNDARY at t: releases first, then what waited for it, then the openings (R134, R148). -/
def doEpochBoundary (t : Nat) (s : State) : State :=
  let s1 := (((s.reachF t).release.repairCount t).commitsDue t).latchSettings t
  let s2 := ((List.range 8).filter (fun g => s1.opensAt g t)).foldl (fun s g =>
    let s' := s.openConj g (keyAt (s.grpRate g) t)
    if (s'.grp g).expect = 0 then s'.evalGroup g else s') s1
  (List.range 8).foldl (fun s g => s.stopDone g) s2 |>.idleCommits

/-- ALIGN_TICK at t (R130). -/
def doAlignTick (t : Nat) (s : State) : State := (s.reachF t).release.evalAll

/-! ## Stage 5 (R131, R132, R141) -/

/-- An item is old: SRC_OLD, and ALN_Gg_OLD of each member group that runs. -/
def State.oldItem (i : Nat) (gs : List Nat) (s : State) : State := gs.foldl (fun s g => s.bumpN (aGrp g 0x60) 1) (s.srcCount i cOld)

/-- What one member group makes of an item written to its slot. -/
def State.memberWrite (i key : Nat) (d : Int) (ls : List Lane) (g : Nat) (s : State) : State :=
  match findBy Conj.key key (s.grp g).conjs with
  | none =>
    if (s.grp g).conjs.all (fun c => decide (c.key < key)) && decide ((s.grp g).since < keyNs (s.grpRate g) key) then
      (if (s.grp g).run = .running then s.bumpN (aGrp g 0x6C) 1 else s)
    else s.bumpN (aGrp g 0x60) 1
  | some c =>
    if c.st = .final ∧ c.expected.any (fun e => e.1 == i) then
      let s1 := (s.bumpN (aGrp g 0x58) 1).mapSrcSt i (fun x => { x with slots := x.slots.map (fun l =>
        if l.key = key then { l with late := l.late ||| BitVec.ofNat 8 (2 ^ g) } else l) })
      if bit c.late 8 then s1.lateFill g (bits c.late 5 0) i key d (ls.map (fun l => (l.1, l.2 ||| flagL))) else s1
    else s

/-- Groups of a source that a stop has ended at a key or after it: what comes for the key is old for them (R134, R145). -/
def State.endedGroups (key : Nat) (ent : List Word) (s : State) : List Nat :=
  (List.range 8).filter (fun g => (bits (nth 0 ent 0) 23 16).testBit g && decide ((s.grp g).run = .stopped) &&
    (match (s.grp g).ended with | some k => decide (key ≤ k) | none => false))

/-- Member groups of a source that are not stopped. -/
def State.liveGroups (ent : List Word) (s : State) : List Nat :=
  (List.range 8).filter (fun g => (bits (nth 0 ent 0) 23 16).testBit g && decide ((s.grp g).run ≠ .stopped))

/-- An item is old: T(e + 16) is reached, the source holds a later key in the slot, or every group it could join has ended (R131, R134). -/
def State.isOld (i key : Nat) (ent : List Word) (s : State) : Bool :=
  decide (keyNs (rateFps (bits (nth 0 ent 6) 11 8)) (key + 16) ≤ s.follower) ||
    (match findBy Slot.slot (key % 16) (s.srcSt i).slots with | some l => decide (key < l.key) | none => false) ||
    (!(s.endedGroups key ent).isEmpty && (s.liveGroups ent).isEmpty)

/-- Stage 5 on one block's lanes for a source; ent is the entry under which it was parsed. -/
def State.stage5 (i key port : Nat) (ent : List Word) (d : Int) (fut : Bool) (lanes : List Lane) (s : State) : State :=
  let gs := s.liveGroups ent
  let x := s.srcSt i
  if s.isOld i key ent then s.oldItem i (gs ++ s.endedGroups key ent)
  else
    let susp := x.suspect
    let ls := if susp then lanes.zipIdx.map (fun l =>
      if srcValid s.srcT i && descrSkip (chDescr s.srcT i l.2) then l.1 else (l.1.1, l.1.2 ||| flagQ)) else lanes
    let s1 := match findBy Slot.slot (key % 16) x.slots with
      | some l => (List.range 8).foldl (fun (s : State) g => s.displace g l.key i) s
      | none => s
    let s2 := s1.mapSrcSt i (fun x => { x with
      slots := insertBy Slot.slot { slot := key % 16, key := key, lanes := ls, susp := susp, late := 0, delay := d } x.slots
      keys := (key :: x.keys).take 16, stored := true, lastStored := s.tim.now, lastPort := port, lastKey := key })
    let s3 := if ls.any laneQ then s2.srcCount i cQframes else s2
    let s4 := (s.endedGroups key ent).foldl (fun (s : State) g => s.bumpN (aGrp g 0x60) 1) s3
    (gs.foldl (fun (s : State) g => s.memberWrite i key d ls g) s4).goodFrame i fut

/-- The source holds the key already: among its last 16 stored, or in the key's slot (R122, R131). -/
def State.repeated (i key : Nat) (s : State) : Bool :=
  (s.srcSt i).keys.elem key || (match findBy Slot.slot (key % 16) (s.srcSt i).slots with | some l => l.key == key | none => false)

/-- The groups whose close rules a source's item of a key has evaluated: those that hold the conjunction it is written for (R130); none where
it is not written. -/
def State.itemGroups (i key : Nat) (ent : List Word) (s : State) : List Nat :=
  if s.isOld i key ent || s.repeated i key then []
  else (s.liveGroups ent).filter (fun g => (findBy Conj.key key (s.grp g).conjs).isSome)

/-- One block of an item at stages 4 and 5. A repeat leaves the ephemeris alone (R122); R131 judges an old item first, so a repeat that comes
after T(n + 16) is counted as old. -/
def State.ingestBlock (it : Item) (b : Blk) (s : State) : State :=
  if s.repeated b.src it.key then
    if s.isOld b.src it.key b.ent then s.oldItem b.src (s.liveGroups b.ent ++ s.endedGroups it.key b.ent)
    else (s.srcCount b.src cDup).stageAdd 0x0060 0 5 1
  else
    let d : Int := (it.arrival : Int) - it.sample
    let fut := decide (d < -((bits (s.rwN 0x020000) 11 4 * 1000 : Nat) : Int))
    let s1 := s.stage4 b.src it.port d b.ent
    s1.stage5 b.src it.key it.port b.ent d fut b.lanes

/-- An item's blocks written, then the close rules of the groups they were written for, once for all of them, in rising order (R130). -/
def State.ingestItem (it : Item) (s : State) : State :=
  let gs := it.blocks.flatMap (fun b => s.itemGroups b.src it.key b.ent)
  (it.blocks.foldl (fun s b => s.ingestBlock it b) s).evalGroups ((List.range 8).filter (fun g => gs.elem g))

/-- INGEST_ITEM_PROCESS: the oldest entry of the ingest queue. -/
def doIngestItem (t : Nat) (s : State) : State :=
  let s0 := (s.reach t).release
  let q := s0.ing.q
  let s1 : State := { s0 with ing := { s0.ing with q := q.pop } }
  match q.head with
  | some (.item it _) => s1.ingestItem it
  | some _ => s1
  | none => s0

/-- The port that an internal item is received on: the stream's of a proto 4 source; the front end's has none, so it is no peer of any (R120). -/
def State.estPort (i : Nat) (s : State) : Nat := if i = 0xFD00 then noPort else (s.srcSt i).lastPort

/-- PHX_ESTIMATE_EPOCH: epoch n of an estimator, once its window is whole or waited for no longer; its item has no ephemeris of its own, so
stage 5 alone (R172, R174, R176-R179). -/
def doEstimateEpoch (i key t : Nat) (s : State) : State :=
  let s0 := (s.reachF t).release
  let e := s0.est i
  let again := match e.done with | some n => decide (key ≤ n) | none => false
  if !s0.phxOn || !e.running || decide (srcRate s0.srcT i = 0) || again || !s0.estimateDue i key then s
  else match s0.estimateEpoch i key with
  | (none, s1) => s1
  | (some lanes, s1) =>
    let ent := entryWords s1.srcT i
    let d : Int := (s1.tim.now : Int) - keyNs (srcRate s1.srcT i) key
    if s1.repeated i key && !s1.isOld i key ent then (s1.srcCount i cDup).stageAdd 0x0060 0 5 1
    else ((s1.srcCount i cFrames).stage5 i key (s1.estPort i) ent d false lanes).evalGroups (s1.itemGroups i key ent)

/-! ## Group control (R144-R146) -/

def cmdGrpStart (_ : Hdr) (ps : List Word) (s : State) : Res :=
  arity 1 ps s fun _ =>
    let g := bits (par ps 0) 2 0
    let t := s.srcT
    let mem := groupMembers t g
    let frac := bits (s.rwN (aGrp g 4)) 31 8
    if s.tim.state = .unset ∨ s.tim.state = .coarse then .fail s eState 1
    else if (s.grp g).run ≠ .stopped then .fail s eState 2
    else if mem.isEmpty then .fail s eState 3
    else if !mem.all (fun i => bits (srcW t i 6) 11 8 == s.grpCode g) then .fail s eState 4
    else if 1000000 ≤ frac * s.grpRate g then .fail s eState 5
    else .ok (s.toP5.mapGrp g (fun x => { x with run := .running, since := s.follower, conjs := [] }))

def cmdGrpStop (h : Hdr) (ps : List Word) (s : State) : Res :=
  arity 1 ps s fun _ =>
    let g := bits (par ps 0) 2 0
    match (s.grp g).run with
    | .stopped => .ok s
    | .stopping => .fail s (if s.opLocked h 0x0301 g then eLocked else eBusy)
    | .running =>
      if s.opBusy h 0x0301 g then .fail s eBusy
      else .pending (((s.addOp h 0x0301 g).mapGrp g (fun x => { x with run := .stopping, stopAt := s.follower })).stopDone g).idleCommits

/-- ALN_Gg_STAT (R150). -/
def State.grpStat (g : Nat) (s : State) : Word :=
  let x := s.grp g
  let op := x.conjs.filter (fun c => decide (c.st ≠ .final))
  w32 ((match x.run with | .stopped => 0 | .running => 1 | .stopping => 2) + 16 * Nat.min 16 op.length +
    512 * b2n (match op with | c :: _ => decide (c.st = .prov) | [] => false))

def cmdGrpQuery (_ : Hdr) (ps : List Word) (s : State) : Res :=
  arity 1 ps s fun _ =>
    let g := bits (par ps 0) 2 0
    let x := s.grp g
    .ok s [s.grpStat g, w32 (x.lastKey / 2 ^ 32 % 2 ^ 24), loW x.lastKey, x.last, w32 x.lastT, w32 x.provT, w32 x.expect,
      s.ctr .nucleus (aGrp g 0x40)]

/-! ## TBL.COMMIT (R46) -/

def State.startCommit (h : Hdr) (ids : List Nat) (s : State) : Res :=
  let res := nth 0 ids 0
  if s.opBusy h 0x0202 res then .fail s eBusy
  else
    let s1 := ids.foldl (fun s id => s.mapBank id (fun t => { t with pendingCommit := true })) (s.addOp h 0x0202 res)
    let s2 : State := { s1 with tbl := { s1.tbl with commits := s1.tbl.commits ++ [{ port := h.port, tables := ids, res := res, released := false, gone := false }] } }
    .pending s2.idleCommits

def cmdTblCommit (h : Hdr) (ps : List Word) (s : State) : Res :=
  arity 1 ps s fun _ =>
    let id := bits (par ps 0) 31 24
    if id = 0xFF then
      let mine := s.heldTables h.port
      if decide (32 ≤ s.opsOf h.port) || mine.any (fun id => (s.bank id).pendingCommit) then .fail s eBusy
      else if mine.isEmpty then .fail s eState
      else s.startCommit h mine
    else if tblCap id = 0 ∨ id = 5 then .fail s eParam 0
    else if (s.bank id).holder.isSome ∧ (s.bank id).holder ≠ some h.port then .fail s eLocked
    else if 32 ≤ s.opsOf h.port ∨ (s.bank id).pendingCommit then .fail s eBusy
    else if (s.bank id).holder = none then .fail s eState
    else s.startCommit h [id]

/-! ## Tile repair (R147) -/

/-- UPD.REPAIR action 0x01 on the Nucleus half; w0 the spares that will remain. -/
def repairTile (h : Hdr) (s : State) : Res :=
  if s.aln.repair then .fail s (if s.opLocked h 0x0D04 1 then eLocked else eBusy) 0 [0]
  else if s.opBusy h 0x0D04 1 then .fail s eBusy 0 [0]
  else if !(s.src .nucleus 21).handling || decide (s.aln.spares = 0) then .fail s eState 0 [0]
  else
    let s1 : State := { s with aln := { s.aln with repair := true, repLeft := 16 } }
    .pending ((s1.addOp h 0x0D04 1).latchN 0x030008 16) [w32 (s.aln.spares - 1)]

/-- TILE_MIGRATION_END (R147). -/
def doTileMigrationEnd (s : State) : State := s.migrated

/-! ## Registers -/

/-- ALN_STAT (R149). -/
def State.alnStat (s : State) : Word :=
  let set := fun r => sumN ((List.range 8).map (fun g => if (s.grp g).run = r then 2 ^ g else 0))
  w32 (set .running + 256 * set .stopping + 65536 * s.aln.spares + 2 ^ 19 * b2n s.aln.repair + 2 ^ 20 * s.aln.repLeft)

/-! ## The table's rows -/

/-- GRP_START (R144). -/
def execGrpStart (h : Hdr) (ps : List Word) (s : State) : Host.Outcome State Fault Refusal :=
  .next (State.settled (s.serve 0x0300 h ps cmdGrpStart))

/-- GRP_STOP (R145). -/
def execGrpStop (h : Hdr) (ps : List Word) (s : State) : Host.Outcome State Fault Refusal :=
  .next (State.settled (s.serve 0x0301 h ps cmdGrpStop))

/-- GRP_QUERY (R146). -/
def execGrpQuery (h : Hdr) (ps : List Word) (s : State) : Host.Outcome State Fault Refusal :=
  .next (State.settled (s.serve 0x0302 h ps cmdGrpQuery))

/-- TBL_COMMIT (R46). -/
def execTblCommit (h : Hdr) (ps : List Word) (s : State) : Host.Outcome State Fault Refusal :=
  .next (State.settled (s.serve 0x0202 h ps cmdTblCommit))

/-- INGEST_ITEM_PROCESS (R119). -/
def execIngestItemProcess (t : Nat) (s : State) : Host.Outcome State Fault Refusal :=
  .next (State.settled (whenUp .nucleus (doIngestItem t) s))

/-- EPOCH_BOUNDARY (R134). -/
def execEpochBoundary (t : Nat) (s : State) : Host.Outcome State Fault Refusal :=
  .next (State.settled (whenUp .nucleus (doEpochBoundary t) s))

/-- ALIGN_TICK (R130). -/
def execAlignTick (t : Nat) (s : State) : Host.Outcome State Fault Refusal :=
  .next (State.settled (whenUp .nucleus (doAlignTick t) s))

/-- PHX_ESTIMATE_EPOCH (R176). -/
def execPhxEstimateEpoch (src : Nat) (key : Nat) (t : Nat) (s : State) : Host.Outcome State Fault Refusal :=
  .next (State.settled (whenUp .nucleus (doEstimateEpoch src key t) s))

/-- TILE_MIGRATION_END (R147). -/
def execTileMigrationEnd (s : State) : Host.Outcome State Fault Refusal :=
  .next (State.settled (whenUp .nucleus doTileMigrationEnd s))

end Sys2Proof.Machine
end

