-- ==== Sys2Proof/Machine/Afe.lean ====
section
/-! DEFINITION. The local front end (R152-R169): decimation, sync, range selection, the rover, phase sequence and neutral. -/

namespace Sys2Proof.Machine

/-! ## Presets (R157) -/

def presetN (p : Nat) : Nat := nth 4 [3, 4, 5] p
def presetD (p : Nat) : Nat := nth 1280 [640, 1280, 2560] p
def presetBout (p : Nat) : Nat := nth 43 [29, 43, 58] p
def presetDelta (p : Nat) : Nat := nth 638 [1279, 638, 2558] p
def presetM0 (p : Nat) : Nat := nth 16 [15, 16, 16] p
def presetUnsettled (p : Nat) : Nat := nth 34 [33, 34, 34] p

/-! ## Taps (R156) -/

/-- Half the sum of the default taps in units of 2^-30: 1 / 2g (R156, R157). -/
def halfTaps (p : Nat) : Nat := nth 879609302 [549755814, 879609302, 703687442] p

/-- Default tap k of a preset: linear-phase, with the sum that R156 gives; the rest is the ROM's (log 6). -/
def defaultTap (p k : Nat) : Word :=
  let j := Nat.min k (63 - k)
  if j < 31 then Config.defaultTap p j
  else wInt ((halfTaps p : Int) - sumI ((List.range 31).map (fun i => (Config.defaultTap p i).toInt)))

def State.tapsOf (c : Nat) (s : State) : List Word :=
  ((nth Chan.reset s.afe.chans c).taps).getD ((List.range 64).map (defaultTap s.afePreset))

/-! ## Paths (R152) -/

/-- The channel of a path code below 12. -/
def pathChan (p : Nat) : Nat := if p < 4 then p else 4 + (p - 4) / 2
def path16 (p : Nat) : Bool := decide (4 ≤ p) && decide (p < 12) && p % 2 == 1
/-- Paths of a channel: x1 and, for a current channel, x16. -/
def chanPaths (c : Nat) : List Nat := if c < 4 then [c] else [4 + 2 * (c - 4), 5 + 2 * (c - 4)]

def State.chain (p : Nat) (s : State) : Chain := nth Chain.reset s.afe.chains p
def State.mapChain (p : Nat) (f : Chain → Chain) (s : State) : State := { s with afe := { s.afe with chains := at' s.afe.chains p f } }
def State.chan (c : Nat) (s : State) : Chan := nth Chan.reset s.afe.chans c
def State.mapChan (c : Nat) (f : Chan → Chan) (s : State) : State := { s with afe := { s.afe with chans := at' s.afe.chans c f } }

/-- The path whose input the chain of a path code converts: the rover's is the path it serves. -/
def State.inputPath (p : Nat) (s : State) : Nat :=
  if p = 12 then (match s.afe.rover with | some r => r.path | none => 12) else p

/-- The chain that supplies a path: the rover's from step 3 to step 8 (R162). -/
def State.supplier (p : Nat) (s : State) : Nat :=
  match s.afe.rover with
  | some r => if r.path = p ∧ p ≠ 12 ∧ 4 ≤ r.step then 12 else p
  | none => p

/-! ## Sync instants (R158) -/

/-- Modulator clocks of a TAI instant in ns, nearest. -/
def clocksOf (t : Nat) : Nat := (t * 12288 + 500000) / 1000000

/-- G of the first valid sync instant at or after a count of clocks. -/
def syncFrom (p c : Nat) : Nat :=
  let per := 2 * presetD p
  (c + per - 1 - presetDelta p) / per
/-- The first count of clocks at or after a TAI instant. -/
def clocksUp (t : Nat) : Nat := (t * 12288 + 999999) / 1000000
/-- G of the first valid sync instant at or after a TAI instant, in output periods from TAI 0. -/
def nextSyncG (p t : Nat) : Nat := syncFrom p (clocksUp t)

/-- G of the instant, where it is a valid sync instant to the nanosecond. -/
def syncG (p t : Nat) : Option Nat :=
  let per := 2 * presetD p
  if presetDelta p ≤ clocksOf t ∧ (clocksOf t - presetDelta p) % per = 0 then some ((clocksOf t - presetDelta p) / per) else none

/-- A chain after a reset at the valid sync instant of G (R158, R160). -/
def Chain.restart (p g : Nat) (c : Chain) : Chain :=
  { running := true, integ := List.replicate (presetN p) 0, comb := List.replicate (presetN p) 0, outReg := 0, fir := [], outs := 0,
    periods := 0, level := false, same := 0, last := c.last, g0 := g, vals := [] }

/-- A channel switch: the chain of a path is reset at the next valid sync instant. -/
def State.restartChain (p : Nat) (s : State) : State := s.mapChain p (Chain.restart s.afePreset (nextSyncG s.afePreset s.tim.now))

/-! ## Decimation (R155, R156) -/

/-- One clock of the integrators. -/
def integStep (x : BitVec 64) : List (BitVec 64) → List (BitVec 64)
  | [] => []
  | i :: r => (i + x) :: integStep (i + x) r

/-- One intermediate period of the combs: the new memories and the output. -/
def combStep (x : BitVec 64) : List (BitVec 64) → List (BitVec 64) × BitVec 64
  | [] => ([], x)
  | m :: r => let q := combStep (x - m) r; (x :: q.1, q.2)

/-- The comb output as a 30-bit intermediate sample. -/
def interSample (bout : Nat) (v : BitVec 64) : Int :=
  if 30 ≤ bout then v.toInt.fdiv ((2 ^ (bout - 30) : Nat) : Int) else v.toInt * ((2 ^ (30 - bout) : Nat) : Int)

/-- One intermediate period on its modulator bits; the first after a reset counts as 0 (R160). -/
def Chain.period (p : Nat) (bs : List Bool) (c : Chain) : Chain :=
  let ig := bs.foldl (fun l b => integStep (if c.periods = 0 then 0 else if b then 1 else -1) l) c.integ
  let cb := combStep (nth 0 ig (ig.length - 1)) c.comb
  { c with integ := ig, comb := cb.1, outReg := interSample (presetBout p) cb.2, fir := (c.outReg :: c.fir).take 64, periods := c.periods + 1 }

/-- The FIR sum over the emitted samples, newest first. -/
def firSum (taps : List Word) (ys : List Int) : Int := sumI ((taps.zip ys).map (fun x => x.1.toInt * x.2))

/-- The chain after an output period: two intermediate periods and one output. -/
def Chain.output (p : Nat) (taps : List Word) (bs : List Bool) (c : Chain) : Chain :=
  let d := presetD p
  let c2 := (c.period p (bs.take d)).period p (bs.drop d)
  { c2 with outs := c.outs + 1, vals := (firSum taps c2.fir :: c.vals).take 256 }

/-- The index of the last output from TAI 0: G + (m - m0) output periods (R158). -/
def Chain.index (p : Nat) (c : Chain) : Nat := c.g0 + c.outs - 1 - presetM0 p

/-! ## Waveform words (R154, R163) -/

/-- Volts of a FIR sum at a path's input, not corrected. -/
def rawVolts (p : Nat) (v : Int) : Rat := mkRat v (2 ^ 59 * (if path16 p then 16 else 1))

/-- Volts corrected with the gain and offset of the modulator that converted it: gain x (value - offset), DEDUCED from R162, log 29. -/
def State.volts (q p : Nat) (v : Int) (s : State) : Rat := f32q (nth 0 s.afe.gain q) * (rawVolts p v - f32q (nth 0 s.afe.ofs q))

/-- A whole count of a value, up or down as the part does (log 28). -/
def wholeCount (r : Rat) : Int := if r.den = 1 then r.num else r.num.fdiv r.den + (if Config.waveUp r then 1 else 0)

/-- Full scale of a preset as an intermediate sample: g x 2^29 (R155). -/
def interFull (p : Nat) : Nat := presetD p ^ presetN p * 2 ^ 29 / 2 ^ (presetBout p - 1)

/-- Intermediate magnitude above so many tenths of a percent of full scale. -/
def aboveFs (p tenths : Nat) (y : Int) : Bool := decide (tenths * interFull p < 1000 * y.natAbs)

/-- The x1 path of a channel exceeded 95 % of full scale within the window (R154). -/
def State.ovr (c : Nat) (s : State) : Bool := ((s.chain (s.supplier (nth 0 (chanPaths c) 0))).fir).any (aboveFs s.afePreset 950)

/-- The word of the last output of chain q for path p. -/
def State.waveWord (q p : Nat) (s : State) : Word :=
  let k := s.chain q
  let lim : Int := (2 ^ 27 : Nat) - 1
  let n := wholeCount (s.volts q p (nth 0 k.vals 0) * (2 ^ 26 : Nat))
  let v := if n < -lim then -lim else if lim < n then lim else n
  let u := decide (k.outs ≤ presetUnsettled s.afePreset) || (s.afe.autoWait && bit (s.rwC 0x060000) 5) || s.afe.sync == some 2
  wInt (v * 16) ||| w32 (8 * b2n u + 4 * b2n (path16 p) + 2 * b2n (s.ovr (pathChan p)))

/-! ## Range selection (R161) -/

/-- f_nom of AFE_CTL. -/
def State.afeHz (s : State) : Nat := if bit (s.rwC 0x060000) 2 then 50 else 60


/-- Intermediate periods of a nominal cycle. -/
def State.cyclePeriods (s : State) : Nat := 12288000 / presetD s.afePreset / s.afeHz

/-- One intermediate period's samples of the two paths; a change of path is counted. -/
def State.rangeStep (c : Nat) (y1 y16 : Int) (s : State) : State :=
  let p := s.afePreset
  let overs := aboveFs p 900 y16
  let low := decide (1000 * y1.natAbs < 45 * interFull p)
  let q := if low && !overs then (s.chan c).quiet + 1 else 0
  let was := (s.chan c).x1
  let sel := if overs then true else if was && decide (s.cyclePeriods ≤ q) then false else was
  let s1 := s.mapChan c (fun x => { x with quiet := q, x1 := sel })
  if sel = was then s1 else s1.bumpC (aAfeC c 0x24) 1

def State.rangeSelect (c : Nat) (s : State) : State :=
  let a := (s.chain (s.supplier (nth 0 (chanPaths c) 0))).fir
  let b := (s.chain (s.supplier (nth 0 (chanPaths c) 1))).fir
  (s.rangeStep c (nth 0 a 1) (nth 0 b 1)).rangeStep c (nth 0 a 0) (nth 0 b 0)

/-! ## CIC_OUTPUT (R156) -/

/-- A channel's output goes to the estimator and the energy unit (R154). -/
def State.emit (c : Nat) (s0 : State) : State :=
  let s := if 4 ≤ c then s0.rangeSelect c else s0
  let p := if c < 4 then c else nth 0 (chanPaths c) (if (s.chan c).x1 then 0 else 1)
  let q := s.supplier p
  let w := s.waveWord q p
  let per := 9600 / presetRate s.afePreset
  let x : Wave := { tick := (s.chain q).index s.afePreset * per, per := per, word := w }
  let s1 := s.mapChan c (fun k => { k with wave := insertBy Wave.tick x (k.wave.filter (fun y => decide (x.tick < y.tick + 600))) })
  let s2 := if waveOvr w then (s1.bumpC (aAfeC c 0x28) 1).putCor .coma (aAfeC c 0) 8 else s1
  s2.pushSamp 0xFD00 c { idx := (s.chain q).index s.afePreset, arr := s.tim.now, v := waveVal w, u := waveU w, q := waveOvr w }

/-- Clocks of the modulator in 1 ms (R155, R338). -/
abbrev modStuck : Nat := 12288

/-- The level, its run, and whether the run came to 1 ms, after the bits of an output period. -/
def modRun (bs : List Bool) (level : Bool) (same : Nat) : Bool × (Nat × Bool) :=
  bs.foldl (fun x b => let n := if b == x.1 then x.2.1 + 1 else 1; (b, (n, x.2.2 || n == modStuck))) (level, (same, false))

/-- A modulator's bits: one level for 1 ms raises F_AFE_MODn, which is present while it lasts (R338, R340). -/
def State.modBits (p : Nat) (bs : List Bool) (s : State) : State :=
  let x := modRun bs (s.chain p).level (s.chain p).same
  let s1 := s.mapChain p (fun c => { c with level := x.1, same := x.2.1 })
  let s2 := if x.2.2 then s1.lasting .coma (63 + p) else s1
  if modStuck ≤ x.2.1 then s2 else s2.over .coma (63 + p)

/-- The chain of a path forms an output; a channel's word is formed once the chains that supply its paths stand at one index. -/
def doCicOutput (p : Nat) (bs : List Bool) (s : State) : State :=
  let pr := s.afePreset
  if !(s.chain p).running || bs.length ≠ 2 * presetD pr then s
  else
    let ip := s.inputPath p
    let s1 := s.mapChain p (fun c => c.output pr (s.tapsOf (pathChan ip)) bs)
    let s2 := s1.mapChain p (fun c => { c with last := s1.waveWord p ip })
    let ch := pathChan ip
    let sup := (chanPaths ch).map s2.supplier
    State.modBits p bs (if ip < 12 && (s2.chan ch).running && sup.elem p && sup.all (fun q => (s2.chain q).running && (s2.chain q).index pr == (s2.chain p).index pr &&
        decide (0 < (s2.chain q).outs)) then s2.emit ch
    else s2)

/-! ## Synchronising resets (R159) -/

/-- G of the instant at which a pending sync is applied: the first valid one at least one modulator clock after the request (R159). -/
def State.syncDue (s : State) : Nat := syncFrom s.afePreset (clocksUp s.afe.syncAt + 1)

/-- AFE_SYNC_APPLY at the instant that is due: every running chain is reset. -/
def doSyncApply (t : Nat) (s : State) : State :=
  match s.afe.sync, syncG s.afePreset t with
  | some src, some g =>
    if g ≠ s.syncDue then s
    else
      let s1 := s.reach t
      let s2 : State := { s1 with afe := { s1.afe with
        chains := s1.afe.chains.map (fun (c : Chain) => if c.running then c.restart s.afePreset g else c)
        sync := none, synced := true, lastSync := t, lastSyncSrc := src } }
      s2.bumpC 0x068018 1
  | _, _ => s

/-- SYNC_N falls at t and stays low for so many ns. -/
def doSyncFall (t lowNs : Nat) (s0 : State) : State :=
  let s := (s0.reach t).over .coma 60
  let s1 : State := { s with afe := { s.afe with syncLow := decide (10000000 ≤ lowNs) } }
  let near := match s.afe.syncEdge with | some e => decide (t < e + 1000000) | none => false
  if !bit (s.rwC 0x060000) 6 then s1
  else if decide (lowNs < 100) || near then s1.bumpC 0x06801C 1
  else State.syncRequest 0 { s1 with afe := { s1.afe with syncEdge := some t } }

/-- SYNC_N low for 10 ms. -/
def doSyncStuck (s : State) : State :=
  if !s.afe.syncLow then s
  else ({ s with afe := { s.afe with syncLow := false } }.latchC 0x060008 8).lasting .coma 60

def cmdCicSync (_ : Hdr) (ps : List Word) (s : State) : Res := arity 0 ps s fun _ => .ok (s.syncRequest 1)

/-! ## Rover cycles (R162-R164) -/

/-- A cycle of a path starts: the rover is connected to its input and reset. -/
def State.roverStart (p : Nat) (commanded : Bool) (s : State) : State :=
  let s1 : State := { s with afe := { s.afe with rover := some { path := p, step := 1, commanded := commanded, ofs := 0, gain := 0, mism := 0 } } }
  ((s1.restartChain 12).bumpC 0x060020 1).bumpC 0x060494 1

/-- A path can be calibrated: its channel runs; the rover's own always. -/
def State.calReady (p : Nat) (s : State) : Bool := p == 12 || (decide (p < 12) && (s.chan (pathChan p)).running)

/-- The first path from a code on that can be calibrated. -/
def State.bgPick : Nat → Nat → State → Option Nat
  | 0, _, _ => none
  | k + 1, p, s => if s.calReady p then some p else State.bgPick k ((p + 1) % 13) s

/-- The next cycle of the background rotation starts. -/
def State.bgStart (s : State) : State :=
  match State.bgPick 13 s.afe.bgNext s with
  | some p => State.roverStart p false { s with afe := { s.afe with bgNext := (p + 1) % 13 } }
  | none => s

/-- The rover is idle: the first path queued by AFE.CAL starts, else a cycle of the rotation that is due (R162). -/
def State.roverNext (s : State) : State :=
  let s1 : State := { s with afe := { s.afe with rover := none } }
  let s2 := s1.mapChain 12 (fun c => { c with running := false })
  match s.afe.calQ with
  | p :: r => State.roverStart p true { s2 with afe := { s2.afe with calQ := r } }
  | [] => if 0 < s.afe.bgDue ∧ bit (s.rwC 0x060000) 4 then State.bgStart { s2 with afe := { s2.afe with bgDue := s.afe.bgDue - 1 } }
    else { s2 with afe := { s2.afe with bgDue := 0 } }

/-- The cycle ends with its AFE.CAL record, if it had one. -/
def State.roverEnd (r : Rover) (code : Byte) (s : State) : State :=
  (if r.commanded then s.completeOp .coma 0x0404 r.path code else s).roverNext

/-- A path's results are refused (R163). -/
def State.calReject (r : Rover) (s : State) : State :=
  let s1 := (s.bumpC 0x06002C 1).latchC 0x060008 5
  let s2 := if r.path < 12 then s1.bumpC (aAfeC (pathChan r.path) 0x30) 1 else s1
  (s2.faultC 61).roverEnd r eState

/-- The results are applied. -/
def State.calAccept (r : Rover) (g o : Word) (s : State) : State :=
  let s1 : State := { s with afe := { s.afe with
    gain := at' s.afe.gain r.path (fun _ => g), ofs := at' s.afe.ofs r.path (fun _ => o), calT := at' s.afe.calT r.path (fun _ => s.aon.opMin) } }
  let s2 := if r.path < 12 then s1.bumpC (aAfeC (pathChan r.path) 0x2C) 1 else s1
  (s2.latchC 0x060008 4).roverEnd r codeOk

/-- The mean of a chain's last 256 FIR sums, times 256. -/
def Chain.sum256 (c : Chain) : Int := sumI (c.vals.take 256)
/-- Volts of such a mean, rounded to 2^-64 V. -/
def meanVolts (p : Nat) (sum : Int) : Int := ratF (rawVolts p sum / 256)

/-- The new gain of a cycle: AREF at 90 % of full scale over what was read less the offset (R162, R435). -/
def Rover.newGain (r : Rover) : Rat :=
  let d := r.gain - r.ofs
  if d = 0 then 0 else mkRat 9 (10 * (if path16 r.path then 16 else 1)) * (2 ^ 64 : Nat) / d

/-- The RMS difference of two chains over their last outputs of equal index is compared with the match limit; also in 0.001 % of full scale. -/
def State.compare (p : Nat) (g o : Rat) (s : State) : Bool × Nat :=
  let pr := s.afePreset
  let a := s.chain 12
  let b := s.chain p
  let n := 64 - presetUnsettled pr
  let ia := a.index pr
  let ib := b.index pr
  let va := (a.vals.drop (ia - ib)).take n
  let vb := (b.vals.drop (ib - ia)).take n
  let fs := mkRat 1 (if path16 p then 16 else 1)
  let sq := (va.zip vb).map (fun x =>
    let d := (s.volts 12 p x.1 - g * (rawVolts p x.2 - o)) / fs
    d * d)
  let mean := sq.foldl (· + ·) 0 / (n : Rat)
  let lim : Rat := mkRat (bits (s.rwC 0x06000C) 23 16) 10000
  (decide (mean ≤ lim * lim), (roundAway (mkRat (sqrtF (ratF (mean * 10000000000))) (2 ^ 64))).toNat)

/-- Step 2 or 8 ends in a mismatch. -/
def State.roverMismatch (r : Rover) (s : State) : State :=
  let s1 := (s.bumpC 0x060028 1).latchC 0x060008 6
  let s2 := if r.path < 12 then s1.bumpC (aAfeC (pathChan r.path) 0x34) 1 else s1
  (s2.faultC 62).roverEnd r eState

def State.putRover (r : Rover) (s : State) : State := { s with afe := { s.afe with rover := some r } }
def State.noteMism (n : Nat) (s : State) : State := { s with afe := { s.afe with rvMism := n } }

/-- ROVER_STEP_ADVANCE: the phase in progress has run its counted outputs (R162, R163). -/
def doRoverStep (s : State) : State :=
  match s.afe.rover with
  | none => s
  | some r =>
    let pr := s.afePreset
    let c := presetUnsettled pr
    let own := r.path = 12
    let q := if own then 12 else r.path
    let gq := nth 0 s.afe.gain q
    match r.step with
    | 0 => -- aborted by a sync: starts again once the unsettled outputs have passed
      if decide (c ≤ (s.chain q).outs) && s.afe.sync.isNone then (s.putRover { r with step := if own then 4 else 1, ofs := 0, gain := 0 }).restartChain 12 else s
    | 1 =>
      if own then (s.putRover { r with step := 4 }).restartChain 12
      else if (s.chain 12).outs < 64 then s
      else
        let m := s.compare r.path (f32q gq) (f32q (nth 0 s.afe.ofs q))
        let s1 := s.noteMism m.2
        if m.1 then ((s1.putRover { r with step := 4, mism := m.2 }).bumpC 0x060498 1).restartChain r.path else s1.roverMismatch r
    | 4 =>
      if (s.chain q).outs < c + 256 then s
      else (s.putRover { r with step := 6, ofs := meanVolts r.path (s.chain q).sum256 }).restartChain q
    | 6 =>
      if (s.chain q).outs < c + 256 then s
      else
        let r1 := { r with gain := meanVolts r.path (s.chain q).sum256 }
        let nom : Int := ratF (mkRat 9 (10 * (if path16 r.path then 16 else 1)))
        let s1 := s.restartChain q
        if nom * 2 < 100 * (r1.gain - r1.ofs - nom).natAbs then s1.calReject r1
        else if own then
          let g := r1.newGain
          let dev := bits (s.rwC 0x06000C) 31 24
          if (g - f32q gq).abs * 10000 ≤ (dev : Rat) * (f32q gq).abs then s1.calAccept r1 (f32of g) (f32ofFix r1.ofs) else s1.calReject r1
        else s1.putRover { r1 with step := 8 }
    | _ =>
      if (s.chain q).outs < 64 then s
      else
        let g := r.newGain
        let m := s.compare r.path g (mkRat r.ofs (2 ^ 64))
        let s1 := s.noteMism m.2
        let dev := bits (s.rwC 0x06000C) 31 24
        if decide ((g - f32q gq).abs * 10000 ≤ (dev : Rat) * (f32q gq).abs) && m.1 then s1.calAccept r (f32of g) (f32ofFix r.ofs)
        else s1.calReject r

/-- AFE_BGCAL_TIMER: the next cycle of the rotation, held back while another cycle runs (R162). -/
def doBgcal (s : State) : State :=
  if !bit (s.rwC 0x060000) 4 then s
  else if s.afe.rover.isSome then { s with afe := { s.afe with bgDue := s.afe.bgDue + 1 } }
  else s.bgStart

def cmdAfeCal (h : Hdr) (ps : List Word) (s : State) : Res :=
  arity 1 ps s fun _ =>
    let p := bits (par ps 0) 3 0
    if 12 < p then .fail s eParam 0
    else if s.opLocked h 0x0404 p then .fail s eLocked
    else if s.opBusy h 0x0404 p || s.afe.calQ.elem p || (match s.afe.rover with | some r => r.path == p | none => false) then .fail s eBusy
    else if !s.calReady p then .fail s eState
    else
      let s1 := s.addOp h 0x0404 p
      .pending (if s1.afe.rover.isNone then s1.roverStart p true else { s1 with afe := { s1.afe with calQ := s1.afe.calQ ++ [p] } })

/-! ## Channels (R160, R164) -/

def cmdAfeStart (_ : Hdr) (ps : List Word) (s : State) : Res :=
  arity 1 ps s fun _ =>
    .ok (((List.range 8).filter (fun c => bit (par ps 0) c && !(s.chan c).running)).foldl (fun (s : State) c =>
      let s1 := s.mapChan c (fun x => { x with running := true, taps := x.custom, quiet := 0 })
      (chanPaths c).foldl (fun (s : State) p => s.restartChain p) s1) s)

/-- The cycles of stopped paths end with E_STATE: those queued leave the queue, then the one in progress is aborted (R164). -/
def State.calStop (ps : List Nat) (s : State) : State :=
  let s1 := (s.afe.calQ.filter ps.elem).foldl (fun (s : State) p => s.completeOp .coma 0x0404 p eState)
    { s with afe := { s.afe with calQ := s.afe.calQ.filter (fun p => !ps.elem p) } }
  match s1.afe.rover with
  | some r => if ps.elem r.path then s1.roverAborted.roverEnd r eState else s1
  | none => s1

def cmdAfeStop (_ : Hdr) (ps : List Word) (s : State) : Res :=
  arity 1 ps s fun _ =>
    let cs := (List.range 8).filter (fun c => bit (par ps 0) c && (s.chan c).running)
    let paths := cs.flatMap chanPaths
    let s1 := cs.foldl (fun (s : State) c => s.mapChan c (fun x => { x with running := false, lastCyc := [] })) s
    .ok ((paths.foldl (fun (s : State) p => s.mapChain p (fun k => { k with running := false })) s1).calStop paths)

def cmdCicLoadcoef (_ : Hdr) (ps : List Word) (s : State) : Res :=
  arity 65 ps s fun _ =>
    let cs := (List.range 8).filter (fun c => bit (par ps 0) c)
    if cs.any (fun c => (s.chan c).running) then .fail s eState
    else .ok (cs.foldl (fun (s : State) c => s.mapChan c (fun x => { x with custom := some (ps.drop 1) })) s)

/-- AFE_CTL is written, which no running chain admits: the default taps of the preset are loaded (R156). -/
def State.presetApply (w : Word) (s : State) : State :=
  State.putRw .coma 0x060000 w { s with afe := { s.afe with chans := s.afe.chans.map (fun (c : Chan) => { c with custom := none, taps := none }) } }

/-! ## Phase sequence and neutral (R165, R166) -/

/-- The nominal cycle that last ended with every output formed, by the number of its end (R165, R157). -/
def State.lastCycle (s : State) : Nat := cycIdx s.afeHz (s.tim.now - feLatency s.afePreset - 2000)

/-- Fundamental phasors of the eight channels over the last cycle; 0 for a channel that does not run. -/
def State.fundamentals (s : State) : List Cx :=
  s.afe.chans.map (fun c => if c.running then cyclePhasor (9600 / s.afeHz) c.lastCyc else (0, 0))


/-- The sequence of three phasors is wrong: peak magnitudes above vmin % of 2^26 counts, and an angle off by more than 30 degrees. -/
def wrongSeq (vmin : Nat) (acb : Bool) (a b c : Cx) : Bool :=
  let big := fun (x : Cx) => decide ((vmin : Int) * 2 ^ 26 * one64 < 100 * mulF (sqrtF (2 * one64)) (cxAbs x))
  let want := if acb then -(2 * pi64 / 3) else 2 * pi64 / 3
  let off := fun (x y : Cx) => decide (pi64 / 6 < ((wrapRad (cxArg x - cxArg y - want)).natAbs : Int))
  big a && big b && big c && (off a b || off b c)

/-- A condition's run of cycles: alarm and run after one more cycle (R166). -/
def detStep (dwell : Nat) (cond alarm : Bool) (run : Nat) : Bool × Nat :=
  if cond = alarm then (alarm, 0) else if dwell ≤ run + 1 then (cond, 0) else (alarm, run + 1)

/-- A front-end condition set or cleared: counted, latched, offered (R165, R166). -/
def State.detEvent (cls ctr evtSet : Nat) (on : Bool) (s : State) : State :=
  let s1 := (s.bumpC ctr 1).latchC 0x060008 (if on then evtSet else evtSet + 1)
  if s1.nucUp then s1.offerState cls 0xFD00 on on 0 0 0 else s1

/-- Detections on the fundamental phasors of a cycle (R165, R166). -/
def State.detect (s : State) : State :=
  let ph := s.fundamentals
  let f := fun (c : Nat) => nth (0, 0) ph c
  let runs := fun (c : Nat) => (s.chan c).running
  let det := s.rwC 0x060014
  let det2 := s.rwC 0x060018
  let dwell := bits det2 3 0
  let acb := bit (s.rwC 0x060000) 3
  let seq := wrongSeq (bits det 7 0) acb (f 0) (f 1) (f 2) || (bit det2 5 && wrongSeq (bits det 7 0) acb (f 4) (f 5) (f 6))
  let volts := [0, 1, 2, 3].all runs
  let amps := [4, 5, 6, 7].all runs
  let c1 := volts && decide ((bits det 15 8 : Int) * (cxAbs (f 0) + cxAbs (f 1) + cxAbs (f 2)) ≤ 300 * cxAbs (f 3))
  let res := cxAbs (cxAdd (cxAdd (f 4) (f 5)) (f 6))
  let c2 := decide ((bits det 23 16 : Int) * (cxAbs (f 4) + cxAbs (f 5) + cxAbs (f 6)) ≤ 300 * res)
  let c3 := decide (100 * cxAbs (f 7) < (bits det 31 24 : Int) * res)
  let neu := c1 && (bit det2 4 || (amps && c2 && c3))
  let a := detStep dwell seq s.afe.seqAlarm s.afe.seqRun
  let b := detStep dwell neu s.afe.neutAlarm s.afe.neutRun
  let ang := fun (x y : Cx) => turn16 (cxArg x - cxArg y)
  let s1 : State := { s with afe := { s.afe with
    seqAlarm := a.1, seqRun := a.2, neutAlarm := b.1, neutRun := b.2
    seqAng := w32 (ang (f 0) (f 1) + 65536 * ang (f 1) (f 2)) } }
  let s2 := if a.1 = s.afe.seqAlarm then s1 else s1.detEvent 9 0x060030 0 a.1
  if b.1 = s.afe.neutAlarm then s2 else s2.detEvent 10 0x060034 2 b.1

/-- NOMINAL_CYCLE_END: the outputs of the cycle that last ended, which R283's grid bounds, are judged once (R165). -/
def doNominalCycle (s : State) : State :=
  let n := 9600 / s.afeHz
  let k := s.lastCycle
  if k ≤ s.afe.cycDone then s
  else
    State.detect { s with afe := { s.afe with
      cycDone := k, chans := s.afe.chans.map (fun (c : Chan) => { c with lastCyc := c.between ((k - 1) * n) (k * n) }) } }

/-! ## Registers (R168, R169) -/

def State.afeStat (s : State) : Word :=
  w32 (sumN ((List.range 8).map (fun c => if (s.chan c).running then 2 ^ c else 0)) +
    sumN ((List.range 4).map (fun i => if (s.chan (4 + i)).x1 then 2 ^ (8 + i) else 0)) +
    2 ^ 12 * b2n s.afe.seqAlarm + 2 ^ 13 * b2n s.afe.neutAlarm + 2 ^ 14 * b2n s.afe.synced)

/-- AFE_CALQ's and AFE_RV_STAT's path and step. -/
def State.roverPathStep (s : State) : Nat := match s.afe.rover with | some r => r.path + 16 * r.step | none => 0

def State.calqWord (s : State) : Word := w32 (s.roverPathStep + 256 * sumN (s.afe.calQ.map (fun p => 2 ^ p)))

/-- AFE_Cc_STAT without the clear-on-read bit. -/
def State.afeChanStat (c : Nat) (s : State) : Word :=
  let x := s.chan c
  w32 (b2n x.running + 2 * b2n (decide (4 ≤ c) && x.x1) + 4 * b2n ((chanPaths c).any (fun p => s.supplier p == 12)))

/-- RMS and peak of the last nominal cycle, V at the balls. -/
def State.chanRms (c : Nat) (s : State) : Word :=
  let vs := (s.chan c).lastCyc.map (fun w => waveVal w.word)
  if vs.isEmpty then 0
  else f32ofFix (sqrtF (ratF (mkRat (sumI (vs.map (fun v => v * v))) (vs.length * 2 ^ 52))))
def State.chanPeak (c : Nat) (s : State) : Word :=
  f32of (mkRat (maxN 0 ((s.chan c).lastCyc.map (fun w => (waveVal w.word).natAbs)) : Nat) (2 ^ 26))

/-- A common AFE register that is computed; none for one that is storage. -/
def State.afeReg (o : Nat) (s : State) : Option Word :=
  if o = 4 then some s.afeStat else if o = 0x10 then some s.calqWord else if o = 0x1C then some s.afe.seqAng else none

def State.afeChanReg (c o : Nat) (s : State) : Option Word :=
  let p1 := nth 0 (chanPaths c) 0
  let p16 := nth 13 (chanPaths c) 1
  if o = 0 then some (s.afeChanStat c) else if o = 4 then some (nth 0 s.afe.gain p1) else if o = 8 then some (nth 0 s.afe.ofs p1)
  else if o = 0xC then some (nth 0 s.afe.gain p16) else if o = 0x10 then some (nth 0 s.afe.ofs p16)
  else if o = 0x14 then some (w32 (nth 0 s.afe.calT p1)) else if o = 0x18 then some (w32 (nth 0 s.afe.calT p16))
  else if o = 0x1C then some (s.chanRms c) else if o = 0x20 then some (s.chanPeak c) else none

def State.roverReg (o : Nat) (s : State) : Option Word :=
  if o = 0 then some (w32 (s.roverPathStep + 256 * b2n s.afe.rover.isSome)) else if o = 4 then some (nth 0 s.afe.gain 12)
  else if o = 8 then some (nth 0 s.afe.ofs 12) else if o = 0xC then some (w32 s.afe.rvMism) else if o = 0x10 then some (w32 (nth 0 s.afe.calT 12)) else none

def State.cicReg (o : Nat) (s : State) : Option Word :=
  let p := s.afePreset
  if o = 0 then some (w32 (sumN ((List.range 8).map (fun c => if (s.chan c).taps.isSome then 2 ^ c else 0)) + 256 * b2n s.afe.sync.isSome + 512 * s.afe.lastSyncSrc))
  else if o = 4 then some (w32 (presetBout p)) else if o = 8 then some (w32 (presetDelta p + 65536 * presetM0 p))
  else if o = 0xC then some (w32 (s.afe.lastSync / 1000000000 / 2 ^ 32)) else if o = 0x10 then some (w32 (s.afe.lastSync / 1000000000))
  else if o = 0x14 then some (w32 (s.afe.lastSync % 1000000000)) else none

def State.cicChanReg (c o : Nat) (s : State) : Option Word :=
  let k := s.chain (nth 0 (chanPaths c) 0)
  if o = 0 then some (w32 (b2n k.running + 2 * (if k.running then presetUnsettled s.afePreset - k.outs else 0)))
  else if o = 4 then some (crc32c (bytesOf (s.tapsOf c))) else if o = 8 then some (w32 (sat 32 k.outs))
  else if o = 0xC then some k.last else if o = 0x10 then some (s.chain (nth 13 (chanPaths c) 1)).last else none

/-! ## The table's rows -/

/-- AFE_START (R160). -/
def execAfeStart (h : Hdr) (ps : List Word) (s : State) : Host.Outcome State Fault Refusal :=
  .next (State.settled (s.serve 0x0400 h ps cmdAfeStart))

/-- AFE_STOP (R164). -/
def execAfeStop (h : Hdr) (ps : List Word) (s : State) : Host.Outcome State Fault Refusal :=
  .next (State.settled (s.serve 0x0401 h ps cmdAfeStop))

/-- CIC_SYNC (R159). -/
def execCicSync (h : Hdr) (ps : List Word) (s : State) : Host.Outcome State Fault Refusal :=
  .next (State.settled (s.serve 0x0402 h ps cmdCicSync))

/-- CIC_LOADCOEF (R156). -/
def execCicLoadcoef (h : Hdr) (ps : List Word) (s : State) : Host.Outcome State Fault Refusal :=
  .next (State.settled (s.serve 0x0403 h ps cmdCicLoadcoef))

/-- AFE_CAL (R162). -/
def execAfeCal (h : Hdr) (ps : List Word) (s : State) : Host.Outcome State Fault Refusal :=
  .next (State.settled (s.serve 0x0404 h ps cmdAfeCal))

/-- CIC_OUTPUT (R156). -/
def execCicOutput (path : Nat) (bits : List Bool) (s : State) : Host.Outcome State Fault Refusal :=
  .next (State.settled (whenUp .coma (doCicOutput path bits) s))

/-- AFE_SYNC_APPLY (R158). -/
def execAfeSyncApply (t : Nat) (s : State) : Host.Outcome State Fault Refusal :=
  .next (State.settled (whenUp .coma (doSyncApply t) s))

/-- SYNC_N_FALL (R159). -/
def execSyncNFall (t : Nat) (lowNs : Nat) (s : State) : Host.Outcome State Fault Refusal :=
  .next (State.settled (whenUp .coma (doSyncFall t lowNs) s))

/-- SYNC_N_STUCK (R159). -/
def execSyncNStuck (s : State) : Host.Outcome State Fault Refusal :=
  .next (State.settled (whenUp .coma doSyncStuck s))

/-- NOMINAL_CYCLE_END (R165). -/
def execNominalCycleEnd (s : State) : Host.Outcome State Fault Refusal :=
  .next (State.settled (whenUp .coma doNominalCycle s))

/-- AFE_BGCAL_TIMER (R162). -/
def execAfeBgcalTimer (s : State) : Host.Outcome State Fault Refusal :=
  .next (State.settled (whenUp .coma doBgcal s))

/-- ROVER_STEP_ADVANCE (R162). -/
def execRoverStepAdvance (s : State) : Host.Outcome State Fault Refusal :=
  .next (State.settled (whenUp .coma doRoverStep s))

end Sys2Proof.Machine
end

