-- ==== Sys2Proof/Machine/Isl.lean ====
section
/-! DEFINITION. The island engine (R188-R206) and its label rounds across an orrery (R202, R203, R277, R278). -/

namespace Sys2Proof.Machine

/-! ## The image a run uses (R192) -/

/-- The image a delivery is run against: the one in force when its conjunction opened. -/
def State.topoFor (d : Delivery) (s : State) : WMap := if d.under then s.tbl.oldTopo.getD (s.bank 2).active else (s.bank 2).active

/-- The branch was changed by the commit that the run already follows while the outgoing bank is still held. -/
def State.branchLost (d : Delivery) (j : Nat) (s : State) : Bool :=
  !d.under && (match s.tbl.oldTopo with | some old => branchChanged old (s.bank 2).active j | none => false)

/-- Label rounds follow the final runs (R202). -/
def State.islOry (s : State) : Bool := bit (s.rwN 0x05002C) 8 && s.ory.joined

/-! ## Branch states (R193-R195) -/

def State.branchSt (j : Nat) (s : State) : Branch :=
  (findBy Branch.id j s.isl.branches).getD { id := j, cnt := 0, dth := none, st := 0, su := false, au := false, rate := 0, opens := 0, seps := 0 }

/-- A lane is usable evidence (R193). -/
def usable (qg angle : Bool) (l : Lane) : Bool := laneV l && !(qg && laneQ l) && !(angle && laneU l)

/-- What one run finds of a branch: its next stored form (counts of transitions left out), whether it is stale, whether it joins. -/
structure BrRun where
  br : Branch
  stale : Bool
  join : Bool

def State.runBranch (t : WMap) (d : Delivery) (j : Nat) (s : State) : BrRun :=
  let cfg := s.rwN 0x050004
  let qg := bit cfg 3
  let w0 := branchW t j 0
  let w1 := branchW t j 1
  let w2 := branchW t j 2
  let thr := bits (branchW t j 3) 15 0
  let b0 := s.branchSt j
  let b := if s.branchLost d j then { b0 with cnt := 0, dth := none } else b0
  let sl := d.lane (bits w2 15 0) (bits w2 25 16)
  let sb := bits w2 29 26
  let su := bit w0 30 && usable qg false sl && bit sl.1 sb
  let opened := su && bit sl.1 (16 + sb) == bit w2 30
  let ang := fun (i : Nat) => d.lane (bits (nodeW t i 0) 15 0) (bits (nodeW t i 1) 25 16)
  let lf := ang (brFrom t j)
  let lt := ang (brTo t j)
  let au := bit w0 29 && usable qg true lf && usable qg true lt
  let dth := BitVec.ofNat 16 (65536 + bits lf.1 15 0 - bits lt.1 15 0)
  let fresh := match b.dth with | some (_, m) => au && decide (m < d.key) && decide (d.key - m ≤ 4) | none => false
  let (cnt, rate) := match b.dth with
    | some (o, m) =>
      if fresh then
        let dq : Int := (dth - o).toInt
        let r := roundAway (mkRat (dq * d.rate * 10000) (65536 * (d.key - m)))
        (if thr < r.natAbs then Nat.min (b.cnt + 1) 255 else if 16 * r.natAbs ≤ thr * bits cfg 11 8 then 0 else b.cnt, r)
      else (b.cnt, b.rate)
    | none => (b.cnt, b.rate)
  let st := if opened then 1 else if bit w0 29 && decide (bits w1 31 24 ≤ cnt) then 2
    else if su || au || (!bit w0 30 && !bit w0 29) then 0 else 3
  { br := { b with cnt := cnt, rate := rate, dth := if au then some (dth, d.key) else b.dth, st := st, su := su, au := au },
    stale := !fresh, join := st == 0 || (st == 3 && !bit w0 28) }

/-! ## Components and islands (R196) -/

/-- Two nodes' components united, members rising. -/
def unite (f o : Nat) (cs : List (List Nat)) : List (List Nat) :=
  let (hit, rest) := cs.partition (fun c => c.elem f || c.elem o)
  if hit.length < 2 then cs else hit.flatten.foldl (fun l x => insertBy id x l) [] :: rest

/-- The global ID of a node (R196). -/
def State.gid (t : WMap) (i : Nat) (s : State) : Nat :=
  (if nodeRemote t i then bits (nodeW t i 0) 26 16 else if s.ory.joined then s.ory.id else 0) * 2 ^ 17 + i

/-- The nodes and branches a run takes: remote nodes and their ties only where label rounds follow. -/
def State.runNodes (t : WMap) (s : State) : List Nat := (validNodes t).filter (fun i => s.islOry || !nodeRemote t i)
def State.runBranches (t : WMap) (s : State) : List Nat :=
  (validBranches t).filter (fun j => s.islOry || !(nodeRemote t (brFrom t j) || nodeRemote t (brTo t j)))

/-- Components by local label. -/
def State.components (t : WMap) (rs : List BrRun) (s : State) : List (Nat × List Nat) :=
  let cs := (rs.filter BrRun.join).foldl (fun cs r => unite (brFrom t r.br.id) (brTo t r.br.id) cs) ((s.runNodes t).map (fun i => [i]))
  cs.map (fun c => (minN 0 (c.map (fun i => s.gid t i)), c))

/-- Islands in the order of R196: most members first, then lower label. -/
def State.islandsOf (cs : List (Nat × List Nat)) (s : State) : List (Nat × List Nat) :=
  (cs.filter (fun c => decide (bits (s.rwN 0x050004) 23 16 ≤ c.2.length))).foldl
    (fun l c => insertBy (fun (x : Nat × List Nat) => (2 ^ 20 - x.2.length) * 2 ^ 40 + x.1) c l) []

/-- Records an image's islands may hold (R196). -/
def islRecords : Nat := 4096

/-! ## Handles (R197) -/

/-- Members that an island shares with a handle of the last final run. -/
def sharedWith (ms old : List Nat) : Nat := (ms.filter (fun i => old.elem i)).length

/-- Pairs of label and handle that share members, in the order of R197. -/
def sharePairs (cs : List (Nat × List Nat)) (old : List Island) : List (Nat × Nat) :=
  let ps := cs.flatMap (fun c => (old.map (fun o => (sharedWith c.2 o.members, (c.1, o.handle)))).filter (fun p => decide (0 < p.1)))
  (ps.foldl (fun l p => insertBy (fun (x : Nat × (Nat × Nat)) => (2 ^ 20 - x.1) * 2 ^ 80 + x.2.1 * 2 ^ 40 + x.2.2) p l) []).map (fun p => p.2)

/-- Handles kept: label and handle. -/
def keptHandles (ps : List (Nat × Nat)) : List (Nat × Nat) :=
  ps.foldl (fun l p => if l.any (fun x => x.1 == p.1 || x.2 == p.2) then l else l ++ [p]) []

/-- The parent of an island that takes a new handle: the handle with the largest share, the lowest on a tie. -/
def parentOf (ms : List Nat) (old : List Island) : Nat :=
  (old.foldl (fun (b : Nat × Nat) o =>
    let n := sharedWith ms o.members
    if b.1 < n ∨ (n = b.1 ∧ 0 < n ∧ o.handle < b.2) then (n, o.handle) else b) (0, 0)).2

/-- What a run makes of the handles: by label, the island's handle, parent, whether it is new, and the handles retired into it. -/
structure IslRun where
  label : Nat
  members : List Nat
  handle : Nat
  parent : Nat
  fresh : Bool
  retired : List Nat

/-- The islands of a run matched with those of the last final run; new handles are issued in rising label (log 31), a pending provisional
formation's handle to the island of its label and parent (R199, R200). Also the next handle. Once 0xFFFFFFFE is issued none is left, and a
new island is left without record and handle: R197 has no other handle for it (DESIGN CHOICE, log 142). -/
def State.matchIslands (cs : List (Nat × List Nat)) (s : State) : List IslRun × Nat :=
  let old := s.isl.islands
  let kept := keptHandles (sharePairs cs old)
  let gone := old.filter (fun o => !kept.any (fun k => k.2 == o.handle))
  let byLabel := cs.foldl (fun l c => insertBy (fun (x : Nat × List Nat) => x.1) c l) []
  let r := byLabel.foldl (fun (acc : List IslRun × Nat) c =>
    let ret := (gone.filter (fun o => decide (0 < sharedWith c.2 o.members))).map Island.handle
    match kept.find? (fun k => k.1 == c.1) with
    | some k => (acc.1 ++ [{ label := c.1, members := c.2, handle := k.2, parent := 0, fresh := false, retired := ret }], acc.2)
    | none =>
      let p := parentOf c.2 old
      match s.isl.prov.find? (fun e => !e.merge && e.label == c.1 && e.parent == p) with
      | some e => (acc.1 ++ [{ label := c.1, members := c.2, handle := e.handle, parent := p, fresh := true, retired := ret }], acc.2)
      | none => if 0xFFFFFFFF ≤ acc.2 then acc else (acc.1 ++ [{ label := c.1, members := c.2, handle := acc.2, parent := p, fresh := true, retired := ret }], acc.2 + 1))
    ([], s.isl.nextHandle)
  (cs.filterMap (fun c => r.1.find? (fun x => x.label == c.1)), r.2)

/-- The formation was predicted by a pending provisional one. -/
def State.predicted (x : IslRun) (s : State) : Bool := x.fresh && s.isl.prov.any (fun e => !e.merge && e.label == x.label && e.parent == x.parent)

/-! ## Events (R198, R206) -/

/-- An event with what the log shows of it: kind, handle, provisional, handles retired, third word; and the key of the provisional event. -/
structure IslLog where
  code : Nat
  handle : Nat
  prov : Bool
  nret : Nat
  aux : Nat
  pkey : Nat

/-- Counter of a kind (R206): FORM, MERGE, DEAD, LIVE, CONFIRM, WITHDRAW, RELABEL. -/
def islCtr (code : Nat) : Nat := 0x050050 + 4 * code

/-- The event is counted, latched and logged in the ring of 32. -/
def State.logIsland (key : Nat) (e : IslLog) (s : State) : State :=
  let w0 := w32 (e.code + 16 * b2n e.prov + 256 * sat 8 e.nret + 65536 * (key % 65536))
  let c := s.cor .nucleus 0x05003C
  let lost := decide (32 ≤ bits c 15 8)
  let s1 := (s.bumpN (islCtr e.code) 1).latchN 0x05000C e.code
  let ring := s1.isl.elog ++ List.replicate (32 - s1.isl.elog.length) (0, (0, 0))
  State.putCor .nucleus 0x05003C (w32 (256 * sat 8 (bits c 15 8 + 1) + 65536 * sat 8 (bits c 23 16 + b2n lost)))
    { s1 with isl := { s1.isl with
      elog := at' ring s1.isl.elogNext (fun _ => (w0, (w32 e.handle, w32 e.aux))), elogNext := (s1.isl.elogNext + 1) % 32 } }

/-- Events in the order of R198: CONFIRM, WITHDRAW, MERGE, FORMATION, DEAD, LIVE, RELABEL; within a kind by handle. -/
def islRank (code : Nat) : Nat := nth 7 [3, 2, 4, 5, 0, 1, 6] code
def orderEvents (es : List IslLog) : List IslLog :=
  [0, 1, 2, 3, 4, 5, 6].flatMap (fun k =>
    (es.filter (fun e => islRank e.code == k)).foldr (fun e l =>
      let (a, b) := l.partition (fun x => decide (x.handle < e.handle))
      a ++ e :: b) [])

def State.raiseIsland (final close : Bool) (key : Nat) (es : List IslLog) (s : State) : State :=
  let es := orderEvents es
  (es.foldl (fun (s : State) e => s.logIsland key e) s).offerIsland final close key (es.map (fun e => { code := e.code, handle := e.handle, pkey := e.pkey }))

/-! ## Records (R196) -/

/-- FREQ lane words of the live members. -/
def State.liveFreqs (t : WMap) (d : Delivery) (ms : List Nat) (s : State) : List Int :=
  ((ms.filter (fun i => nodeMeas t i)).map (fun i => d.lane (bits (nodeW t i 0) 15 0) (bits (nodeW t i 1) 9 0))).filterMap (fun l =>
    if usable (bit (s.rwN 0x050004) 3) true l then some l.1.toInt else none)

def spreadOf (fs : List Int) : Nat := let q := sortI fs; ((q.getLast?.getD 0) - (q.head?.getD 0)).toNat

def State.record (t : WMap) (d : Delivery) (x : IslRun) (s : State) : Island :=
  let fs := s.liveFreqs t d x.members
  let old := s.isl.islands.find? (fun o => o.handle == x.handle)
  { handle := x.handle, label := x.label, members := x.members, live := fs.length, fmean := if fs.isEmpty then 0 else (sumI fs).tdiv fs.length,
    fspread := spreadOf fs, parent := if x.fresh then x.parent else (old.map Island.parent).getD 0,
    formKey := if x.fresh then d.key else (old.map Island.formKey).getD 0 }

/-! ## Label rounds (R202, R203) -/

/-- Neighbours that are up. -/
def State.upNbs (s : State) : List Nat := s.nbsWhere (fun k => (s.nb k).up)

/-- The label of a node's component. -/
def labelOf (cs : List (Nat × List Nat)) (i : Nat) : Option Nat := (cs.find? (fun c => c.2.elem i)).map (fun c => c.1)

/-- The global ID of a node of the run whose rounds these are. -/
def State.gidIn (r : Rounds) (i : Nat) (s : State) : Nat :=
  ((r.far.find? (fun e => e.1 == i)).elim (if s.ory.joined then s.ory.id else 0) (fun e => e.2)) * 2 ^ 17 + i

/-- The entries for neighbour k: its remote nodes that a joining tie reaches, and the own nodes learnt toward it (R202, R277). -/
def State.labelEntries (r : Rounds) (k : Nat) (s : State) : List (Nat × Nat) :=
  let id := nbId (s.nbCfg k)
  let own := (s.isl.learnt.filter (fun l => l.1 == k)).map (fun l => l.2)
  (r.ends.filter (fun i => r.far.any (fun e => e.1 == i && e.2 == id)) ++ own).filterMap (fun i => (labelOf r.comps i).map (fun l => (s.gidIn r i, l)))

/-- A LABELS payload (R270). -/
def labelsPayload (key round : Nat) (es : List (Nat × Nat)) : List Byte :=
  beBytes 8 (key % 2 ^ 56) ++ [BitVec.ofNat 8 round, 0] ++ beBytes 2 es.length ++ es.flatMap (fun e => beBytes 4 e.1 ++ beBytes 4 e.2)

def chunks {α : Type} (n : Nat) : Nat → List α → List (List α)
  | 0, _ => []
  | k + 1, l => if l.length ≤ n then [l] else l.take n :: chunks n k (l.drop n)

/-- The round's message or messages to neighbour k. -/
def State.sendLabels (r : Rounds) (k : Nat) (s : State) : State :=
  let p := nbPort (s.nbCfg k)
  let cap := Nat.max 1 ((s.maxlen p - ((s.nbFrame k (s.ndevar 0 3 0 [])).length + 4) - 12) / 8)
  let es := s.labelEntries r k
  let parts := chunks cap (es.length / cap + 1) es
  parts.zipIdx.foldl (fun (s : State) x =>
    s.originate k (nbId (s.nbCfg k)) 3 (b2n (decide (x.2 + 1 < parts.length))) (labelsPayload r.key r.round x.1)) s

/-- The rounds of an epoch. -/
def State.roundsOf (key : Nat) (s : State) : Option Rounds := s.isl.rounds.find? (fun r => r.key == key)

/-- A round starts: its messages go out, and what has already come for it is taken. Of the rounds under way it is the one that started last. -/
def State.startRound (r : Rounds) (s : State) : State :=
  let want := s.upNbs
  let s1 := want.foldl (fun (s : State) k => s.sendLabels r k) s
  let now := fun (m : LabMsg) => m.key == r.key && m.round == r.round
  let ms := s1.isl.inbox.filter now
  { s1 with isl := { s1.isl with
    rounds := eraseBy Rounds.key r.key s1.isl.rounds ++
      [{ r with want := want, got := (ms.filter (fun m => !m.more)).map LabMsg.nb, labels := ms.flatMap LabMsg.entries }]
    inbox := s1.isl.inbox.filter (fun m => !now m) } }

/-- The labels received lower the labels of the components that hold their nodes. -/
def State.takeLabels (r : Rounds) (s : State) : List (Nat × List Nat) :=
  r.comps.map (fun c => (minN c.1 (c.1 :: (r.labels.filter (fun e => c.2.any (fun i => s.gidIn r i == e.1))).map (fun e => e.2)), c.2))

/-- The epoch is the newest of those whose rounds the registers show. -/
def State.newestRounds (key : Nat) (s : State) : Bool := s.isl.prevLabels.all (fun p => decide (p.1 < key))

/-- The first round of an epoch that closes at its timeout: the epoch is incomplete, which is counted and latched at once; F_ISL_ORY once
ISL_ORY.rounds epochs in a row have been so (R203, R206). -/
def State.roundLate (r : Rounds) (s : State) : State :=
  if r.inc then s
  else
    let s1 : State := { s with isl := { s.isl with
      rounds := s.isl.rounds.map (fun x => if x.key = r.key then { x with inc := true } else x)
      incomplete := s.isl.incomplete || s.newestRounds r.key, incRun := s.isl.incRun + 1 } }
    let s2 := (s1.bumpN 0x05007C 1).latchN 0x05000C 8
    if bits (s.rwN 0x05002C) 5 0 ≤ s1.isl.incRun then s2.faultN 24 else s2

/-- The labels that are compared with those of an epoch's rounds: of the newest earlier epoch whose rounds have ended (log 32). -/
def State.labelsBefore (key : Nat) (s : State) : List (Nat × Nat) :=
  (s.isl.prevLabels.foldl (fun (b : Nat × List (Nat × Nat)) p => if p.1 < key ∧ b.1 ≤ p.1 then p else b) (0, [])).2

/-- The end of an epoch's rounds, all of which have run: RELABEL against the end of the previous epoch's rounds (R203, R278). -/
def State.endRounds (r : Rounds) (s : State) : State :=
  let now := r.isles.filterMap (fun x => (labelOf r.comps x.2).map (fun l => (x.1, l)))
  let before := s.labelsBefore r.key
  let es := now.filterMap (fun x => match before.find? (fun p => p.1 == x.1) with
    | some p => if p.2 = x.2 then none else some { code := 6, handle := x.1, prov := false, nret := 0, aux := 0, pkey := 0 : IslLog }
    | none => none)
  let rest := eraseBy Rounds.key r.key s.isl.rounds
  let ended := (r.key, now) :: s.isl.prevLabels
  let s1 : State := { s with isl := { s.isl with
    rounds := rest
    roundsUsed := if s.newestRounds r.key then r.round else s.isl.roundsUsed
    incomplete := if s.newestRounds r.key then r.inc else s.isl.incomplete
    incRun := if r.inc then s.isl.incRun else 0
    prevLabels := ended.filter (fun p => !ended.any (fun q => decide (p.1 < q.1) && rest.all (fun x => decide (q.1 < x.key))))
    inbox := s.isl.inbox.filter (fun m => m.key != r.key) } }
  s1.raiseIsland true false r.key es

/-- The labels of an epoch's components stand in the records where the epoch is that of the last final run. -/
def State.relabel (key : Nat) (cs : List (Nat × List Nat)) (s : State) : State :=
  if key ≠ s.isl.lastKey then s
  else { s with isl := { s.isl with islands := s.isl.islands.map (fun x =>
    match x.members.head? with
    | some i => { x with label := (labelOf cs i).getD x.label }
    | none => x) } }

/-- Rounds of an epoch that have every message close, one after the other, until ISL_ORY.rounds have run; with no neighbour up they all close
at once. -/
def State.closeRounds : Nat → Bool → Nat → State → State
  | 0, _, _, s => s
  | f + 1, force, key, s =>
    match s.roundsOf key with
    | none => s
    | some r =>
      if !force && !r.want.all (fun k => r.got.elem k) then s
      else
        let cs := s.takeLabels r
        let s1 := s.relabel key cs
        let r1 := { r with comps := cs }
        if bits (s.rwN 0x05002C) 5 0 ≤ r.round then s1.endRounds r1
        else State.closeRounds f false key (s1.startRound { r1 with round := r.round + 1, got := [], labels := [] })

/-- An epoch's rounds begin after its final run, beside those of earlier epochs that still run; where none follow it, the epoch has used none
and is not incomplete. -/
def State.beginRounds (t : WMap) (key : Nat) (cs : List (Nat × List Nat)) (s : State) : State :=
  if !s.islOry then { s with isl := { s.isl with prevLabels := [], roundsUsed := 0, incomplete := false, incRun := 0 } }
  else
    let far := ((s.runNodes t).filter (fun i => nodeRemote t i)).map (fun i => (i, bits (nodeW t i 0) 26 16))
    let ends := (s.runBranches t).filterMap (fun j =>
      let b := s.branchSt j
      let i := if nodeRemote t (brFrom t j) then brFrom t j else brTo t j
      if (b.st == 0 || (b.st == 3 && !bit (branchW t j 0) 28)) && nodeRemote t i then some i else none)
    let r : Rounds := { key := key, round := 1, want := [], got := [], labels := [], comps := cs, inc := false, far := far
                        ends := ends.foldl (fun l i => insertBy (fun (x : Nat) => x) i l) []
                        isles := s.isl.islands.filterMap (fun x => x.members.head?.map (fun i => (x.handle, i))) }
    State.closeRounds 64 false key (s.startRound r)

/-- LABEL_ROUND_TIMEOUT: the open round that started earliest closes with the labels it has (R203). -/
def doRoundTimeout (s : State) : State :=
  match s.isl.rounds with
  | [] => s
  | r :: _ => State.closeRounds 64 true r.key (s.roundLate r)

/-! ## Runs (R188, R196-R200) -/

/-- A run leaves the queue: time, maximum, hold; more than 6 µs from its close is F_ISL_TIME (R201, R339). -/
def State.runTimed (ns : Nat) (s : State) : State :=
  let s1 := (({ s with isl := { s.isl with lastT := ns } }.corMax .nucleus 0x050028 ns).holdDone)
  if 6000 < ns then s1.faultN 25 else s1

def State.overflowNote (n : Nat) (s : State) : State :=
  let s1 : State := { s with isl := { s.isl with overflow := n } }
  if n = 0 then s1 else (s1.bumpN 0x050070 n).latchN 0x05000C 7

/-- Two lists hold the same handles. -/
def sameSet (a b : List Nat) : Bool := a.all (fun x => b.elem x) && b.all (fun x => a.elem x)

/-- A final run on a delivery. -/
def State.finalRun (d : Delivery) (ns : Nat) (s : State) : State :=
  let t := s.topoFor d
  let rs := (s.runBranches t).map (fun j => s.runBranch t d j)
  let cs := s.components t rs
  let isl := s.islandsOf cs
  let (xs, next) := s.matchIslands isl
  let old := s.isl.islands
  let recs := xs.map (fun x => s.record t d x)
  -- events
  let mine := s.isl.prov.filter (fun e => decide (e.key ≤ d.key))
  let hit := fun (e : ProvEvt) => xs.find? (fun x =>
    if e.merge then x.handle == e.handle && sameSet x.retired e.retired && !x.retired.isEmpty else x.fresh && x.label == e.label && x.parent == e.parent)
  let confs := s.isl.prov.filterMap (fun e => (hit e).map (fun x =>
    { code := 4, handle := e.handle, prov := false, nret := 0, aux := x.handle, pkey := e.key : IslLog }))
  let wds := (mine.filter (fun e => (hit e).isNone)).map (fun e =>
    let at_ := xs.find? (fun x => if e.merge then x.handle == e.handle else x.label == e.label)
    { code := 5, handle := e.handle, prov := false, nret := 0, aux := (at_.map IslRun.handle).getD 0, pkey := e.key : IslLog })
  let merges := (xs.filter (fun x => !x.retired.isEmpty && !s.isl.prov.any (fun e => e.merge && e.handle == x.handle && sameSet e.retired x.retired))).map (fun x =>
    { code := 1, handle := x.handle, prov := false, nret := x.retired.length, aux := minN 0 x.retired, pkey := 0 : IslLog })
  let forms := (xs.filter (fun x => x.fresh && !s.predicted x)).map (fun x =>
    { code := 0, handle := x.handle, prov := false, nret := 0, aux := x.parent, pkey := 0 : IslLog })
  let lives := recs.filterMap (fun x =>
    match old.find? (fun o => o.handle == x.handle) with
    | some o =>
      if 0 < o.live ∧ x.live = 0 then some { code := 2, handle := x.handle, prov := false, nret := 0, aux := 0, pkey := 0 : IslLog }
      else if o.live = 0 ∧ 0 < x.live then some { code := 3, handle := x.handle, prov := false, nret := 0, aux := 0, pkey := 0 : IslLog }
      else none
    | none => if x.live = 0 then some { code := 2, handle := x.handle, prov := false, nret := 0, aux := 0, pkey := 0 : IslLog } else none)
  let dissolved := (old.filter (fun o => !xs.any (fun x => x.handle == o.handle || x.retired.elem o.handle))).length
  let brs := rs.map (fun r =>
    let b := s.branchSt r.br.id
    let into := fun (k : Nat) => decide (r.br.st = k) && decide (b.st ≠ k)
    { r.br with opens := if into 1 then sat 32 (b.opens + 1) else b.opens, seps := if into 2 then sat 32 (b.seps + 1) else b.seps })
  let es := if s.isl.init then [] else confs ++ wds ++ merges ++ forms ++ lives
  let s1 : State := { s with isl := { s.isl with
    init := false, islands := recs, branches := brs.foldl (fun l b => insertBy Branch.id b l) s.isl.branches, nextHandle := next
    prov := s.isl.prov.filter (fun e => decide (d.key < e.key) && (hit e).isNone), lastKey := d.key } }
  let s2 := (((s1.bumpN 0x050044 1).bumpN 0x05006C dissolved).bumpN 0x050074 (rs.filter BrRun.stale).length).bumpN 0x050078 (rs.filter (fun r => r.br.st == 3)).length
  let s3 := s2.overflowNote (isl.length - islRecords)
  ((s3.raiseIsland true true d.key es).beginRounds t d.key cs).runTimed ns

/-- A provisional run: it stores nothing but its events and the handles reserved for them (R199). -/
def State.provRun (d : Delivery) (ns : Nat) (s : State) : State :=
  let t := s.topoFor d
  let rs := (s.runBranches t).map (fun j => s.runBranch t d j)
  let isl := s.islandsOf (s.components t rs)
  let (xs, next) := s.matchIslands isl
  let forms := xs.filter (fun x => x.fresh && !s.predicted x)
  let merges := xs.filter (fun x => !x.retired.isEmpty)
  let es := merges.map (fun x => { code := 1, handle := x.handle, prov := true, nret := x.retired.length, aux := minN 0 x.retired, pkey := d.key : IslLog }) ++
    forms.map (fun x => { code := 0, handle := x.handle, prov := true, nret := 0, aux := x.parent, pkey := d.key : IslLog })
  let ps := forms.map (fun x => { key := d.key, merge := false, label := x.label, parent := x.parent, handle := x.handle, retired := [] : ProvEvt }) ++
    merges.map (fun x => { key := d.key, merge := true, label := x.label, parent := 0, handle := x.handle, retired := x.retired : ProvEvt })
  let s1 : State := { s with isl := { s.isl with nextHandle := next, prov := s.isl.prov ++ ps } }
  let s2 := (s1.bumpN 0x050048 1).overflowNote (isl.length - islRecords)
  (s2.raiseIsland false false d.key es).runTimed ns

/-- ISLAND_FINAL_RUN: the oldest delivery, where it is FINAL. -/
def doIslandFinal (ns : Nat) (s : State) : State :=
  match s.isl.q with
  | d :: r => if d.final then State.finalRun d ns { s with isl := { s.isl with q := r } } else s
  | [] => s

/-- ISLAND_PROVISIONAL_RUN: the oldest delivery, where it is PROVISIONAL; before the first final run it is passed over (R188). -/
def doIslandProv (ns : Nat) (s : State) : State :=
  match s.isl.q with
  | d :: r =>
    if d.final then s
    else
      let s1 : State := { s with isl := { s.isl with q := r } }
      if s.isl.init then s1 else s1.provRun d ns
  | [] => s

/-- ISL_CTL.enable takes a value (R188). -/
def State.islEnable (w : Word) (s : State) : State :=
  let was := bit (s.rwN 0x050000) 0
  let s1 := s.putRw .nucleus 0x050000 w
  if bit w 0 ∧ ¬ was then State.holdDone { s1 with isl := s.isl.discard true }
  else if ¬ bit w 0 ∧ was then State.holdDone { s1 with isl := s.isl.discard false }
  else s1

/-! ## Query and windows (R205, R206) -/

def State.islRecs (s : State) : List Island := s.isl.islands.take islRecords
def State.islCounts (s : State) : Word := w32 (s.islRecs.length % 65536 + 65536 * (s.islRecs.filter (fun x => x.live == 0)).length)

def Island.words (x : Island) : List Word :=
  [w32 x.handle, w32 (x.label % 2 ^ 28 + 2 ^ 29 * b2n (decide (247 < x.members.length)) + 2 ^ 31 * b2n (x.live == 0)), w32 x.members.length, w32 x.live,
    wInt x.fmean, w32 x.fspread, w32 x.parent, w32 (x.formKey / 2 ^ 32 % 2 ^ 24), loW x.formKey]

def State.islHeld (h : Nat) (s : State) : Option Island := s.islRecs.find? (fun x => x.handle == h)

def cmdIslQuery (_ : Hdr) (ps : List Word) (s : State) : Res :=
  arity 1 ps s fun _ =>
    if par ps 0 = 0xFFFFFFFF then
      .ok s ([s.islCounts, w32 (s.isl.lastKey / 2 ^ 32 % 2 ^ 24), loW s.isl.lastKey,
        w32 (b2n (!s.isl.prov.isEmpty) + 2 * b2n s.isl.incomplete + 256 * s.isl.roundsUsed), w32 s.isl.overflow] ++
        (s.islRecs.take 251).map (fun x => w32 x.handle))
    else match s.islHeld (par ps 0).toNat with
    | some x => .ok s (x.words ++ (x.members.take 247).map w32)
    | none => .fail s eParam 0

def State.islStat (s : State) : Word :=
  w32 (b2n (bit (s.rwN 0x050000) 0 && decide ((s.grp s.islGroup).run ≠ .stopped)) + 2 * b2n s.isl.init + 4 * b2n (!s.isl.prov.isEmpty) + 8 * b2n s.tbl.oldTopo.isSome +
    16 * b2n s.isl.incomplete + 32 * b2n (decide (0 < s.isl.overflow)))

def State.islandWindow (h : Nat) (s : State) : List Word := match s.islHeld h with | some x => x.words | none => List.replicate 9 0

def State.branchWindow (j : Nat) (s : State) : List Word :=
  let b := s.branchSt j
  let (q, m) := b.dth.getD (0, 0)
  [w32 (b.st + 4 * b2n b.su + 8 * b2n b.au + 16 * b.cnt), wInt b.rate, w32 q.toNat, hiW m, loW m, w32 b.opens, w32 b.seps]

/-- A common ISL register that is computed. -/
def State.islReg (o : Nat) (s : State) : Option Word :=
  let t := (s.bank 2).active
  if o = 8 then some s.islStat else if o = 0x10 then some (w32 (validNodes t).length) else if o = 0x14 then some (w32 (validBranches t).length)
  else if o = 0x18 then some s.islCounts else if o = 0x1C then some (w32 (s.isl.lastKey / 2 ^ 32 % 2 ^ 24)) else if o = 0x20 then some (loW s.isl.lastKey)
  else if o = 0x24 then some (w32 s.isl.lastT) else if o = 0x30 then some (w32 (s.isl.roundsUsed + 64 * b2n s.isl.incomplete))
  else if o = 0x3C then some (s.cor .nucleus 0x05003C + w32 ((s.isl.elogNext + 31) % 32 * b2n (!s.isl.elog.isEmpty)))
  else if 0x200 ≤ o ∧ o < 0x380 then
    let e := nth (0, (0, 0)) s.isl.elog ((o - 0x200) / 12)
    some (match (o - 0x200) / 4 % 3 with | 0 => e.1 | 1 => e.2.1 | _ => e.2.2)
  else none

/-! ## The table's rows -/

/-- ISL_QUERY (R205). -/
def execIslQuery (h : Hdr) (ps : List Word) (s : State) : Host.Outcome State Fault Refusal :=
  .next (State.settled (s.serve 0x0500 h ps cmdIslQuery))

/-- ISLAND_FINAL_RUN (R196). -/
def execIslandFinalRun (ns : Nat) (s : State) : Host.Outcome State Fault Refusal :=
  .next (State.settled (whenUp .nucleus (doIslandFinal ns) s))

/-- ISLAND_PROVISIONAL_RUN (R199). -/
def execIslandProvisionalRun (ns : Nat) (s : State) : Host.Outcome State Fault Refusal :=
  .next (State.settled (whenUp .nucleus (doIslandProv ns) s))

/-- LABEL_ROUND_TIMEOUT (R203). -/
def execLabelRoundTimeout (s : State) : Host.Outcome State Fault Refusal :=
  .next (State.settled (whenUp .nucleus doRoundTimeout s))

end Sys2Proof.Machine
end

