-- ==== Sys2Proof/Machine/Lbe.lean ====
section
/-! DEFINITION. Libration engines: signals, embedding and tracking, modes, classes, flows, alarms, control and query (R207-R233). -/

namespace Sys2Proof.Machine

/-! ## Section of table 0x08 (R209-R213) -/

def State.lbeT (s : State) : WMap := (nth Tbl.reset s.tbl.tbl 7).active
/-- Signals of a section with def = 1, in rising index, with the w3 of their records (R212). -/
def lbeDefs (t : WMap) (e : Nat) : List (Nat × Word) :=
  ((List.range (lbeM t e)).filter (fun i => bit (lbeSig t e i 3) 31)).map (fun i => (i, lbeSig t e i 3))
def lbeFwin (t : WMap) (e : Nat) : Nat := bits (lbeW t e 1) 9 0
def lbeStride (t : WMap) (e : Nat) : Nat := bits (lbeW t e 1) 15 10
def lbeTau (t : WMap) (e : Nat) : Nat := bits (lbeW t e 1) 31 24
def lbeFmin (t : WMap) (e : Nat) : Nat := bits (lbeW t e 2) 15 0
def lbeFmax (t : WMap) (e : Nat) : Nat := bits (lbeW t e 2) 31 16

/-- Bytes of state an engine needs (R218). -/
def lbeNeed (t : WMap) (e : Nat) : Nat := lbeM t e * lbeL t e * lbeRank t e * 4 + 65536
/-- Bytes of the pool in use (R218). -/
def State.lbePool (s : State) : Nat := sumN ((s.lbe.filter (fun l => l.running)).map (fun l => l.mem))

/-- What the engine follows: signal i itself (0), or its auxiliary q (1), th (2), lv (3) (R213, R214). -/
def lbeStreams (t : WMap) (e : Nat) : List (Nat × Nat) :=
  (List.range (lbeM t e)).map (fun i => (i, 0)) ++ (lbeDefs t e).flatMap (fun d => [(d.1, 1), (d.1, 2), (d.1, 3)])

/-! ## Signals (R214, R215) -/

/-- Nominal magnitude of a channel's scale record (R106). -/
def nomOf (t : WMap) (i c : Nat) : Rat := f32q (scaleW t (descrScale (chDescr t i c)) 1)
/-- mag(c) and ang(c) of a PHASOR code, in 2^-64. -/
def lbeMag (nom : Rat) (w : Word) : Int := ratF (mkRat (bits w 31 16) 65535 * 2 * nom)
def lbeAng (w : Word) : Int := ((bits w 15 0 : Nat) : Int) * 2 * pi64 / 65536

/-- unwrap of R214: prev is the last present unwrapped value. -/
def unwrapF (prev : Option Int) (v : Int) : Int := match prev with | some p => p + wrapRad (v - p) | none => v

/-- One operand lane is missing (R215). -/
def laneMiss (qgate : Bool) (l : Lane) : Bool := !laneV l || laneU l || (qgate && laneQ l)

/-- The sample of one stream before gain, and its unwrap memory; none when missing (R214, R215). -/
def lbeSample (src t : WMap) (e : Nat) (d : Delivery) (x : Nat × Nat) (prev : Option Int) : Option Int × Option Int :=
  let w0 := lbeSig t e x.1 0
  let w1 := lbeSig t e x.1 1
  let a := bits w0 15 0
  let b := bits w1 15 0
  let la := d.lane a (bits w0 25 16)
  let lb := d.lane b (bits w1 25 16)
  let qg := bit (lbeW t e 3) 24
  let kind := bits w0 30 28
  let two := kind == 3 || kind == 4
  let member := fun i => srcValid src i && (srcGroups src i).testBit d.group
  let usesB := two && decide (x.2 ≤ 1)
  if laneMiss qg la || !member a || (usesB && (laneMiss qg lb || !member b)) then (none, prev)
  else
    let na := nomOf src a (bits w0 25 16)
    let nb := nomOf src b (bits w1 25 16)
    let prod := mulF (lbeMag na la.1) (lbeMag nb lb.1)
    let dif := lbeAng la.1 - lbeAng lb.1
    match x.2 with
    | 1 => (some (mulF prod (sinF (wrapRad dif))), none)
    | 2 => let v := unwrapF prev (lbeAng la.1); (some v, some v)
    | 3 => (some (if bits la.1 31 16 = 0 then Config.lbeOpen d.key la.1 else lnF (ratF (mkRat (bits la.1 31 16) 65535 * 2))), none)
    | _ =>
      match kind with
      | 1 => (some (ratF (mkRat la.1.toInt 1000000)), none)
      | 2 => (some (ratF (mkRat (bits la.1 31 16) 65535 * 2)), none)
      | 3 => let v := unwrapF prev (wrapRad dif); (some v, some v)
      | 4 => (some (mulF prod (cosF (wrapRad dif))), none)
      | _ => (some (if f32finite la.1 then ratF (f32q la.1) else Config.lbeOpen d.key la.1), none)

/-! ## Detrending and the cascade (R211, R216) -/

/-- The detrended value and the mean after it; the mean starts with the first present sample (R216). -/
def detrend (den : Nat) (m x : Option Int) : Int × Option Int :=
  match m, x with
  | none, none => (0, none)
  | none, some v => (0, some v)
  | some m, none => (0, some m)
  | some m, some v => let m' := m + (v - m).fdiv den; (v - m', some m')

/-- One biquad section of coefficients c on its memory x1, x2, y1, y2, in binary64: every product and every sum is rounded to nearest even,
from left to right. R211 does not give the order (DESIGN CHOICE, log 143). -/
def biquad (c : List Word) (st : List (BitVec 64)) (x : BitVec 64) : BitVec 64 × List (BitVec 64) :=
  let k := fun i => f64of (mkRat (nth 0 c i).toInt (2 ^ 30))
  let m := fun i => nth 0 st i
  let y := f64sub (f64sub (f64add (f64add (f64mul (k 0) x) (f64mul (k 1) (m 0))) (f64mul (k 2) (m 1))) (f64mul (k 3) (m 2))) (f64mul (k 4) (m 3))
  (y, [x, m 0, y, m 2])

/-- The cascade of a stream: its memory is four numbers to a section. -/
def cascade : List (List Word) → List (BitVec 64) → BitVec 64 → BitVec 64 × List (BitVec 64)
  | [], _, x => (x, [])
  | c :: cs, st, x =>
    let (y, m) := biquad c (st.take 4) x
    let (z, ms) := cascade cs (st.drop 4) y
    (z, m ++ ms)

/-- A detrended value through the cascade; with no sections it passes unfiltered (R211). -/
def cascadeF (cs : List (List Word)) (st : List (BitVec 64)) (x : Int) : Int × List (BitVec 64) :=
  if cs.isEmpty then (x, [])
  else
    let (y, m) := cascade cs st (f64of (mkRat x (2 ^ 64)))
    (ratF (f64q y), m)

/-! ## Matrices: lists of rows, entries in 2^-64 (R217) -/

def dotF (a b : List Int) : Int := (((a.zip b).foldl (fun (t : Int) x => t + x.1 * x.2) 0)).fdiv one64
def transposeF (n : Nat) (m : List (List Int)) : List (List Int) := (List.range n).map (fun j => m.map (fun r => nth 0 r j))
def outerF (a b : List Int) : List (List Int) := a.map (fun x => b.map (fun y => mulF x y))
def zipF (f : Int → Int → Int) (a b : List (List Int)) : List (List Int) := (a.zip b).map (fun x => (x.1.zip x.2).map (fun y => f y.1 y.2))
def eyeF (n m : Nat) : List (List Int) := (List.range n).map (fun i => (List.range m).map (fun j => if i = j then one64 else 0))

/-- Column c made orthogonal to the other columns, one after another, and of unit length (R217). -/
def reorth (r c : Nat) (w : List (List Int)) : List (List Int) :=
  let cols := transposeF r w
  let v := ((List.range r).filter (fun j => j ≠ c)).foldl (fun (v : List Int) j =>
    let u := nth [] cols j
    let k := divF (dotF u v) (dotF u u)
    (v.zip u).map (fun x => x.1 - mulF k x.2)) (nth [] cols c)
  let n := sqrtF (dotF v v)
  let v' := if n = 0 then v else v.map (fun x => divF x n)
  (w.zip v').map (fun x => at' x.1 c (fun _ => x.2))

/-- Gauss-Jordan elimination of an augmented matrix over the columns listed; none where it is singular. -/
def eliminate : List Nat → List (List Rat) → Option (List (List Rat))
  | [], m => some m
  | c :: cs, m =>
    match (List.range m.length).find? (fun i => decide (c ≤ i) && decide (nth 0 (nth [] m i) c ≠ 0)) with
    | none => none
    | some i =>
      let pr := nth [] m i
      let row := pr.map (fun x => x / nth 0 pr c)
      let m1 := at' (at' m i (fun _ => nth [] m c)) c (fun _ => row)
      eliminate cs (m1.zipIdx.map (fun x => if x.2 = c then x.1 else
        let k := nth 0 x.1 c
        (x.1.zip row).map (fun y => y.1 - k * y.2)))

/-- phi of (transpose w_up * w_up) * phi = transpose w_up * w_dn; a free value where it has no single solution. -/
def solvePhi (r : Nat) (up dn : List (List Int)) : List (List Int) :=
  let ut := transposeF r up
  let gram := fun (x : List (List Int)) => ut.map (fun a => (transposeF r x).map (fun b => (a.zip b).foldl (fun (t : Int) y => t + y.1 * y.2) 0))
  let g := gram up
  let d := gram dn
  match eliminate (List.range r) ((g.zip d).map (fun x => (x.1 ++ x.2).map (fun (i : Int) => (i : Rat)))) with
  | some m => m.map (fun row => (row.drop r).map ratF)
  | none => Config.phiOpen g d

/-! ## Eigen-decomposition (R217) -/

/-- Unit of the numbers inside the decomposition. -/
def oneH : Int := (2 ^ 256 : Nat)
def hMul (a b : Cx) : Cx := ((a.1 * b.1 - a.2 * b.2).fdiv oneH, (a.1 * b.2 + a.2 * b.1).fdiv oneH)
def hSub (a b : Cx) : Cx := (a.1 - b.1, a.2 - b.2)
def hAdd (a b : Cx) : Cx := (a.1 + b.1, a.2 + b.2)
def hDiv (a b : Cx) : Cx :=
  let n := b.1 * b.1 + b.2 * b.2
  if n = 0 then (0, 0) else (((a.1 * b.1 + a.2 * b.2) * oneH).fdiv n, ((a.2 * b.1 - a.1 * b.2) * oneH).fdiv n)
def hNorm2 (a : Cx) : Int := a.1 * a.1 + a.2 * a.2

/-- The matrices M_1 .. M_n and coefficients c_1 .. c_n of the characteristic polynomial x^n + c_1 x^(n-1) + ... (Faddeev and
Leverrier), exact for entries in whole numbers of 2^-64. -/
def charPoly (n : Nat) (a : List (List Int)) : Nat → Nat → List (List Int) → List (List (List Int) × Int)
  | 0, _, _ => []
  | f + 1, k, m =>
    let am := a.map (fun row => (List.range n).map (fun j => ((row.zip m).foldl (fun (t : Int) x => t + x.1 * nth 0 x.2 j) 0)))
    let tr := sumI ((List.range n).map (fun i => nth 0 (nth [] am i) i))
    let c := (-tr).fdiv ((k + 1 : Nat) : Int)
    (m, c) :: charPoly n a f (k + 1) (am.zipIdx.map (fun x => at' x.1 x.2 (fun y => y + c)))

/-- The polynomial of coefficients cs (leading 1 left out) at x. -/
def polyAt (cs : List Int) (x : Cx) : Cx := cs.foldl (fun (t : Cx) c => hAdd (hMul t x) (c, 0)) (oneH, 0)

/-- All roots improved together, one after another in each sweep. -/
def sweepRoots (cs : List Int) (zs : List Cx) : List Cx :=
  (List.range zs.length).foldl (fun (zs : List Cx) i =>
    let z := nth (0, 0) zs i
    let d := zs.zipIdx.foldl (fun (t : Cx) y => if y.2 = i then t else hMul t (hSub z y.1)) (oneH, 0)
    at' zs i (fun _ => hSub z (hDiv (polyAt cs z) d))) zs

def rootsOf (cs : List Int) : Nat → List Cx → List Cx
  | 0, zs => zs
  | f + 1, zs =>
    let zs' := sweepRoots cs zs
    if zs' == zs then zs else rootsOf cs f zs'

/-- Starting points (0.4 + 0.9 i)^k. -/
def startRoots : Nat → Cx → List Cx
  | 0, _ => []
  | n + 1, z => z :: startRoots n (hMul z ((4 * oneH).fdiv 10, (9 * oneH).fdiv 10))

/-- adj(x - phi): the sum of M_k x^(n-k). -/
def adjugate (ms : List (List (List Int))) (x : Cx) : List (List Cx) :=
  ms.foldl (fun (t : List (List Cx)) m =>
    if t.isEmpty then m.map (fun r => r.map (fun v => (v, 0)))
    else (t.zip m).map (fun y => (y.1.zip y.2).map (fun z => hAdd (hMul z.1 x) (z.2, 0)))) []

/-- A mode candidate: eigenvalue, right vector of unit length and its left row with row * vector = 1, all in 2^-64. The
columns of the adjugate are right vectors and its rows left ones; where their product is 0 phi has no full set. -/
def vectors (phi : List (List Int)) (i : Nat) (adj : List (List Cx)) : List Cx × List Cx :=
  let n := adj.length
  let best := (List.range n).foldl (fun (b : (Nat × Nat) × Int) r => (List.range n).foldl (fun (b : (Nat × Nat) × Int) c =>
    let v := hNorm2 (nth (0, 0) (nth [] adj r) c)
    if b.2 < v then ((r, c), v) else b) b) ((0, 0), 0)
  let col := adj.map (fun r => nth (0, 0) r best.1.2)
  let row := nth [] adj best.1.1
  let len : Int := (isqrt ((col.foldl (fun (t : Int) z => t + hNorm2 z) 0).toNat) : Nat)
  let u := col.map (fun z => hDiv z (len, 0))
  let d := (row.zip u).foldl (fun (t : Cx) x => hAdd t (hMul x.1 x.2)) (0, 0)
  if best.2 = 0 || d == (0, 0) then Config.eigen phi i
  else
    let down := fun (z : Cx) => (z.1.fdiv (2 ^ 192 : Nat), z.2.fdiv (2 ^ 192 : Nat))
    (u.map down, row.map (fun z => down (hDiv z d)))

/-- Eigenvalues with right vectors and left rows of a square matrix. -/
def eigenDecompose (phi : List (List Int)) : List (Cx × (List Cx × List Cx)) :=
  let n := phi.length
  let fl := charPoly n phi n 0 ((List.range n).map (fun i => (List.range n).map (fun j => if i = j then 1 else 0)))
  -- the k-th matrix and coefficient carry 2^64 to the power k and k + 1
  let up := fun (k : Nat) (v : Int) => (v * oneH).fdiv ((2 ^ (64 * k) : Nat) : Int)
  let cs := fl.zipIdx.map (fun x => up (x.2 + 1) x.1.2)
  let ms := fl.zipIdx.map (fun x => x.1.1.map (fun r => r.map (up x.2)))
  let zs := rootsOf cs 512 (startRoots n (oneH, 0))
  let near := fun (v : Int) => (v + ((2 ^ 191 : Nat) : Int)).fdiv (2 ^ 192 : Nat)
  zs.zipIdx.map (fun x => ((near x.1.1, near x.1.2), vectors phi x.2 (adjugate ms x.1)))

/-! ## Candidates (R217) -/

structure MCand where
  f : Int
  zeta : Int
  shape : List Cx
  q : Cx


/-- The mode candidates of one tracked update: w0 holds the rows of w for lag 0. -/
def candidates (rate stride fmin fmax : Nat) (w0 : List (List Int)) (y : List Int) (phi : List (List Int)) : List MCand :=
  (eigenDecompose phi).filterMap (fun x =>
    let mu := x.1
    if 0 ≤ mu.2 then none
    else
      let k := fun (v : Int) => (-(v * (rate : Int))).fdiv (Nat.max 1 stride : Nat)
      let sr := k (lnF (cxAbs mu))
      let si := k (cxArg mu)
      let f := divF si (2 * pi64)
      if decide ((fmin : Int) * one64 ≤ f * 1000) && decide (f * 1000 ≤ (fmax : Int) * one64) then
        let sh := w0.map (fun r => (r.zip x.2.1).foldl (fun (t : Cx) z => (t.1 + mulF z.1 z.2.1, t.2 + mulF z.1 z.2.2)) (0, 0))
        let q := (x.2.2.zip y).foldl (fun (t : Cx) z => (t.1 + mulF z.1.1 z.2, t.2 + mulF z.1.2 z.2)) (0, 0)
        some { f := f, zeta := -(divF sr (hypotF sr si)), shape := sh, q := q }
      else none)

/-! ## Slots and statistics (R219, R220) -/


/-- The vector turned so that its top entry is real and positive; the modal coordinate turns against it (log 11). -/
def MCand.turned (c : MCand) : MCand :=
  let t := nth (0, 0) c.shape (topOf c.shape)
  let n := cxAbs t
  if n = 0 then c
  else
    let u : Cx := (divF t.1 n, divF t.2 n)
    { c with shape := c.shape.map (fun z => cxMul z (u.1, -u.2)), q := cxMul c.q u }

def beta64 (fwin rate : Nat) : Int := one64 - one64.fdiv (Nat.max 1 (fwin * rate) : Nat)
/-- beta * old + (1 - beta) * new. -/
def ewma (b old new : Int) : Int := mulF b old + mulF (one64 - b) new

/-- One tracked update of a slot with its candidate; fresh: the slot takes its mode now (R220, R224). aux: for every def
signal the filtered p, q, th and lv. -/
def Mode.take (b : Int) (fresh : Bool) (c : MCand) (aux : List (List Int)) (m : Mode) : Mode :=
  let top := topOf c.shape
  let qa := cxAbs c.q
  let a := mulF (2 * qa) (cxAbs (nth (0, 0) c.shape top))
  let mix := fun (old new : Int) => if fresh then new else ewma b old new
  let cc := (c.q.1, -c.q.2)
  { m with
    held := true
    stale := false
    missed := 0
    f := c.f
    zeta := c.zeta
    shape := c.shape
    q := c.q
    e1 := mix m.e1 a
    e2 := mix m.e2 (mulF a a)
    mq := mix m.mq (mulF qa qa)
    flows := aux.zipIdx.map (fun x => x.1.zipIdx.map (fun u =>
      let old := nth (0, 0) (nth [] m.flows x.2) u.2
      (mix old.1 (mulF u.1 cc.1), mix old.2 (mulF u.1 cc.2)))) }

def Mode.cv (m : Mode) : Int := if m.e1 = 0 then 0 else divF (sqrtF (m.e2 - mulF m.e1 m.e1)) m.e1
def Mode.energy (m : Mode) : Int := mulF (2 * m.mq) (m.shape.foldl (fun (t : Int) z => t + mulF z.1 z.1 + mulF z.2 z.2) 0)



/-- A converged slot (R221): held for 2 * fwin * r tracked updates, by the settings of the last update. -/
def Lbe.conv (l : Lbe) (m : Mode) : Bool := m.held && decide (l.cvgAt ≤ m.updates)

/-! ## Assignment of candidates (R219) -/

def insertPair (x : Int × (Nat × Nat)) : List (Int × (Nat × Nat)) → List (Int × (Nat × Nat))
  | [] => [x]
  | y :: ys => if decide (x.1 < y.1) || (x.1 == y.1 && (decide (x.2.1 < y.2.1) || (x.2.1 == y.2.1 && decide (x.2.2 < y.2.2)))) then x :: y :: ys
    else y :: insertPair x ys

def insertCand (x : MCand) : List MCand → List MCand
  | [] => [x]
  | y :: ys => if x.f ≤ y.f then x :: y :: ys else y :: insertCand x ys

/-- Slot and candidate pairs taken in the order of R219; candidates stand in rising f. -/
def assign (mtol : Nat) (ms : List Mode) (cs : List MCand) : List (Nat × Nat) :=
  let pairs := ms.zipIdx.flatMap (fun x => if x.1.held then cs.zipIdx.filterMap (fun y =>
    let d : Int := ((x.1.f - y.1.f).natAbs : Nat)
    if d * 1000 ≤ (mtol : Int) * one64 then some (d, (x.2, y.2)) else none) else [])
  (pairs.foldr insertPair []).foldl (fun (t : List (Nat × Nat)) p =>
    if t.any (fun q => q.1 == p.2.1 || q.2 == p.2.2) then t else t ++ [p.2]) []

/-- New candidates into the lowest free slots; the count of those dropped (R219). -/
def placeNew (b : Int) (aux : List (List Int)) : List MCand → List Mode → Nat → List Mode × Nat
  | [], ms, n => (ms, n)
  | c :: cs, ms, n =>
    match ms.zipIdx.find? (fun x => !x.1.held) with
    | some x => placeNew b aux cs (at' ms x.2 (fun _ => Mode.free.take b true c aux)) n
    | none => placeNew b aux cs ms (n + 1)

/-! ## Classes (R223) and alarms (R225) -/

/-- The class that one tracked update finds: 0 UNDETERMINED, 1 NATURAL, 2 FORCED. -/
def Mode.found (cls : Word) (conv : Bool) (m : Mode) : Nat :=
  let cv := m.cv
  if !conv then 0
  else if decide (cv * 256 ≤ (bits cls 23 16 : Nat) * one64) && decide ((m.zeta.natAbs : Int) * 10000 ≤ (bits cls 7 0 : Nat) * one64) then 2
  else if decide ((bits cls 31 24 : Nat) * one64 ≤ cv * 256) || decide ((bits cls 15 8 : Nat) * one64 ≤ m.zeta * 10000) then 1
  else 0

/-- A new class after cdwell consecutive finds; the second part: it changed. -/
def Mode.reclass (cdwell found : Nat) (m : Mode) : Mode × Bool :=
  let run := if found = m.cls then 0 else if found = m.cand then m.candRun + 1 else 1
  if found ≠ m.cls ∧ cdwell ≤ run then ({ m with cls := found, cand := found, candRun := 0, inCls := 1 }, true)
  else ({ m with cand := found, candRun := run, inCls := sat 16 (m.inCls + 1) }, false)

/-- amplitude ≥ AMP, and amplitude < 0.9 AMP, for any binary32 word. -/
def ampGe (a : Int) (w : Word) : Bool := if f32finite w then decide (ratF (f32q w) ≤ a) else !f32nan w && bit w 31
def ampLow (a : Int) (w : Word) : Bool := if f32finite w then decide (a * 10 < 9 * ratF (f32q w)) else !f32nan w && !bit w 31

/-- An alarm of a slot sets: counted, latched, offered (R225). -/
def State.setOsc (e k : Nat) (damp : Bool) (s : State) : State :=
  let m := nth Mode.free (s.lb e).modes k
  let s1 := s.mapLbe e (fun l => { l with modes := at' l.modes k (fun m =>
    if damp then { m with damp := true, dampRun := 0 } else { m with forced := true, forcedRun := 0 }) })
  let s2 := ((s1.bumpN (aLbe e (if damp then 0x54 else 0x5C)) 1).bumpN 0x060050 1).latchN 0x06000C (if damp then 0 else 2)
  s2.offerOsc e k damp true true m

/-- One alarm of one slot after its conditions of this update: set after adwell of them, cleared after adwell. -/
def State.testOsc (e k : Nat) (damp : Bool) (adwell : Nat) (sets clears : Bool) (s : State) : State :=
  let m := nth Mode.free (s.lb e).modes k
  let active := if damp then m.damp else m.forced
  let run := if damp then m.dampRun else m.forcedRun
  let put := fun (n : Nat) => s.mapLbe e (fun l => { l with modes := at' l.modes k (fun m =>
    if damp then { m with dampRun := n } else { m with forcedRun := n }) })
  if if active then clears else sets then
    if adwell ≤ run + 1 then (if active then s.clearOsc e k damp else s.setOsc e k damp) else put (run + 1)
  else put 0

/-- The alarms of one held, converged slot. -/
def State.slotAlarms (e k : Nat) (s : State) : State :=
  let l := s.lb e
  let m := nth Mode.free l.modes k
  if !l.conv m then s
  else
    let dw := nth 0 l.cfg 0
    let amp := nth 0 l.cfg 1
    let a := m.amplitude
    let zl := wordS dw 15 0
    let adwell := bits dw 31 24
    let low := ampLow a amp
    let s1 := if m.cls = 2 then (s.clearOsc e k true).mapLbe e (fun l => { l with modes := at' l.modes k (fun m => { m with dampRun := 0 }) })
      else s.testOsc e k true adwell (ampGe a amp && decide (m.zeta * 10000 < zl * one64))
        (decide ((zl + (bits dw 23 16 : Nat)) * one64 ≤ m.zeta * 10000) || low)
    s1.testOsc e k false adwell (decide (m.cls = 2) && ampGe a amp) (decide (m.cls ≠ 2) || low)
where
  wordS (w : Word) (hi lo : Nat) : Int := sext (hi - lo + 1) (bits w hi lo)

/-! ## One update (R217) -/

/-- Filtered value and filled flag of every stream, and the engine with its detrend, unwrap and filter memories moved on. -/
def State.lbeFilter (e : Nat) (d : Delivery) (s : State) : List (Int × Bool) × Lbe :=
  let t := s.lbeT
  let l := s.lb e
  let den := lbeTau t e * Nat.max 1 (rateFps l.rate)
  let secs := (List.range (lbeNbiq t e)).map (fun b => (List.range 6).map (fun k => lbeW t e (0x10 + 6 * b + k)))
  let out := (lbeStreams t e).zipIdx.map (fun x =>
    let (v, u) := lbeSample s.srcT t e d x.1 (nth none l.unwraps x.2)
    let g := v.map (fun v => mulF v (ratF (f32q (lbeSig t e x.1.1 2))))
    let (dt, m) := detrend den (nth none l.means x.2) g
    let (y, b) := cascadeF secs (nth [] l.biquads x.2) dt
    ((y, v.isNone), (m, (u, b))))
  (out.map (fun o => o.1), { l with means := out.map (fun o => o.2.1), unwraps := out.map (fun o => o.2.2.1), biquads := out.map (fun o => o.2.2.2) })

/-- The embedding vector: lag by lag, lags not yet reached filled (R217). -/
def embed (m stride len : Nat) (hist : List (List (Int × Bool))) : List (Int × Bool) :=
  (List.range len).flatMap (fun j => nth (List.replicate m (0, true)) hist (j * stride))

/-- w, p and y after one tracked update (R217). -/
def track (b : Int) (r col : Nat) (w p : List (List Int)) (z : List Int) : List (List Int) × (List (List Int) × List Int) :=
  let y := (transposeF r w).map (fun c => dotF c z)
  let h := p.map (fun row => dotF row y)
  let den := b + dotF y h
  let g := h.map (fun x => divF x den)
  let p1 := (zipF (fun a c => a - c) p (outerF g h)).map (fun row => row.map (fun x => divF x b))
  let p2 := zipF (fun a c => (a + c).fdiv 2) p1 (transposeF r p1)
  let err := (z.zip w).map (fun x => x.1 - dotF x.2 y)
  (reorth r col (zipF (fun a c => a + c) w (outerF err g)), (p2, y))

/-- Slots of engine e that lost their mode are freed, their alarms cleared first (R219, R225). -/
def State.freeSlots (e : Nat) (ks : List Nat) (s : State) : State :=
  ks.foldl (fun (s : State) k =>
    let s1 := (s.clearOsc e k true).clearOsc e k false
    s1.mapLbe e (fun l => { l with modes := at' l.modes k (fun _ => Mode.free) })) s

/-- A tracked update: tracking, matching, statistics, classes, flows, alarms (R217-R225). fs: the filtered streams. -/
def State.lbeTracked (e : Nat) (fs : List (Int × Bool)) (z : List Int) (s : State) : State :=
  let t := s.lbeT
  let l := s.lb e
  let m := lbeM t e
  let r := lbeRank t e
  let len := lbeL t e
  let rate := rateFps l.rate
  let b := beta64 (lbeFwin t e) rate
  let (w, (p, y)) := track b r (l.trk % Nat.max 1 r) (if l.w.isEmpty then eyeF (m * len) r else l.w) (if l.p.isEmpty then eyeF r r else l.p) z
  let phi := solvePhi r (w.take (m * (len - 1))) (w.drop m)
  let cs := ((candidates rate (lbeStride t e) (lbeFmin t e) (lbeFmax t e) (w.take m) y phi).map MCand.turned).foldr insertCand []
  let aux := l.defs.zipIdx.map (fun d => (nth (0, false) fs d.1.1).1 :: (List.range 3).map (fun k => (nth (0, false) fs (m + 3 * d.2 + k)).1))
  let pairs := assign (bits (lbeW t e 3) 7 0) l.modes cs
  -- held slots: matched, or stale
  let ms1 := l.modes.zipIdx.map (fun x =>
    if !x.1.held then x.1
    else match pairs.find? (fun q => q.1 == x.2) with
      | some q => match cs[q.2]? with
        | some c => x.1.take b false c aux
        | none => x.1
      | none => { x.1 with stale := true, missed := x.1.missed + 1 })
  let (ms2, drops) := placeNew b aux ((cs.zipIdx.filter (fun x => !pairs.any (fun q => q.2 == x.2))).map (fun x => x.1)) ms1 0
  let l1 : Lbe := { l with w := w, p := p, trk := l.trk + 1, modes := ms2.map (fun x => if x.held then { x with updates := x.updates + 1 } else x) }
  let s1 := (s.mapLbe e (fun _ => l1)).bumpN (aLbe e 0x4C) drops
  let s2 := s1.freeSlots e ((List.range 16).filter (fun k =>
    let x := nth Mode.free l1.modes k
    x.held && x.stale && decide (bits (lbeW t e 3) 15 8 ≤ x.missed)))
  -- convergence, classes
  let s3 := (List.range 16).foldl (fun (s : State) k =>
    let l := s.lb e
    let x := nth Mode.free l.modes k
    if !x.held then s
    else
      let cv := l.conv x
      let s' := if cv && !l.conv { x with updates := x.updates - 1 } then s.latchN 0x06000C 7 else s
      let (x', ch) := x.reclass (bits (nth 0 l.cfg 3) 7 0) (x.found (nth 0 l.cfg 2) cv)
      let s'' := s'.mapLbe e (fun l => { l with modes := at' l.modes k (fun _ => x') })
      if ch then (s''.bumpN (aLbe e 0x50) 1).latchN 0x06000C 4 else s'') s2
  (List.range 16).foldl (fun (s : State) k => s.slotAlarms e k) s3

/-- Stopped by a rate change of its group (R227). -/
def State.lbeCfgstop (e : Nat) (s : State) : State :=
  (((s.lbeHalt e).mapLbe e (fun l => { l with cfgstop := true })).bumpN (aLbe e 0x64) 1).latchN 0x06000C 6

/-- The delivery is the first after GRP.START of its group: its epoch, and not that of the last update, starts at or after the start (R230). -/
def State.regrouped (d : Delivery) (prev : Nat) (s : State) : Bool :=
  let at_ := (s.grp d.group).since
  decide (keyNs d.rate prev < at_) && decide (at_ ≤ keyNs d.rate d.key)

/-- An update is counted with the time it takes to step 7 of R226, 17 µs from the close at most; more is F_LBE_TIME (R339). -/
def State.lbeTimed (e ns : Nat) (s : State) : State :=
  let s1 := (s.bumpN 0x060040 1).corMax .nucleus (aLbe e 0x34) ns
  if 17000 < ns then s1.faultN 58 else s1

/-- The waiting delivery of engine e is taken (R217); ns: the time to step 7 of R226. -/
def State.lbeUpdate (e ns : Nat) (s : State) : State :=
  let l0 := s.lb e
  match l0.q with
  | [] => s
  | d :: rest =>
    if !l0.running then s
    else
      let s0 := s.mapLbe e (fun l => { l with q := rest })
      let code := (List.range 12).find? (fun c => rateFps c == d.rate)
      if l0.started && rateFps l0.rate != d.rate then s0.lbeCfgstop e
      else
        let again := match l0.prevKey with | some k => decide (d.key ≠ k + 1) || s0.regrouped d k | none => false
        let s1 := if again then s0.lbeRestart e else s0
        let t := s.lbeT
        let s2 := s1.mapLbe e (fun l => { l with
          started := true, rate := if l.started then l.rate else code.getD 0, prevKey := some d.key, lastKey := d.key, defs := lbeDefs t e, lastT := ns,
          cvgAt := 2 * lbeFwin t e * d.rate })
        let (fs, l1) := s2.lbeFilter e d
        let hist := ((fs.take (lbeM t e)) :: l1.hist).take ((lbeL t e - 1) * lbeStride t e + 1)
        let z := embed (lbeM t e) (lbeStride t e) (lbeL t e) hist
        let ne := lbeM t e * lbeL t e
        let skip := decide (bits (lbeW t e 3) 23 16 * ne < 256 * (z.filter (fun x => x.2)).length)
        let s3 := (s2.mapLbe e (fun _ => { l1 with hist := hist, skipped := skip })).bumpN (aLbe e 0x48) ((fs.filter (fun x => x.2)).length)
        let s4 := State.lbeTimed e ns s3
        if skip then s4.bumpN (aLbe e 0x44) 1 else s4.lbeTracked e fs (z.map (fun x => x.1))

/-- LBE_UPDATE: one update; a stop that waited for it follows (R228). -/
def doLbeUpdate (e ns : Nat) (s : State) : State :=
  let s1 := s.lbeUpdate e ns
  if (s1.lb e).stopping && (s1.lb e).q.isEmpty then s1.lbeHalt e else s1

/-! ## Control (R227, R228) -/

def cmdLbeStart (_ : Hdr) (ps : List Word) (s : State) : Res :=
  arity 1 ps s fun _ =>
    let e := bits (par ps 0) 4 0
    let t := s.lbeT
    let g := lbeGroup t e
    if (s.lb e).running then .ok s []
    else if !bit (lbeW t e 0) 31 then .fail s eState 1
    else if 450 * s.grpRate g < lbeFmax t e * lbeStride t e then .fail s eState 2
    else if 33554432 < s.lbePool + lbeNeed t e then .fail s eBusy 0
    else .ok (s.mapLbe e (fun l => { Lbe.reset with
      running := true, since := s.follower, group := g, mem := lbeNeed t e, lastKey := l.lastKey, lastT := l.lastT,
      cfg := [s.rwN (aLbe e 4), s.rwN (aLbe e 8), s.rwN (aLbe e 0xC), s.rwN (aLbe e 0x10)] })) []

/-- LBE.STOP (R228): the update in progress, that of the delivery that waits, completes first. -/
def cmdLbeStop (_ : Hdr) (ps : List Word) (s : State) : Res :=
  arity 1 ps s fun _ =>
    let e := bits (par ps 0) 4 0
    if !(s.lb e).running then .ok s []
    else if (s.lb e).q.isEmpty then .ok (s.lbeHalt e) []
    else .ok (s.mapLbe e (fun l => { l with stopping := true, q := l.q.take 1 })) []

/-! ## Query and registers (R229, R232) -/

/-- Bits [9:4] of the slot word. -/
def Lbe.slotBits (l : Lbe) (m : Mode) : Nat :=
  16 * b2n m.held + 32 * b2n (l.conv m) + 64 * b2n m.stale + 256 * m.cls

/-- The 16 signals of largest |shape|, with magnitude relative to top and angle relative to top (R220). -/
def insertMag (x : Int × Nat) : List (Int × Nat) → List (Int × Nat)
  | [] => [x]
  | y :: ys => if decide (y.1 < x.1) || (y.1 == x.1 && decide (x.2 < y.2)) then x :: y :: ys else y :: insertMag x ys
def Mode.shapeWords (m : Mode) : List Word :=
  let order := ((m.shape.zipIdx.map (fun x => (cxAbs x.1, x.2))).foldr insertMag []).take 16
  let top := (nth (0, 0) order 0).1
  let ta := cxArg (nth (0, 0) m.shape (topOf m.shape))
  order.zipIdx.flatMap (fun x =>
    let mag := if x.2 = 0 then 65535 else ((2 * x.1.1 * 65535 + top).fdiv (Int.ofNat (Nat.max 1 (2 * top.toNat)))).toNat
    [w32 (x.1.2 + 65536 * mag), w32 (turn16 (cxArg (nth (0, 0) m.shape x.1.2) - ta))])

/-- The slot word of R229: w0 of a slot's answer. -/
def State.lbeSlotWord (e k : Nat) (s : State) : Word :=
  let l := s.lb e
  let m := nth Mode.free l.modes k
  w32 (k + l.slotBits m + 1024 * b2n m.damp + 2048 * b2n m.forced + 4096 * b2n l.running + 65536 * l.defs.length + 2 ^ 24 * (m.shapeWords.length / 2))

def State.lbeQuery (e k : Nat) (s : State) : List Word :=
  let l := s.lb e
  let m := nth Mode.free l.modes k
  let sh := m.shapeWords
  [s.lbeSlotWord e k,
    w32 (l.lastKey / 2 ^ 32 % 2 ^ 24), w32 l.lastKey, m.fWord, w32 m.zetaWord, f32ofFix m.amplitude, f32ofFix m.energy,
    w32 (sat 16 ((m.cv * 65536).fdiv one64).toNat + 65536 * m.inCls), w32 ((m.hint l.lastKey l.defs).getD 0x1FF)] ++
    sh ++ List.replicate (32 - sh.length) 0 ++
    l.defs.zipIdx.flatMap (fun d => [w32 (d.1.1 + 256 * bits d.1.2 17 0 + 2 ^ 31 * b2n (bit d.1.2 30)), f32ofFix (m.flow l.lastKey d.2)])

/-- The summary: w0 is the slot word of w1 [3:0] with [3:0] and [11:5] set to 0 (R229). -/
def State.lbeSummary (e k : Nat) (s : State) : List Word :=
  let l := s.lb e
  (s.lbeSlotWord e k &&& 0xFFFFF010) :: (List.range 16).flatMap (fun k =>
    let m := nth Mode.free l.modes k
    if m.held then [m.fWord, w32 m.zetaWord, w32 (l.slotBits m)] else [0, 0, 0])

def cmdLbeQuery (_ : Hdr) (ps : List Word) (s : State) : Res :=
  arity 2 ps s fun _ =>
    let e := bits (par ps 0) 4 0
    if bits (par ps 1) 31 5 ≠ 0 then .fail s eParam 1
    else if bit (par ps 1) 4 then .ok s (s.lbeSummary e (bits (par ps 1) 3 0)) else .ok s (s.lbeQuery e (bits (par ps 1) 3 0))

/-- A mask with bit k set where f k. -/
def mask (n : Nat) (f : Nat → Bool) : Nat := sumN ((List.range n).map (fun k => if f k then 2 ^ k else 0))

/-- A common LBE register that is computed. -/
def State.lbeReg (o : Nat) (s : State) : Option Word :=
  if o = 4 then some (w32 (mask 32 (fun e => (s.lb e).running)))
  else if o = 8 then some (w32 (mask 32 (fun e => (s.lb e).modes.any (fun m => (s.lb e).conv m))))
  else if o = 0x10 then some (w32 s.lbePool)
  else none

/-- A register LBE_Ee that is computed. -/
def State.lbeEngReg (e o : Nat) (s : State) : Option Word :=
  let l := s.lb e
  let at_ := fun k => nth Mode.free l.modes k
  let least := (List.range 16).foldl (fun (b : Option Nat) k =>
    if (at_ k).held && (match b with | some j => decide ((at_ k).zeta < (at_ j).zeta) | none => true) then some k else b) none
  if o = 0 then some (w32 (b2n l.running + 2 * b2n l.skipped + 4 * b2n l.cfgstop + 8 * l.group + 64 * l.rate))
  else if o = 0x14 then some (w32 (mask 16 (fun k => (at_ k).held) + 65536 * mask 16 (fun k => l.conv (at_ k))))
  else if o = 0x18 then some (w32 (mask 16 (fun k => (at_ k).held && (at_ k).cls == 2) + 65536 * mask 16 (fun k => (at_ k).held && (at_ k).cls == 1)))
  else if o = 0x1C then some (w32 (mask 16 (fun k => (at_ k).damp) + 65536 * mask 16 (fun k => (at_ k).forced)))
  else if o = 0x20 then some (w32 (l.lastKey / 2 ^ 32 % 2 ^ 24))
  else if o = 0x24 then some (w32 l.lastKey)
  else if o = 0x28 then some (match least with | some k => (at_ k).fWord | none => 0)
  else if o = 0x2C then some (match least with | some k => w32 (k + 256 * ((at_ k).zetaWord % 2 ^ 24)) | none => 0)
  else if o = 0x30 then some (w32 l.lastT)
  else if o = 0x38 then some (w32 l.mem)
  else if o = 0x3C then some (w32 l.trk)
  else none

/-! ## The table's rows -/

/-- LBE_START (R227). -/
def execLbeStart (h : Hdr) (ps : List Word) (s : State) : Host.Outcome State Fault Refusal :=
  .next (State.settled (s.serve 0x0600 h ps cmdLbeStart))

/-- LBE_STOP (R228). -/
def execLbeStop (h : Hdr) (ps : List Word) (s : State) : Host.Outcome State Fault Refusal :=
  .next (State.settled (s.serve 0x0601 h ps cmdLbeStop))

/-- LBE_QUERY (R229). -/
def execLbeQuery (h : Hdr) (ps : List Word) (s : State) : Host.Outcome State Fault Refusal :=
  .next (State.settled (s.serve 0x0602 h ps cmdLbeQuery))

/-- LBE_UPDATE (R217). -/
def execLbeUpdate (e : Nat) (ns : Nat) (s : State) : Host.Outcome State Fault Refusal :=
  .next (State.settled (whenUp .nucleus (doLbeUpdate e ns) s))

end Sys2Proof.Machine
end

