-- ==== Sys2Proof/Machine/AlmRows.lean ====
section
/-! DEFINITION. Alarm pins and GOOSE blocks by themselves: repeats, minimum widths, ball samples; and the alarm rows. -/

namespace Sys2Proof.Machine

/-- GOOSE_REPEAT (R246, R247): the block's message again with the next sqNum. -/
def doGooseRepeat (c : Nat) (s : State) : State :=
  if s.gooseEn c && decide (0 < (s.gse c).st) then
    (s.mapGse c (fun g => { g with sq := nextSq g.sq, repeatI := g.repeatI + 1 })).sendGoose c
  else s

/-- ALM_PIN_MINPW_END (R243): the minimum width or the pulse of a pin is over. -/
def doMinpwEnd (p : Nat) (s : State) : State :=
  if (s.pin p).width then (s.mapPin p (fun x => { x with width := false })).drivePin p else s

/-- ALM_PIN_SAMPLE (R244): the second sample in a row that differs from the intended level raises F_ALM_PIN. -/
def doAlmPinSample (p : Nat) (level : Bool) (s : State) : State :=
  let x := s.pin p
  let bad := level != s.pinBall p
  let s1 := s.mapPin p (fun x => { x with readback := level, misses := if bad then Nat.min 2 (x.misses + 1) else 0 })
  if bad ∧ x.misses = 1 then ((s1.bumpN (aPin p 0x18) 1).latchN 0x070008 4).faultC 76 else s1

/-! ## The table's rows -/

/-- ALM_QUERY (R260). -/
def execAlmQuery (h : Hdr) (ps : List Word) (s : State) : Host.Outcome State Fault Refusal :=
  .next (State.settled (s.serve 0x0700 h ps cmdAlmQuery))

/-- ALM_RELEASE (R240). -/
def execAlmRelease (h : Hdr) (ps : List Word) (s : State) : Host.Outcome State Fault Refusal :=
  .next (State.settled (s.serve 0x0701 h ps cmdAlmRelease))

/-- GOOSE_REPEAT (R247). -/
def execGooseRepeat (c : Nat) (s : State) : Host.Outcome State Fault Refusal :=
  .next (State.settled (whenUp .nucleus (doGooseRepeat c) s))

/-- ALM_PIN_MINPW_END (R243). -/
def execAlmPinMinpwEnd (p : Nat) (s : State) : Host.Outcome State Fault Refusal :=
  .next (State.settled (whenUp .nucleus (doMinpwEnd p) s))

/-- ALM_PIN_SAMPLE (R244). -/
def execAlmPinSample (p : Nat) (level : Bool) (s : State) : Host.Outcome State Fault Refusal :=
  .next (State.settled ((whenUp .coma (doAlmPinSample p level) s).judge))

end Sys2Proof.Machine
end

