-- ==== Sys2Proof/Machine/Ory.lean ====
section
/-! DEFINITION. The orrery protocol engine: reception, forwarding, replay, messages by type, joining and leaving (R264-R281). -/

namespace Sys2Proof.Machine

/-! ## Fields of a message (R267) -/

def ndSrc (b : List Byte) : Nat := fieldAt 4 2 b % 2048
def ndDst (b : List Byte) : Nat := fieldAt 6 2 b
def ndHops (b : List Byte) : Nat := fieldAt 8 1 b
def ndLen (b : List Byte) : Nat := fieldAt 10 2 b
def ndPayload (b : List Byte) : List Byte := slice 20 (ndLen b) b
/-- Magic, version and length in order. -/
def ndWhole (b : List Byte) : Bool :=
  fieldAt 0 2 b == 0x0DE7 && fieldAt 2 1 b == 1 && decide (36 ≤ b.length) && b.length == 36 + ndLen b
/-- The bytes that the tag covers: up to it, with byte 8 taken as 0. -/
def ndCovered (b : List Byte) : List Byte := patch 8 [0] (b.take (20 + ndLen b))

/-- The tag of a received message holds under the join slot's key; without a join, or a VALID slot, it fails (R16, R326). -/
def State.ndTagOk (b : List Byte) (s : State) : Bool :=
  (s.ory.joined || s.ory.pendJoin) && s.keyValid s.ory.slot && slice (20 + ndLen b) 16 b == s.tag16 s.ory.slot (ndCovered b)

/-! ## Reception on the Coma side (R83 row 8, R269) -/

/-- A message for another device goes on toward it, without a tag check (R269). -/
def State.forwardOry (b : List Byte) (s : State) : State :=
  if ndHops b = 0 then s.bumpN 0x080050 1
  else match s.route (ndDst b) with
    | none => s.bumpN 0x080054 1
    | some k =>
      let f : OryFrame := { port := nbPort (s.nbCfg k), bytes := s.nbFrame k (patch 8 [BitVec.ofNat 8 (ndHops b - 1)] b), own := false }
      if s.oryFits f then (s.pushOry f).bumpN 0x08004C 1 else s.pushOry f

/-- A message of row 8: forwarded, or tag-checked and handed to the Nucleus. -/
def State.oryArrive (m : OryMsg) (s : State) : State :=
  if !ndWhole m.bytes then s.bumpN 0x080048 1
  else if ndDst m.bytes ≠ 0xFFFF ∧ ndDst m.bytes ≠ s.ory.id then s.forwardOry m.bytes
  else if !s.ndTagOk m.bytes then { s with ory := { s.ory with tagFails := s.ory.tagFails + 1 } }
  else { s with
    ory := { s.ory with rx := s.ory.rx ++ [m] }
    prt := at' s.prt m.port (fun x => { x with occ := at' x.occ m.pri (fun k => k + m.len) }) }

/-! ## Replay (R268) -/

/-- The replay state after a message of session and count; none where it is discarded. -/
def replayStep (o sess cnt : Nat) (r : Option Replay) : Option Replay :=
  match r with
  | none => some { origin := o, session := sess, high := cnt, win := 0 }
  | some r =>
    if r.session < sess then some { origin := o, session := sess, high := cnt, win := 0 }
    else if sess < r.session then none
    else if r.high < cnt then
      -- bit j of the window stands for count high - 1 - j
      some { r with high := cnt, win := (r.win <<< (cnt - r.high)) ||| (1#64 <<< (cnt - r.high - 1)) }
    else if r.high = cnt then none
    else
      let j := r.high - cnt - 1
      if 64 ≤ j ∨ r.win.getLsbD j then none else some { r with win := r.win ||| (1#64 <<< j) }

/-! ## Neighbours (R265) -/

/-- The neighbour a message comes from: the lowest valid one on its port with its source MAC (log 34). -/
def State.nbFrom (m : OryMsg) (s : State) : Option Nat :=
  (s.nbsWhere (fun k => nbPort (s.nbCfg k) == m.port && s.nbMac k == m.srcMac)).head?

/-- The neighbour that a message of type 2, 3 or 7 comes from: its ID must be the configured one. -/
def State.nbKnown (m : OryMsg) (s : State) : Option Nat :=
  match s.nbFrom m with
  | some k => if nbId (s.nbCfg k) = ndSrc m.bytes then some k else none
  | none => none

/-- The join completes when the parent first becomes up (R274). -/
def State.joinDone (code : Byte) (s : State) : State :=
  let s1 := { s with ory := { s.ory with pendJoin := false, joined := decide (code = codeOk), beating := decide (code = codeOk) } }.completeOp .nucleus 0x0E00 0 code
  if code = codeOk then s1.latchN 0x080008 0 else s1

/-- A HEARTBEAT (R265, R270). -/
def State.heartbeat (m : OryMsg) (p : List Byte) (s : State) : State :=
  let src := ndSrc m.bytes
  let s0 := s.bumpN 0x08006C 1
  if src = s0.ory.id then
    let named := match s0.nbFrom m with | some k => decide (nbId (s0.nbCfg k) = src) | none => false
    ((if named then s0 else s0.bumpN 0x080064 1).latchN 0x080008 5).faultN 63
  else match s0.nbFrom m with
  | none => s0.bumpN 0x080064 1
  | some k =>
    let c := s0.nbCfg k
    let depth := fieldAt 0 1 p
    if nbId c ≠ src then s0.bumpN 0x080064 1
    else if nbRole c = 1 ∧ 6 ≤ depth then s0.nbDown k
    else
      let was := (s0.nb k).up
      let ids := if nbRole c = 2 then bitmapIds (slice 8 256 p) else []
      let s1 := s0.mapNb k (fun n => { n with up := true, depth := depth, missed := 0, heard := true, bitmap := ids })
      let s2 := if was then s1 else s1.latchN 0x080008 2
      let clash := (s2.nbsWhere (fun j => j != k && nbRole (s2.nbCfg j) == 2 && (s2.nb j).up && (s2.nb j).bitmap.any (fun x => ids.elem x)))
      let s3 := if clash.isEmpty then s2 else s2.latchN 0x080008 5
      if nbRole c = 1 then
        let s4 : State := { s3 with ory := { s3.ory with orphan := false, depth := depth + 1 } }
        if s4.ory.pendJoin then s4.joinDone codeOk else s4
      else s3

/-! ## LABELS (R202, R277) -/

/-- An entry names an own valid node, or a remote node of the sender, in the image of the rounds it belongs to or else in the active one
(R277). -/
def State.labelNode (r : Option Rounds) (src g : Nat) (s : State) : Bool :=
  let i := g % 2 ^ 17
  match r with
  | some r => r.comps.any (fun c => c.2.elem i) && s.gidIn r i == g && r.far.all (fun e => e.1 != i || e.2 == src)
  | none =>
    let t := (s.bank 2).active
    nodeValid t i && s.gid t i == g && (!nodeRemote t i || bits (nodeW t i 0) 26 16 == src)

def State.labelsIn (k : Nat) (m : OryMsg) (p : List Byte) (s : State) : State :=
  let key := fieldAt 0 8 p % 2 ^ 56
  let round := fieldAt 8 1 p
  let n := fieldAt 10 2 p
  let more := fieldAt 9 1 m.bytes % 2 = 1
  let s0 := s.bumpN 0x080070 1
  let open_ := s0.roundsOf key
  let late := match open_ with
    | some r => decide (round < r.round)
    | none => decide (key ≤ s0.isl.lastKey)
  if late then s0.bumpN 0x050080 1
  else
    let es := (List.range n).map (fun j => (fieldAt (12 + 8 * j) 4 p % 2 ^ 28, fieldAt (16 + 8 * j) 4 p % 2 ^ 28))
    let good := es.filter (fun e => s0.labelNode open_ (ndSrc m.bytes) e.1)
    let own := (good.filter (fun e => decide (e.1 / 2 ^ 17 = s0.ory.id))).map (fun e => (k, e.1 % 2 ^ 17))
    let s1 : State := { (if good.length < n then s0.bumpN 0x080068 (n - good.length) else s0) with
      isl := { s0.isl with learnt := own.foldl (fun l e => if l.elem e then l else l ++ [e]) s0.isl.learnt } }
    let wait : State := { s1 with isl := { s1.isl with
      inbox := s1.isl.inbox ++ [{ nb := k, key := key, round := round, more := more, entries := good }] } }
    match open_ with
    | some r =>
      if r.round = round then
        State.closeRounds 64 false key { s1 with isl := { s1.isl with rounds := s1.isl.rounds.map (fun x =>
          if x.key = key then { x with labels := r.labels ++ good, got := if more then r.got else k :: r.got } else x) } }
      else wait
    | none => wait

/-! ## CONJ, ALARM and MODES toward the root (R271, R272) -/

/-- Bytes of j CONJ entries from offset o; none where they run past the end. -/
def conjEnd (p : List Byte) : Nat → Nat → Option Nat
  | 0, o => some o
  | j + 1, o =>
    let n := fieldAt (o + 4) 2 p % 512
    if o + 8 ≤ p.length then conjEnd p j (o + 8 + 4 * n + ((n + 1) / 2 + 3) / 4 * 4) else none

/-- On to the own parent; at the root on the sink stream, or discarded (R272). -/
def State.upward (type flags : Nat) (p : List Byte) (s : State) : State :=
  if !s.ory.root then s.toParent type flags p
  else
    let c := s.rwN 0x080000
    let i := bits c 13 8
    if !bit c 14 then s.bumpN 0x080060 1
    else if !egrEn (s.egrCfg i) || egrKind (s.egrCfg i) ≠ 2 then s.kindMism
    else s.sendConj i type flags p

def State.alarmIn (p : List Byte) (s : State) : State :=
  let s1 := s.bumpN 0x080078 1
  let s2 := if bit (s1.rwN 0x080000) 0 then (dgStreams (s1.rwN 0x070014)).foldl (fun (s : State) i => s.sendDatagram i p) s1 else s1
  if s2.ory.root then s2 else s2.toParent 5 0 p

/-! ## TIMECHK (R273) -/

def taiAt (o : Nat) (p : List Byte) : Nat := fieldAt o 6 p * 1000000000 + fieldAt (o + 6) 4 p

/-- Offset, delay and breach of a neighbour from one TIMECHK; nothing is computed before this device's own has come back
(log 35). -/
def State.timechkIn (k : Nat) (m : OryMsg) (p : List Byte) (s : State) : State :=
  if !(s.nb k).up ∨ !bit (s.rwN 0x080000) 1 then s
  else
    let t3 := taiAt 0 p
    let t1 := taiAt 10 p
    let s1 := s.mapNb k (fun n => { n with tchk := some (t3, m.arrival) })
    if t1 = 0 then s1
    else
      let out : Int := (taiAt 20 p : Int) - t1
      let back : Int := (m.arrival : Int) - t3
      let ofs := (out - back).fdiv 2
      let c := s.rwN 0x080018
      let tol := bits c 15 0
      let n := bits c 19 16
      let x := s1.nb k
      let overs := decide (tol < ofs.natAbs)
      let low := decide (10 * ofs.natAbs ≤ 9 * tol)
      let tc := if overs then Nat.min 15 (x.tcnt + 1) else 0
      let tl := if low then Nat.min 15 (x.tclr + 1) else 0
      let set := overs && decide (n ≤ tc) && !x.breach
      let s2 := s1.mapNb k (fun y => { y with
        ofs := ofs
        dly := (out + back).fdiv 2
        tcnt := tc
        tclr := tl
        breach := if set then true else if low && decide (n ≤ tl) then false else y.breach })
      if set then (s2.latchN 0x080008 6).faultN 62 else s2

/-! ## Reception by the Nucleus (R268, R270) -/

/-- Payload length that fits the type. -/
def ndFits (type : Nat) (p : List Byte) : Bool :=
  match type with
  | 1 => p.length == 264
  | 2 => p.length == 0
  | 3 => decide (12 ≤ p.length) && p.length == 12 + 8 * fieldAt 10 2 p
  | 4 => decide (16 ≤ p.length) && conjEnd p (fieldAt 12 2 p) 16 == some p.length
  | 5 => p.length == 64
  | 6 => decide (10 ≤ p.length) && p.length == 10 + 16 * fieldAt 8 2 p
  | 7 => p.length == 30
  | _ => false

def State.oryByType (m : OryMsg) (s : State) : State :=
  let b := m.bytes
  let p := ndPayload b
  let flags := fieldAt 9 1 b
  let type := fieldAt 3 1 b
  if !ndFits type p then s.bumpN 0x080048 1
  else
    let from_ := fun (f : Nat → State) => match s.nbKnown m with | some k => f k | none => s.bumpN 0x080064 1
    match type with
    | 1 => s.heartbeat m p
    | 2 => from_ (fun k => s.nbDown k)
    | 3 => from_ (fun k => s.labelsIn k m p)
    | 4 => (s.bumpN 0x080074 1).upward 4 flags p
    | 5 => s.alarmIn p
    | 6 => (s.bumpN 0x08007C 1).upward 6 flags p
    | _ => from_ (fun k => s.timechkIn k m p)

/-- ORY_MESSAGE_RECEIVE: the oldest message that has crossed to the Nucleus. -/
def doOryReceive (s : State) : State :=
  match s.ory.rx with
  | [] => s
  | m :: rest =>
    let s1 := State.unstage m.port m.pri m.len { s with ory := { s.ory with rx := rest } }
    let o := ndSrc m.bytes
    match replayStep o (fieldAt 12 4 m.bytes) (fieldAt 16 4 m.bytes) (findBy Replay.origin o s1.ory.replay) with
    | none => s1.bumpN 0x080044 1
    | some r => State.oryByType m { s1 with ory := { s1.ory with replay := insertBy Replay.origin r s1.ory.replay } }

/-! ## Messages sent by time (R270) -/

def State.heartbeatPayload (s : State) : List Byte :=
  [BitVec.ofNat 8 s.ory.depth, BitVec.ofNat 8 (b2n s.ory.root + 2 * b2n s.ory.orphan)] ++
    beBytes 2 (match s.parentNb with | some k => nbId (s.nbCfg k) | none => 0xFFFF) ++ beBytes 4 s.ory.session ++ bitmapBytes s.subtree

/-- ORY_HEARTBEAT_SEND: a heartbeat period begins; one missed is noted for each neighbour not heard in the last one. -/
def doOryHeartbeat (s : State) : State :=
  let p := s.heartbeatPayload
  (s.nbsWhere (fun _ => true)).foldl (fun (s : State) k =>
    let s1 := s.mapNb k (fun n => { n with heard := false, missed := if n.heard then 0 else Nat.min 255 (n.missed + 1) })
    if s.ory.beating then s1.originate k (nbId (s.nbCfg k)) 1 0 p else s1) s

/-- ORY_NEIGHBOUR_TIMEOUT: a neighbour is down after ORY_HB.miss heartbeat periods in a row without a heartbeat (R265). -/
def doNbTimeout (k : Nat) (s : State) : State := if bits (s.rwN 0x080014) 11 8 ≤ (s.nb k).missed then s.nbDown k else s

/-- ORY_TIMECHK_SEND: bytes 0-9 are written as the frame is sent; 0 stands for a time not yet known. -/
def doOryTimechk (s : State) : State :=
  if !(s.ory.joined && bit (s.rwN 0x080000) 1) then s
  else (s.nbsWhere (fun k => (s.nb k).up)).foldl (fun (s : State) k =>
    s.originate k (nbId (s.nbCfg k)) 7 0 (List.replicate 10 0 ++ (match (s.nb k).tchk with
      | some (e, i) => taiBytes e ++ taiBytes i
      | none => List.replicate 20 0))) s

/-- The entry of a held slot in a MODES report. -/
def State.modeEntry (e k : Nat) (s : State) : List Byte :=
  let l := s.lb e
  let m := nth Mode.free l.modes k
  [BitVec.ofNat 8 e, BitVec.ofNat 8 k, BitVec.ofNat 8 m.cls,
    BitVec.ofNat 8 (b2n m.damp + 2 * b2n m.forced + 4 * b2n (l.conv m))] ++
    beBytes 4 m.fWord.toNat ++ beBytes 4 m.zetaWord ++ beBytes 4 (f32ofFix m.amplitude).toNat

/-- ORY_MODES_SEND: the held slots of every engine, in as many messages as the parent's port needs. -/
def doOryModes (s : State) : State :=
  let c := s.rwN 0x08001C
  if !(s.ory.joined && bit c 6) then s
  else
    let es := (List.range 32).flatMap (fun e => (List.range 16).filterMap (fun k =>
      let m := nth Mode.free (s.lb e).modes k
      if m.held && (!bit c 7 || (s.lb e).conv m) then some (s.modeEntry e k) else none))
    let key := maxN 0 (s.lbe.map (fun l => l.lastKey))
    let cap := match s.parentNb with
      | some k => Nat.max 1 ((s.maxlen (nbPort (s.nbCfg k)) - ((s.nbFrame k (s.ndevar 0 6 0 [])).length + 4) - 10) / 16)
      | none => 1
    let parts := chunks cap (es.length / cap + 1) es
    parts.zipIdx.foldl (fun (s : State) x =>
      s.toParent 6 (b2n (decide (x.2 + 1 < parts.length))) (beBytes 8 (key % 2 ^ 56) ++ beBytes 2 x.1.length ++ x.1.flatten)) s

/-- ORY_TAGFAIL_REPORT (R268). -/
def doOryTagfail (s : State) : State :=
  { s.bumpN 0x080040 s.ory.tagFails with ory := { s.ory with tagFails := 0 } }

/-! ## Joining and leaving (R274, R275) -/

def cmdOryJoin (h : Hdr) (ps : List Word) (s : State) : Res :=
  arity 3 ps s fun _ =>
    let root := bit (par ps 2) 0
    let slot := bits (par ps 1) 5 0
    let parents := (s.nbsWhere (fun k => nbRole (s.nbCfg k) == 1)).length
    if bits (par ps 2) 31 1 ≠ 0 then .fail s eParam 2
    else if 32 ≤ s.opsOf h.port then .fail s eBusy
    else if s.ory.joined || s.ory.pendJoin || s.ory.pendLeave then .fail s eState
    else if (root ∧ parents ≠ 0) ∨ (¬ root ∧ parents ≠ 1) then .fail s eParam 2
    else if slot = 0 ∨ !s.keyValid slot then Res.eKeyUse s
    else
      let now := s.sec % 2 ^ 32
      let s1 : State := { s.addOp h 0x0E00 0 with ory := { s.ory with
        pendJoin := true, beating := true, root := root, orphan := false, depth := 0, id := bits (par ps 0) 10 0, slot := slot
        session := if s.ory.session < now then now else (s.ory.session + 1) % 2 ^ 32, count := 0 } }
      .pending (if root then s1.joinDone codeOk else s1)

/-- Routes and replay state gone. -/
def State.clearRoutes (s : State) : State :=
  { s with
    ory := { s.ory with replay := [], nbs := s.ory.nbs.map (fun n => { n with up := false, bitmap := [], missed := 0, heard := false, tchk := none }) }
    isl := { s.isl with learnt := [] } }

/-- The flush of orrery messages not yet committed (R275, R379). -/
def State.flushOry (s : State) : State := { s with ory := { s.ory with tx := s.ory.tx.flushBegun } }

def cmdOryLeave (h : Hdr) (ps : List Word) (s : State) : Res :=
  arity 0 ps s fun _ =>
  match s.claim h 0x0E01 0 with
  | some code => .fail s code
  | none =>
  if !s.ory.joined then .fail s eState
  else
    let s1 := (s.nbsWhere (fun k => (s.nb k).up)).foldl (fun (s : State) k => s.originate k (nbId (s.nbCfg k)) 2 0 []) 
      (State.flushOry (s.addOp h 0x0E01 0))
    .pending (State.clearRoutes { s1 with ory := { s1.ory with pendLeave := true, beating := false } })

/-- ORY_LEAVE_COMPLETE (R275). -/
def doOryLeaveComplete (s : State) : State :=
  if !s.ory.pendLeave then s
  else ((State.clearRoutes { s with ory := { s.ory with pendLeave := false, joined := false, root := false, orphan := false, depth := 0 } }).latchN
    0x080008 1).completeOp .nucleus 0x0E01 0 codeOk

/-- ORY_JOIN_TIMEOUT (R274). -/
def doOryJoinTimeout (s : State) : State := if s.ory.pendJoin then s.joinDone eState else s

/-! ## Status and registers (R280, R281) -/

def State.oryStat (s : State) : Word :=
  w32 (b2n s.ory.joined + 2 * b2n s.ory.root + 4 * b2n s.ory.orphan + 8 * b2n (s.ory.pendJoin || s.ory.pendLeave) + 16 * s.ory.depth + 256 * s.ory.id)

def State.oryNup (s : State) : Word := w32 (mask 32 (fun k => (s.nb k).up))

def cmdOryStatus (_ : Hdr) (ps : List Word) (s : State) : Res :=
  arity 0 ps s fun _ => .ok s ([s.oryStat, w32 (match s.parentNb with | some k => nbId (s.nbCfg k) | none => 0xFFFF), s.oryNup, w32 s.ory.session, w32 s.subtree.length] ++
    (List.range 32).map (fun k =>
      let c := s.nbCfg k
      w32 (2 ^ 31 * b2n (nbValid c) + 2 ^ 30 * b2n (s.nb k).up + 2 ^ 28 * nbRole c + 2 ^ 26 * nbPort c + 2 ^ 25 * b2n (s.nb k).breach + nbId c)))

/-- A common ORY register that is computed. -/
def State.oryReg (o : Nat) (s : State) : Option Word :=
  if o = 4 then some s.oryStat else if o = 0xC then some (w32 s.ory.session) else if o = 0x10 then some s.oryNup
  else none

/-! ## The table's rows -/

/-- ORY_JOIN (R274). -/
def execOryJoin (h : Hdr) (ps : List Word) (s : State) : Host.Outcome State Fault Refusal :=
  .next (State.settled (s.serve 0x0E00 h ps cmdOryJoin))

/-- ORY_LEAVE (R275). -/
def execOryLeave (h : Hdr) (ps : List Word) (s : State) : Host.Outcome State Fault Refusal :=
  .next (State.settled (s.serve 0x0E01 h ps cmdOryLeave))

/-- ORY_STATUS (R281). -/
def execOryStatus (h : Hdr) (ps : List Word) (s : State) : Host.Outcome State Fault Refusal :=
  .next (State.settled (s.serve 0x0E02 h ps cmdOryStatus))

/-- ORY_MESSAGE_RECEIVE (R268). -/
def execOryMessageReceive (s : State) : Host.Outcome State Fault Refusal :=
  .next (State.settled ((whenUp .nucleus doOryReceive s).judge))

/-- ORY_HEARTBEAT_SEND (R270). -/
def execOryHeartbeatSend (s : State) : Host.Outcome State Fault Refusal :=
  .next (State.settled (whenUp .nucleus doOryHeartbeat s))

/-- ORY_NEIGHBOUR_TIMEOUT (R265). -/
def execOryNeighbourTimeout (k : Nat) (s : State) : Host.Outcome State Fault Refusal :=
  .next (State.settled ((whenUp .nucleus (doNbTimeout k) s).judge))

/-- ORY_JOIN_TIMEOUT (R274). -/
def execOryJoinTimeout (s : State) : Host.Outcome State Fault Refusal :=
  .next (State.settled (whenUp .nucleus doOryJoinTimeout s))

/-- ORY_MODES_SEND (R270). -/
def execOryModesSend (s : State) : Host.Outcome State Fault Refusal :=
  .next (State.settled (whenUp .nucleus doOryModes s))

/-- ORY_TIMECHK_SEND (R270). -/
def execOryTimechkSend (s : State) : Host.Outcome State Fault Refusal :=
  .next (State.settled (whenUp .nucleus doOryTimechk s))

/-- ORY_TAGFAIL_REPORT (R268). -/
def execOryTagfailReport (s : State) : Host.Outcome State Fault Refusal :=
  .next (State.settled (whenUp .nucleus doOryTagfail s))

/-- ORY_LEAVE_COMPLETE (R275). -/
def execOryLeaveComplete (s : State) : Host.Outcome State Fault Refusal :=
  .next (State.settled (whenUp .nucleus doOryLeaveComplete s))

end Sys2Proof.Machine
end

