-- ==== Sys2Proof/Machine/Rec.lean ====
section
/-! DEFINITION. The event recorder: summaries, the write queue, records and repeats in MRAM, self area, reading, freeze and
clear (R351-R364). -/

namespace Sys2Proof.Machine

/-! ## Payloads by metric (R353, R354) -/

def i32 (v : Int) : List Byte := beBytes 4 (twos 32 v)
def extBytes (n : Nat) (g : Stage) : List Byte :=
  (List.range n).flatMap (fun i => match nth none g.ext i with | some (lo, hi) => i32 lo ++ i32 hi | none => List.replicate 8 0)
def countBytes (w lo n : Nat) (g : Stage) : List Byte :=
  (List.range n).flatMap (fun i => beBytes w (Nat.min (nth 0 g.vals (lo + i)).toNat (2 ^ (8 * w) - 1)))

/-- Distinct command ports of a configuration-write summary. -/
def cfgPorts (g : Stage) : Nat := ((g.vals.drop 4).filter (fun v => v ≠ 0)).length

/-- Kind and payload of a staging summary. -/
def State.metricBytes (g : Stage) (s : State) : Nat × List Byte :=
  match g.metric with
  | 0x0001 => (2, countBytes 4 0 3 g ++ beBytes 4 (cfgPorts g))
  | 0x0010 | 0x0011 =>
    let (lo, hi) := (nth none g.ext 0).getD (0, 0)
    (0, countBytes 4 0 16 g ++ countBytes 4 16 1 g ++ i32 lo ++ i32 hi ++ i32 ((nth 0 g.vals 17).fdiv 16))
  | 0x0020 => (1, extBytes 10 g)
  | 0x0030 | 0x0031 => (2, countBytes 1 0 96 g)
  | 0x0040 => (1, extBytes 4 g ++ countBytes 4 0 5 g)
  | 0x0050 => (0, countBytes 3 0 32 g)
  | 0x0060 => (2, countBytes 4 0 16 g)
  | 0x0070 => (2, countBytes 1 0 64 g ++ countBytes 4 64 4 g)
  | _ => (1, extBytes 1 g ++ i32 s.aon.useUah ++ i32 s.aon.ageHours)

/-- Metrics that are closed at boundaries of 60 minutes, and those closed every REC_CTL.ivl; the latter of the Nucleus stop in
the grave state (R363). -/
def ivlMetrics : List Nat := [0x0010, 0x0011, 0x0020, 0x0030, 0x0031, 0x0040, 0x0050, 0x0060, 0x0070]
def nucMetric (m : Nat) : Bool := m == 0x0011 || m == 0x0031 || m == 0x0050 || m == 0x0060

def State.closeMetric (since : Nat) (metric : Nat) (s : State) : State :=
  let gs := if metric = 1 then s.rcd.stage.filter (fun g => g.metric == 1) else [s.staged metric 0]
  let s1 : State := { s with rcd := { s.rcd with stage := s.rcd.stage.filter (fun g => g.metric != metric) } }
  if !bit (s.rwC 0x090000) 0 || (s.pwr.grave && nucMetric metric) then s1
  else gs.foldl (fun (t : State) g =>
    let (k, p) := s.metricBytes g
    t.summary metric k g.inst (s.aon.opMin - since) p) s1

/-- REC_INTERVAL_CLOSE: the intervals that end at the present operating minute (R353, R363); they start at P5 (R358). -/
def doRecClose (s : State) : State :=
  if s.pwr.phase < 5 ∧ ¬ s.pwr.grave then s else
  let m := s.aon.opMin
  let ivl := Nat.max 1 (bits (s.rwC 0x090000) 15 8)
  let a := decide (m % ivl = 0) && decide (m ≠ s.rcd.lastClose)
  let b := decide (m % 60 = 0) && decide (m ≠ s.rcd.lastHour)
  let s1 := if b then s.closeMetric s.rcd.lastHour 0x0001 else s
  let s2 := if a then ivlMetrics.foldl (fun (t : State) k => t.closeMetric s.rcd.lastClose k) s1 else s1
  let s3 := if b then s2.closeMetric s.rcd.lastHour 0x0090 else s2
  { s3 with rcd := { s3.rcd with lastClose := if a then m else s3.rcd.lastClose, lastHour := if b then m else s3.rcd.lastHour } }

/-! ## Writing (R352, R355, R359) -/

/-- Commits to MRAM are stopped (R352, R359, R361, R362). -/
def Rec.idle (r : Rec) : Bool := r.frozen || r.halted || r.clearing || r.seqEnd

/-- The next sequence number whose slot is not bad (R359). -/
def nextGood (bad : List Nat) : Nat → Nat → Nat
  | 0, q => q
  | f + 1, q => if bad.elem (q % recSlots) then nextGood bad f (q + 1) else q

/-- What the head of the write queue is written as: its summary, or a note of code 1 for a GAP marker, with the opmin of its first drop (R354,
R355). -/
def State.headSumm (s : State) : Option Summ :=
  match s.rcd.q.head with
  | some (.item x _) => some x
  | some (.gap n) =>
    let at_ := s.rcd.gapAt.headD s.aon.opMin
    some { metric := 0x00F0, kind := 4, inst := 1, ivl := 0, opmin := at_, payload := beBytes 4 n ++ beBytes 4 at_, reps := 0 }
  | _ => none

/-- The note of a bad slot in the self area (R359). -/
def selfNote (q slot badByte opmin cyc : Nat) : List Byte :=
  let b := beBytes 4 q ++ beBytes 4 slot ++ beBytes 4 badByte ++ beBytes 4 opmin ++ beBytes 4 cyc ++ List.replicate 8 0
  b ++ beBytes 4 (crc32c b).toNat

def State.putNote (b : List Byte) (s : State) : State :=
  let i := if s.rcd.selfCnt = 0 ∧ !s.rcd.wrapped then 0 else (s.rcd.selfIdx + 1) % 128
  ({ s with rcd := { s.rcd with
    notes := insertBy (fun e => e.1) (i, b) s.rcd.notes, selfIdx := i, selfCnt := sat 8 (s.rcd.selfCnt + 1)
    wrapped := s.rcd.wrapped || (decide (i = 0) && decide (0 < s.rcd.selfCnt)) } }.latchC 0x090008 0).evQueue 1

/-- REC_RECORD_WRITE: the oldest queued summary is written and verified; ok: the verify of step 2 passed; badByte: the failing
offset; noteOk: the note's own verify. -/
def doRecWrite (ok : Bool) (badByte : Nat) (noteOk : Bool) (s : State) : State :=
  if s.rcd.idle then s
  else match s.headSumm with
  | none => s
  | some x =>
    let q := nextGood s.rcd.bad recSlots s.rcd.nextSeq
    let slot := q % recSlots
    -- the numbers have run out at a bad slot: no record follows (R352)
    if 0xFFFFFFFF < q then { s with rcd := { s.rcd with seqEnd := true } }
    else if ok then
      let gap := match s.rcd.q.head with | some (.gap _) => true | _ => false
      let s1 : State := { s with rcd := { s.rcd with
        log := insertBy (fun e => e.1) (slot, s.recordBytes q x) s.rcd.log, newest := q, any := true, nextSeq := q + 1
        q := s.rcd.q.pop, gapAt := if gap then s.rcd.gapAt.drop 1 else s.rcd.gapAt, badRun := 0, seqEnd := decide (q = 0xFFFFFFFF) } }
      let s2 := s1.flagsWritten.bumpC 0x090028 1
      if gap then s2.latchC 0x090008 2 else s2
    else
      let run := s.rcd.badRun + 1
      let s1 : State := { s with rcd := { s.rcd with
        log := eraseBy (fun e => e.1) slot s.rcd.log, bad := insertBy (fun (k : Nat) => k) slot s.rcd.bad, nextSeq := q + 1
        badRun := run, halted := decide (3 ≤ run), seqEnd := decide (q = 0xFFFFFFFF) } }
      let s2 := (s1.bumpC 0x090030 1).faultC 85
      if noteOk then s2.putNote (selfNote q slot badByte s2.aon.opMin s2.aon.pwrCyc)
      else { s2 with rcd := { s2.rcd with selfBad := true } }

/-- REC_TRAILER_REWRITE: the oldest waiting rewrite (R356); one whose record is no longer held is passed over. -/
def doRecRewrite (s : State) : State :=
  if s.rcd.idle then s
  else match s.rcd.rewrites with
  | [] => s
  | q :: rest =>
    let s1 : State := { s with rcd := { s.rcd with rewrites := rest } }
    match s.rcd.log.find? (fun e => e.1 == q % recSlots) with
    | some e =>
      if recSeq e.2 = q then
        ({ s1 with rcd := { s1.rcd with log := insertBy (fun e => e.1) (e.1, e.2.take 124 ++ recTrailer (recRep e.2 + 1)) s1.rcd.log } }).bumpC 0x09002C 1
      else s1
    | none => s1

/-! ## Freeze, thaw and clear (R361, R362) -/

def cmdRecFreeze (_ : Hdr) (ps : List Word) (s : State) : Res :=
  arity 0 ps s fun _ => .ok ({ s with rcd := { s.rcd with frozen := true } }.bumpC 0x090038 1)

def cmdRecThaw (_ : Hdr) (ps : List Word) (s : State) : Res :=
  arity 0 ps s fun _ => .ok { s with rcd := { s.rcd with frozen := false } }

/-- REC_AUTO_THAW: 10 s after the last REC.FREEZE. -/
def doRecAutoThaw (s : State) : State :=
  if !s.rcd.frozen then s
  else (({ s with rcd := { s.rcd with frozen := false } }.bumpC 0x09003C 1).latchC 0x090008 1).evQueue 1

def cmdRecClear (h : Hdr) (ps : List Word) (s : State) : Res :=
  arity 1 ps s fun _ =>
    if par ps 0 ≠ 0x0B050B05 then .fail s eParam 0
    else if s.rcd.clearing then .fail s (if s.opLocked h 0x0B05 0 then eLocked else eBusy)
    else if s.opBusy h 0x0B05 0 then .fail s eBusy
    else if s.rcd.frozen then .fail s eState
    else .pending { s.addOp h 0x0B05 0 with rcd := { s.rcd with clearing := true } }

/-- REC_CLEAR_COMPLETE: every good slot is erased; sequence number, bad marks and self area stay (R362). -/
def doRecClearComplete (s : State) : State :=
  if !s.rcd.clearing then s
  else (({ s with rcd := { s.rcd with clearing := false, log := [], rewrites := [] } }.latchC 0x090008 3).completeOp .coma 0x0B05 0 codeOk)

/-! ## Reading (R360) -/

/-- Oldest sequence number in a good slot; newest + 1 with an empty log. -/
def State.recOldest (s : State) : Nat :=
  match (s.rcd.log.map (fun e => recSeq e.2)) with
  | [] => (s.rcd.newest + 1) % 2 ^ 32
  | q :: r => minN q r

/-- The 32 words of the slot of sequence number q; a slot never written since a clear reads as zeros (log 16). -/
def State.recWords (q : Nat) (s : State) : List Word :=
  let slot := q % recSlots
  if s.rcd.bad.elem slot then List.replicate 32 0xFFFFFFFF
  else match s.rcd.log.find? (fun e => e.1 == slot) with
    | some e => wordsN 32 e.2
    | none => List.replicate 32 0

def State.noteWords (i : Nat) (s : State) : List Word :=
  match s.rcd.notes.find? (fun e => e.1 == i) with
  | some e => wordsN 8 e.2
  | none => List.replicate 8 0

def State.hasCursor (p : Nat) (s : State) : Bool := match s.port? p with | some c => c.cursor | none => false
def State.cursors (s : State) : Nat := (s.cmd.ports.filter (fun c => c.cursor)).length
def State.setCursor (p : Nat) (on : Bool) (s : State) : State := s.mapPort p (fun c => { c with cursor := on })

def cmdRecOpen (h : Hdr) (ps : List Word) (s : State) : Res :=
  arity 0 ps s fun _ =>
    if s.rcd.clearing ∨ (!s.hasCursor h.port ∧ 4 ≤ s.cursors) then .fail s eBusy
    else .ok (s.setCursor h.port true) [w32 s.recOldest, w32 s.rcd.newest]

def cmdRecRead (h : Hdr) (ps : List Word) (s : State) : Res :=
  arity 2 ps s fun _ =>
    let n := (par ps 1).toNat
    if n = 0 ∨ 8 < n then .fail s eParam 1
    else if s.rcd.clearing then .fail s eBusy
    else if !s.hasCursor h.port then .fail s eState
    else .ok s ((List.range n).flatMap (fun i => s.recWords ((par ps 0).toNat + i)))

def cmdRecClose (h : Hdr) (ps : List Word) (s : State) : Res :=
  arity 0 ps s fun _ => .ok (s.setCursor h.port false)

/-- A REC register that is computed (R364). -/
def State.recReg (o : Nat) (s : State) : Option Word :=
  let r := s.rcd
  if o = 4 then some (w32 (b2n r.frozen + 4 * b2n r.clearing + 8 * b2n r.halted + 16 * b2n r.selfBad + 32 * b2n r.seqEnd +
    128 * Nat.min 511 r.q.items.length + 65536 * s.cursors))
  else if o = 0xC then some (w32 s.recOldest)
  else if o = 0x10 then some (w32 r.newest)
  else if o = 0x18 then some (w32 (recSlots - r.bad.length))
  else if o = 0x1C then some (w32 (r.selfIdx + 256 * r.selfCnt + 65536 * b2n r.wrapped))
  else none

/-! ## The table's rows -/

/-- REC_OPEN (R360). -/
def execRecOpen (h : Hdr) (ps : List Word) (s : State) : Host.Outcome State Fault Refusal :=
  .next (State.settled (s.serve 0x0B00 h ps cmdRecOpen))

/-- REC_READ (R360). -/
def execRecRead (h : Hdr) (ps : List Word) (s : State) : Host.Outcome State Fault Refusal :=
  .next (State.settled (s.serve 0x0B01 h ps cmdRecRead))

/-- REC_CLOSE (R360). -/
def execRecClose (h : Hdr) (ps : List Word) (s : State) : Host.Outcome State Fault Refusal :=
  .next (State.settled (s.serve 0x0B02 h ps cmdRecClose))

/-- REC_FREEZE (R361). -/
def execRecFreeze (h : Hdr) (ps : List Word) (s : State) : Host.Outcome State Fault Refusal :=
  .next (State.settled (s.serve 0x0B03 h ps cmdRecFreeze))

/-- REC_THAW (R361). -/
def execRecThaw (h : Hdr) (ps : List Word) (s : State) : Host.Outcome State Fault Refusal :=
  .next (State.settled (s.serve 0x0B04 h ps cmdRecThaw))

/-- REC_CLEAR (R362). -/
def execRecClear (h : Hdr) (ps : List Word) (s : State) : Host.Outcome State Fault Refusal :=
  .next (State.settled (s.serve 0x0B05 h ps cmdRecClear))

/-- REC_INTERVAL_CLOSE (R353). -/
def execRecIntervalClose (s : State) : Host.Outcome State Fault Refusal :=
  .next (State.settled (whenUp .coma doRecClose s))

/-- REC_RECORD_WRITE (R355). -/
def execRecRecordWrite (ok : Bool) (badByte : Nat) (noteOk : Bool) (s : State) : Host.Outcome State Fault Refusal :=
  .next (State.settled ((whenUp .coma (doRecWrite ok badByte noteOk) s).judge))

/-- REC_TRAILER_REWRITE (R356). -/
def execRecTrailerRewrite (s : State) : Host.Outcome State Fault Refusal :=
  .next (State.settled (whenUp .coma doRecRewrite s))

/-- REC_AUTO_THAW (R361). -/
def execRecAutoThaw (s : State) : Host.Outcome State Fault Refusal :=
  .next (State.settled (whenUp .coma doRecAutoThaw s))

/-- REC_CLEAR_COMPLETE (R362). -/
def execRecClearComplete (s : State) : Host.Outcome State Fault Refusal :=
  .next (State.settled (whenUp .coma doRecClearComplete s))

end Sys2Proof.Machine
end

