-- ==== Sys2Proof/Machine/Ptp.lean ====
section
/-! DEFINITION. Precision-time messages: masters, Sync and delay measurements of the two domains, the transparent clock, and the
messages this device sends (R62, R63, R70-R73, R75). Message layouts are those of IEEE 1588-2019 and IEEE C37.238 (PRESUMED, log
17). Times here are in 2^-16 ns. -/

namespace Sys2Proof.Machine

/-! ## Stamps (R70) -/

/-- TIM_Pn_TRIM, ingress (0) or egress (1), in 2^-16 ns. -/
def State.trim (p k : Nat) (s : State) : Int := (s.rwC (0x040040 + 8 * p + 4 * k)).toInt * 256
/-- A stamp of TAI ns t on port p with its trim subtracted. -/
def State.stamp (p k t : Nat) (s : State) : Int := (t : Int) * 65536 - s.trim p k

/-! ## Fields of a message -/

def ptpType (m : List Byte) : Nat := fieldAt 0 1 m % 16
def ptpDomain (m : List Byte) : Nat := fieldAt 4 1 m
def ptpTwoStep (m : List Byte) : Bool := (nth 0 m 6).getLsbD 1
def ptpCorr (m : List Byte) : Int := sext 64 (fieldAt 8 8 m)
def ptpSrc (m : List Byte) : List Byte := slice 20 10 m
def ptpSeq (m : List Byte) : Nat := fieldAt 30 2 m
/-- The timestamp at offset 34, and the requesting port identity of a response. -/
def ptpTime (m : List Byte) : Int := ((fieldAt 34 6 m * 1000000000 + fieldAt 40 4 m : Nat) : Int) * 65536
def ptpReqId (m : List Byte) : List Byte := slice 44 10 m

/-- Least length of a message by type. -/
def ptpMin : Nat → Nat
  | 2 | 3 | 9 | 10 => 54
  | 11 => 64
  | _ => 44

/-- Version 2 and long enough for its type and its own length field. -/
def ptpWhole (m : List Byte) : Bool :=
  decide (34 ≤ m.length) && fieldAt 1 1 m % 16 == 2 && decide (ptpMin (ptpType m) ≤ fieldAt 2 2 m) && decide (fieldAt 2 2 m ≤ m.length)

/-- clockIdentity of this device, from the MAC address of port 0 by EUI-64, and the identity of its port p (log 17). -/
def State.portId (p : Nat) (s : State) : List Byte :=
  let m := beBytes 6 (s.mac 0)
  m.take 3 ++ [0xFF, 0xFE] ++ m.drop 3 ++ beBytes 2 (p + 1)

/-! ## Which domain a message belongs to -/

def domEn (c : Word) : Bool := bit c 0
def domProfile (c : Word) : Nat := bits c 2 1
def domP2p (c : Word) : Bool := domProfile c != 2
def State.domCfg (d : Dom) (s : State) : Word := s.rwC (aDom d 0)
def State.domPorts (d : Dom) (s : State) : Word := s.rwC (aDom d 4)
def State.inPorts (d : Dom) (p : Nat) (s : State) : Bool := bit (s.domPorts d) p

/-- Transport of a message: over Ethernet, or over UDP in an IP version. -/
def State.transportOk (d : Dom) (l2 v6 : Bool) (s : State) : Bool :=
  let c := s.domCfg d
  if domProfile c ≤ 1 ∨ bit c 4 then l2 else !l2 && v6 == bit c 3

/-- Domain d is enabled and the message carries its number, on one of its ports, transport and VLAN. -/
def State.ofDomain (d : Dom) (p vid : Nat) (l2 v6 : Bool) (number : Nat) (s : State) : Bool :=
  let c := s.domCfg d
  domEn c && bits c 15 8 == number && s.inPorts d p && s.transportOk d l2 v6 && bits (s.domPorts d) 15 4 == vid

/-! ## Announce: the best master (R62, R75) -/

/-- Inaccuracy in ns of a clockAccuracy code (log 17); an unknown one exceeds every bound. -/
def accuracyNs (a : Nat) : Nat :=
  nth 100000000000 [25, 100, 250, 1000, 2500, 10000, 25000, 100000, 250000, 1000000, 2500000, 10000000, 25000000, 100000000, 250000000,
    1000000000, 10000000000] (if 0x20 ≤ a then a - 0x20 else 99)

/-- grandmasterTimeInaccuracy of the IEEE_C37_238 TLV of an announce message, from offset o on. -/
def inaccTlv (m : List Byte) : Nat → Nat → Option Nat
  | 0, _ => none
  | f + 1, o =>
    if m.length < o + 4 then none
    else if fieldAt o 2 m = 3 ∧ fieldAt (o + 4) 3 m = 0x1C129D then some (fieldAt (o + 12) 4 m)
    else inaccTlv m f (o + 4 + fieldAt (o + 2) 2 m)

def masterOf (profile p : Nat) (m : List Byte) : Master :=
  let acc := fieldAt 49 1 m
  { port := p, src := ptpSrc m, prio1 := fieldAt 47 1 m, cls := fieldAt 48 1 m, acc := acc, variance := fieldAt 50 2 m,
    prio2 := fieldAt 52 1 m, gmid := fieldAt 53 8 m, steps := fieldAt 61 2 m, source := fieldAt 63 1 m,
    inacc := if profile = 1 then (inaccTlv m 16 64).getD (accuracyNs acc) else accuracyNs acc }

/-- What the data set comparison looks at, most significant first. -/
def Master.rank (g : Master) : Nat :=
  ((((((g.prio1 * 2 ^ 8 + g.cls) * 2 ^ 8 + g.acc) * 2 ^ 16 + g.variance) * 2 ^ 8 + g.prio2) * 2 ^ 64 + g.gmid) * 2 ^ 16 + g.steps) * 2 ^ 80 + beNat g.src

/-- An announce message of domain d (R62, R75): a better master is taken, and the chosen one's data are. After a servo reset (R80) the choice
is open again: any master's message makes it, the former one's too. Where the announce itself ends LOCKED, E at that entry to HOLDOVER (R77)
has the inaccuracy that this announce gives (DESIGN CHOICE, log 159). -/
def State.announce (d : Dom) (p : Nat) (m : List Byte) (s : State) : State :=
  let x := s.tim.dom d
  let g := masterOf (domProfile (s.domCfg d)) p m
  let chosen := x.gm.filter (fun _ => x.pstate != 0)
  let mine := match chosen with | some o => o.port == p && o.src == g.src | none => false
  let better := match chosen with | some o => decide (g.rank < o.rank) | none => true
  if g.steps ≥ 255 ∨ !(mine || better) then s
  else
    let s1 := s.mapDom d (fun x =>
      if mine then { x with gm := some g, annOk := true }
      else { x with gm := some g, annOk := true, syncOk := false, parent := p, pstate := 1, mpds := [], nmpd := 0, overs := 0, hist := [], outliers := [],
                    twoStep := none, dreq := none, lastSync := none })
    let f := nth 0 m 7
    s1.takeUtc d (sext 16 (fieldAt 44 2 m)) (f.getLsbD 2) (f.getLsbD 0) (f.getLsbD 1)

/-! ## Sync and offsets (R63) -/

def halfAway (v : Int) : Int := (v + 32768).fdiv 65536

/-- One Sync measurement: master time corrected, and its arrival (R63). Before the first path-delay measurement since the port became a time
receiver R63 gives no path delay: 0 stands for it, and the offset found so enters the history (DESIGN CHOICE, log 158). -/
def State.syncDone (d : Dom) (t1 t2 : Int) (s : State) : State :=
  let x := s.tim.dom d
  -- the first Sync after the choice of a master makes the parent port a time receiver
  let s1 := s.mapDom d (fun x => { x with lastSync := some (t1, t2), pstate := 2,
                                          nmpd := if x.pstate = 2 then x.nmpd else 0, mpds := if x.pstate = 2 then x.mpds else [] })
  let delay := medianI (s1.tim.dom d).mpds * 256
  let asym := (s.rwC (aDom d 0x20)).toInt
  if x.pstate = 0 then s else s1.offsetSample d (halfAway (t1 + delay + asym - t2))

/-- Sync messages and path delay of domain d come from its parent. -/
def State.fromParent (d : Dom) (p : Nat) (m : List Byte) (s : State) : Bool :=
  match (s.tim.dom d).gm with
  | some g => g.port == p && g.src == ptpSrc m
  | none => false

def State.syncIn (d : Dom) (p : Nat) (t2 : Int) (m : List Byte) (s : State) : State :=
  if !s.fromParent d p m then s
  else
    let s1 := s.mapDom d (fun x => { x with syncOk := true })
    if ptpTwoStep m then s1.mapDom d (fun x => { x with twoStep := some (ptpSeq m, (t2.toNat, ptpCorr m)) })
    else s1.syncDone d (ptpTime m + ptpCorr m) t2

def State.followUp (d : Dom) (p : Nat) (m : List Byte) (s : State) : State :=
  match (s.tim.dom d).twoStep with
  | some (q, (t2, c)) =>
    if s.fromParent d p m && q == ptpSeq m then
      (s.mapDom d (fun x => { x with twoStep := none })).syncDone d (ptpTime m + ptpCorr m + c) t2
    else s
  | none => s

/-! ## Path delay (R62, R66, R71, R73) -/

def State.delayResp (d : Dom) (p : Nat) (m : List Byte) (s : State) : State :=
  let x := s.tim.dom d
  match x.dreq, x.lastSync with
  | some (q, t3), some (t1, t2) =>
    if !domP2p (s.domCfg d) && s.fromParent d p m && q == ptpSeq m && decide (0 < t3) && ptpReqId m == s.portId p then
      (s.mapDom d (fun x => { x with dreq := none })).pathDelay d (((t2 - t1) + (ptpTime m - ptpCorr m - t3)).fdiv 512)
    else s
  | _, _ => s

/-- A link delay measured on port p: every peer-to-peer domain whose parent port it is takes it (R66). -/
def State.linkMeasured (p : Nat) (delay16 : Int) (s : State) : State :=
  let v := delay16.fdiv 256
  let s1 := s.mapPrt p (fun x => { x with linkDelay := v, delayKnown := true, pdreq := none, pdtwo := none })
  [Dom.a, Dom.b].foldl (fun (s : State) d =>
    let x := s.tim.dom d
    if domP2p (s.domCfg d) && decide (x.parent = p) && decide (x.pstate = 2) then s.pathDelay d v else s) s1

def State.pdelayResp (p : Nat) (t4 : Int) (m : List Byte) (s : State) : State :=
  match (s.port p).pdreq with
  | some (q, t1) =>
    if !(q == ptpSeq m && decide (0 < t1) && ptpReqId m == s.portId p) then s
    else if ptpTwoStep m then s.mapPrt p (fun x => { x with pdtwo := some (q, t4 - t1 + ptpTime m - ptpCorr m) })
    else s.linkMeasured p ((t4 - t1 - ptpCorr m).fdiv 2)
  | none => s

def State.pdelayFollow (p : Nat) (m : List Byte) (s : State) : State :=
  match (s.port p).pdtwo with
  | some (q, v) => if q == ptpSeq m && ptpReqId m == s.portId p then s.linkMeasured p ((v - ptpTime m - ptpCorr m).fdiv 2) else s
  | none => s

/-! ## Transparent clock (R72, R73) -/

def State.tcMode (s : State) : Nat := bits (s.rwC 0x040060) 1 0
def State.tcPort (p : Nat) (s : State) : Bool := bit (s.rwC 0x040060) (4 + p)

/-- A frame of the time base's own; in the grave state none leaves (R345). -/
def State.pushKind (p pri : Nat) (bs : List Byte) (k : FwKind) (s : State) : State :=
  if s.pwr.grave then s else s.pushFwKind p pri bs k

/-- Event messages whose correctionField is changed in a mode; Pdelay messages end-to-end only. -/
def tcEvent (mode type : Nat) : Bool := type ≤ 1 || (mode == 1 && (type == 2 || type == 3))
/-- Messages that a mode does not forward. -/
def tcBars (mode type : Nat) : Bool := mode == 2 && (type == 2 || type == 3 || type == 10)

/-- A PTP message goes to every other masked port of its domains' port sets; in the grave state none does (R345), and one longer than a port
sends does not go there (R84; that nothing counts it: DESIGN CHOICE, log 160). R72 names modes 0 to 2: the model stores mode 3 and treats it as off
(DESIGN CHOICE, log 128). -/
def State.tcForward (ds : List Dom) (p : Nat) (t2 : Int) (frame m : List Byte) (s : State) : State :=
  let mode := s.tcMode
  let type := ptpType m
  if s.pwr.grave ∨ mode = 0 ∨ mode = 3 ∨ !s.tcPort p ∨ tcBars mode type then s
  else ((List.range 4).filter (fun q => q ≠ p && s.tcPort q && ds.any (fun d => s.inPorts d q) && decide (frame.length + 4 ≤ s.maxlen q))).foldl (fun (s : State) q =>
    let pri := match ds.find? (fun d => s.inPorts d q) with | some d => bits (s.domPorts d) 18 16 | none => 0
    (s.pushKind q pri frame (if tcEvent mode type then .forward t2 p (mode == 2 && type == 0) else .relayed)).bumpC 0x040074 1) s

/-! ## Messages this device sends (R71, R73) -/

def ptpMsg (type len domain seq ctl : Nat) (interval : Nat) (flags : Nat) (src body : List Byte) : List Byte :=
  [BitVec.ofNat 8 type, 2] ++ beBytes 2 len ++ [BitVec.ofNat 8 domain, 0] ++ beBytes 2 flags ++ List.replicate 12 0 ++ src ++ beBytes 2 seq ++
    [BitVec.ofNat 8 ctl, BitVec.ofNat 8 interval] ++ body

/-- A frame that carries a message out of port p over a transport, in VLAN vid (0 untagged) at a priority; peer: the peer-delay multicast
addresses. -/
def State.ptpWrap (l2 v6 : Bool) (vid pri p : Nat) (peer : Bool) (m : List Byte) (s : State) : List Byte :=
  let vlan := if vid = 0 then none else some (vid, pri)
  if l2 then
    padFrame (ethHeader (if peer then 0x0180C200000E else 0x011B19000000) (s.mac p) vlan 0x88F7 ++ m)
  else if v6 then
    let dst := (if peer then 0xFF02 else 0xFF0E) * 2 ^ 112 + (if peer then 0x6B else 0x181)
    udpFrame (0x333300000000 + dst % 2 ^ 32) (s.mac p) vlan true (s.src6 p) dst 319 319 64 0 (m ++ [0, 0])
  else
    let dst := if peer then 0xE000006B else 0xE0000181
    udpFrame (0x01005E000000 + dst % 2 ^ 23) (s.mac p) vlan false (s.ip4 p) dst 319 319 64 0 m

/-- A frame of a message of domain d out of port p. -/
def State.ptpFrame (d : Dom) (p : Nat) (peer : Bool) (m : List Byte) (s : State) : List Byte :=
  let c := s.domCfg d
  s.ptpWrap (domProfile c ≤ 1 || bit c 4) (bit c 3) (bits (s.domPorts d) 15 4) (bits (s.domPorts d) 18 16) p peer m

/-- Offset of the PTP message in a frame. -/
def ptpOff (bs : List Byte) : Nat := if fieldAt (ethLen bs - 2) 2 bs = 0x88F7 then ethLen bs else udpOff bs

/-- DELAY_REQ_SEND: an end-to-end domain with a parent asks (R71). -/
def doDelayReq (d : Dom) (s : State) : State :=
  let c := s.domCfg d
  let x := s.tim.dom d
  if !domEn c || domP2p c || decide (x.pstate = 0) then s
  else
    let m := ptpMsg 1 44 (bits c 15 8) x.dseq 1 0x7F 0 (s.portId x.parent) (List.replicate 10 0)
    ((s.mapDom d (fun x => { x with dseq := (x.dseq + 1) % 65536, dreq := some (x.dseq, 0) })).pushKind x.parent (bits (s.domPorts d) 18 16)
      (s.ptpFrame d x.parent false m) (.delayReq d)).bumpC (aDom d 0x48) 1

/-- The domain whose number and transport a Pdelay_Req of port p carries: an enabled peer-to-peer one, or domain A for a
transparent clock. -/
def State.pdelayDom (p : Nat) (s : State) : Option Dom :=
  match [Dom.a, Dom.b].find? (fun d => domEn (s.domCfg d) && domP2p (s.domCfg d) && s.inPorts d p) with
  | some d => some d
  | none => if s.tcMode = 2 ∧ s.tcPort p then some .a else none

/-- PDELAY_REQ_SEND (R73). -/
def doPdelayReq (p : Nat) (s : State) : State :=
  match s.pdelayDom p with
  | none => s
  | some d =>
    let x := s.port p
    let m := ptpMsg 2 54 (bits (s.domCfg d) 15 8) x.pdseq 5 0x7F 0 (s.portId p) (List.replicate 20 0)
    ((s.mapPrt p (fun x => { x with pdseq := (x.pdseq + 1) % 65536, pdreq := some (x.pdseq, 0), pdtwo := none })).pushKind p
      (bits (s.domPorts d) 18 16) (s.ptpFrame d p true m) .pdelayReq).bumpC (aDom d 0x4C) 1

/-- Port p is a peer-to-peer transparent clock's (R72, R73). -/
def State.p2pPort (p : Nat) (s : State) : Bool := decide (s.tcMode = 2) && s.tcPort p

/-- The answer to a Pdelay_Req, on every masked port of a peer-to-peer transparent clock whatever the request's domain (R71, R73): over the
request's transport and VLAN, at the priority of the port's domain. -/
def State.pdelayAnswer (p : Nat) (t2 : Int) (vid : Nat) (l2 v6 : Bool) (m : List Byte) (s : State) : State :=
  if !s.p2pPort p then s
  else
    let pri := bits (s.domPorts ((s.pdelayDom p).getD .a)) 18 16
    let r := ptpMsg 3 54 (ptpDomain m) (ptpSeq m) 5 0x7F 0 (s.portId p) (List.replicate 10 0 ++ ptpSrc m)
    s.pushKind p pri (s.ptpWrap l2 v6 vid pri p true (patch 8 (slice 8 8 m) r)) (.pdelayResp t2)

/-! ## Reception (R83 row 3) -/

/-- One message for one domain. -/
def State.ptpFor (d : Dom) (p : Nat) (t2 : Int) (m : List Byte) (s : State) : State :=
  match ptpType m with
  | 0 => (s.bumpC (aDom d 0x38) 1).syncIn d p t2 m
  | 3 => s.bumpC (aDom d 0x44) 1
  | 8 => s.followUp d p m
  | 9 => (s.bumpC (aDom d 0x40) 1).delayResp d p m
  | 11 => (s.bumpC (aDom d 0x3C) 1).announce d p m
  | _ => s

/-- What concerns the port, not a domain: peer-delay messages, taken once for the port's domains or its transparent clock (R73). -/
def State.peerDelay (ds : List Dom) (p : Nat) (t2 : Int) (vid : Nat) (l2 v6 : Bool) (m : List Byte) (s : State) : State :=
  if ds.isEmpty && !s.p2pPort p then s
  else match ptpType m with
    | 2 => s.pdelayAnswer p t2 vid l2 v6 m
    | 3 => s.pdelayResp p t2 m
    | 10 => s.pdelayFollow p m
    | _ => s

/-- A precision-time frame on port p, stamped at TAI ns t; frame: without its FCS. -/
def State.ptpIn (p t vid : Nat) (l2 v6 : Bool) (frame m : List Byte) (s : State) : State :=
  let t2 := s.stamp p 0 t
  let ds := [Dom.a, Dom.b].filter (fun d => s.ofDomain d p vid l2 v6 (ptpDomain m))
  if !ptpWhole m then ds.foldl (fun (s : State) d => s.bumpC (aDom d 0x68) 1) s
  else
    let s1 := (ds.foldl (fun (s : State) d => s.ptpFor d p t2 m) s).peerDelay ds p t2 vid l2 v6 m
    (if ds.isEmpty then s1 else s1.tcForward ds p t2 frame m).judge

/-! ## As a frame leaves (R71, R72) -/

/-- The sum of correctionField and an amount; none where it leaves 64 bits (R72). -/
def corrAdd (c a : Int) : Option Int := if c + a < -(2 ^ 63) ∨ 2 ^ 63 ≤ c + a then none else some (c + a)

/-- A one's-complement checksum over 16-bit words, updated for words that changed (R72). -/
def reSum (h : Nat) (old new : List Byte) : Nat :=
  0xFFFF - fold16 ((0xFFFF - h) + sum16 (new.length + 1) new (sum16 (old.length + 1) (old.map (fun b => ~~~b)) 0))

/-- A frame with bytes of its PTP message replaced (R72). Over UDP/IPv4 the UDP checksum is updated incrementally, and one of 0 (none) stays;
over UDP/IPv6 the two trailing bytes are adjusted so that the checksum stands, or the checksum is where they are missing. -/
def ptpPatch (o : Nat) (new : List Byte) (bs : List Byte) : List Byte :=
  let k := ptpOff bs
  let old := slice (k + o) new.length bs
  let raw := patch (k + o) new bs
  if fieldAt (ethLen bs - 2) 2 bs = 0x88F7 then raw
  else
    let body := udpBody raw
    let n := fieldAt 2 2 body
    if fieldAt (ethLen bs - 2) 2 bs = 0x86DD ∧ n + 2 = body.length then
      patch (k + n) (beBytes 2 (reSum (fieldAt (k + n) 2 bs) old new)) raw
    else
      let h := fieldAt (k - 2) 2 bs
      let c := reSum h old new
      if h = 0 then raw else patch (k - 2) (beBytes 2 (if c = 0 then 0xFFFF else c)) raw

/-- What the transmitter makes of a firmware frame that starts on port p at TAI ns t; none: dropped (R71, R72). -/
def State.fwStamp (p t : Nat) (f : FwFrame) (s : State) : State × Option (List Byte) :=
  let t3 := s.stamp p 1 t
  let ns := (t3.fdiv 65536).toNat
  let corr := sext 64 (fieldAt (ptpOff f.bytes + 8) 8 f.bytes)
  match f.kind with
  | .plain | .relayed => (s, some f.bytes)
  | .delayReq d => (s.mapDom d (fun x => { x with dreq := x.dreq.map (fun q => (q.1, ns * 65536)) }), some (ptpPatch 34 (taiBytes ns) f.bytes))
  | .pdelayReq => (s.mapPrt p (fun x => { x with pdreq := x.pdreq.map (fun q => (q.1, ns * 65536)) }), some (ptpPatch 34 (taiBytes ns) f.bytes))
  | .pdelayResp t2 => (s, (corrAdd corr (t3 - t2)).map (fun c => ptpPatch 8 (beBytes 8 (twos 64 c)) f.bytes))
  | .forward t2 q link =>
    match corrAdd corr (t3 - t2 + if link then (s.port q).linkDelay * 256 else 0) with
    | some c => (s, some (ptpPatch 8 (beBytes 8 (twos 64 c)) f.bytes))
    | none => (s.bumpC 0x040078 1, none)

/-! ## The table's rows -/

/-- DELAY_REQ_SEND (R71). -/
def execDelayReqSend (d : Dom) (s : State) : Host.Outcome State Fault Refusal :=
  .next (State.settled (whenUp .coma (doDelayReq d) s))

/-- PDELAY_REQ_SEND (R73). -/
def execPdelayReqSend (p : Nat) (s : State) : Host.Outcome State Fault Refusal :=
  .next (State.settled (whenUp .coma (doPdelayReq p) s))

end Sys2Proof.Machine
end

