-- ==== Sys2Proof/Machine/Tx.lean ====
section
/-! DEFINITION. The port transmitter: which frame leaves next, what is inserted as it starts, and the discarding of frames on a
port that is down or disabled (R36, R52, R82, R87, R88, R248, R249, R252, R257, R267). -/

namespace Sys2Proof.Machine

/-! ## Replies as bytes (R36, R37, R52) -/

/-- The status word (R37). -/
def Reply.status (r : Reply) : Nat :=
  r.code.toNat * 2 ^ 24 + r.level * 2 ^ 21 + r.summary.toNat * 2 ^ 16 + r.gen.toNat * 256 + r.detail.toNat

/-- The bytes of a reply packet; drop: the DROP flag (R33). -/
def Reply.bytes (drop : Bool) (r : Reply) : List Byte :=
  let ctl := 0x14 + 8 * b2n (decide (r.half = .nucleus)) + 2 * b2n r.resync + b2n drop
  let b := beBytes 2 0x0D1E ++ [BitVec.ofNat 8 ctl, r.tag] ++ beBytes 2 r.opcode.toNat ++ beBytes 2 (1 + r.results.length) ++
    beBytes 4 r.seq.toNat ++ beBytes 4 r.status ++ bytesOf r.results
  b ++ beBytes 4 (crc32c b).toNat

/-- The command UDP port number of a port (R102). -/
def State.cmdUdp (p : Nat) (s : State) : Nat := bits (s.rwC (aPrt p 0x30)) 15 0

/-- The frame of a reply to an in-band source: network port, address and UDP port of the source (R52). -/
def State.replyFrame (net ip udp : Nat) (drop : Bool) (r : Reply) (s : State) : List Byte :=
  udpFrame r.path.mac (s.mac net) (r.path.tag.map (fun v => (v, 7))) r.path.v6 (if r.path.v6 then s.src6 net else s.ip4 net) ip
    (s.cmdUdp net) udp 64 r.path.dscp (r.bytes drop)

/-! ## What a port may send -/

def State.prtCtl (p : Nat) (s : State) : Word := s.rwC (aPrt p 0)
def State.prtOn (p : Nat) (s : State) : Bool := bit (s.prtCtl p) 0
/-- The port sends: link up and enabled (R82). -/
def State.txOn (p : Nat) (s : State) : Bool := (s.port p).link && s.prtOn p
/-- Priority q of port p is paused by the partner (R88). -/
def Port.paused (q : Nat) (x : Port) : Bool := nth 0 x.pause q != 0

/-- A sender that has a frame ready. -/
inductive TxPick where
  | fw (i : Nat) | reply (c : Nat) | ory | stream (i : Nat)
  deriving DecidableEq, Repr

/-- Markers at the head of stream i are taken, and frames whose slot is blocked dropped (R252, R257, R326). -/
def State.turn (i : Nat) : Nat → State → State
  | 0, s => s
  | n + 1, s =>
    let t := s.stream i
    if 0 < t.fill then s
    else match t.q.head with
    | some (.gap c) =>
      let fills := egrKind (s.egrCfg i) == 1 && bit (s.egrCfg i) 9 && t.lastKey.isSome
      State.turn i n (s.mapStream i (fun t => { t with q := t.q.pop, fill := if fills then Nat.min c 16 else 0 }))
    | some .flush => State.turn i n (s.mapStream i (fun t => { t with q := t.q.pop }))
    | some (.item f _) =>
      if (match f.auth with | some (k, _) => s.slotBlocked k | none => false) then State.turn i n (s.dropHeads i) else s
    | none => s
def State.turnStream (i : Nat) (s : State) : State := s.turn i ((s.stream i).q.entries.length + 1)

/-- The same for the orrery transmit queue (R269, R326). -/
def State.turnOryN : Nat → State → State
  | 0, s => s
  | n + 1, s =>
    match s.ory.tx.head with
    | some (.item _ _) => s.dropOry
    | some _ => State.turnOryN n { s with ory := { s.ory with tx := s.ory.tx.pop } }
    | none => s
def State.turnOry (s : State) : State := s.turnOryN (s.ory.tx.entries.length + 1)

/-- Stream i has a frame; live: a frame whose slot waits in its hold window does not leave (R326). -/
def State.ready (live : Bool) (i : Nat) (s : State) : Bool :=
  let t := s.stream i
  decide (0 < t.fill) || (match t.q.head with
    | some (.item f _) => !live || (match f.auth with | some (k, _) => s.keyServes k | none => true)
    | _ => false)

/-- Streams of a port and priority. -/
def State.streamsAt (p q : Nat) (s : State) : List Nat :=
  (List.range 64).filter (fun i => egrPort (s.egrCfg i) == p && egrPri (s.egrCfg i) == q)

/-- The orrery head frame leaves by port p. -/
def State.oryReady (live : Bool) (p : Nat) (s : State) : Bool :=
  match s.ory.tx.head with
  | some (.item f _) => f.port == p && (!live || !f.own || s.keyServes s.ory.slot)
  | _ => false

/-- What leaves next within priority q of port p (R87, R252): firmware frames, replies on 7, orrery messages on 6, streams in turn. R87 orders
a queue, not the senders of one priority: this order among them is the model's (DESIGN CHOICE, log 135). -/
def State.pickAt (live : Bool) (p q : Nat) (s : State) : Option TxPick :=
  match (s.port p).fw.findIdx? (fun f => f.pri == q) with
  | some i => some (.fw i)
  | none =>
    match (if q = 7 then s.cmd.ports.find? (fun c => c.id != 0 && c.net == p && !c.q.entries.isEmpty) else none) with
    | some c => some (.reply c.id)
    | none =>
      if q = 6 ∧ s.oryReady live p then some .ory
      else
        let is_ := (s.streamsAt p q).filter (fun i => s.ready live i)
        match is_.find? (fun i => nth 63 (s.port p).served q < i) with
        | some i => some (.stream i)
        | none => is_.head?.map .stream

/-- Strict priority from 7 down; a paused priority starts nothing (R87, R88). -/
def State.pickFrom (live : Bool) (p : Nat) (s : State) : List Nat → Option (Nat × TxPick)
  | [] => none
  | q :: r =>
    if live && (s.port p).paused q then s.pickFrom live p r
    else match s.pickAt live p q with
    | some x => some (q, x)
    | none => s.pickFrom live p r

def State.pick (live : Bool) (p : Nat) (s : State) : Option (Nat × TxPick) := s.pickFrom live p [7, 6, 5, 4, 3, 2, 1, 0]

/-! ## Insertion as a frame starts (R70, R71, R248, R249, R267, R326) -/

/-- A stream's frame with its tag: over the covered bytes, the hops byte of a conjunction frame taken as 0. -/
def State.tagged (f : EgrFrame) (s : State) : List Byte :=
  match f.auth with
  | none => f.bytes
  | some (k, (o, c)) =>
    let msg := slice c (o - c) f.bytes
    let t := s.tag16 k (if f.kind = 2 then patch 8 [0] msg else msg)
    let b := patch o t f.bytes
    if f.kind = 5 then b else reUdp f.bytes (udpBody b)

/-- An orrery frame that starts on port p at TAI ns t: an own TIMECHK takes its egress time, an own message its tag. -/
def State.oryStamped (p t : Nat) (f : OryFrame) (s : State) : List Byte :=
  if !f.own then f.bytes
  else
    let b := udpBody f.bytes
    let b1 := if fieldAt 3 1 b = 7 then patch 20 (taiBytes ((s.stamp p 1 t).fdiv 65536).toNat) b else b
    let n := 20 + fieldAt 10 2 b1
    reUdp f.bytes (patch n (s.tag16 s.ory.slot (patch 8 [0] (b1.take n))) b1)

/-- The reply that ends a PORT.CTL disable has left port p: the port goes off (R100). -/
def State.offNow (p : Nat) (s : State) : State :=
  (s.putRw .coma (aPrt p 0) (s.rwC (aPrt p 0) &&& 0xFFFFFFFE)).mapPrt p (fun x => { x with offAfter := none })

/-- A PORT.CTL disable whose reply waits nowhere any more takes effect (R51, R100). -/
def State.settleOff (p : Nat) (s : State) : State :=
  match (s.port p).offAfter with
  | none => s
  | some q =>
    if s.cmd.ports.any (fun c => c.id != 0 && c.net == p && c.q.items.any (fun r => r.seq == q && r.opcode == 0x0F02)) then s
    else s.offNow p

/-! ## Taking a frame -/

/-- Takes what was picked: the state without it, and the frame's bytes where one leaves; t: TAI ns of its start; live: it is sent, so a
reply that carries DROP ends the record of earlier drops (R33, R51). -/
def State.takeFrame (live : Bool) (p q t : Nat) (k : TxPick) (s : State) : State × Option (List Byte) :=
  match k with
  | .fw i =>
    match (s.port p).fw[i]? with
    | some f => (s.mapPrt p (fun x => { x with fw := x.fw.eraseIdx i })).fwStamp p t f
    | none => (s, none)
  | .reply c =>
    match s.port? c with
    | some x =>
      match x.q.head with
      | some (.item r _) =>
        let s1 := s.mapPort c (fun x => { x with q := x.q.pop, dropped := x.dropped && !live })
        let s2 := if (s.port p).offAfter = some r.seq ∧ r.opcode = 0x0F02 then s1.offNow p else s1
        (s2, some (s.replyFrame x.net x.ip x.udp x.dropped r))
      | _ => (s.mapPort c (fun x => { x with q := x.q.pop }), none)
    | none => (s, none)
  | .ory =>
    match s.ory.tx.head with
    | some (.item f _) => ({ s with ory := { s.ory with tx := s.ory.tx.pop } }, some (s.oryStamped p t f))
    | _ => (s, none)
  | .stream i =>
    let x := s.stream i
    let s1 := s.mapPrt p (fun y => { y with served := at' y.served q (fun _ => i) })
    if 0 < x.fill then
      let key := x.lastKey.getD 0 + 1
      ((((s1.mapStream i (fun y => { y with fill := y.fill - 1, lastKey := some key })).bumpN 0x078044 1).latchN 0x078000 2),
        some (s.streamFrame i (s.c37Frame i key (fun _ _ => (0, 0)))))
    else match x.q.head with
    | some (.item f _) =>
      (s1.mapStream i (fun y => { y with q := y.q.pop, lastKey := match f.key with | some k => some k | none => y.lastKey }),
        some (s.tagged f))
    | _ => (s, none)

/-- One frame of port p is taken and discarded (R82), or nothing is there. -/
def State.discardOne (p : Nat) (s : State) : Option State :=
  let s1 := ((List.range 8).flatMap (fun q => s.streamsAt p q)).foldl (fun (s : State) i => s.turnStream i) s.turnOry
  match s1.pick false p with
  | some (q, k) =>
    match s1.takeFrame false p q s1.tim.now k with
    | (s2, some _) => some (s2.bumpC (aPrt p prtTxdown) 1)
    | (s2, none) => some s2
  | none => none

def State.discardN (p : Nat) : Nat → State → State
  | 0, s => s
  | n + 1, s => match s.discardOne p with | some s1 => State.discardN p n s1 | none => s

/-- Every frame waiting for port p is discarded and counted (R82). -/
def State.drainPort (p : Nat) (s : State) : State :=
  let mine := fun (e : QEntry OryFrame) => match e with | .item f _ => f.port == p | _ => false
  let s1 := (s.bumpC (aPrt p prtTxdown) (s.ory.tx.entries.filter mine).length)
  let s2 := { s1 with ory := { s1.ory with tx := { s1.ory.tx with entries := s1.ory.tx.entries.filter (fun e => !mine e) } } }
  let pend := (s2.port p).pfc.any Option.isSome
  let s3 := s2.mapPrt p (fun x => { x with pfc := List.replicate 8 none })
  let s4 := if pend then s3.bumpC (aPrt p prtTxdown) 1 else s3
  s4.discardN p (1 + (s4.port p).fw.length + sumN (s4.cmd.ports.map (fun c => c.q.entries.length)) +
    17 * sumN (s4.egr.streams.map (fun x => x.q.entries.length + x.fill + 1)))

end Sys2Proof.Machine
end

