-- ==== Sys2Proof/Machine/Xcv.lean ====
section
/-! DEFINITION. Optical transceivers: presence, identity, transmit faults, diagnostics, life records and their commands; PORT.CTL
(R92-R100). The places of a module's bytes are those of SFF-8472 (PRESUMED where R95-R98 do not name them, log 37). -/

namespace Sys2Proof.Machine

def State.xc (n : Nat) (s : State) : Xcv := nth Xcv.reset s.xcv n
def State.mapXcv (n : Nat) (f : Xcv → Xcv) (s : State) : State := { s with xcv := at' s.xcv n f }

/-- Module bytes as the bus has returned them, with bytes at an offset read. -/
def putBytes (o : Nat) (new : List Byte) (bs : List (Option Byte)) : List (Option Byte) :=
  let b := bs ++ List.replicate (o - bs.length) none
  b.take o ++ new.map some ++ b.drop (o + new.length)
/-- Module bytes as registers and conversions take them: 0 where none has been read. -/
def heldB (bs : List (Option Byte)) : List Byte := bs.map (fun b => b.getD 0)

/-! ## The two-wire bus (R92) -/

/-- Bytes of one read: 4 at 100 kHz, 16 at 400 kHz (R93; XCV0_CTL.bus_fast). -/
def State.busMost (s : State) : Nat := if bit (s.rwC (aXcv 0 0)) 1 then 16 else 4

/-- Before a transaction with a module of another port, control byte 1 << n is written to the multiplexer (R92). -/
def State.muxTo (n : Nat) (s : State) : State :=
  let c := s.rwC (aXcv 0 0)
  if !bit c 2 || s.sys.xbus.sel == some n then s
  else { s with sys := { s.sys with xbus := { s.sys.xbus with
    sel := some n, mux := some (BitVec.ofNat 8 (bits c 15 8), BitVec.ofNat 8 (2 ^ n)) } } }

/-! ## Presence (R94) -/

/-- XCV_ABS_EDGE: the debounce starts or restarts toward a level; high means absent. -/
def doAbsEdge (n : Nat) (level : Bool) (s : State) : State := s.mapXcv n (fun x => { x with debounce := some level })

/-- MODULE_INSERTED: accepted after 10 ms low; the identity read is to come. A module found at start-up is accepted so too and counts as an
insertion in its life record, which R98 leaves open (DESIGN CHOICE, log 164). -/
def doInserted (n : Nat) (s : State) : State :=
  if (s.xc n).present ∨ (s.xc n).debounce = some true then s
  else
    let s1 := s.mapXcv n (fun x => { Xcv.reset with present := true, los := x.los, inserted := true })
    ((s1.latchC (aXcv n 8) 0).latchC (aPrt n 0xC) 5).evService 1

/-! ## Life records (R98, R99) -/

def Life.hours (l : Life) : Nat := l.minutes / 60

/-- XCVn_HOURS to XCVn_INSCNT. -/
def Life.words (l : Life) : List Word :=
  let (tl, th) := l.temp.getD (0, 0)
  let (rl, rh) := l.rx.getD (0, 0)
  [w32 l.hours, w32 (l.biasBase % 65536), w32 (l.biasHour % 65536), w32 (twos 16 tl + 65536 * twos 16 th), w32 (rl % 65536 + 65536 * (rh % 65536)), w32 l.inserts]

def Life.bytes (l : Life) : List Byte := beBytes 3 l.oui ++ l.serial ++ bytesOf l.words

def State.lifeOf (n : Nat) (s : State) : Option (Nat × Life) :=
  match (s.xc n).life with
  | some i => s.rcd.lives.find? (fun e => e.1 == i)
  | none => none

/-- The record of a module found, made, or put in the place of the one seen longest ago (R98): one of a module that is present is seen now. -/
def State.findLife (oui : Nat) (serial : List Byte) (s : State) : State × Nat :=
  let ls := s.rcd.lives
  let seen := 1 + maxN 0 (ls.map (fun e => e.2.seen))
  let fresh : Life := {
    oui := oui, serial := serial, minutes := 0, biasBase := 0, biasHour := 0, biasSum := 0, biasCnt := 0, baseSum := 0
    baseCnt := 0, baseMin := 0, temp := none, rx := none, inserts := 0, seen := seen, wearRaised := false, dueRaised := false }
  match ls.find? (fun e => e.2.oui == oui && e.2.serial == serial) with
  | some e => (s.mapLife e.1 (fun l => { l with seen := seen }), e.1)
  | none =>
    let idle := ls.filter (fun e => !s.xcv.any (fun (x : Xcv) => x.life == some e.1))
    let i := if ls.length < 64 then ls.length
      else (idle.foldl (fun (b : Nat × Nat) e => if e.2.seen < b.2 then (e.1, e.2.seen) else b) (0, seen)).1
    ({ s with
      rcd := { s.rcd with lives := insertBy (fun e => e.1) (i, fresh) ls }
      xcv := s.xcv.map (fun (x : Xcv) => if x.life = some i then { x with life := none } else x) }, i)

/-- The life record written as a summary (R98, R353). -/
def State.writeLife (n : Nat) (s : State) : State :=
  if !bit (s.rwC 0x090000) 0 then s
  else match s.lifeOf n with
  | some (i, l) => s.summary 0x0080 3 i (if l.minutes % 60 = 0 then 60 else l.minutes % 60) l.bytes
  | none => s

/-- MODULE_REMOVED: the life record is written; a host command in progress has ended (R93, R98, R101). -/
def doRemoved (n : Nat) (s : State) : State :=
  let x := s.xc n
  if !(s.xc n).present ∨ (s.xc n).debounce = some false then s
  else
    let last := 1 + maxN 0 (s.rcd.lives.map (fun e => e.2.seen))
    let s0 := match x.life with | some i => s.mapLife i (fun l => { l with seen := last }) | none => s
    let s1 := (s0.writeLife n).mapXcv n (fun x => { x with
      present := false, pollDue := false, idValid := false, idDone := false, ddm := false, extCal := false, wearing := false, lifeDue := false, life := none, inserted := false, debounce := none, txflt := false, txHold := false, txFail := false, tries := 0 })
    (((s1.latchC (aXcv n 8) 1).latchC (aPrt n 0xC) 6).evService 1).over .coma (52 + n)

/-- XCV_LOS_CHANGE: debounced (R94). -/
def doLos (n : Nat) (level : Bool) (s : State) : State :=
  if (s.xc n).los = level then s else (s.mapXcv n (fun x => { x with los := level })).latchC (aXcv n 8) 6

/-! ## Transmit faults (R96, R101) -/

/-- One attempt begins: TXDIS high for 10 ms. -/
def Xcv.attempt (x : Xcv) : Xcv := { x with txHold := true, tries := Nat.min 3 (x.tries + 1) }

/-- XCV_TXFLT_ASSERT: attempts begin, or wait for the identity read to complete. -/
def doTxflt (n : Nat) (s : State) : State :=
  let x := s.xc n
  if !x.present then s
  else
    let s1 := ((s.mapXcv n (fun x => { x with txflt := true })).bumpC (aXcv n 0x90) 1).latchC (aXcv n 8) 3
    if x.txHold ∨ (s.managed n ∧ !x.idDone) then s1 else s1.mapXcv n (fun x => Xcv.attempt { x with tries := 0 })

/-- XCV_TXDIS_RETRY: the 10 ms are over and TXDIS is released; still: Xn_TXFLT is asserted after the release. -/
def doTxRetry (n : Nat) (still : Bool) (s : State) : State :=
  let x := s.xc n
  if !x.txHold ∨ x.txFail then s
  else if !still then State.over .coma (52 + n) (s.mapXcv n (fun x => { x with txflt := false, txHold := false }))
  else if x.tries < 3 then s.mapXcv n Xcv.attempt
  else State.lasting .coma (52 + n) (s.mapXcv n (fun x => { x with txFail := true }))

/-! ## Identity (R95) -/

def lowSum (bs : List Byte) : Byte := BitVec.ofNat 8 (sumN (bs.map BitVec.toNat))

def identityOk (a0 : List Byte) : Bool := nth 0 a0 63 == lowSum (a0.take 63) && nth 0 a0 95 == lowSum (slice 64 31 a0)

/-- XCV_IDENTITY_READ: the bytes 0-95 at 0xA0 of each attempt made, at most three, and bytes 56-91 at 0xA2. Each attempt that fails its
checksums counts; where all fail no life record is kept. -/
def doIdentity (n : Nat) (reads : List (List Byte)) (a2 : List Byte) (s : State) : State :=
  let x := s.xc n
  if !x.present ∨ !s.managed n ∨ x.idDone then s
  else
    let tries := reads.take 3
    let s0 := (s.muxTo n).bumpC (aXcv n 0x8C) (tries.takeWhile (fun a => !identityOk a)).length
    let resume := fun (x : Xcv) => if x.txflt then Xcv.attempt { x with tries := 0 } else x
    match tries.find? identityOk with
    | none =>
      let s1 := s0.mapXcv n (fun x => resume { x with idDone := true, idValid := false, life := none })
      (s1.latchC (aXcv n 8) 2).latchC (aPrt n 0xC) 4
    | some a0 =>
      let dt := nth 0 a0 92
      let ext := dt.getLsbD 4
      let (s1, i) := s0.findLife (fieldAt 37 3 a0) (slice 68 16 a0)
      let s2 := if x.inserted then s1.mapLife i (fun l => { l with inserts := l.inserts + 1 }) else s1
      s2.mapXcv n (fun x => resume { x with
        idDone := true, idValid := true, a0 := (a0.take 96).map some, ddm := dt.getLsbD 6 && !dt.getLsbD 2, extCal := ext, a2 := if ext then putBytes 56 (a2.take 36) x.a2 else x.a2, life := some i, inserted := false })

/-! ## Transactions (R92, R93) -/

/-- XCV_BUS_TRANSACTION: a read at device address 0xA0 or 0xA2 of at most 4 or 16 bytes; ack: the module acknowledged. -/
def doBus (n : Nat) (dev : Byte) (o : Nat) (data : List Byte) (ack : Bool) (s : State) : State :=
  if !s.managed n || s.flt.held.elem .xcv then s
  else
    let s1 := if ack then (s.muxTo n).over .coma 51 else s.muxTo n
    let d := data.take s.busMost
    if !ack then s1.bumpC (aXcv n 0x88) 1
    else if dev = 0xA0 then s1.mapXcv n (fun x => { x with a0 := putBytes o d x.a0 })
    else if dev = 0xA2 then s1.mapXcv n (fun x => { x with a2 := putBytes o d x.a2 })
    else s1

/-- XCV_BUS_STUCK: SDA low for 10 ms: nine clocks and a stop are sent; still: it is low after them. -/
def doBusStuck (still : Bool) (s : State) : State :=
  let b := s.sys.xbus
  let s1 := { s with sys := { s.sys with xbus := { b with clocks := b.clocks + 9, stops := b.stops + 1 } } }
  if still then State.lasting .coma 51 s1 else State.over .coma 51 s1

/-! ## Diagnostics (R97, R99). R97 gives constants and polynomial, and neither a rounding nor a range: a linear value is rounded down, the
polynomial's away from zero at a half, and a value outside its 16-bit register wraps (DESIGN CHOICE, log 131). -/

/-- A value with its slope (unsigned 8.8) and offset at a place of the calibration bytes. -/
def calLin (o : Nat) (a2 : List Byte) (raw : Int) : Int := (raw * fieldAt o 2 a2).fdiv 256 + sext 16 (fieldAt (o + 2) 2 a2)
/-- Receive power by the polynomial of bytes 56-75, binary32 coefficients from the fourth power down. -/
def calRx (a2 : List Byte) (raw : Nat) : Int :=
  roundAway ((List.range 5).foldl (fun (t : Rat) k => t * (raw : Nat) + f32q (BitVec.ofNat 32 (fieldAt (56 + 4 * k) 4 a2))) 0)

/-- Temperature, supply, bias, transmit and receive power of bytes 96-105. -/
def Xcv.values (data : List Byte) (x : Xcv) : List Int :=
  let t := sext 16 (fieldAt 0 2 data)
  let u := fun (k : Nat) => fieldAt (2 * k) 2 data
  let c := heldB x.a2
  if x.extCal then [calLin 84 c t, calLin 88 c (u 1), calLin 76 c (u 2), calLin 80 c (u 3), calRx c (u 4)]
  else [t, u 1, u 2, u 3, u 4]

def Life.poll (lit : Bool) (v : List Int) (l : Life) : Life :=
  let t := nth 0 v 0
  let b := (nth 0 v 2).toNat
  let r := (nth 0 v 4).toNat
  let base := lit && decide (l.baseMin < 60)
  { l with
    biasSum := l.biasSum + b
    biasCnt := l.biasCnt + 1
    baseSum := if base then l.baseSum + b else l.baseSum
    baseCnt := if base then l.baseCnt + 1 else l.baseCnt
    temp := some (match l.temp with | some (lo, hi) => (if t < lo then t else lo, if hi < t then t else hi) | none => (t, t))
    rx := some (match l.rx with | some (lo, hi) => (Nat.min lo r, Nat.max hi r) | none => (r, r)) }

/-- XCV_DIAG_POLL: bytes 96-105 at 0xA2, and the alarm flags of bytes 112-113 (R338 F_XCV_ALMn). -/
def doDiagPoll (n : Nat) (data alarms : List Byte) (s : State) : State :=
  let x := s.xc n
  if !x.present ∨ !x.ddm ∨ !s.managed n ∨ !bit (s.rwC (aXcv n 0)) 0 then s
  else
    let v := x.values data
    let old := fieldAt 112 2 (heldB x.a2)
    let flags := fieldAt 0 2 alarms
    let s1 := (s.muxTo n).mapXcv n (fun x => { x with diag := v, pollDue := false, a2 := putBytes 112 (alarms.take 2) (putBytes 96 (data.take 10) x.a2) })
    let s2 := match x.life with | some i => s1.mapLife i (Life.poll (!s1.txdis n) v) | none => s1
    if (List.range 16).any (fun k => flags.testBit k && !old.testBit k) then s2.faultC (88 + n) else s2

/-- XCV_LIFE_HOUR: a powered hour is full; its mean bias, rounded down (log 130), wear and life are judged, and the record written (R98, R99). -/
def doLifeHour (n : Nat) (s : State) : State :=
  match s.lifeOf n with
  | none => s
  | some (i, l) =>
    let c := s.rwC (aXcv n 0xC)
    let hr := l.biasSum / Nat.max 1 l.biasCnt
    let wear := decide (l.baseMin = 60) && decide (l.biasBase * (256 + bits c 7 0) < hr * 256)
    let due := decide (bits c 31 16 ≠ 0) && decide (100 * bits c 31 16 ≤ l.hours)
    let s1 := (s.mapLife i (fun l => { l with
      biasHour := hr, biasSum := 0, biasCnt := 0, wearRaised := l.wearRaised || wear, dueRaised := l.dueRaised || due })).mapXcv n (fun x => { x with wearing := wear, lifeDue := due })
    let s2 := if wear ∧ !l.wearRaised then ((s1.latchC (aXcv n 8) 4).latchC (aPrt n 0xC) 7).evService 1 else s1
    let s3 := if due ∧ !l.dueRaised then (s2.latchC (aXcv n 8) 5).evService 1 else s2
    s3.writeLife n

/-! ## Commands (R93, R100, R101) -/

/-- A word of module bytes; a byte the bus has never returned is a free value. -/
def moduleWord (free : Word) (b : List (Option Byte)) : Word :=
  w32 (beNat ((List.range 4).map (fun k => (nth none b k).getD (BitVec.ofNat 8 (bits free (8 * k + 7) (8 * k))))))

/-- n bytes of a module as words (R93); those the bus has never returned are free values. -/
def State.moduleWords (bs : List (Option Byte)) (n : Nat) (s : State) : State × List Word :=
  ({ s with free := s.free + n / 4 }, (List.range (n / 4)).map (fun i => moduleWord (Config.freeWord (s.free + i)) ((bs.drop (4 * i)).take 4)))

def xcvRead (a2 : Bool) (ps : List Word) (s : State) : Res :=
  arity 1 ps s fun _ =>
    let n := bits (par ps 0) 1 0
    let x := s.xc n
    if !x.present || !s.managed n || !x.idDone || s.flt.held.elem .xcv then .fail s eState
    else
      let (s1, ws) := (s.muxTo n).moduleWords (if a2 then x.a2 else x.a0) (if a2 then 128 else 96)
      .ok s1 ws

def cmdXcvReadid (_ : Hdr) (ps : List Word) (s : State) : Res := xcvRead false ps s
def cmdXcvDiag (_ : Hdr) (ps : List Word) (s : State) : Res := xcvRead true ps s

/-- The series of attempts of R96 starts anew. -/
def Xcv.anew (x : Xcv) : Xcv := { x with tries := 0, txFail := false, txHold := false }

/-- The port goes off: its enable bit clears, and what is queued is discarded (R82, R100). -/
def State.portOff (p : Nat) (s : State) : State := (s.offNow p).drainPort p

/-- The command came in on network port p. -/
def State.cameOn (h : Hdr) (p : Nat) (s : State) : Bool :=
  match s.port? h.port with
  | some c => h.port != 0 && c.net == p
  | none => false

def portCtl (act : Nat) (h : Hdr) (ps : List Word) (s : State) : Res :=
  let p := bits (par ps 0) 1 0
  match act with
  | 0 => .ok (if s.cameOn h p then s.mapPrt p (fun x => { x with offAfter := some h.seq }) else s.portOff p)
  | 1 =>
    let s0 := if s.prtOn p then s else s.drainPort p
    let s1 := (s0.putRw .coma (aPrt p 0) (s0.rwC (aPrt p 0) ||| 1)).mapPrt p (fun x => { x with offAfter := none })
    .ok (s1.mapXcv p (fun x => if x.txflt ∧ (x.idDone ∨ !s.managed p) then Xcv.attempt (Xcv.anew x) else Xcv.anew x))
  | 2 =>
    if !(s.xc p).present then .fail s eState
    else
      let again := fun (x : Xcv) => { Xcv.anew x with idDone := !s.managed p, idValid := false, ddm := false, extCal := false }
      .ok (s.mapXcv p (fun x => if x.txflt ∧ !s.managed p then Xcv.attempt (again x) else again x))
  | 3 =>
    let s1 := (s.clearCtr .coma (aPrt p 0x80) (aPrt p 0x168)).clearCtr .coma (aXcv p 0x88) (aXcv p 0x98)
    .ok (s1.mapPrt p (fun x => { x with rxBytes := 0, txBytes := 0 }))
  | _ => .fail s eParam

def cmdPortCtl (h : Hdr) (ps : List Word) (s : State) : Res :=
  arity 1 ps s fun _ => portCtl (bits (par ps 0) 11 8) h ps s

/-- PORT.CTL with its action as the row of the table names it. -/
def cmdPortAct (act : Nat) (h : Hdr) (ps : List Word) (s : State) : Res :=
  arity 1 ps s fun _ => portCtl act h ps s

/-! ## Registers (R103) -/

/-- A register of module n that is computed. -/
def State.xcvReg (n o : Nat) (s : State) : Option Word :=
  let x := s.xc n
  let v := fun (k : Nat) => w32 (twos 16 (nth 0 x.diag k))
  let text := fun (at_ k : Nat) => nth 0 (wordsN 4 (slice at_ 16 (heldB x.a0))) k
  if o = 4 then some (w32 (b2n x.present + 2 * b2n x.los + 4 * b2n x.txflt + 8 * b2n (s.txdis n) + 16 * b2n x.idValid + 32 * b2n x.ddm +
    64 * b2n x.extCal + 128 * b2n x.wearing + 256 * b2n x.lifeDue + 512 * x.tries))
  else if 0x10 ≤ o ∧ o ≤ 0x20 then some (v ((o - 0x10) / 4))
  else if 0x30 ≤ o ∧ o ≤ 0x6C then
    let k := (o - 0x30) / 4
    some (if k < 4 then text 20 k else if k < 8 then text 40 (k - 4) else if k < 12 then text 68 (k - 8)
      else if k < 14 then nth 0 (wordsN 2 (slice 84 8 (heldB x.a0))) (k - 12) else if k = 14 then w32 (fieldAt 37 3 (heldB x.a0)) else w32 (fieldAt 0 1 (heldB x.a0)))
  else if 0x70 ≤ o ∧ o ≤ 0x84 then
    some (match s.lifeOf n with | some (_, l) => nth 0 l.words ((o - 0x70) / 4) | none => 0)
  else none

/-! ## The table's rows -/

/-- XCV_READID (R93). -/
def execXcvReadid (h : Hdr) (ps : List Word) (s : State) : Host.Outcome State Fault Refusal :=
  .next (State.settled (s.serve 0x0F00 h ps cmdXcvReadid))

/-- XCV_DIAG (R93). -/
def execXcvDiag (h : Hdr) (ps : List Word) (s : State) : Host.Outcome State Fault Refusal :=
  .next (State.settled (s.serve 0x0F01 h ps cmdXcvDiag))

/-- PORT_CTL_DISABLE (R100). -/
def execPortCtlDisable (h : Hdr) (ps : List Word) (s : State) : Host.Outcome State Fault Refusal :=
  .next (State.settled (s.serve 0x0F02 h ps (cmdPortAct 0)))

/-- PORT_CTL_ENABLE (R100). -/
def execPortCtlEnable (h : Hdr) (ps : List Word) (s : State) : Host.Outcome State Fault Refusal :=
  .next (State.settled (s.serve 0x0F02 h ps (cmdPortAct 1)))

/-- PORT_CTL_REREAD_MODULE (R100). -/
def execPortCtlRereadModule (h : Hdr) (ps : List Word) (s : State) : Host.Outcome State Fault Refusal :=
  .next (State.settled (s.serve 0x0F02 h ps (cmdPortAct 2)))

/-- PORT_CTL_CLEAR_COUNTERS (R100). -/
def execPortCtlClearCounters (h : Hdr) (ps : List Word) (s : State) : Host.Outcome State Fault Refusal :=
  .next (State.settled (s.serve 0x0F02 h ps (cmdPortAct 3)))

/-- XCV_ABS_EDGE (R94). -/
def execXcvAbsEdge (n : Nat) (level : Bool) (s : State) : Host.Outcome State Fault Refusal :=
  .next (State.settled (whenUp .coma (doAbsEdge n level) s))

/-- MODULE_INSERTED (R94). -/
def execModuleInserted (n : Nat) (s : State) : Host.Outcome State Fault Refusal :=
  .next (State.settled (whenUp .coma (doInserted n) s))

/-- MODULE_REMOVED (R94). -/
def execModuleRemoved (n : Nat) (s : State) : Host.Outcome State Fault Refusal :=
  .next (State.settled (whenUp .coma (doRemoved n) s))

/-- XCV_LOS_CHANGE (R94). -/
def execXcvLosChange (n : Nat) (level : Bool) (s : State) : Host.Outcome State Fault Refusal :=
  .next (State.settled (whenUp .coma (doLos n level) s))

/-- XCV_IDENTITY_READ (R95). -/
def execXcvIdentityRead (n : Nat) (reads : List (List Byte)) (a2 : List Byte) (s : State) : Host.Outcome State Fault Refusal :=
  .next (State.settled (whenUp .coma (doIdentity n reads a2) s))

/-- XCV_BUS_TRANSACTION (R93). -/
def execXcvBusTransaction (n : Nat) (dev : Byte) (off : Nat) (data : List Byte) (ack : Bool) (s : State) : Host.Outcome State Fault Refusal :=
  .next (State.settled (whenUp .coma (doBus n dev off data ack) s))

/-- XCV_DIAG_POLL (R93). -/
def execXcvDiagPoll (n : Nat) (data : List Byte) (alarms : List Byte) (s : State) : Host.Outcome State Fault Refusal :=
  .next (State.settled ((whenUp .coma (doDiagPoll n data alarms) s).judge))

/-- XCV_TXFLT_ASSERT (R96). -/
def execXcvTxfltAssert (n : Nat) (s : State) : Host.Outcome State Fault Refusal :=
  .next (State.settled (whenUp .coma (doTxflt n) s))

/-- XCV_TXDIS_RETRY (R96). -/
def execXcvTxdisRetry (n : Nat) (still : Bool) (s : State) : Host.Outcome State Fault Refusal :=
  .next (State.settled ((whenUp .coma (doTxRetry n still) s).judge))

/-- XCV_BUS_STUCK (R92). -/
def execXcvBusStuck (still : Bool) (s : State) : Host.Outcome State Fault Refusal :=
  .next (State.settled ((whenUp .coma (doBusStuck still) s).judge))

/-- XCV_LIFE_HOUR (R98). -/
def execXcvLifeHour (n : Nat) (s : State) : Host.Outcome State Fault Refusal :=
  .next (State.settled (whenUp .coma (doLifeHour n) s))

end Sys2Proof.Machine
end

