-- ==== Sys2Proof/Machine/Ports.lean ====
section
/-! DEFINITION. Network ports: the link, reception and classification, firmware answers, priority-based flow control, transmission
(R81-R91, R101, R102). -/

namespace Sys2Proof.Machine

/-! ## State of a port (R81, R85, R102) -/

/-- The Nucleus half receives: not in P0-P3, reset or STANDBY (R85). -/
def State.nucReceives (s : State) : Bool := s.nucUp && decide (4 ≤ s.pwr.phase)

/-- Quiet handling (R85). -/
def State.quiet (p : Nat) (s : State) : Bool :=
  decide (s.pwr.phase < 5) || bit (s.prtCtl p) 1 || !s.nucUp || s.upd.coma.switching || s.upd.nuc.switching

/-- PRTn_STAT. -/
def State.prtStat (p : Nat) (s : State) : Word :=
  let x := s.port p
  w32 (b2n x.link + 2 * b2n x.lock + 4 * b2n x.hiBer + 8 * b2n x.rfault +
    16 * (if bit (s.prtCtl p) 1 then 2 else if s.quiet p then 0 else 1))

def bitmap8 (f : Nat → Bool) : Nat := sumN ((List.range 8).map (fun i => 2 ^ i * b2n (f i)))

/-- A computed register of port p. -/
def State.prtReg (p o : Nat) (s : State) : Option Word :=
  let x := s.port p
  if o = 0x008 then some (s.prtStat p)
  else if o = 0x070 then some (w32 (bitmap8 x.paused + 256 * x.xoff.toNat))
  else if o = 0x120 then some (hiW x.rxBytes)
  else if o = 0x124 then some (loW x.rxBytes)
  else if o = 0x128 then some (hiW x.txBytes)
  else if o = 0x12C then some (loW x.txBytes)
  else none

/-! ## A received frame taken apart (R83) -/

/-- A frame after its Ethernet header; bytes: without the FCS. -/
structure Rx where
  dst : Nat
  src : Nat
  /-- VLAN ID and priority of a tag; ID 0 is a priority tag. -/
  tag : Option (Nat × Nat)
  et : Nat
  l3 : List Byte
  bytes : List Byte

def rxOf (bs : List Byte) : Rx :=
  let o := ethLen bs
  { dst := fieldAt 0 6 bs, src := fieldAt 6 6 bs
    tag := if o = 18 then some (fieldAt 14 2 bs % 4096, fieldAt 14 2 bs / 8192) else none
    et := fieldAt (o - 2) 2 bs, l3 := bs.drop o, bytes := bs }

/-- The IP layer: version, protocol, fragment or extension header, addresses, DSCP, payload. -/
structure IpPart where
  v6 : Bool
  proto : Nat
  odd : Bool
  src : Nat
  dst : Nat
  dscp : Nat
  body : List Byte

def ipOf (r : Rx) : Option IpPart :=
  let b := r.l3
  if r.et = 0x0800 ∧ fieldAt 0 1 b / 16 = 4 ∧ 20 ≤ b.length then
    let ihl := fieldAt 0 1 b % 16 * 4
    some { v6 := false, proto := fieldAt 9 1 b, odd := decide (fieldAt 6 2 b % 0x4000 ≠ 0), src := fieldAt 12 4 b, dst := fieldAt 16 4 b
           dscp := fieldAt 1 1 b / 4, body := slice ihl (fieldAt 2 2 b - ihl) b }
  else if r.et = 0x86DD ∧ fieldAt 0 1 b / 16 = 6 ∧ 40 ≤ b.length then
    some { v6 := true, proto := fieldAt 6 1 b, odd := false, src := fieldAt 8 16 b, dst := fieldAt 24 16 b
           dscp := fieldAt 0 2 b / 64 % 64, body := slice 40 (fieldAt 4 2 b) b }
  else none

def IpPart.udp (i : IpPart) : Bool := i.proto == 17 && !i.odd && decide (8 ≤ i.body.length)
def IpPart.sport (i : IpPart) : Nat := fieldAt 0 2 i.body
def IpPart.dport (i : IpPart) : Nat := fieldAt 2 2 i.body
def IpPart.data (i : IpPart) : List Byte := slice 8 (fieldAt 4 2 i.body - 8) i.body
def IpPart.mcast (i : IpPart) : Bool := if i.v6 then i.dst / 2 ^ 120 == 0xFF else i.dst / 2 ^ 28 == 14

/-- The destination is one of the port's own addresses (R83). -/
def State.ownIp (p : Nat) (i : IpPart) (s : State) : Bool :=
  if i.v6 then i.dst == linkLocal (s.mac p) || (s.ip6 p != 0 && i.dst == s.ip6 p) else s.ip4 p != 0 && i.dst == s.ip4 p

/-! ## Filters (R83) -/

/-- The hash index of a multicast address: the first eight bits of its FCS as transmitted, the first the most significant. -/
def hashIndex (dst : Nat) : Nat :=
  let c := nth 0 (fcs (beBytes 6 dst)) 0
  sumN ((List.range 8).map (fun i => 2 ^ (7 - i) * b2n (c.getLsbD i)))

def State.dstOk (p : Nat) (r : Rx) (s : State) : Bool :=
  if r.dst = 0xFFFFFFFFFFFF then r.et == 0x0806
  else if r.dst = s.mac p ∨ r.dst = 0x0180C200000E ∨ r.dst = 0x0180C2000001 then true
  else (r.dst / 2 ^ 40) % 2 == 1 &&
    (bit (s.prtCtl p) 3 || bit (s.rwC (aPrt p (0x50 + 4 * (hashIndex r.dst / 32)))) (hashIndex r.dst % 32))

def Rx.untagged (r : Rx) : Bool := match r.tag with | none => true | some (v, _) => v == 0

/-- On the management VLAN (R52). -/
def State.onMgmt (p : Nat) (r : Rx) (s : State) : Bool :=
  let m := s.rwC (aPrt p 0x2C)
  if bit m 12 then (match r.tag with | some (v, _) => v == bits m 11 0 | none => false) else r.untagged

/-- On a VLAN of PRTn_VLAN0-3. -/
def State.onVlans (p : Nat) (r : Rx) (s : State) : Bool :=
  match r.tag with
  | none => false
  | some (v, _) => (List.range 4).any (fun k =>
      let w := s.rwC (aPrt p (0x34 + 4 * k))
      (bit w 15 && bits w 11 0 == v) || (bit w 31 && bits w 27 16 == v))

/-- The VLAN filter: refused, passed for rows 5 and 7 alone, or passed. -/
inductive VlanPass where
  | no | only57 | yes
  deriving DecidableEq

def State.vlanOk (p : Nat) (r : Rx) (s : State) : VlanPass :=
  if r.untagged then
    if bit (s.prtCtl p) 2 then .yes
    else if s.onMgmt p r then (if bit (s.rwC (aPrt p 0x2C)) 12 then .yes else .only57) else .no
  else if s.onMgmt p r || s.onVlans p r then .yes else .no

def State.rxPri (p : Nat) (r : Rx) (s : State) : Nat := match r.tag with | some (_, q) => q | none => bits (s.prtCtl p) 6 4

/-- The row of the table of R83. -/
def State.rxRow (p : Nat) (r : Rx) (s : State) : Nat :=
  if r.et = 0x8808 then (if fieldAt 0 2 r.l3 = 0x0101 then 1 else 2)
  else if r.et = 0x88F7 then 3
  else if r.et = 0x88BA then 4
  else if r.et = 0x0806 then 5
  else match ipOf r with
  | none => 10
  | some i =>
    if i.udp && (i.dport == 319 || i.dport == 320) then 3
    else if i.proto = (if i.v6 then 58 else 1) then 5
    else if i.odd || i.proto != 17 then 6
    else if !i.udp then 10
    else if i.dport = s.cmdUdp p ∧ s.ownIp p i then 7
    else if !(s.ownIp p i || i.mcast) then 10
    else if i.dport = s.oryUdp p then 8
    else 9

/-! ## Ingress staging and XOFF (R89, R91) -/

def State.lossless (p q : Nat) (s : State) : Bool := bit (s.rwC (aPrt p 0x44)) q
/-- Bytes of a lossless priority's reserved share, and of the share of the lossy ones. -/
def State.llShare (p : Nat) (s : State) : Nat := bits (s.rwC (aPrt p 0x4C)) 7 0 * 1024
def State.lossyShare (p : Nat) (s : State) : Nat :=
  192 * 1024 - ((List.range 8).filter (fun q => s.lossless p q)).length * s.llShare p

/-- In-band commands that wait beyond the quota of their class, held in staging memory (R89, R372). -/
def State.stagedCmds (p q : Nat) (s : State) : Nat :=
  let held := (s.cmd.waiting.filter (fun k => k.hdr.port != 0)).drop (bits (s.rwC 0x0A0010) 15 0)
  sumN ((held.filter (fun k => k.path.pri == q && (s.port? k.hdr.port).any (fun c => c.net == p))).map (fun k => k.path.len))

/-- Frames for the firmware's answers that wait while its dispatch is stopped (R48, R86). -/
def State.stagedAnswers (p q : Nat) (s : State) : Nat :=
  sumN ((s.cmd.answers.filter (fun x => x.1 == p && s.rxPri p (rxOf x.2) == q)).map (fun x => x.2.length + 4))

/-- Bytes of priority q in the staging memory of port p. -/
def State.occOf (p q : Nat) (s : State) : Nat := nth 0 (s.port p).occ q + s.stagedCmds p q + s.stagedAnswers p q

/-- A frame of n bytes of priority q finds room. -/
def State.stagingFits (p q n : Nat) (s : State) : Bool :=
  let o := fun (k : Nat) => s.occOf p k
  if s.lossless p q then decide (o q + n ≤ s.llShare p)
  else decide (sumN (((List.range 8).filter (fun k => !s.lossless p k)).map o) + n ≤ s.lossyShare p)

/-- A frame that finds its share full is discarded whole (R91). -/
def State.stagingDrop (p q : Nat) (s : State) : State :=
  if s.lossless p q then ((s.bumpC (aPrt p (0x100 + 4 * q)) 1).latchC (aPrt p 0xC) 2).faultC (92 + p)
  else s.bumpC (aPrt p prtStgdrop) 1

/-- The Coma scheduler back-pressures the in-band command ports: class 2 holds its quota of items (R369, R372). -/
def State.backPressed (s : State) : Bool :=
  decide (bits (s.rwC 0x0A0010) 15 0 ≤ (s.cmd.waiting.filter (fun k => k.hdr.port != 0)).length)

/-- The consumer of a priority of port p back-pressures it (R89, R372): the Coma scheduler priority 7, the orrery engine priority 6. The spec
gives the engine no capacity: when it does so is a free function of the messages that wait for it (log 133). -/
def State.consumerPressed (p q : Nat) (s : State) : Bool :=
  let waiting := (s.ory.rx.filter (fun m => m.port == p)).length
  (q == 7 && s.backPressed) || (q == 6 && decide (0 < waiting) && Config.oryPressure waiting)

/-- The condition of XOFF of a lossless priority. -/
def State.xoffDue (p q : Nat) (s : State) : Bool :=
  s.lossless p q && (decide (bits (s.rwC (aPrt p 0x48)) 15 0 * 256 < s.occOf p q) || s.consumerPressed p q)

/-- A PFC time for priority q is to be sent. -/
def State.pfcSend (p q quanta : Nat) (s : State) : State := s.mapPrt p (fun x => { x with pfc := at' x.pfc q (fun _ => some quanta) })
def State.quanta (p : Nat) (s : State) : Nat := bits (s.rwC (aPrt p 0x44)) 31 16

/-- XOFF is asserted where its condition has come about (R89); in the grave state no PFC frame leaves (R345). -/
def State.judgeXoff (p : Nat) (s : State) : State :=
  if s.pwr.grave then s
  else (List.range 8).foldl (fun (s : State) q =>
    if s.xoffDue p q && !(s.port p).xoff.getLsbD q then
      (s.mapPrt p (fun x => { x with xoff := x.xoff ||| BitVec.ofNat 8 (2 ^ q) })).pfcSend p q (s.quanta p)
    else s) s

/-- The same on every port: a command that fills its class's quota presses them all (R372). -/
def State.judgeXoffs (s : State) : State := (List.range 4).foldl (fun (s : State) p => s.judgeXoff p) s

/-- PFC_XOFF_REFRESH: half of the pause time has passed and the condition lasts. -/
def doXoffRefresh (p : Nat) (s : State) : State :=
  ((List.range 8).filter (fun q => (s.port p).xoff.getLsbD q && decide (¬ (s.occOf p q < bits (s.rwC (aPrt p 0x48)) 31 16 * 256 ∧
    ¬ s.consumerPressed p q)))).foldl (fun (s : State) q => s.pfcSend p q (s.quanta p)) s

/-- PFC_XON_RELEASE: below xon, and back-pressure over. -/
def doXonRelease (p : Nat) (s : State) : State :=
  ((List.range 8).filter (fun q => (s.port p).xoff.getLsbD q && decide (s.occOf p q < bits (s.rwC (aPrt p 0x48)) 31 16 * 256) &&
    !s.consumerPressed p q)).foldl (fun (s : State) q =>
      (s.mapPrt p (fun x => { x with xoff := x.xoff &&& BitVec.ofNat 8 (255 - 2 ^ q) })).pfcSend p q 0) s

/-! ## PFC received (R88) -/

/-- A PFC frame loads or clears the timers of its priorities (R88). The spec does not say what clearing pfc_en does to a pause in force: it stays
until it expires (DESIGN CHOICE, log 134). -/
def State.pfcIn (p : Nat) (l3 : List Byte) (s : State) : State :=
  let on := bit (s.rwC (aPrt p 0x44)) 8
  ((List.range 8).filter (fun q => (fieldAt 2 2 l3).testBit q)).foldl (fun (s : State) q =>
    let s1 := s.bumpC (aPrt p (0xC0 + 4 * q)) 1
    if on then s1.mapPrt p (fun x => { x with pause := at' x.pause q (fun _ => fieldAt (4 + 2 * q) 2 l3) }) else s1) s

/-- PFC_PAUSE_EXPIRY: the timer of a priority has run out. -/
def doPauseExpiry (p q : Nat) (s : State) : State := s.mapPrt p (fun x => { x with pause := at' x.pause q (fun _ => 0) })

/-! ## Firmware answers (R86). TTL 64 and DSCP 0; the answer keeps the request's VLAN and priority: DESIGN CHOICE, log 38 -/

/-- At most 100 answers per second and port; the excess is counted. -/
def State.answerWith (p q : Nat) (bs : List Byte) (s : State) : State :=
  if 100 ≤ (s.port p).answers then s.bumpC (aPrt p prtFwdrop) 1
  else (s.mapPrt p (fun x => { x with answers := x.answers + 1 })).pushFw p q bs

def ip4Packet (proto src dst : Nat) (body : List Byte) : List Byte :=
  let h := [0x45, 0] ++ beBytes 2 (20 + body.length) ++ beBytes 4 0 ++ [64, BitVec.ofNat 8 proto] ++ beBytes 2 0 ++ beBytes 4 src ++ beBytes 4 dst
  patch 10 (beBytes 2 (inetSum h 0)) h ++ body
def ip6Packet (next hop src dst : Nat) (body : List Byte) : List Byte :=
  beBytes 4 (6 * 2 ^ 28) ++ beBytes 2 body.length ++ [BitVec.ofNat 8 next, BitVec.ofNat 8 hop] ++ beBytes 16 src ++ beBytes 16 dst ++ body
/-- ICMPv6 bytes with their checksum. -/
def icmp6Sum (src dst : Nat) (body : List Byte) : List Byte :=
  patch 2 (beBytes 2 (inetSum (beBytes 16 src ++ beBytes 16 dst ++ patch 2 [0, 0] body) (58 + body.length))) body

/-- An ARP request for the port's address is answered. -/
def State.arpIn (p q : Nat) (r : Rx) (s : State) : State :=
  let b := r.l3
  if fieldAt 0 8 b = 0x0001080006040001 ∧ s.ip4 p ≠ 0 ∧ fieldAt 24 4 b = s.ip4 p then
    s.answerWith p q (padFrame (ethHeader r.src (s.mac p) (r.tag.map (fun t => (t.1, q))) 0x0806 ++ beBytes 8 0x0001080006040002 ++
      beBytes 6 (s.mac p) ++ beBytes 4 (s.ip4 p) ++ slice 8 10 b))
  else s

/-- An echo request over IPv4. -/
def State.echo4 (p q : Nat) (r : Rx) (i : IpPart) (s : State) : State :=
  let b := i.body
  if i.odd ∨ fieldAt 0 2 b ≠ 0x0800 ∨ !s.ownIp p i ∨ 1032 < b.length ∨ b.length < 8 ∨ !bit (s.rwC (aPrt p 0x2C)) 14 then s
  else
    let z := patch 0 [0, 0, 0, 0] b
    s.answerWith p q (padFrame (ethHeader r.src (s.mac p) (r.tag.map (fun t => (t.1, q))) 0x0800 ++
      ip4Packet 1 (s.ip4 p) i.src (patch 2 (beBytes 2 (inetSum z 0)) z)))

/-- A neighbour solicitation or an echo request over IPv6. -/
def State.icmp6In (p q : Nat) (r : Rx) (i : IpPart) (s : State) : State :=
  let b := i.body
  let send := fun (mac src dst hop : Nat) (m : List Byte) =>
    s.answerWith p q (padFrame (ethHeader mac (s.mac p) (r.tag.map (fun t => (t.1, q))) 0x86DD ++ ip6Packet 58 hop src dst (icmp6Sum src dst m)))
  if fieldAt 0 1 b = 135 ∧ 24 ≤ b.length then
    let target := fieldAt 8 16 b
    if target = linkLocal (s.mac p) ∨ (s.ip6 p ≠ 0 ∧ target = s.ip6 p) then
      let m := [136, 0, 0, 0] ++ beBytes 4 (if i.src = 0 then 0x20000000 else 0x60000000) ++ beBytes 16 target ++ [2, 1] ++ beBytes 6 (s.mac p)
      if i.src = 0 then send 0x333300000001 target (0xFF02 * 2 ^ 112 + 1) 255 m else send r.src target i.src 255 m
    else s
  else if fieldAt 0 2 b = 0x8000 ∧ 8 ≤ b.length ∧ b.length ≤ 1032 ∧ s.ownIp p i ∧ bit (s.rwC (aPrt p 0x2C)) 14 then
    send r.src i.dst i.src 64 (patch 0 [129] b)
  else s

def State.firmwareIn (p q : Nat) (r : Rx) (s : State) : State :=
  if r.et = 0x0806 then s.arpIn p q r
  else match ipOf r with
  | some i => if i.v6 then s.icmp6In p q r i else s.echo4 p q r i
  | none => s

/-- A frame for the firmware's answers: answered at once, or held in staging memory while the firmware's dispatch is stopped (R48, R86, R89). R86
does not say what answers before that firmware runs: the model answers in every power state from P1 on (DESIGN CHOICE, log 162). -/
def State.firmwareFrame (p q : Nat) (r : Rx) (s : State) : State :=
  if s.paused .coma then { s with cmd := { s.cmd with answers := s.cmd.answers ++ [(p, r.bytes)] } } else s.firmwareIn p q r

/-! ## Reception (R82-R85) -/

/-- A command datagram and its source (R52). -/
structure InBand where
  net : Nat
  v6 : Bool
  ip : Nat
  udp : Nat
  path : RetPath
  payload : List Byte

/-- A candidate joins those that wait; of frames that arrive in one cycle the lower port's goes first (R125). -/
def queueCand (c : Cand) : List Cand → List Cand
  | [] => [c]
  | e :: r => if e.arrival = c.arrival ∧ c.port < e.port then c :: e :: r else e :: queueCand c r

/-- A frame for the Nucleus parser is held in staging memory (R24, R89). -/
def State.toParser (p q arrival len : Nat) (trunc : Bool) (r : Rx) (s : State) : State :=
  if !s.stagingFits p q len then s.stagingDrop p q
  else
    let s1 := s.mapPrt p (fun x => { x with occ := at' x.occ q (fun k => k + len) })
    let c : Cand := { port := p, pri := q, arrival := arrival, trunc := trunc, v6 := false, srcIp := 0, sport := 0, dport := 0, mac := r.dst,
                      srcMac := r.src, len := len, payload := r.l3 }
    let s2 : State :=
      match (if r.et = 0x88BA then none else ipOf r) with
      | some i =>
        let d : Cand := { c with v6 := i.v6, srcIp := i.src, sport := i.sport, dport := i.dport, payload := i.data }
        { s1 with ing := { s1.ing with cands := queueCand d s1.ing.cands } }
      | none => if r.et = 0x88BA then { s1 with ing := { s1.ing with svs := queueCand c s1.ing.svs } }
        else { s1 with ing := { s1.ing with cands := queueCand c s1.ing.cands } }
    s2.judgeXoff p

/-- The receiver of a frame by its row; len: its bytes with the FCS. -/
def State.rxDispatch (inband : InBand → State → State) (p q t arrival len row : Nat) (r : Rx) (s : State) : State :=
  let count := fun (o : Nat) => s.bumpC (aPrt p o) 1
  match row with
  | 1 => s.pfcIn p r.l3
  | 2 => count prtMacctl
  | 3 =>
    if !s.stagingFits p q len then s.stagingDrop p q else
    let vid := match r.tag with | some (v, _) => v | none => 0
    if r.et = 0x88F7 then s.ptpIn p t vid true false r.bytes r.l3
    else match ipOf r with
    | some i => s.ptpIn p t vid false i.v6 r.bytes i.data
    | none => s
  | 5 => if !s.stagingFits p q len then s.stagingDrop p q else (s.firmwareFrame p q r).judgeXoff p
  | 6 => count prtIpdrop
  | 7 =>
    match ipOf r with
    | some i =>
      if !bit (s.rwC (aPrt p 0x2C)) 13 || !s.onMgmt p r then s.bumpC (aPrt p prtCmdrej) 1
      else if !s.stagingFits p q len then s.stagingDrop p q
      else (inband { net := p, v6 := i.v6, ip := i.src, udp := i.sport, payload := i.data,
                     path := { mac := r.src, v6 := i.v6, tag := r.tag.map (fun x => x.1), dscp := i.dscp, pri := q, len := len } } s).judgeXoffs
    | none => s
  | 8 =>
    if !s.nucReceives then s.bumpC (aPrt p prtQdrop) 1
    else if !s.stagingFits p q len then s.stagingDrop p q
    else match ipOf r with
    | some i => (s.oryArrive { port := p, pri := q, arrival := arrival, len := len, srcMac := r.src, bytes := i.data }).judgeXoff p
    | none => s
  | 4 | 9 => if !s.nucReceives then s.bumpC (aPrt p prtQdrop) 1 else s.toParser p q arrival len false r
  | _ => count prtUnknown

/-- A frame that passed the FCS, runt and address checks, of at most maxlen bytes or longer (R83-R85). A longer one in normal service is marked
and goes only to the Nucleus parser, whatever its row. Under quiet handling a frame of row 2, 6 or 10 and a longer one count in PRTn_QDROP
alone. R83 gives no counter for a frame that the VLAN filter refuses outright: none counts it (DESIGN CHOICE, log 161). PRTn_RXFRp and the
received bytes count a frame that has passed FCS, length and both filters and is not dropped quietly (DESIGN CHOICE, log 163). R85 does not
name a frame that the VLAN filter passes for rows 5 and 7 only: under quiet handling it counts in PRTn_QDROP like those (DESIGN CHOICE, log 129). -/
def State.rxAdmit (inband : InBand → State → State) (p t len : Nat) (r : Rx) (s : State) : State :=
  let q := s.rxPri p r
  let arrival := ((s.stamp p 0 t).fdiv 65536).toNat
  match s.vlanOk p r with
  | .no => s
  | pass =>
    let row := s.rxRow p r
    let barred := decide (pass = .only57 ∧ row ≠ 5 ∧ row ≠ 7)
    let long := decide (s.maxlen p < len)
    if s.quiet p && (barred || long || row == 2 || row == 6 || row == 10) then s.bumpC (aPrt p prtQdrop) 1
    else
      let s1 := (s.bumpC (aPrt p (0x80 + 4 * q)) 1).mapPrt p (fun x => { x with rxBytes := (x.rxBytes + len) % 2 ^ 64 })
      if barred then s1.bumpC (aPrt p prtUnknown) 1
      else if long then (s1.bumpC (aPrt p prtTrunc) 1).toParser p q arrival (s1.maxlen p) true (rxOf (r.bytes.take (s1.maxlen p)))
      else s1.rxDispatch inband p q t arrival len row r

/-- A frame with its FCS comes to the receiver of port p, the start of its delimiter at TAI ns t. -/
def State.frameIn (inband : InBand → State → State) (p t : Nat) (bs : List Byte) (s : State) : State :=
  if 4 ≤ p ∨ !(s.port p).link then s
  else
    let body := bs.take (bs.length - 4)
    let quiet := s.quiet p
    if bs.length < 4 ∨ fcs body ≠ bs.drop (bs.length - 4) then s.bumpC (aPrt p (if quiet && s.prtOn p then prtQdrop else prtFcserr)) 1
    else if !s.prtOn p then s.bumpC (aPrt p prtDisdrop) 1
    else if bs.length < 64 then s.bumpC (aPrt p (if quiet then prtQdrop else prtRunt)) 1
    else
      let r := rxOf body
      if s.dstOk p r then s.rxAdmit inband p t bs.length r else s

/-- FRAME_RECEIVE: a frame at the receive balls, and the PCS decode errors since the one before (R84). In PCS loopback the receiver hears its own
transmitter instead (R102). -/
def doReceive (inband : InBand → State → State) (p t : Nat) (bs : List Byte) (errs : Nat) (s : State) : State :=
  if bit (s.prtCtl p) 1 then s else (if p < 4 then s.bumpC (aPrt p 0x13C) errs else s).frameIn inband p t bs

/-! ## Links (R81, R82) -/

/-- LINK_DOWN: block lock lost, or hi_ber (R81); more than 10 entries of hi_ber in a minute are a fault (R338). -/
def doLinkDown (p : Nat) (hiBer : Bool) (s : State) : State :=
  let x := s.port p
  let s1 := (s.mapPrt p (fun x => { x with lock := x.lock && hiBer, hiBer := hiBer, bers := if hiBer && !x.hiBer then x.bers + 1 else x.bers })).portDown p
  if hiBer && !x.hiBer && decide (10 < x.bers + 1) then s1.faultC (47 + p) else s1

/-- LINK_UP: 10 ms of block lock without hi_ber; what waited is gone (R81, R82). -/
def doLinkUp (p : Nat) (s : State) : State :=
  if (s.port p).link then s
  else (((s.drainPort p).mapPrt p (fun x => { x with link := true, lock := true, hiBer := false, sendsFault := false })).latchC (aPrt p 0xC) 0)

/-- REMOTE_FAULT: a local or remote fault ordered set comes in, or the fault clears. -/
def doRemoteFault (p : Nat) (on : Bool) (s : State) : State :=
  let s1 := s.mapPrt p (fun x => { x with rfault := on })
  if on && !(s.port p).rfault then s1.latchC (aPrt p 0xC) 3 else s1

/-! ## Transmission (R82, R87, R88) -/

/-- A frame leaves port p with its FCS: at the transmit balls, or in loopback to its own receiver, the balls idling (R102). -/
def State.putWire (p : Nat) (bs : List Byte) (s : State) : State :=
  let b := padFrame bs
  let f := b ++ fcs b
  let back := bit (s.prtCtl p) 1
  s.mapPrt p (fun x => { x with wire := if back then [] else f, loop := if back then f else [], txBytes := (x.txBytes + b.length + 4) % 2 ^ 64 })

/-- The port's own PFC frame: every priority whose time waits (R89). -/
def State.pfcFrame (p : Nat) (s : State) : List Byte :=
  let x := s.port p
  padFrame (ethHeader 0x0180C2000001 (s.mac p) none 0x8808 ++ beBytes 2 0x0101 ++
    beBytes 2 (bitmap8 (fun q => (nth none x.pfc q).isSome)) ++ (List.range 8).flatMap (fun q => beBytes 2 ((nth none x.pfc q).getD 0)))

def State.sendPfc (p : Nat) (s : State) : State :=
  let b := s.pfcFrame p
  let s1 := ((List.range 8).filter (fun q => (nth none (s.port p).pfc q).isSome)).foldl (fun (s : State) q => s.bumpC (aPrt p (0xE0 + 4 * q)) 1) s
  (s1.mapPrt p (fun x => { x with pfc := List.replicate 8 none })).putWire p b

/-- A frame that waited is longer than the port now sends: it is not sent (R84, log 160). A stream's counts as oversize, an orrery message as
dropped, a reply marks its port's next one. -/
def State.tooLong (k : TxPick) (s : State) : State :=
  match k with
  | .fw _ => s
  | .reply c => s.mapPort c (fun x => { x with dropped := true })
  | .ory => (s.bumpN 0x080058 1).stageAdd 0x0070 0 64 1
  | .stream _ => (s.bumpN 0x078040 1).latchN 0x078000 1

/-- One frame starts: own PFC first, then strict priority (R87). -/
def State.sendOne (p t : Nat) (s : State) : State :=
  if (s.port p).pfc.any Option.isSome then s.sendPfc p
  else
    let s1 := ((List.range 8).flatMap (fun q => if (s.port p).paused q then [] else s.streamsAt p q)).foldl
      (fun (s : State) i => s.turnStream i) s.turnOry
    match s1.pick true p with
    | none => s1
    | some (q, k) =>
      match s1.takeFrame true p q t k with
      | (s2, none) => s2
      | (s2, some b) =>
        if s.maxlen p < (padFrame b).length + 4 then s2.tooLong k
        else
          let s3 := (s2.putWire p b).bumpC (aPrt p (0xA0 + 4 * q)) 1
          match k with
          | .stream i => s3.bumpN (aEgr i 4) 1
          | _ => s3

/-- A frame sent in loopback reaches the port's receiver (R102). -/
def State.loopIn (inband : InBand → State → State) (p t : Nat) (s : State) : State :=
  match (s.port p).loop with
  | [] => s
  | f => (s.mapPrt p (fun x => { x with loop := [] })).frameIn inband p t f

/-- PORT_TRANSMIT_FRAME: the frame boundary at TAI ns t. -/
def doTransmit (inband : InBand → State → State) (p t : Nat) (s : State) : State :=
  let s1 := s.settleOff p
  if s1.txOn p then (if (s1.port p).rfault then s1 else (s1.sendOne p t).loopIn inband p t)
  else if (s1.port p).pfc.any Option.isSome then
    (s1.mapPrt p (fun x => { x with pfc := List.replicate 8 none })).bumpC (aPrt p prtTxdown) 1
  else match s1.discardOne p with
  | some s2 => s2
  | none => s1

/-! ## The table's rows -/

/-- LINK_DOWN (R81). -/
def execLinkDown (p : Nat) (hiBer : Bool) (s : State) : Host.Outcome State Fault Refusal :=
  .next (State.settled ((whenUp .coma (doLinkDown p hiBer) s).judge))

/-- LINK_UP (R81). -/
def execLinkUp (p : Nat) (s : State) : Host.Outcome State Fault Refusal :=
  .next (State.settled (whenUp .coma (doLinkUp p) s))

/-- REMOTE_FAULT (R81). -/
def execRemoteFault (p : Nat) (on : Bool) (s : State) : Host.Outcome State Fault Refusal :=
  .next (State.settled (whenUp .coma (doRemoteFault p on) s))

/-- PFC_PAUSE_EXPIRY (R88). -/
def execPfcPauseExpiry (p : Nat) (pri : Nat) (s : State) : Host.Outcome State Fault Refusal :=
  .next (State.settled (whenUp .coma (doPauseExpiry p pri) s))

/-- PFC_XOFF_REFRESH (R89). -/
def execPfcXoffRefresh (p : Nat) (s : State) : Host.Outcome State Fault Refusal :=
  .next (State.settled (whenUp .coma (doXoffRefresh p) s))

/-- PFC_XON_RELEASE (R89). -/
def execPfcXonRelease (p : Nat) (s : State) : Host.Outcome State Fault Refusal :=
  .next (State.settled (whenUp .coma (doXonRelease p) s))

end Sys2Proof.Machine
end

