-- ==== Sys2Proof/Machine/Tlk.lean ====
section
/-! DEFINITION. The Tail link: packets and replay, lane sparing, the TLK registers (R17, R19, R396, R410, R411). What a packet
carries reaches its consumer in the command that has the effect; here is what the link itself counts and does. -/

namespace Sys2Proof.Machine

def otherHalf (h : Half) : Half := match h with | .coma => .nucleus | .nucleus => .coma

/-- The end of the link at a half. -/
def State.tlk (h : Half) (s : State) : TlkEnd := match h with | .coma => s.tlkC | .nucleus => s.tlkN
def State.mapTlk (h : Half) (f : TlkEnd → TlkEnd) (s : State) : State :=
  { s with tlkC := (match h with | .coma => f s.tlkC | .nucleus => s.tlkC)
           tlkN := (match h with | .coma => s.tlkN | .nucleus => f s.tlkN) }

/-- TLK counter offsets (R410). -/
abbrev tlkCrcerr : Nat := 0x010024
abbrev tlkReplay : Nat := 0x010028
abbrev tlkRefail : Nat := 0x01002C
abbrev tlkSpared : Nat := 0x010030
abbrev tlkInflight : Nat := 0x010034
abbrev tlkUrgent : Nat := 0x01003C
abbrev tlkTimepkt : Nat := 0x010040

/-- TLK_x_LAT: the latency measured at training (R410, log 39). -/
def State.tlkLat (h : Half) (s : State) : Word := match (s.tlk h).meas with | some k => Config.freeWord k | none => 0

/-- A counter at 0. -/
def State.zeroCtr (h : Half) (a : Nat) (s : State) : State := s.mapRegs h (fun r => { r with ctr := WMap.erase a r.ctr })

/-- The link is trained: both ends up, no lane spared, latency and deskews measured anew (free values, log 39). -/
def State.tlkTrained (s : State) : State :=
  let f := fun (k : Nat) (e : TlkEnd) => { e with up := true, rt := none, rxSub := none, txSub := none, replay := false, meas := some k, part := List.replicate 4 [] }
  let s1 : State := State.over .coma 11 { s with free := s.free + 20, tlkC := f s.free s.tlkC, tlkN := f (s.free + 10) s.tlkN }
  (List.range 9).foldl (fun (s : State) l =>
    (((s.zeroCtr .coma (aLane l 8)).zeroCtr .nucleus (aLane l 8)).bumpC (aLane l 0xC) 1).bumpN (aLane l 0xC) 1) s1

/-- The receive lanes that carry traffic toward a half. -/
def TlkEnd.rxLanes (e : TlkEnd) : List Nat :=
  match e.rxSub with
  | none => List.range 8
  | some l => (List.range 9).filter (fun k => k != l)

/-- The lane of most replays, the lower on a tie (R411); a count of 0 everywhere gives none. -/
def State.worstLane (h : Half) (ls : List Nat) (s : State) : Option Nat :=
  (ls.foldl (fun (b : Option (Nat × Nat)) l =>
    let n := (s.ctr h (aLane l 8)).toNat
    match b with
    | some (_, m) => if m < n then some (l, n) else b
    | none => if 0 < n then some (l, n) else none) none).map (fun x => x.1)

/-- A lane toward a half is trained: one training more, its replay count from 0 (R410). -/
def State.laneTrained (h : Half) (l : Nat) (s : State) : State := (s.zeroCtr h (aLane l 8)).bump h (aLane l 0xC) 1

/-- Lane l has been retrained; where the spare stands in for it, the spare too (R410). -/
def State.retrained (h : Half) (l : Nat) (s : State) : State :=
  if (s.tlk h).rxSub = some l then (s.laneTrained h l).laneTrained h 8 else s.laneTrained h l

/-- Lane l toward a half is replaced by that direction's spare (R19, R396). -/
def State.spareLane (h : Half) (l : Nat) (s : State) : State :=
  let s1 := (s.mapTlk h (fun e => { e with rxSub := some l, replay := false })).mapTlk (otherHalf h) (fun e => { e with txSub := some l })
  ((s1.bump h tlkSpared 1).latch h 0x010004 3).evService 2

/-- A lane toward a half fails (R19): it is spared, retrained and classed F_TLK_Ln; with the spare in use it is retrained, and F_TLK_NOSPARE. -/
def State.laneFails (h : Half) (l : Nat) (s : State) : State :=
  match (s.tlk h).rxSub with
  | none => ((s.spareLane h l).mapTlk h (fun e => { e with rt := some l })).faultC (12 + l)
  | some _ => ((s.mapTlk h (fun e => { e with rt := some l, replay := false })).latch h 0x010004 2).faultC 10

/-- The place of a class, in the order of its priority (R17). -/
def tlkIdx (c : TlkClass) : Nat := match c with | .urgent => 0 | .time => 1 | .measure => 2 | .control => 3

/-- A packet of a payload segment (R17); its CRC stands last, the most significant byte first. DESIGN CHOICE, log 92. -/
def tlkPacket (payload : List Byte) : List Byte := payload ++ beBytes 4 (crc32c payload).toNat

/-- The packets in which a frame crosses: segments of at most 256 bytes (R17). A full segment is continued by the next of its class, so a frame
whose length is a multiple of 256 ends with an empty one. DESIGN CHOICE, log 92. -/
def tlkSegments (frame : List Byte) : List (List Byte) :=
  (chunks 256 frame.length frame ++ if frame.length % 256 = 0 then [[]] else []).map tlkPacket

def tlkPayload (p : List Byte) : List Byte := p.take (p.length - 4)
def tlkCrcOk (p : List Byte) : Bool := fieldAt (p.length - 4) 4 p == (crc32c (tlkPayload p)).toNat

/-- A segment ends its frame. -/
def tlkEnds (payload : List Byte) : Bool := decide (payload.length < 256)

/-- A segment joins those of its class; the frame it ends goes to the consumer of the class (R17). -/
def TlkEnd.deliver (cls : TlkClass) (payload : List Byte) (e : TlkEnd) : TlkEnd :=
  let i := tlkIdx cls
  let whole := nth [] e.part i ++ payload
  { e with rxPkt := (e.rxPkt + 1) % 2 ^ 64, replay := false, part := at' e.part i (fun _ => if tlkEnds payload then [] else whole),
           got := if tlkEnds payload then at' e.got i (fun _ => whole) else e.got }

/-- A good packet at the end of a half, with the counts of both ends (R17, R410). One that ends a frame during a retraining counts the frame
(R19). -/
def State.tlkGood (h : Half) (cls : TlkClass) (payload : List Byte) (s : State) : State :=
  let s1 := (s.mapTlk h (TlkEnd.deliver cls payload)).mapTlk (otherHalf h) (fun e => { e with txPkt := (e.txPkt + 1) % 2 ^ 64 })
  let s2 := match cls with
    | .urgent => s1.bump (otherHalf h) tlkUrgent 1
    | .time => (s1.bump (otherHalf h) tlkTimepkt 1).bump h tlkTimepkt 1
    | _ => s1
  if (s.tlk h).rt.isSome && tlkEnds payload then (s2.bump h tlkInflight 1).latch h 0x010004 64 else s2

/-- A packet whose CRC fails, with the lanes whose parity failed: its replay is asked for, or, failing again, a lane is blamed (R19, R411). With no
parity error that is the lane of most replays, or the first active one. DESIGN CHOICE, log 42. -/
def State.tlkBad (h : Half) (lanes : BitVec 9) (s : State) : State :=
  let e := s.tlk h
  let bad := (List.range 9).filter (fun l => lanes.getLsbD l)
  let s1 := bad.foldl (fun (s : State) l => s.bump h (aLane l 4) 1) (s.bump h tlkCrcerr 1)
  if !e.replay then
    let s2 := bad.foldl (fun (s : State) l => s.bump h (aLane l 8) 1) s1
    ((s2.mapTlk h (fun e => { e with replay := true })).bump h tlkReplay 1).latch h 0x010004 4
  else
    let ls := e.rxLanes
    let l := match ls.find? (fun k => lanes.getLsbD k) with
      | some l => l
      | none => (s1.worstLane h ls).getD (ls.headD 0)
    ((s1.bump h tlkRefail 1).latch h 0x010004 8).laneFails h l

/-- TAIL_LINK_PACKET_RECEIVE: a packet at the end of a half; lanes: those whose parity failed. More than 256 bytes of payload are no packet. The
next packet after a failed one is its replay, whatever its class. DESIGN CHOICE, log 92. -/
def doTlkPacket (h : Half) (cls : TlkClass) (p : List Byte) (lanes : BitVec 9) (s : State) : State :=
  if !(s.tlk h).up || !s.nucUp || decide (p.length < 4) || decide (260 < p.length) then s
  else if tlkCrcOk p then s.tlkGood h cls (tlkPayload p)
  else s.tlkBad h lanes

/-- TAIL_LINK_RETRAIN_COMPLETE: the retraining ends; where it fails the link is down, which lasts until it is trained again (R338, R340). -/
def doTlkRetrained (h : Half) (ok : Bool) (s : State) : State :=
  match (s.tlk h).rt with
  | none => s
  | some l =>
    let s1 := s.mapTlk h (fun e => { e with rt := none })
    if ok then s1.retrained h l
    else
      let down := fun (e : TlkEnd) => { e with up := false, rt := none, replay := false }
      ((((s1.mapTlk .coma down).mapTlk .nucleus down).latch .coma 0x010004 32).latch .nucleus 0x010004 32).lasting .coma 11

/-- What the follower is off by once corrected, until the next TIME packet: a free value within the 4 ns of R18 (log 152). -/
def State.followRest (s : State) : Int := (s.freeWord.toNat % 2049 : Nat) - 1024

/-- FOLLOWER_CORRECTION (R18): a TIME packet carries the Coma time of its launch; with the link's measured latency it gives what the follower should
read, the difference is TLK_N_FOFS, and the follower is set right. Beyond 4 ns it is a fault (R339). -/
def doFollower (p : TimePkt) (s : State) : State :=
  if !s.tlkN.up then s
  else
    let found := (p.reading : Int) - (p.launch + (s.tlkLat .nucleus).toNat)
    let s1 := s.tlkGood .nucleus .time (beBytes 16 p.launch)
    let s2 := ({ s1 with tim := { s1.tim with fofs := found, follow := s1.followRest } } : State).freed
    if 4 * 256 < found.natAbs then s2.faultN 4 else s2

/-- UPD.REPAIR action 0x02 toward a half (R396, R400, R411). -/
def repairLane (h : Hdr) (s : State) : Res :=
  let e := s.tlk h.half
  if e.rt.isSome then .fail s eBusy 0 [0]
  else if !e.up || e.rxSub.isSome then .fail s eState 0 [0]
  else match s.worstLane h.half e.rxLanes with
  | none => .fail s eState 0 [0]
  | some l => .ok (((s.spareLane h.half l).retrained h.half l).latch h.half 0x010004 2) [0]

/-! ## Registers (R410) -/

/-- TLK_x_STAT. -/
def TlkEnd.stat (e : TlkEnd) : Word :=
  w32 (b2n e.up + 2 * b2n e.rt.isSome + 4 * e.rt.getD 15 + 64 * e.rxSub.getD 15 + 1024 * e.txSub.getD 15)

/-- TLK_x_Lk_STAT of lane l: at the spare's place stands the lane it replaces. -/
def TlkEnd.laneStat (l : Nat) (e : TlkEnd) : Word :=
  if !e.up then 0
  else
    let active := fun (sub : Option Nat) => if l = 8 then sub.isSome else sub != some l
    let pos := if l = 8 then e.rxSub.getD 0 else l
    w32 (b2n (active e.txSub) + 2 * b2n (active e.rxSub) + 4 * b2n (decide (l = 8) && e.txSub.isNone) + 8 * b2n (decide (l = 8) && e.rxSub.isNone) +
      16 * b2n (e.txSub == some l) + 32 * b2n (e.rxSub == some l) + 64 * b2n (e.rt == some l) + (if active e.rxSub then 256 * pos else 0))

/-- A computed register of TLK_C or TLK_N. -/
def State.tlkReg (h : Half) (a : Nat) (s : State) : Option Word :=
  let e := s.tlk h
  if a = 0x010000 then some e.stat
  else if a = 0x010008 then some (s.tlkLat h)
  else if a = 0x01000C then some (if h = .nucleus then wInt s.tim.fofs else 0)
  else if a = 0x010014 then some (hiW e.txPkt)
  else if a = 0x010018 then some (loW e.txPkt)
  else if a = 0x01001C then some (hiW e.rxPkt)
  else if a = 0x010020 then some (loW e.rxPkt)
  else match inst 0x010080 0x20 9 0x20 a with
  | some (l, 0) => some (e.laneStat l)
  | some (l, 0x10) => some (match e.meas with | some k => Config.freeWord (k + 1 + l) &&& 0xFF | none => 0)
  | _ => none

/-! ## The table's rows -/

/-- FOLLOWER_CORRECTION (R18). -/
def execFollowerCorrection (p : TimePkt) (s : State) : Host.Outcome State Fault Refusal :=
  .next (State.settled (whenUp .nucleus (doFollower p) s))

/-- TAIL_LINK_PACKET_RECEIVE (R17). -/
def execTailLinkPacketReceive (hf : Half) (cls : TlkClass) (bytes : List Byte) (lanes : BitVec 9) (s : State) : Host.Outcome State Fault Refusal :=
  .next (State.settled ((whenUp .coma (doTlkPacket hf cls bytes lanes) s).judge))

/-- TAIL_LINK_RETRAIN_COMPLETE (R19). -/
def execTailLinkRetrainComplete (hf : Half) (ok : Bool) (s : State) : Host.Outcome State Fault Refusal :=
  .next (State.settled ((whenUp .coma (doTlkRetrained hf ok) s).judge))

end Sys2Proof.Machine
end

