-- ==== Sys2Proof/Machine/Upd.lean ====
section
/-! DEFINITION. Images over the host interfaces: sessions, verification, the switch, and the repairs (R386-R401, R368, R147). -/

namespace Sys2Proof.Machine

/-! ## Sessions (R392) -/

/-- The session of a half. -/
def State.updS (h : Half) (s : State) : Upd := match h with | .coma => s.upd.coma | .nucleus => s.upd.nuc
def State.mapUpd (h : Half) (f : Upd → Upd) (s : State) : State :=
  { s with upd := { s.upd with coma := (match h with | .coma => f s.upd.coma | .nucleus => s.upd.coma)
                               nuc := (match h with | .coma => s.upd.nuc | .nucleus => f s.upd.nuc) } }

/-- The greatest image length of a half (R392); the table-set region goes from 0x61_0000 to the end of the flash (R386), whose density start-up read;
a flash that gave none leaves it open (log 5). -/
def State.updLimit (h : Half) (s : State) : Nat := match h with
  | .coma => 786432
  | .nucleus => match s.upd.density with | some d => d - 0x610000 | none => Config.tsetRegion

/-- Type byte and version of the session's header (R388). -/
def Upd.kind (u : Upd) : Nat := fieldAt 4 1 u.data
def Upd.version (u : Upd) : Word := w32 (fieldAt 8 4 u.data)

/-- The type of a half's own firmware (R388). -/
def fwType (h : Half) : Nat := match h with | .coma => 1 | .nucleus => 2

/-- UPD event and counters of the Nucleus half (R401); the Coma half has none. -/
def State.updEvt (h : Half) (i : Nat) (s : State) : State := match h with | .coma => s | .nucleus => s.latchN 0x0B0008 i
def State.updCnt (h : Half) (a : Nat) (s : State) : State := match h with | .coma => s | .nucleus => s.bumpN a 1

/-- UPD.BEGIN (R392, R400). -/
def cmdUpdBegin (h : Hdr) (ps : List Word) (s : State) : Res :=
  arity 1 ps s fun _ =>
    let u := s.updS h.half
    let n := (par ps 0).toNat
    if s.updLimit h.half < n then .fail s eParam 0
    else if u.port.isSome ∧ u.port ≠ some h.port then .fail s eLocked
    else if u.switching ∨ u.verifying then .fail s eBusy
    else .ok ((s.mapUpd h.half (fun u => { u.released with port := some h.port, len := n })).updCnt h.half 0x0B0040)

/-! ## The directory (R387) -/

/-- The 64 bytes of a directory copy. -/
def dirBytes (d : Directory) : List Byte :=
  let b := beBytes 4 0x55444952 ++ bytesOf [d.gen] ++
    [BitVec.ofNat 8 (b2n d.comaB), BitVec.ofNat 8 (b2n d.nucB), BitVec.ofNat 8 (b2n d.tsetValid + 2 * b2n d.autoload), 0] ++
    bytesOf [d.verCA, d.verCB, d.verNA, d.verNB] ++ beBytes 4 d.tsetLen ++ List.replicate 28 0
  b ++ beBytes 4 (crc32c b).toNat

/-- A copy with a valid magic and CRC. -/
def dirOf (bs : List Byte) : Option Directory :=
  let w := fun (k : Nat) => w32 (fieldAt k 4 bs)
  if 64 ≤ bs.length ∧ fieldAt 0 4 bs = 0x55444952 ∧ fieldAt 60 4 bs = (crc32c (bs.take 60)).toNat then
    some { gen := w 4, comaB := decide (fieldAt 8 1 bs ≠ 0), nucB := decide (fieldAt 9 1 bs ≠ 0), tsetValid := bit (w 8) 8, autoload := bit (w 8) 9,
           verCA := w 12, verCB := w 16, verNA := w 20, verNB := w 24, tsetLen := fieldAt 28 4 bs }
  else none

/-- A flash with an SFDP table and 16 to 64 MiB (R385). -/
def flashUsable (f : FlashScan) : Bool :=
  match f.density with | some d => decide (16 * 2 ^ 20 ≤ d) && decide (d ≤ 64 * 2 ^ 20) | none => false

/-- The valid copy of the greater generation, with whether it is copy 1. -/
def flashNewest (f : FlashScan) : Option (Directory × Bool) :=
  match dirOf f.copy0, dirOf f.copy1 with
  | some a, some b => some (if a.gen.toNat < b.gen.toNat then (b, true) else (a, false))
  | some a, none => some (a, false)
  | none, some b => some (b, true)
  | none, none => none

/-- Start-up reads the flash (R385, R387). -/
def State.scanFlash (f : FlashScan) (s : State) : State :=
  { s with upd := { s.upd with
      density := f.density, copy0 := f.copy0, copy1 := f.copy1
      dir := if flashUsable f then (flashNewest f).map Prod.fst else none
      dirAt := ((flashNewest f).map Prod.snd).getD false } }

/-- The directory is changed: the other copy is written under the next generation; a flash with no valid copy has copy 0 written. -/
def State.putDirectory (f : Directory → Directory) (s : State) : State :=
  let d0 := f (s.upd.dir.getD { gen := 0, comaB := false, nucB := false, tsetValid := false, autoload := false, verCA := 0, verCB := 0, verNA := 0,
                                verNB := 0, tsetLen := 0 })
  let d := { d0 with gen := d0.gen + 1 }
  let one := s.upd.dir.isSome && !s.upd.dirAt
  { s with upd := { s.upd with
      dir := some d, dirAt := one
      copy0 := if one then s.upd.copy0 else (dirBytes d)
      copy1 := if one then (dirBytes d) else s.upd.copy1 } }

/-! ## The image regions (R385, R386) -/

/-- Where a half's slot starts in the flash; b: slot B (R386). -/
def slotAt : Half → Bool → Nat
  | .coma, false => 0x010000
  | .coma, true => 0x110000
  | .nucleus, false => 0x210000
  | .nucleus, true => 0x410000

/-- Where the table set starts (R386). -/
abbrev tsetAt : Nat := 0x610000

/-- Greatest image of a half's slot (R386). -/
def maxImage (h : Half) : Nat := match h with | .coma => 786432 | .nucleus => 1572864

/-- What a region holds, where it is known. -/
def State.region (a : Nat) (s : State) : Option (List Byte) := (findBy Prod.fst a s.upd.flash).map Prod.snd
def State.putRegion (a : Nat) (bs : List Byte) (s : State) : State :=
  { s with upd := { s.upd with flash := insertBy Prod.fst (a, bs) s.upd.flash } }
/-- A region whose bytes are no longer known. -/
def State.loseRegion (a : Nat) (s : State) : State := { s with upd := { s.upd with flash := eraseBy Prod.fst a s.upd.flash } }

/-- Start-up reads a region: what stands there as far as this run wrote or read it, else the bytes given (DESIGN CHOICE, log 167). -/
def State.readRegion (a : Nat) (given : List Byte) (s : State) : State := if (s.region a).isSome then s else s.putRegion a given

/-- The first n bytes, 0xFF where nothing stands. -/
def erasedTo (n : Nat) (r : List Byte) : List Byte := r.take n ++ List.replicate (n - r.length) 0xFF

/-- A sector of 64 KiB erased: its bytes are 0xFF (R385). -/
def eraseSector (k : Nat) (r : List Byte) : List Byte := erasedTo (65536 * k) r ++ List.replicate 65536 0xFF ++ r.drop (65536 * (k + 1))

/-- Bytes programmed within a page at an offset: bits only fall (R385). -/
def programPage (off : Nat) (bs r : List Byte) : List Byte :=
  let old := erasedTo bs.length (r.drop off)
  erasedTo off r ++ List.zipWith (· &&& ·) old bs ++ r.drop (off + bs.length)

/-- Bytes programmed at an offset, page by page of 256 bytes (R385). -/
def programBytes : Nat → Nat → List Byte → List Byte → List Byte
  | 0, _, _, r => r
  | _, _, [], r => r
  | f + 1, off, bs, r =>
    let n := 256 - off % 256
    programBytes f (off + n) (bs.drop n) (programPage off (bs.take n) r)

/-- The bytes of a packet written to a region: every sector that the packet enters is erased first (R392). -/
def writeRegion (off : Nat) (bs r : List Byte) : List Byte :=
  let ks := (List.range ((off + bs.length + 65535) / 65536)).filter (fun k => decide (off ≤ 65536 * k))
  programBytes (bs.length / 256 + 2) off bs (ks.foldl (fun r k => eraseSector k r) r)

/-- The region a session's image goes to: the half's inactive slot, or the table set's (R392). -/
def State.target (h : Half) (ty : Nat) (s : State) : Nat :=
  if ty = 3 then tsetAt else match h with
  | .coma => slotAt .coma (!s.pwr.cslot)
  | .nucleus => slotAt .nucleus (!s.pwr.nslot)

/-- In an HSP boot firmware goes to core memory, not to the flash (R390). -/
def State.toMemory (h : Half) (ty : Nat) (s : State) : Bool :=
  s.pwr.rom || (decide (h = .nucleus) && decide (ty = 2) && s.pwr.hspBoot && s.pwr.held)

/-- The greatest number of bytes a session takes: its length and, for firmware, what a slot may hold (R386, R392; DEDUCED, log 166). -/
def Upd.limit (h : Half) (ty : Nat) (u : Upd) : Nat := if ty = 3 then u.len else Nat.min u.len (maxImage h)

/-- Table set marked invalid in the directory, where there is one (R387, R392). -/
def State.tsetInvalid (s : State) : State := if s.upd.dir.isSome then s.putDirectory (fun d => { d with tsetValid := false }) else s

/-- UPD.DATA (R392). -/
def cmdUpdData (h : Hdr) (ps : List Word) (s : State) : Res :=
  let u := s.updS h.half
  let off := (par ps 0).toNat
  let bs := bytesOf (ps.drop 1)
  let ty := fieldAt 4 1 (u.data ++ bs)
  let most := u.limit h.half ty
  if ps.length < 2 then .fail s eParam ps.length
  else if u.port.isSome && decide (off ≠ u.data.length) then .fail s eParam 0
  else if u.port.isSome && decide (u.data.length = 0) && decide (bs.length < 8) then .fail s eParam ps.length
  else if u.port.isSome && decide (u.data.length = 0) && (decide (ty ≠ fwType h.half) && (decide (ty ≠ 3) || decide (h.half = .coma))) then .fail s eParam 2
  else if u.port.isSome && decide (most < off + bs.length) then .fail s eParam (1 + (most - off) / 4)
  else if u.port.isSome && decide (u.port ≠ some h.port) then .fail s eLocked
  else if u.switching || u.verifying then .fail s eBusy
  else if u.port = none then .fail s eState
  else
    -- in an HSP boot the image goes to core memory; else to the flash, whose programming may fail (R390, R392, log 93)
    let memory := s.toMemory h.half ty
    let a := s.target h.half ty
    let s0 : State := if memory then s else { s with free := s.free + 1 }
    let s1 := if u.data.length = 0 ∧ ty = 3 then s0.tsetInvalid else s0
    if !memory && Config.programFails s.free then .fail ((s1.loseRegion a).mapUpd h.half Upd.released) eImage
    else
      let s2 := if memory then s1 else s1.putRegion a (writeRegion off bs ((s.region a).getD []))
      .ok (s2.mapUpd h.half (fun u => { u with data := u.data ++ bs, verified := false }))

/-- UPD.VERIFY (R393). -/
def cmdUpdVerify (h : Hdr) (ps : List Word) (s : State) : Res :=
  arity 0 ps s fun _ =>
    let u := s.updS h.half
    if u.port.isSome ∧ u.port ≠ some h.port then .fail s eLocked
    else if u.switching ∨ u.verifying ∨ s.opBusy h 0x0D02 0 then .fail s eBusy
    else if u.port = none then .fail s eState
    else .pending ((s.mapUpd h.half (fun u => { u with verifying := true, verified := false })).addOp h 0x0D02 0)

/-- The bytes a signature or CRC covers: 0-191, then the body (R388). -/
def signedBytes (bs : List Byte) : List Byte := bs.take 192 ++ bs.drop 256

/-- Header and length of an image of a half, by its bytes (R388). -/
def headerOk (bs : List Byte) : Bool :=
  decide (256 ≤ bs.length) && decide (bs.length = 256 + fieldAt 12 4 bs) && decide (fieldAt 0 4 bs = 0x554C5649) && decide (fieldAt 5 1 bs = 0xB0)

/-- The signature of a firmware image verifies under the fused key (R331, R388). -/
def signatureOk (key : Nat × Nat) (bs : List Byte) : Bool :=
  ecdsaOk key (fieldAt 0 32 (sha256 (signedBytes bs))) (fieldAt 192 32 bs) (fieldAt 224 32 bs)

/-- A firmware image of a half passes: header, length, signature (R388, R390). -/
def imageOk (key : Nat × Nat) (h : Half) (bs : List Byte) : Bool :=
  headerOk bs && decide (bs.length ≤ maxImage h) && decide (fieldAt 4 1 bs = fwType h) && signatureOk key bs

/-- The image that stands at the start of a region: header and body, as far as the region goes (R388). -/
def imageIn (bs : List Byte) : List Byte := bs.take (256 + fieldAt 12 4 bs)

/-- The checks of UPD.VERIFY on the bytes read back (R388, R393). -/
def Upd.good (key : Nat × Nat) (h : Half) (u : Upd) : Bool :=
  decide (u.data.length = u.len) && headerOk u.data &&
  (if u.kind = fwType h then decide (u.len ≤ maxImage h) && signatureOk key u.data
   else decide (u.kind = 3) && decide (h = .nucleus) && decide (fieldAt 192 4 u.data = (crc32c (signedBytes u.data)).toNat))

/-- The session with its image as read back from the flash, or from core memory in an HSP boot (R390, R393). -/
def State.readBack (h : Half) (s : State) : Upd :=
  let u := s.updS h
  if s.toMemory h u.kind then u else { u with data := ((s.region (s.target h u.kind)).getD u.data).take u.data.length }

/-- UPD_VERIFY_COMPLETE (R393). -/
def doUpdVerified (h : Half) (s : State) : State :=
  let u := s.updS h
  if !u.verifying then s
  else
    let ok := (s.readBack h).good s.keys.vendor h
    let s1 := s.mapUpd h (fun u => { u with verifying := false, verified := ok })
    let s2 := if ok then (s1.updEvt h 0).updCnt h 0x0B0044 else (s1.updEvt h 1).updCnt h 0x0B0048
    s2.completeOp h 0x0D02 0 (if ok then codeOk else eImage)

/-- UPD.SWITCH (R394). -/
def cmdUpdSwitch (h : Hdr) (ps : List Word) (s : State) : Res :=
  arity 0 ps s fun _ =>
    let u := s.updS h.half
    if u.port.isSome ∧ u.port ≠ some h.port then .fail s eLocked
    else if u.switching ∨ (s.updS (otherHalf h.half)).switching ∨ s.opBusy h 0x0D03 0 then .fail s eBusy
    else if !u.verified then .fail s eState
    else .pending ((s.mapUpd h.half (fun u => { u with switching := true, ready := false })).addOp h 0x0D03 0)

/-! ## The switch (R394, R395) -/

/-- Dispatch of a half stopped or running. -/
def State.setPaused (h : Half) (b : Bool) (s : State) : State :=
  { s with core := { s.core with pausedC := (match h with | .coma => b | .nucleus => s.core.pausedC)
                                 pausedN := (match h with | .coma => s.core.pausedN | .nucleus => b) } }

/-- The image of the session is loaded into cores that run, rather than into a half held in reset, and it is firmware (R394). -/
def State.swapsImage (h : Half) (s : State) : Bool := decide ((s.updS h).kind = fwType h) && !(decide (h = .nucleus) && s.pwr.held)

/-- UPD_SWITCH_START: step 2 of R394, at an epoch boundary of every running group. -/
def doUpdSwitchStart (h : Half) (s : State) : State :=
  let u := s.updS h
  if !u.switching || u.ready || !s.swapsImage h || s.paused h || !s.common s.follower then s
  else (s.mapUpd h (fun u => { u with pausedAt := s.tim.now })).setPaused h true

/-- A trap held during the switch is taken by the image active after it (R347). -/
def State.takeHeldTrap (h : Half) (s : State) : State :=
  let held := match h with | .coma => s.flt.heldTrapC | .nucleus => s.flt.heldTrapN
  if held then
    { s with flt := { s.flt with heldTrapC := s.flt.heldTrapC && decide (h ≠ Half.coma), heldTrapN := s.flt.heldTrapN && decide (h ≠ Half.nucleus) } }.bump h 0x000090 1
  else s

/-- Running version of a half. -/
def State.setVer (h : Half) (v : Word) (s : State) : State :=
  { s with sys := { s.sys with verC := (match h with | .coma => v | .nucleus => s.sys.verC)
                               verN := (match h with | .coma => s.sys.verN | .nucleus => v) } }

/-- The Coma firmware starts at the end of P2 (R346, R358, R389): errn_sw where a reset cause stands, the recorder's flags and its note. -/
def State.fwStart (s : State) : State :=
  let caused := bit s.flt.rstCause 15
  let s1 : State := { s with
    pwr := { s.pwr with fw := true, rom := false, phase := if s.pwr.grave then 2 else 3 }
    flt := { s.flt with errnSw := s.flt.errnSw || caused }
    rcd := { s.rcd with firstFlags := s.rcd.firstFlags ||| 8 ||| (2 * b2n caused) } }
  if s.pwr.grave then s1.recBegin else s1

/-- Steps 3 and 4 of R394: the new image runs and dispatch resumes. In an HSP boot that is the whole switch (R390): the Coma firmware runs,
phase P3 begins. The packets that waited are run by the caller. -/
def State.imageReady (h : Half) (s : State) : State :=
  let u := s.updS h
  if !u.switching || u.ready || !s.paused h then s
  else
    let s1 := (((s.setPaused h false).setVer h u.version).mapUpd h (fun u => { u with
      ready := true, switchAt := s.sec, delay := (s.tim.now - u.pausedAt) / 1000 })).latch h 0x000030 16
    if s.pwr.rom then
      -- the Nucleus image has to come over the HSP as well
      let s2 := s1.fwStart
      ({ s2 with pwr := { s2.pwr with hspBoot := true, held := !s2.pwr.grave, nrst := true } }.mapUpd .coma Upd.released).completeOp .coma 0x0D03 0 codeOk
    else s1.takeHeldTrap h

/-- The last switch: its second, and its pause from where dispatch stopped (R401). -/
def State.switchedNow (pause : Nat) (s : State) (u : Upd) : Upd := { u with switchAt := s.sec, delay := pause }

/-- UPD_SWITCH_ROLLBACK (R395): the old image runs again; the session stays verified, or is over where its port let it go (R392). -/
def State.imageRollback (h : Half) (s : State) : State :=
  let u := s.updS h
  if !u.switching || u.ready || !s.paused h then s
  else
    let back := fun (u : Upd) => if u.port.isSome then { u with switching := false } else u.released
    let s1 := ((s.setPaused h false).mapUpd h (fun u =>
      { s.switchedNow ((s.tim.now - u.pausedAt) / 1000) (back u) with rollback := true })).takeHeldTrap h
    ((s1.updEvt h 3).updCnt h 0x0B0050).completeOp h 0x0D03 0 eImage

/-- The directory with a half's inactive slot made active under a version (R387, R394 step 5). b: the new slot is B. -/
def switchedDirectory (h : Half) (b : Bool) (v : Word) (d : Directory) : Directory :=
  match h, b with
  | .coma, false => { d with comaB := false, verCA := v }
  | .coma, true => { d with comaB := true, verCB := v }
  | .nucleus, false => { d with nucB := false, verNA := v }
  | .nucleus, true => { d with nucB := true, verNB := v }

/-- Step 5 of R394 for firmware: the other slot of the half, in the directory and in use. -/
def State.slotSwitched (h : Half) (v : Word) (s : State) : State :=
  let b := match h with | .coma => !s.pwr.cslot | .nucleus => !s.pwr.nslot
  State.putDirectory (switchedDirectory h b v) { s with
    pwr := { s.pwr with cslot := (match h with | .coma => b | .nucleus => s.pwr.cslot)
                        nslot := (match h with | .coma => s.pwr.nslot | .nucleus => b) } }

/-- A type 3 switch (R394): the table set valid, with UPD_CTL.autoload. -/
def State.tsetSwitched (u : Upd) (s : State) : State :=
  State.putDirectory (fun d => { d with tsetValid := true, autoload := bit (s.rwN 0x0B0000) 1, tsetLen := u.data.length })
    s

/-- UPD_SWITCH_COMPLETE (R394): the record holds OK, quiet handling ends, the session is over. A Nucleus image for a half held in reset
resumes P3 (R390 code 6); over the HSP it is not written to the flash. -/
def doUpdSwitchComplete (h : Half) (s : State) : State :=
  let u := s.updS h
  if !u.switching || (s.swapsImage h && !u.ready) then s
  else
    let resumes := decide (h = .nucleus) && s.pwr.held && decide (u.kind = 2)
    let s1 := if u.kind = 3 then s.tsetSwitched u
              else if resumes && s.pwr.hspBoot then s.setVer .nucleus u.version
              else s.slotSwitched h u.version
    -- a switch in which dispatch did not stop has no pause
    let at' := fun (u : Upd) => if s.swapsImage h then u else s.switchedNow 0 u
    let s2 := s1.mapUpd h (fun u => { at' u.released with rollback := false })
    let s3 : State := if resumes then { s2 with pwr := { s2.pwr with held := false } } else s2
    ((s3.updEvt h 2).updCnt h 0x0B004C).completeOp h 0x0D03 0 codeOk

/-- UPD_CTL.abort and SYS_C_UPDCTL.abort (R392): the session is released, whichever port holds it; a switch under way goes on (log 40). -/
def State.updAbort (h : Half) (s : State) : State :=
  (s.mapUpd h Upd.letGo).complete (fun o => o.half == h && o.opcode == 0x0D02) eState

/-! ## Repairs (R147, R368, R396-R398) -/

/-- The retired core of lowest index that is not under a self-test already (R368). -/
def State.retiredCore (h : Half) (s : State) : Option Nat :=
  ((s.core.list h).zipIdx.find? (fun x => x.1 == .retired && !s.core.testing.elem (h, x.2))).map (fun x => x.2)
def State.spareCount (h : Half) (s : State) : Nat := ((s.core.list h).filter (fun c => c == .spare)).length

/-- UPD.REPAIR action 0x03 (R368). -/
def repairCore (h : Hdr) (s : State) : Res :=
  if s.opLocked h 0x0D04 3 then .fail s eLocked 0 [0]
  else if s.opBusy h 0x0D04 3 then .fail s eBusy 0 [0]
  else match s.retiredCore h.half with
  | none => .fail s eState 0 [0]
  | some n => .pending ({ s with core := { s.core with repairing := s.core.repairing ++ [(h.half, n)] } }.addOp h 0x0D04 3) [w32 (s.spareCount h.half + 1)]

/-- UPD.REPAIR action 0x04 on the Nucleus half (R397, R400): its record is one of the Coma half. -/
def repairNucleus (h : Hdr) (s : State) : Res :=
  let hc : Hdr := { h with half := .coma }
  if s.opLocked hc 0x0D04 4 then .fail s eLocked 0 [0]
  else if s.opBusy hc 0x0D04 4 ∨ s.upd.nuc.switching then .fail s eBusy 0 [0]
  else .pending (s.resetNucleus.addOp hc 0x0D04 4) [0]

/-- UPD.REPAIR action 0x04 on the Coma half (R398): a chip reset is due. -/
def repairComa (h : Hdr) (s : State) : Res :=
  if s.opLocked h 0x0D04 4 then .fail s eLocked 0 [0]
  else if s.opBusy h 0x0D04 4 then .fail s eBusy 0 [0]
  else .pending ({ s with
    pwr := { s.pwr with resetDue := true }
    flt := { s.flt with rstCause := w32 (0x7F + 2 ^ 15 + 65536 * (s.handCount .coma + s.handCount .nucleus)) } }.addOp h 0x0D04 4) [0]

/-- UPD.REPAIR (R44): w0 [7:0] the action; tile repair is the Nucleus half's. -/
def cmdUpdRepair (h : Hdr) (ps : List Word) (s : State) : Res :=
  arity 1 ps s fun _ =>
    match bits (par ps 0) 7 0, h.half with
    | 1, .nucleus => repairTile h s
    | 2, _ =>
      let r := repairLane h s
      { r with st := if r.code = codeOk then (r.st.updEvt h.half 4).updCnt h.half 0x0B0054 else r.st }
    | 3, _ => repairCore h s
    | 4, .nucleus => repairNucleus h s
    | 4, .coma => repairComa h s
    | _, _ => .fail s eParam 0

/-- CORE_REPAIR_COMPLETE (R368). -/
def doCoreRepaired (h : Half) (ok : Bool) (s : State) : State :=
  match s.core.repairing.find? (fun x => x.1 == h) with
  | none => s
  | some (_, n) =>
    let s1 : State := { s with core := { s.core with repairing := s.core.repairing.filter (fun x => x.1 != h) } }
    let s2 := if ok then ((s1.mapCores h (setCore n .spare)).updEvt h 4).updCnt h 0x0B0054 else s1.updEvt h 5
    s2.completeOp h 0x0D04 3 (if ok then codeOk else eState)

/-! ## Registers (R401, R409) -/

/-- UPD_STAT and SYS_C_UPDSTAT. -/
def State.updStat (h : Half) (s : State) : Word :=
  let u := s.updS h
  let st := if u.switching then 3 else if u.verified then 2 else if u.port.isSome then 1 else 0
  w32 (st + 4 * b2n u.verifying + 8 * b2n u.rollback + 16 * b2n (match h with | .coma => s.pwr.cslot | .nucleus => s.pwr.nslot) +
    32 * b2n (decide (h = .nucleus) && ((s.upd.dir.map Directory.tsetValid).getD false)) + 256 * u.port.getD 0xFF)

/-- The version in a half's inactive slot. -/
def State.altVer (h : Half) (s : State) : Word :=
  match s.upd.dir with
  | none => 0
  | some d => match h with
    | .coma => if s.pwr.cslot then d.verCA else d.verCB
    | .nucleus => if s.pwr.nslot then d.verNA else d.verNB

/-- The computed registers of UPD, by offset (R401), and those of the Coma session at SYS_C 0x0C0 (R409). -/
def State.updReg (o : Nat) (s : State) : Option Word :=
  let u := s.upd.nuc
  match o with
  | 0x04 => some (s.updStat .nucleus)
  | 0x0C => some (w32 u.len)
  | 0x10 => some (w32 u.data.length)
  | 0x14 => some s.sys.verN
  | 0x18 => some u.version
  | 0x1C => some (s.altVer .nucleus)
  | 0x20 => some (w32 u.switchAt)
  | 0x24 => some (w32 u.delay)
  | 0x28 => some (w32 (s.aln.spares + 8 * b2n s.tlkN.rxSub.isNone + 16 * b2n (decide (0 < s.spareCount .nucleus))))
  | _ => none
def State.updRegC (o : Nat) (s : State) : Option Word :=
  let u := s.upd.coma
  match o with
  | 0xC4 => some (s.updStat .coma)
  | 0xC8 => some (w32 u.len)
  | 0xCC => some (w32 u.data.length)
  | 0xD0 => some u.version
  | 0xD4 => some (s.altVer .coma)
  | 0xD8 => some (w32 u.switchAt)
  | 0xDC => some (w32 u.delay)
  | _ => none

/-- A row's action put into the first parameter word. -/
def withAction (k : Nat) (ps : List Word) : List Word := at' ps 0 (fun w => (w &&& ~~~(0xFF : Word)) ||| w32 k)

/-! ## The table's rows -/

/-- UPD_BEGIN (R392). -/
def execUpdBegin (h : Hdr) (ps : List Word) (s : State) : Host.Outcome State Fault Refusal :=
  .next (State.settled (s.serve 0x0D00 h ps cmdUpdBegin))

/-- UPD_DATA (R392). -/
def execUpdData (h : Hdr) (ps : List Word) (s : State) : Host.Outcome State Fault Refusal :=
  .next (State.settled (s.serve 0x0D01 h ps cmdUpdData))

/-- UPD_VERIFY (R393). -/
def execUpdVerify (h : Hdr) (ps : List Word) (s : State) : Host.Outcome State Fault Refusal :=
  .next (State.settled (s.serve 0x0D02 h ps cmdUpdVerify))

/-- UPD_SWITCH (R394). -/
def execUpdSwitch (h : Hdr) (ps : List Word) (s : State) : Host.Outcome State Fault Refusal :=
  .next (State.settled (s.serve 0x0D03 h ps cmdUpdSwitch))

/-- UPD_REPAIR_TILE (R147). -/
def execUpdRepairTile (h : Hdr) (ps : List Word) (s : State) : Host.Outcome State Fault Refusal :=
  .next (State.settled (s.serve 0x0D04 h (withAction 1 ps) cmdUpdRepair))

/-- UPD_REPAIR_LANE (R396). -/
def execUpdRepairLane (h : Hdr) (ps : List Word) (s : State) : Host.Outcome State Fault Refusal :=
  .next (State.settled (s.serve 0x0D04 h (withAction 2 ps) cmdUpdRepair))

/-- UPD_REPAIR_CORE (R368). -/
def execUpdRepairCore (h : Hdr) (ps : List Word) (s : State) : Host.Outcome State Fault Refusal :=
  .next (State.settled (s.serve 0x0D04 h (withAction 3 ps) cmdUpdRepair))

/-- UPD_REPAIR_HALF_RESET (R397). -/
def execUpdRepairHalfReset (h : Hdr) (ps : List Word) (s : State) : Host.Outcome State Fault Refusal :=
  .next (State.settled (s.serve 0x0D04 { h with half := .nucleus } (withAction 4 ps) cmdUpdRepair))

/-- UPD_REPAIR_COMA_RESET (R398). -/
def execUpdRepairComaReset (h : Hdr) (ps : List Word) (s : State) : Host.Outcome State Fault Refusal :=
  .next (State.settled (s.serve 0x0D04 { h with half := .coma } (withAction 4 ps) cmdUpdRepair))

/-- UPD_VERIFY_COMPLETE (R393). -/
def execUpdVerifyComplete (hf : Half) (s : State) : Host.Outcome State Fault Refusal :=
  .next (State.settled ((whenUp .coma (doUpdVerified hf) s).judge))

/-- UPD_SWITCH_START (R394). -/
def execUpdSwitchStart (hf : Half) (s : State) : Host.Outcome State Fault Refusal :=
  .next (State.settled ((whenUp .coma (doUpdSwitchStart hf) s).judge))

/-- UPD_SWITCH_COMPLETE (R394). -/
def execUpdSwitchComplete (hf : Half) (s : State) : Host.Outcome State Fault Refusal :=
  .next (State.settled ((whenUp .coma (doUpdSwitchComplete hf) s).judge))

/-- CORE_REPAIR_COMPLETE (R368). -/
def execCoreRepairComplete (hf : Half) (ok : Bool) (s : State) : Host.Outcome State Fault Refusal :=
  .next (State.settled ((whenUp hf (doCoreRepaired hf ok) s).judge))

end Sys2Proof.Machine
end

