-- ==== Sys2Proof/Machine/Power.lean ====
section
/-! DEFINITION. Power states, supplies, chip reset, the start-up phases, the Nucleus half's reset, and the samples of temperature and
supplies (R27-R31, R310, R344, R345, R384-R391, R397, R407, R409, R423, R425). -/

namespace Sys2Proof.Machine

/-! ## Requests for a power state (R28, R29, R31) -/

/-- An alignment group, a libration engine or a phasor estimator runs (R29). -/
def State.measuring (s : State) : Bool :=
  s.aln.grps.any (fun g => g.run != .stopped) || s.lbe.any Lbe.running || s.phx.ests.any Est.running

/-- A write of SYS_C_PWRCTL.req: the refusal, or the state with the request taken. -/
def State.pwrReq (req : Nat) (s : State) : Except Byte State :=
  match req with
  | 1 =>
    if s.measuring then .error eState
    else if s.pwr.mode = .service ∧ s.pwr.trans = .none then
      .ok (State.drivePins { s with pwr := { s.pwr with trans := .toStandby, backToService := false } })
    else .ok { s with pwr := { s.pwr with backToService := false } }
  | 2 =>
    if s.pwr.trans = .toStandby then .ok { s with pwr := { s.pwr with backToService := true } }
    else if s.pwr.mode = .standby ∧ s.pwr.trans = .none ∧ 4 ≤ s.pwr.phase then .ok { s with pwr := { s.pwr with trans := .toService } }
    else .ok s
  | 3 => .error eParam
  | _ => .ok s

/-- Every rule and watch entry starts inactive with its latch lost; their counters stay (R243, R247). -/
def State.alarmsRestart (s : State) : State :=
  { s with alm := { s.alm with
      rules := s.alm.rules.map (fun (r : RuleSt) => { r with active := false, latched := false, prov := false, dwell := 0, skipped := false, clearOk := false, matched := false })
      watches := s.alm.watches.map (fun (w : WatchSt) => { w with active := false, since := none, skipped := false })
      pins := s.alm.pins.map (fun (p : Pin) => { p with logical := false, width := false }) } }

/-- POWER_TRANSITION_COMPLETE (R28, R30, R31): STANDBY is entered, or SERVICE with an empty alignment store, restarted rules and a new
stNum of every GOOSE block. -/
def doPowerDone (s : State) : State :=
  if s.pwr.grave then { s with pwr := { s.pwr with trans := .none, backToService := false } }
  else match s.pwr.trans with
  | .none => s
  | .toStandby =>
    let s1 : State := { s with
      pwr := { s.pwr with mode := .standby, trans := if s.pwr.backToService then .toService else .none, backToService := false }
      tlkC := { s.tlkC with up := false, rt := none, replay := false }, tlkN := { s.tlkN with up := false, rt := none, replay := false } }
    s1.latchC 0x000030 0
  | .toService =>
    let s1 : State := { s with
      pwr := { s.pwr with mode := .service, trans := .none }
      ing := { s.ing with srcs := s.ing.srcs.map (fun (x : Src) => { x with slots := [] }) }
      aln := { s.aln with grps := s.aln.grps.map (fun (g : Grp) => { g with conjs := [] }) } }
    let s2 := (if s.pwr.nrst then s1.alarmsRestart else s1.alarmsRestart.tlkTrained.phxSync).latchC 0x000030 0
    ((List.range 16).foldl (fun (s : State) c => s.gooseNew true c) s2).drivePins

/-! ## Chip reset (R31, R344, R407) -/

/-- The register words that a chip reset keeps: AON and KEY (R407). -/
def aonRange (e : Nat × Word) : Bool := decide (0x050000 ≤ e.1) && decide (e.1 < 0x060000)

def RegFile.chipReset (r : RegFile) : RegFile :=
  { rw := r.rw.filter aonRange, ctr := r.ctr.filter aonRange, evt := r.evt.filter aonRange, win := [], cor := [] }

/-- The recorder's SRAM is lost (R358); MRAM stays. -/
def Rec.chipReset (r : Rec) : Rec :=
  { r with q := Queue.new 512, gapAt := [], selfBad := false, rewrites := [], stage := [], frozen := false, clearing := false, halted := false, badRun := 0, lastClose := 0, lastHour := 0 }

/-- What a module and its balls show stays; the identity has to be read again. -/
def Xcv.chipReset (x : Xcv) : Xcv := { Xcv.reset with present := x.present, los := x.los, txflt := x.txflt, life := x.life, inserted := x.inserted }

/-- Chip reset asserted: everything but the always-on domain, the key store, MRAM, the flash, the grave latch, the ERR_N pulse and the
levels at the balls takes its reset value (R31, R346, R407). -/
def State.assertReset (s : State) : State :=
  { s with
    pwr := { s.pwr with mode := if s.pwr.main then .standby else s.pwr.mode, trans := .none, backToService := false, phase := 0, inReset := true,
                        resetDue := false, dueAt := 0, nrst := s.pwr.grave, stopped := false, rom := false, hspBoot := false, fw := false, cslot := false,
                        nslot := false, fail := 0, held := false }
    cmd := Cmd.reset
    attn := if s.pwr.grave then { Attn.reset with level := 4, bits := 1, gen := 1 } else Attn.reset
    regC := s.regC.chipReset, regN := RegFile.empty
    flt := { Faults.reset with rstCause := s.flt.rstCause, graveSrc := s.flt.graveSrc, pulse := s.flt.pulse, errnLevel := s.flt.errnLevel }
    core := Cores.reset, tlkC := TlkEnd.reset, tlkN := TlkEnd.reset, sys := SysState.reset
    prt := List.replicate 4 Port.reset, xcv := s.xcv.map Xcv.chipReset, tim := Tim.reset s.aon.utcofs
    afe := Afe.reset, tbl := Tables.reset, ing := Ing.reset, aln := Aln.reset, phx := Phx.reset, isl := Isl.reset
    lbe := List.replicate 32 Lbe.reset, alm := Alm.reset, egr := Egr.reset, ory := Ory.reset, nrg := Nrg.reset
    pul := List.replicate 4 Pul.reset, rcd := s.rcd.chipReset
    upd := { s.upd with coma := Upd.reset, nuc := Upd.reset } }

/-- CHIP_RESET_ASSERT (R344, R345): a reset that is due; in the grave state none is performed. -/
def doChipReset (s : State) : State := if s.pwr.resetDue && !s.pwr.grave then s.assertReset else s

/-- Every condition that holds chip reset is gone (R310, R348, R423). -/
def State.mayRelease (s : State) : Bool :=
  s.pwr.inReset && s.pwr.main && s.pwr.low.isEmpty && s.pwr.rstN && !s.pwr.vddioLow && !s.pwr.timer

/-- What the always-on domain met while the chip was down comes up (R308, R311, R314, R315). -/
def State.flushAon (s : State) : State :=
  let a := s.aon
  let s1 : State := { s with aon := { a with calPend := false, tampPend := false, retPend := false, batPend := false } }
  let s2 := if a.calPend then s1.evTime 1 else s1
  let s3 := if a.batPend then s2.evService 1 else s2
  let s4 := if a.tampPend then s3.faultC 81 else s3
  if a.retPend then s4.faultC 82 else s4

/-- CHIP_RESET_RELEASE: phase P1 begins (R310, R384, R389, R390). -/
def doChipRelease (straps : BitVec 3) (s : State) : State :=
  if !s.mayRelease then s
  else
    let bad := decide (straps.toNat % 4 = 3)
    let s1 : State := { s with
      pwr := { s.pwr with inReset := false, phase := 1, lockout := false, straps := straps, stopped := bad, fail := if bad then 1 else 0 }
      flt := { s.flt with errnSw := bad } }
    s1.flushAon

/-! ## Phases P1 and P2 (R365, R387, R389, R390) -/

/-- Straps 0b01 fall back to the HSP, where the ROM serves; others stop (R390 code 3). -/
def State.noImage (code : Nat) (s : State) : State :=
  if s.pwr.straps.toNat % 4 = 1 then { s with pwr := { s.pwr with phase := 2, rom := true, fail := code } }
  else { s with pwr := { s.pwr with phase := 2, stopped := true, fail := code }, flt := { s.flt with errnSw := true } }

/-- The time base set from the calendar (R56). -/
def State.timeFromCalendar (s : State) : State :=
  if s.aon.calValid then
    State.setTime (((s.aon.utcSec : Int) + s.aon.utcofs).toNat * 1000000000) { s with tim := { s.tim with state := .coarse, calSet := true } }
  else State.setTime 0 { s with tim := { s.tim with state := .unset } }

/-- STARTUP_P1_COMPLETE: the core self-test, the time base, and the flash's directory that P2 begins with. -/
def doP1 (cores : List Bool) (f : FlashScan) (s : State) : State :=
  if s.pwr.phase ≠ 1 ∨ s.pwr.stopped ∨ ¬ s.comaUp then s
  else
    let pass := (List.range 3).map (fun i => nth false cores i)
    let s1 := State.timeFromCalendar (State.scanFlash f { s with core := { s.core with coma := coreAssign 2 true pass } })
    if s.pwr.straps.toNat % 4 = 2 then { s1 with pwr := { s1.pwr with phase := 2, rom := true } }
    else if !flashUsable f then s1.noImage 2
    else match s1.upd.dir with
    | none => s1.noImage 3
    | some _ => { s1 with pwr := { s1.pwr with phase := 2 } }

/-- The image in a half's slot verifies (R390). -/
def State.slotOk (h : Half) (b : Bool) (s : State) : Bool := imageOk s.keys.vendor h (imageIn ((s.region (slotAt h b)).getD []))

/-- STARTUP_P2_COMPLETE: the Coma image read from the active slot, or from the other, where it verifies (R331, R390 code 4). -/
def doP2 (active other : List Byte) (s0 : State) : State :=
  match s0.upd.dir with
  | none => s0
  | some d =>
    let s := (s0.readRegion (slotAt .coma d.comaB) active).readRegion (slotAt .coma (!d.comaB)) other
    let activeOk := s.slotOk .coma d.comaB
    let otherOk := s.slotOk .coma (!d.comaB)
    if s0.pwr.phase ≠ 2 ∨ s0.pwr.rom ∨ s0.pwr.stopped ∨ s0.pwr.fw ∨ ¬ s0.comaUp then s0
    else if activeOk || otherOk then
      let b := if activeOk then d.comaB else !d.comaB
      let s1 : State := { s with pwr := { s.pwr with cslot := b, nslot := d.nucB, fail := if activeOk then 0 else 4 } }
      (s1.setVer .coma (if b then d.verCB else d.verCA)).fwStart
    else s.noImage 4

/-! ## Phase P3 (R389-R391) and the table set (R388) -/

/-- The runs of a table set's body: table, offset, words. -/
def tsetRuns : Nat → List Word → List (Nat × (Nat × List Word))
  | 0, _ => []
  | f + 1, w :: n :: r => (bits w 31 24, (bits w 23 0, r.take n.toNat)) :: tsetRuns f (r.drop n.toNat)
  | _, _ => []

/-- A run that TBL.WRITE would accept. -/
def runFits (r : Nat × (Nat × List Word)) : Bool := decide (r.1 ≠ 5) && decide (r.2.1 + r.2.2.length ≤ tblCap r.1) && decide (0 < tblCap r.1)

/-- The table set loaded as TBL.WRITE would load it and committed at once, whole or not at all (R46, R388); a bad CRC loads nothing and marks
it invalid in the directory (R390 code 8). -/
def State.loadTset (len : Nat) (s : State) : State :=
  let bs := ((s.region tsetAt).getD []).take len
  let u : Upd := { Upd.reset with data := bs, len := bs.length }
  if u.kind ≠ 3 ∨ ¬ u.good s.keys.vendor .nucleus then { s.tsetInvalid with pwr := { s.pwr with fail := 8 } }
  else
    let ws := wordsOf (bs.drop 256)
    let runs := (tsetRuns ws.length ws).filter runFits
    let ids := (List.range 10).filter (fun id => runs.any (fun r => r.1 == id))
    let v : View := fun id => (runs.filter (fun r => r.1 == id)).foldl (fun m r => bankWrite m r.2.1 r.2.2) (s.bank id).active
    if ids.all (fun id => s.checkTable v id == codeOk) then s.adopt ids v else s

/-- ALM_Pp_CFG reloaded from the Coma mirrors (R244, R407). -/
def State.pinsReload (s : State) : State := (List.range 8).foldl (fun (s : State) p => s.putRw .nucleus (aPin p 0) (s.pin p).mirror) s

/-- The Nucleus half's slots as start-up finds them; in an HSP boot none is read (R389, R390). -/
def State.readNucleus (n : NucleusStart) (s : State) : State :=
  if s.pwr.hspBoot then s
  else (s.readRegion (slotAt .nucleus s.pwr.nslot) n.active).readRegion (slotAt .nucleus (!s.pwr.nslot)) n.other

/-- The Nucleus half out of reset: cores, tiles, pin configurations, the running image. -/
def State.nucleusOut (n : NucleusStart) (s : State) : State :=
  let ok := s.pwr.hspBoot || s.slotOk .nucleus s.pwr.nslot
  let b := if ok then s.pwr.nslot else !s.pwr.nslot
  let pass := (List.range 5).map (fun i => nth false n.cores i)
  let s1 : State := { s with
    pwr := { s.pwr with nrst := false, nslot := if s.pwr.hspBoot then s.pwr.nslot else b, fail := if ok then s.pwr.fail else 6 }
    core := { s.core with nuc := coreAssign 4 true pass }
    aln := { s.aln with spares := 4 - n.badTiles } }
  let s2 := match s.upd.dir with
    | some d => if s.pwr.hspBoot then s1 else s1.setVer .nucleus (if b then d.verNB else d.verNA)
    | none => s1
  s2.pinsReload

/-- The Nucleus half in service: the link trained, the estimators of the tables kept (R172). -/
def State.nucleusUp (n : NucleusStart) (s : State) : State :=
  let s1 := s.nucleusOut n
  ({ s1 with pwr := { s1.pwr with mode := .service, trans := .none } } : State).tlkTrained.phxSync

/-- The Nucleus half after a reset of its own: in the power state that the device is in, which it does not change (R28). -/
def State.nucleusBack (n : NucleusStart) (s : State) : State :=
  let s1 := s.nucleusOut n
  if s1.pwr.mode = .service then s1.tlkTrained.phxSync.drivePins else s1

/-- Why the Nucleus half stays in reset (R390 codes 5, 6, 7); 0 where it starts. In an HSP boot its image came over the HSP, verified, and stays in
staging (DESIGN CHOICE, log 150). -/
def State.nucFailure (n : NucleusStart) (s : State) : Nat :=
  if !n.trained then 5
  else if !s.pwr.hspBoot && !s.slotOk .nucleus false && !s.slotOk .nucleus true then 6
  else if 4 < n.badTiles then 7 else 0

/-- The Nucleus half stays in reset under a failure code. -/
def State.nucleusFails (code : Nat) (s : State) : State :=
  let s1 : State := { s with pwr := { s.pwr with nrst := true, fail := code, held := decide (code = 6) } }
  if code = 5 then s1.lasting .coma 11 else s1

/-- STARTUP_P3_COMPLETE (R389, R390): P4 begins; with the step made already, P5 (R58). -/
def doP3 (n : NucleusStart) (s : State) : State :=
  if s.pwr.phase ≠ 3 ∨ ¬ s.pwr.fw ∨ s.pwr.grave ∨ s.pwr.held ∨ s.pwr.fail = 5 ∨ s.pwr.fail = 7 ∨ ¬ s.comaUp then s
  else if (s.readNucleus n).nucFailure n ≠ 0 then (s.readNucleus n).nucleusFails ((s.readNucleus n).nucFailure n)
  else
    let s1 := (s.readNucleus n).nucleusUp n
    let s2 := match s.upd.dir with
      | some d => if d.tsetValid && d.autoload && !s.pwr.hspBoot then (s1.readRegion tsetAt n.tset).loadTset d.tsetLen else s1
      | none => s1
    let s3 : State := { s2 with pwr := { s2.pwr with phase := 4 } }
    let s4 := (s3.latchC 0x000030 0).drivePins
    if s4.tim.stepped then s4.toP5 else s4

/-- HALF_RESET_COMPLETE (R397): P3 again, without the table set; the record is one of the Coma half. -/
def doHalfReset (n : NucleusStart) (s : State) : State :=
  if !s.pwr.nrst || s.pwr.grave || s.pwr.held || decide (s.pwr.phase < 4) || !s.comaUp then s
  else if (s.readNucleus n).nucFailure n ≠ 0 then
    ((s.readNucleus n).nucleusFails ((s.readNucleus n).nucFailure n)).completeOp .coma 0x0D04 4 eState
  else
    let s1 := (s.readNucleus n).nucleusBack n
    (((s1.bumpN 0x0B0058 1).bumpN 0x0B0054 1).latchN 0x0B0008 4).completeOp .coma 0x0D04 4 codeOk

/-! ## Supplies (R27, R28, R310, R311, R345, R423, R425) -/

/-- VDDIO_BELOW_1V66: writes into the always-on domain locked out, chip reset. -/
def doBelow166 (s : State) : State :=
  let s1 := if s.pwr.main then s.assertReset else s
  { s1 with pwr := { s1.pwr with lockout := true, vddioLow := true, timer := false } }

/-- AON_EVT.backup (R318): the domain runs from VBAT. -/
def State.ranBackup (vbat : Bool) (s : State) : State := if vbat then s.latchC 0x050008 8 else s

/-- Main power is gone: the domain runs from VBAT, or from nothing, and loses what it holds. The pulse of ERR_N ends. -/
def State.mainLost (s : State) : State :=
  if !s.pwr.main then s
  else
    let s1 := doBelow166 s
    { s1 with
      pwr := { s1.pwr with main := false, onVbat := true, mode := (if s.pwr.vbat then .backup else .off), tap := .idcode }
      flt := { s1.flt with pulse := false }
      aon := { s1.aon with retLatch := s1.aon.retLatch || !s.pwr.vbat } }.ranBackup s.pwr.vbat

/-- VDDIO_ABOVE_1V70: the 8 ms timer runs, or runs anew. -/
def doAbove170 (s : State) : State := if s.pwr.vddioLow then { s with pwr := { s.pwr with timer := true } } else s

/-- VDDIO_RETURN_TIMER: the domain returns to VDDIO, the cycle counts, a retention loss clears the domain; phase P0 ends. -/
def doReturnTimer (s : State) : State :=
  if !s.pwr.timer then s
  else
    let s1 : State := { s with
      pwr := { s.pwr with timer := false, vddioLow := false, main := true, onVbat := false, mode := .standby, phase := 0 }
      aon := { s.aon with pwrCyc := sat 24 (s.aon.pwrCyc + 1) } }
    if s.aon.retLatch then
      let s2 := s1.retentionClear
      { s2 with tim := Tim.reset s2.aon.utcofs }
    else s1

/-- VDDIO_BELOW_1V0: the grave latch clears (R345). -/
def doBelow100 (s : State) : State :=
  let s1 := s.mainLost
  { s1 with pwr := { s1.pwr with grave := false, nrst := false }, attn := Attn.reset }

/-- VBAT_RISE: OFF to BACKUP (R28); nothing was kept, so the domain is at its Reset values and its calendar invalid (R300, R308). -/
def doVbatRise (s : State) : State :=
  let s1 : State := { s with pwr := { s.pwr with vbat := true } }
  if s.pwr.mode = .off then ({ s1 with pwr := { s1.pwr with mode := .backup } }.aonClear).ranBackup true else s1

/-- VBAT_LOW: BACKUP to OFF (R28). -/
def doVbatLow (s : State) : State :=
  let off := decide (s.pwr.mode = .backup)
  { s with pwr := { s.pwr with vbat := false, mode := if off then .off else s.pwr.mode }, aon := { s.aon with retLatch := s.aon.retLatch || off } }

/-- RAIL_BELOW_RESET and RAIL_GOOD (R423); the test access port starts in Test-Logic-Reset when VDD_C returns (R420). -/
def doRailLow (r : Rail) (s : State) : State :=
  let s1 := if s.pwr.main then s.assertReset else s
  { s1 with pwr := { s1.pwr with low := r :: s1.pwr.low.filter (fun x => x != r), tap := if r = .vddC then .idcode else s1.pwr.tap } }
def doRailGood (r : Rail) (s : State) : State := { s with pwr := { s.pwr with low := s.pwr.low.filter (fun x => x != r) } }

/-- RST_N_LOW (R348): 1 us or more resets the chip; shorter pulses are ignored. -/
def doRstLow (ns : Nat) (s : State) : State :=
  if ns < 1000 then s
  else
    let s1 := if s.pwr.main then s.assertReset else s
    { s1 with pwr := { s1.pwr with rstN := false } }

/-- Instructions that take control of the balls while RST_N is low (R420). -/
def TapInstr.drives : TapInstr → Bool
  | .extest | .clamp | .highz | .extestPulse | .extestTrain => true
  | _ => false

/-- RST_N_RISE (R420): a ball-driving instruction gives way to IDCODE. -/
def doRstRise (s : State) : State :=
  { s with pwr := { s.pwr with rstN := true, tap := if s.pwr.tap.drives then .idcode else s.pwr.tap } }

/-! ## Samples and deadlines (R338, R339, R367, R380, R409, R423) -/

/-- The bin of a die temperature in 1/16 degC: 16 bins of 10 degC from -40 degC (R353). -/
def tjBin (t : Int) : Nat := (if t < -640 then 0 else ((t + 640) / 160).toNat) |> Nat.min 15

/-- TJ_SAMPLE: the half's temperature, its extremes since read, the recorder's histogram, and the thermal sources. -/
def doTj (h : Half) (t : Int) (s : State) : State :=
  let c := t.fdiv 16
  let wide := fun (x : Option (Int × Int)) => match x with
    | some (lo, hi) => some (if c < lo then c else lo, if hi < c then c else hi)
    | none => some (c, c)
  let s1 : State := { s with sys := { s.sys with
    tjC := (match h with | .coma => t | .nucleus => s.sys.tjC)
    tjN := (match h with | .coma => s.sys.tjN | .nucleus => t)
    tjxC := (match h with | .coma => wide s.sys.tjxC | .nucleus => s.sys.tjxC)
    tjxN := (match h with | .coma => s.sys.tjxN | .nucleus => wide s.sys.tjxN) } }
  let m := match h with | .coma => 0x0010 | .nucleus => 0x0011
  let s2 := (((s1.stageAdd m 0 (tjBin t) 1).stageAdd m 0 16 1).stageAdd m 0 17 t).stageExt m 0 0 t
  match h with
  | .coma => (s2.condition .coma 4 (decide (1760 < t))).condition .coma 5 (decide (2000 < t))
  | .nucleus => (s2.condition .nucleus 2 (decide (1760 < t))).condition .nucleus 3 (decide (2000 < t))

/-- Reset threshold and operating range of the eight rails, mV in tenths (R422, R423). -/
def railLimits : List (Nat × (Nat × Nat)) :=
  [(6800, (7280, 7730)), (7200, (7760, 8240)), (7700, (8250, 8750)), (8100, (8730, 9270)), (10800, (11640, 12360)),
   (16600, (17100, 18900)), (29000, (31350, 34650)), (16000, (17100, 18900))]

/-- A rail between its reset threshold and its operating minimum, or a core rail above its operating maximum (R338, R423). -/
def railOut (k mv : Nat) : Bool :=
  let (rst, (lo, hi)) := nth (0, (0, 0)) railLimits k
  decide (k < 8) && ((decide (rst ≤ 10 * mv) && decide (10 * mv < lo)) || (decide (k < 5) && decide (hi < 10 * mv)))

/-- VMON_SAMPLE: a supply's measurement, the recorder's extremes, and F_SYS_RAIL. -/
def doVmon (k mv : Nat) (s : State) : State :=
  if 10 ≤ k then s
  else
    let s1 : State := { s with sys := { s.sys with vmon := at' s.sys.vmon k (fun _ => mv) } }
    (s1.stageExt 0x0020 0 k mv).condition .coma 3 ((List.range 8).any (fun i => railOut i (nth 0 s1.sys.vmon i)))

/-- SCRUB_PASS_DEADLINE (R380): the pass in progress is late, and the next starts at once. -/
def doScrubLate (h : Half) (s : State) : State :=
  let s1 := s.mapScrub h (fun x => { x with mins := 0 })
  match h with | .coma => s1.faultC 34 | .nucleus => s1.faultN 8

/-- CORE_ITEM_WATCHDOG (R367): a watchdog fault of an active core. -/
def doCoreWatchdog (h : Half) (n : Nat) (s : State) : State :=
  if nth .retired (s.core.list h) n ≠ .active then s
  else match h with | .coma => s.faultC (37 + n) | .nucleus => s.faultN (12 + n)

/-- A block reset ends (R342, R413): the domain is no longer held; a core's self-test ends well or badly, which is a free value (log 12). The
commands that waited are run by the caller. -/
def State.blockDone (d : ResetDomain) (s : State) : State :=
  if !s.flt.held.elem d then s
  else
    let s1 : State := { s with flt := { s.flt with held := s.flt.held.filter (fun x => x != d) } }
    match d with
    | .core h n =>
      if !s1.core.testing.elem (h, n) then s1
      else
        let s2 : State := { s1 with free := s1.free + 1, core := { s1.core with testing := s1.core.testing.filter (fun x => x != (h, n)) } }
        if bit s1.freeWord 0 then s2.mapCores h (setCore n .spare) else s2.latch h 0x000030 8
    | _ => s1

/-! ## Registers (R409) -/

def bitsWhere (c : CoreState) (l : List CoreState) : Nat := sumN (l.zipIdx.map (fun x => if x.1 = c then 2 ^ x.2 else 0))

/-- SYS_x_CORES. -/
def State.coresWord (h : Half) (s : State) : Word :=
  let l := s.core.list h
  w32 (bitsWhere .active l + 256 * bitsWhere .spare l + 65536 * bitsWhere .retired l + 2 ^ 24 * b2n (decide (0 < s.spareCount h)))

/-- SYS_x_TJX as it reads: nothing sampled since the last read reads 0 (log 16). -/
def tjxWord (x : Option (Int × Int)) : Word := match x with | some (lo, hi) => w32 (twos 16 lo + 65536 * twos 16 hi) | none => 0

/-- SYS_x_SCRUB (R409): how far the pass has come is a free value (log 41). -/
def State.scrubWord (h : Half) (s : State) : Word :=
  let x := s.scrub h
  w32 (Nat.min 1000 (Config.scrubbed (decide (h = .nucleus)) x.passes s.tim.now) + 65536 * x.passes)

/-- The computed registers of SYS_C and SYS_N. -/
def State.sysReg (h : Half) (a : Nat) (s : State) : Option Word :=
  let c := decide (h = .coma)
  if a = 0x00 then some 0x8820
  else if a = 0x04 then some (w32 (0xB0 + 256 * b2n (!c)))
  else if a = 0x08 then some (hiW Config.serial.toNat)
  else if a = 0x0C then some (loW Config.serial.toNat)
  else if a = 0x10 then some (match h with | .coma => s.sys.verC | .nucleus => s.sys.verN)
  else if a = 0x18 ∧ c then some (w32 ((if s.pwr.mode = .service then 3 else 2) + 4 * b2n (decide (s.pwr.trans ≠ .none)) + 8 * b2n s.pwr.grave + 16 * b2n s.pwr.nrst))
  else if a = 0x1C ∧ c then some (w32 (s.pwr.phase + 8 * b2n s.pwr.hspBoot + 16 * b2n s.pwr.cslot + 32 * b2n s.pwr.nslot + 256 * s.pwr.fail + 65536 * s.pwr.straps.toNat))
  else if a = 0x20 then some (s.coresWord h)
  else if a = 0x24 then some (wInt (match h with | .coma => s.sys.tjC | .nucleus => s.sys.tjN))
  else if a = 0x28 then some (tjxWord (match h with | .coma => s.sys.tjxC | .nucleus => s.sys.tjxN))
  else if a = 0x2C then some (s.scrubWord h)
  else if 0x40 ≤ a ∧ a ≤ 0x64 ∧ c then some (w32 (nth 0 s.sys.vmon ((a - 0x40) / 4)))
  else if c then s.updRegC a
  else none

/-! ## The table's rows -/

/-- VDDIO_BELOW_1V66 (R310). -/
def execVddioBelow1v66 (s : State) : Host.Outcome State Fault Refusal :=
  .next (State.settled (doBelow166 s))

/-- VDDIO_BELOW_1V60 (R310). -/
def execVddioBelow1v60 (s : State) : Host.Outcome State Fault Refusal :=
  .next (State.settled (s.mainLost))

/-- VDDIO_ABOVE_1V70 (R310). -/
def execVddioAbove1v70 (s : State) : Host.Outcome State Fault Refusal :=
  .next (State.settled (doAbove170 s))

/-- VDDIO_RETURN_TIMER (R310). -/
def execVddioReturnTimer (s : State) : Host.Outcome State Fault Refusal :=
  .next (State.settled (doReturnTimer s))

/-- VDDIO_BELOW_1V0 (R345). -/
def execVddioBelow1v0 (s : State) : Host.Outcome State Fault Refusal :=
  .next (State.settled (doBelow100 s))

/-- VBAT_RISE (R28). -/
def execVbatRise (s : State) : Host.Outcome State Fault Refusal :=
  .next (State.settled (doVbatRise s))

/-- VBAT_LOW (R28). -/
def execVbatLow (s : State) : Host.Outcome State Fault Refusal :=
  .next (State.settled (doVbatLow s))

/-- RAIL_BELOW_RESET (R423). -/
def execRailBelowReset (r : Rail) (s : State) : Host.Outcome State Fault Refusal :=
  .next (State.settled (doRailLow r s))

/-- RAIL_GOOD (R423). -/
def execRailGood (r : Rail) (s : State) : Host.Outcome State Fault Refusal :=
  .next (State.settled (doRailGood r s))

/-- RST_N_LOW (R348). -/
def execRstNLow (ns : Nat) (s : State) : Host.Outcome State Fault Refusal :=
  .next (State.settled (doRstLow ns s))

/-- RST_N_RISE (R420). -/
def execRstNRise (s : State) : Host.Outcome State Fault Refusal :=
  .next (State.settled (doRstRise s))

/-- CHIP_RESET_ASSERT (R344). -/
def execChipResetAssert (s : State) : Host.Outcome State Fault Refusal :=
  .next (State.settled (doChipReset s))

/-- CHIP_RESET_RELEASE (R389). -/
def execChipResetRelease (straps : BitVec 3) (s : State) : Host.Outcome State Fault Refusal :=
  .next (State.settled (doChipRelease straps s))

/-- STARTUP_P1_COMPLETE (R389). -/
def execStartupP1Complete (cores : List Bool) (flash : FlashScan) (s : State) : Host.Outcome State Fault Refusal :=
  .next (State.settled (doP1 cores flash s))

/-- STARTUP_P2_COMPLETE (R390). -/
def execStartupP2Complete (active : List Byte) (other : List Byte) (s : State) : Host.Outcome State Fault Refusal :=
  .next (State.settled (doP2 active other s))

/-- STARTUP_P3_COMPLETE (R389). -/
def execStartupP3Complete (n : NucleusStart) (s : State) : Host.Outcome State Fault Refusal :=
  .next (State.settled ((doP3 n s).judge))

/-- POWER_TRANSITION_COMPLETE (R28). -/
def execPowerTransitionComplete (s : State) : Host.Outcome State Fault Refusal :=
  .next (State.settled ((whenUp .coma doPowerDone s).judge))

/-- CORE_ITEM_WATCHDOG (R367). -/
def execCoreItemWatchdog (hf : Half) (core : Nat) (s : State) : Host.Outcome State Fault Refusal :=
  .next (State.settled (whenUp hf (doCoreWatchdog hf core) s))

/-- SCRUB_PASS_DEADLINE (R380). -/
def execScrubPassDeadline (hf : Half) (s : State) : Host.Outcome State Fault Refusal :=
  .next (State.settled (whenUp hf (doScrubLate hf) s))

/-- TJ_SAMPLE (R409). -/
def execTjSample (hf : Half) (t16 : Int) (s : State) : Host.Outcome State Fault Refusal :=
  .next (State.settled (whenUp hf (doTj hf t16) s))

/-- VMON_SAMPLE (R409). -/
def execVmonSample (k : Nat) (mv : Nat) (s : State) : Host.Outcome State Fault Refusal :=
  .next (State.settled (whenUp .coma (doVmon k mv) s))

/-- HALF_RESET_COMPLETE (R397). -/
def execHalfResetComplete (n : NucleusStart) (s : State) : Host.Outcome State Fault Refusal :=
  .next (State.settled ((doHalfReset n s).judge))

end Sys2Proof.Machine
end

