-- ==== Sys2Proof/Machine/Flt.lean ====
section
/-! DEFINITION. The rows of the fault collectors (R335-R350). -/

namespace Sys2Proof.Machine

/-! ## Occurrences (R340) and errors of the stores (R147, R149, R151) -/

/-- The lane word of a source's channel at a frame key, which its tile cannot correct: during a migration it reads V = 0 (R147); otherwise the
spec states no value for it, so it is a free one (log 148). -/
def State.loseLane (id key ch : Nat) (s : State) : State :=
  let w := s.freeWord
  let f := fun (l : Lane) => if s.aln.repair then (l.1, l.2 &&& ~~~flagV) else (w, l.2)
  State.mapSrcSt id (fun x => { x with slots := x.slots.map (fun t => if t.key = key then { t with lanes := at' t.lanes ch f } else t) })
    { s with free := s.free + 1 }

/-- An uncorrectable error of the alignment store: counted, and F_ALN_TILE for its tile where ALN_CTL.unc_tile says so (R149, R151). -/
def State.tileError (s : State) : State :=
  let s1 := (s.bumpN 0x030018 1).stageAdd 0x0060 0 15 1
  if bit (s.rwN 0x030000) 0 then s1.fault .nucleus 21 else s1

/-- A corrected error, the n-th of its hour: counted where a register counts it, and past the limit the source that has one (R149, R151, R338). -/
def State.correctedError (h : Half) (i n : Nat) (s : State) : State :=
  match h with
  | .coma => if i = 33 then (if 64 < n then (s.bumpC 0x000080 1).fault .coma 33 else s.bumpC 0x000080 1) else s.fault .coma i
  | .nucleus =>
    if i = 7 then (if 64 < n then (s.bumpN 0x000080 1).fault .nucleus 7 else s.bumpN 0x000080 1)
    else if i = 21 ∨ i = 22 then
      let th := bits (s.rwN 0x030020) 15 0
      if th ≠ 0 ∧ th < n then (s.bumpN 0x030014 1).fault .nucleus 21 else s.bumpN 0x030014 1
    else if 26 ≤ i ∧ i ≤ 57 then s.bumpN 0x060048 1
    else s.fault .nucleus i

/-- The condition of a source arises: for the tiles of the alignment store an error of that store, for every other source the fault itself. -/
def State.arises (h : Half) (n : Nat) (s : State) : State := if h = .nucleus ∧ n = 21 then s.tileError else s.fault h n

/-- FAULT_OCCURRENCE (R340): a condition arises for a moment, arises and stays, or a present one ends; an error of a store; or a cycle with more
than one occurrence (R343, R344, R347). -/
def doFaultOccurrence (h : Half) (n : Nat) (c : FaultCond) (s : State) : State :=
  if fltCount h ≤ n then s
  else match c with
  | .ends => s.mapSrc h n (fun x => { x with present := false })
  | .moment => if s.halfUp h then s.arises h n else s
  | .stays => if s.halfUp h then (s.mapSrc h n (fun x => { x with present := true })).arises h n else s
  | .cycle forced others =>
    ({ half := h, idx := n, real := true, forced := forced } :: others.filter (fun o => decide (o.idx < fltCount o.half))) |> fun os => s.collectCycle os
  | .corrected k => if s.halfUp h then s.correctedError h n k else s
  | .uncorrectable id key ch => if !s.halfUp h then s else if h = .nucleus ∧ n = 21 then (s.loseLane id key ch).tileError else s.fault h n

/-! ## The table's rows -/

/-- FLT_READ (R350). -/
def execFltRead (h : Hdr) (ps : List Word) (s : State) : Host.Outcome State Fault Refusal :=
  .next (State.settled (s.serve 0x0C00 h ps cmdFltRead))

/-- FLT_CLEAR (R340). -/
def execFltClear (h : Hdr) (ps : List Word) (s : State) : Host.Outcome State Fault Refusal :=
  .next (State.settled (s.serve 0x0C01 h ps cmdFltClear))

/-- FLT_FORCE (R343). -/
def execFltForce (h : Hdr) (ps : List Word) (s : State) : Host.Outcome State Fault Refusal :=
  .next (State.settled (s.serve 0x0C02 h ps cmdFltForce))

/-- FLT_ERRPIN (R346). -/
def execFltErrpin (h : Hdr) (ps : List Word) (s : State) : Host.Outcome State Fault Refusal :=
  .next (State.settled (s.serve 0x0C03 h ps cmdFltErrpin))

/-- FAULT_OCCURRENCE (R340). -/
def execFaultOccurrence (hf : Half) (idx : Nat) (c : FaultCond) (s : State) : Host.Outcome State Fault Refusal :=
  .next (State.settled ((doFaultOccurrence hf idx c s).judge))

/-- FLT_SUPPRESSION_WINDOW_END (R342). -/
def execFltSuppressionWindowEnd (d : ResetDomain) (s : State) : Host.Outcome State Fault Refusal :=
  .next (State.settled (doWindowEnd d s))

/-- ERRN_PULSE_END (R346). -/
def execErrnPulseEnd (s : State) : Host.Outcome State Fault Refusal :=
  .next (State.settled (doErrnPulseEnd s))

/-- ERRN_PIN_SAMPLE (R338). -/
def execErrnPinSample (level : Bool) (s : State) : Host.Outcome State Fault Refusal :=
  .next (State.settled (whenUp .coma (doErrnSample level) s))

end Sys2Proof.Machine
end

