-- ==== Sys2Proof/Machine/RegMap.lean ====
section
/-! DEFINITION. The register map: which addresses are registers, their access types, what each reads as, the windows that
select registers fill, and what a read clears (R10, R403-R413 and the register tables of every chapter). -/

namespace Sys2Proof.Machine

/-! ## Which addresses are registers (R403-R405) -/

/-- The address lies in a run of n registers from a base. -/
def inRun (base n a : Nat) : Bool := decide (base ≤ a) && decide (a < base + 4 * n)
/-- The address lies in one of m sub-blocks of n registers, the first at a base, a stride apart. -/
def inSubs (base stride m n a : Nat) : Bool := (inst base stride m (4 * n) a).isSome

def isRegC (a : Nat) : Bool :=
  if a < 0x020000 then inRun 0 64 a || inRun 0x010000 24 a || inSubs 0x010080 0x20 9 8 a
  else if a < 0x040000 then inSubs 0x020000 0x800 4 112 a || inSubs 0x030000 0x100 4 48 a
  else if a < 0x050000 then inRun 0x040000 64 a || inSubs 0x040400 0x400 2 96 a
  else if a < 0x060000 then inRun 0x050000 96 a || inRun 0x058000 32 a || inSubs 0x058080 8 64 2 a
  else if a < 0x070000 then
    inRun 0x060000 32 a || inSubs 0x060080 0x80 8 28 a || inRun 0x060480 32 a || inRun 0x068000 32 a || inSubs 0x068080 0x80 8 24 a
  else if a < 0x080000 then inRun 0x070000 64 a || inSubs 0x070100 0x10 256 4 a || inSubs 0x078000 0x40 4 12 a
  else inRun 0x080000 32 a || inSubs 0x080080 0x10 96 3 a || inRun 0x090000 80 a || inRun 0x0A0000 48 a || inRun 0x0B0000 32 a

def isRegN (a : Nat) : Bool :=
  if a < 0x020000 then inRun 0 64 a || inRun 0x010000 24 a || inSubs 0x010080 0x20 9 8 a
  else if a < 0x040000 then inRun 0x020000 160 a || inRun 0x028000 48 a || inRun 0x030000 64 a || inSubs 0x030400 0x100 8 48 a
  else if a < 0x060000 then
    inRun 0x040000 64 a || inRun 0x040100 64 a || inRun 0x040200 64 a || inRun 0x050000 64 a || inRun 0x050100 32 a ||
      inRun 0x050180 32 a || inRun 0x050200 96 a
  else if a < 0x070000 then inRun 0x060000 64 a || inSubs 0x060100 0x80 32 28 a
  else if a < 0x080000 then
    inRun 0x070000 64 a || inSubs 0x070100 0x20 8 8 a || inSubs 0x070200 0x20 16 8 a || inRun 0x070400 64 a || inRun 0x078000 32 a ||
      inSubs 0x078080 0x10 64 3 a
  else inRun 0x080000 64 a || inSubs 0x080100 0x10 32 4 a || inRun 0x090000 32 a || inSubs 0x090080 0x10 64 3 a || inRun 0x0A0000 48 a ||
    inRun 0x0B0000 64 a

/-- The byte address is one of the half's registers, aligned (R45, R403). -/
def isReg (h : Half) (a : Nat) : Bool := decide (a % 4 = 0) && (match h with | .coma => isRegC a | .nucleus => isRegN a)

/-! ## Access types (R10): the RW bits and the W1C bits of each register -/

/-- The word at a key of a short table, 0 where it lists none. -/
def pick (k : Nat) (l : List (Nat × Word)) : Word := (l.lookup k).getD 0

def allOnes : Word := 0xFFFFFFFF

/-- RW bits of the SCH registers (R383). -/
def schMask (h : Half) (o : Nat) : Word :=
  pick o [(0, match h with | .coma => 0x107 | .nucleus => 0x11F), (4, 0xFFFF), (8, 0xFFFF), (0xC, allOnes), (0x10, allOnes),
    (0x14, allOnes), (0x18, allOnes), (0x1C, 0xFFFF), (0x20, 0xFFFF)]

/-- RW bits of FLT_x_Sn_CFG (R350): BRST and CRST are RSV for class C4. -/
def fltMask (h : Half) (n : Nat) : Word := if fltClass h n = 4 then 0x13 else 0x1F

/-- RW bits of a port's registers (R102). -/
def prtMask (o : Nat) : Word :=
  if 0x18 ≤ o ∧ o ≤ 0x28 then allOnes
  else if 0x34 ≤ o ∧ o ≤ 0x40 then 0x8FFF8FFF
  else if 0x50 ≤ o ∧ o ≤ 0x6C then allOnes
  else pick o [(0, 0x7F), (4, 0x3FFF), (0x10, 0xFFFF), (0x14, allOnes), (0x2C, 0x7FFF), (0x30, allOnes), (0x44, 0xFFFF01FF),
    (0x48, allOnes), (0x4C, 0xFF)]

/-- RW bits of the Coma half's registers. -/
def rwMaskC (a : Nat) : Word :=
  if a < 0x020000 then (if a = 0x38 then allOnes else 0)
  else if a < 0x030000 then (match inst 0x020000 0x800 4 0x1C0 a with | some (_, o) => prtMask o | none => 0)
  else if a < 0x040000 then
    match inst 0x030000 0x100 4 0xC0 a with
    | some (n, o) => pick o [(0, if n = 0 then 0xFF07 else 1), (0xC, 0xFFFF00FF)]
    | none => 0
  else if a < 0x050000 then
    match inst 0x040400 0x400 2 0x180 a with
    | some (_, o) => pick o [(0, 0xFFFF1F), (4, 0x7FFFF), (8, 0xFFFFF), (0xC, 0x1FF), (0x20, allOnes)]
    | none =>
      if 0x040040 ≤ a ∧ a ≤ 0x04005C then allOnes
      else pick a [(0x040000, 0xFF0F), (0x040008, 0xFFFF), (0x04000C, allOnes), (0x040014, 0xFFFF), (0x040024, 0xFFFFFF03),
        (0x04002C, 0x3FF), (0x040060, 0xF3)]
  else if a < 0x060000 then
    match inst 0x058080 8 64 8 a with
    | some (k, o) => if o = 0 then (if k = 0 then 0xFFFF else 0x1FFFF) else 0
    | none => pick a [(0x050000, 0x3F), (0x05002C, 0xFFFF0FFF), (0x050030, allOnes), (0x058000, 0x1FFF)]
  else if a < 0x070000 then pick a [(0x060000, 0x7F), (0x06000C, allOnes), (0x060014, allOnes), (0x060018, 0x3F)]
  else if a < 0x078000 then
    match inst 0x070100 0x10 256 0x10 a with
    | some (_, o) => pick o [(0, 0xFFFF00FF), (4, 0x03FFFFFF), (8, allOnes), (0xC, allOnes)]
    | none => pick a [(0x070000, 0xFF), (0x070018, 0xFF)]
  else if a < 0x080000 then
    match inst 0x078000 0x40 4 0x30 a with
    | some (_, o) => pick o [(0, 0x7FFFF), (4, allOnes), (8, allOnes)]
    | none => 0
  else if a < 0x090000 then
    match inst 0x080080 0x10 96 0xC a with
    | some (n, o) => if o = 0 then fltMask .coma n else 0
    | none => if a = 0x080000 then 3 else 0
  else if a < 0x0A0000 then pick a [(0x090000, 0xFF03), (0x090014, allOnes), (0x090024, 0x7F)]
  else if a < 0x0B0000 then schMask .coma (a - 0x0A0000)
  else 0

/-- RW bits of the Nucleus half's registers. -/
def rwMaskN (a : Nat) : Word :=
  if a < 0x020000 then (if a = 0x38 then allOnes else 0)
  else if a < 0x030000 then pick a [(0x020000, 0xFF1), (0x020010, 0xFFFF), (0x020014, 0xFFF), (0x028000, 0xFFFF)]
  else if a < 0x040000 then
    match inst 0x030400 0x100 8 0xC0 a with
    | some (_, o) => pick o [(0, 0xFF), (4, 0xFFFFFF0F), (8, 0x7FFFFF01), (0xC, allOnes), (0x10, allOnes), (0x14, allOnes),
        (0x18, allOnes), (0x1C, 0x13F)]
    | none => pick a [(0x030000, 1), (0x030020, 0xFFFF)]
  else if a < 0x050000 then pick a [(0x040000, 0xF7), (0x04000C, 0xFFFF), (0x040010, 0xFFFF), (0x040014, 0xFFF)]
  else if a < 0x060000 then pick a [(0x050000, 1), (0x050004, 0xFF0F1F), (0x05002C, 0xFFFF013F), (0x050034, allOnes), (0x050038, 0x3FFFF)]
  else if a < 0x070000 then
    match inst 0x060100 0x80 32 0x70 a with
    | some (_, o) => pick o [(4, allOnes), (8, allOnes), (0xC, allOnes), (0x10, 0xFF)]
    | none => if a = 0x060000 then 1 else 0
  else if a < 0x078000 then
    match inst 0x070100 0x20 8 0x20 a, inst 0x070200 0x20 16 0x20 a with
    | some (_, o), _ => if o = 0 then 0xFFFF0037 else 0
    | none, some (_, o) => pick o [(0, 0x3FFF), (4, allOnes)]
    | none, none => pick a [(0x070000, 3), (0x07000C, allOnes), (0x070010, allOnes), (0x070014, 0x7F7F), (0x070018, 0xFFF)]
  else if a < 0x080000 then
    match inst 0x078080 0x10 64 0xC a with
    | some (_, o) => if o = 0 then 0xFFFF1FFF else 0
    | none => 0
  else if a < 0x090000 then
    match inst 0x080100 0x10 32 0x10 a with
    | some (_, o) => pick o [(0, 0xFC0007FF), (4, 0x1FFFFFFF), (8, allOnes), (0xC, allOnes)]
    | none => pick a [(0x080000, 0x7F03), (0x080014, 0xFFF), (0x080018, 0xFFFFF), (0x08001C, 0xFF), (0x080020, 0x1F)]
  else if a < 0x0A0000 then
    match inst 0x090080 0x10 64 0xC a with
    | some (n, o) => if o = 0 then fltMask .nucleus n else 0
    | none => if a = 0x090000 then 1 else 0
  else if a < 0x0B0000 then schMask .nucleus (a - 0x0A0000)
  else if a = 0x0B0000 then 2
  else 0

def rwMask (h : Half) (a : Nat) : Word := match h with | .coma => rwMaskC a | .nucleus => rwMaskN a

/-- W1C bits. -/
def w1cMaskC (a : Nat) : Word :=
  if 0x070020 ≤ a ∧ a < 0x070040 then allOnes
  else match inst 0x020000 0x800 4 0x1C0 a, inst 0x030000 0x100 4 0xC0 a with
  | some (_, o), _ => if o = 0xC then 0xFF else 0
  | none, some (_, o) => if o = 8 then 0x7F else 0
  | none, none => pick a [(0x30, 0x1F), (0x010004, 0x7F), (0x040038, 0x3F0), (0x050008, 0x1FF), (0x058008, 0x3F), (0x060008, 0x1FF),
      (0x070004, 1), (0x070008, 0x1F), (0x080008, 0x1F), (0x090008, 0xF), (0x0B0008, 0x3F)]
def w1cMaskN (a : Nat) : Word :=
  pick a [(0x30, 0x1E), (0x010004, 0x7F), (0x020004, 0x3F), (0x030008, 0x7FFFF), (0x040008, 0x3F), (0x05000C, 0x1FF), (0x06000C, 0xFF),
    (0x070008, 0x3F), (0x078000, 0x3F), (0x080008, 0x7F), (0x090008, 0x1F), (0x0B0008, 0x3F)]
def w1cMask (h : Half) (a : Nat) : Word := match h with | .coma => w1cMaskC a | .nucleus => w1cMaskN a

/-! ## Registers that show the block's state -/

/-- HSP_RDY (R50): the Coma scheduler can take a packet: it runs, and fewer packets of the HSP wait than the quota of class 1 (R372). -/
def State.hspRdy (s : State) : Bool :=
  s.accepts 0 && decide ((s.cmd.waiting.filter (fun k => k.hdr.port == 0)).length < bits (s.rwC 0x0A000C) 31 16)

/-- HSP_STAT (R412): no row tells when HSP_CS_N falls and rises, so its level is a free value of the time (log 4). -/
def State.hspStat (s : State) : Word :=
  w32 (b2n s.hspRdy + 2 * b2n (Config.hspSelected s.tim.now) + 4 * b2n (match s.port? 0 with | some c => (match c.q.head with | some (.item _ _) => true | _ => false) | none => false) +
    8 * b2n s.pwr.rom)

def utcWord (u : Int) (valid l61 l59 : Bool) : Word := w32 (twos 16 u + 65536 * b2n valid + 131072 * b2n l61 + 262144 * b2n l59)

/-- TIM (R79). TIM_TREF's 24-bit error in 2^-8 ppb ends near 32.8 ppm, while R54 counts TREF_IN as present up to 50 ppm: the spec does not say
what a larger error reads; the field wraps (DESIGN CHOICE, log 127). -/
def State.timReg (o : Nat) (s : State) : Option Word :=
  let t := s.tim
  match o with
  | 0x04 => some s.timStat
  | 0x10 => some (wInt t.rate)
  | 0x18 => some (w32 s.hoSec)
  | 0x1C => some (utcWord t.utc t.utcValid t.leap61 t.leap59)
  | 0x20 => some (w32 t.leapInst)
  | 0x28 => some (wInt t.ppsOfs)
  | 0x30 => some (w32 (b2n t.tref + 256 * twos 24 t.trefErr))
  | 0x34 => some (wInt (satI 32 s.disagreement))
  | _ => none

/-- TIM_x (R79). -/
def State.domReg (d : Dom) (o : Nat) (s : State) : Option Word :=
  let x := s.tim.dom d
  match o with
  | 0x10 => some (w32 (b2n x.healthy + 2 * b2n x.frozen + 4 * b2n x.suspect + 8 * b2n x.check + 16 * x.parent + 64 * x.pstate))
  | 0x14 => some (wInt (satI 32 x.ofs))
  | 0x18 => some (wInt (satI 32 (medianI x.mpds)))
  | 0x1C => some (wInt (satI 32 x.base))
  | 0x24 => some (match x.gm with | some g => hiW g.gmid | none => 0)
  | 0x28 => some (match x.gm with | some g => loW g.gmid | none => 0)
  | 0x2C => some (match x.gm with | some g => w32 (g.cls + 256 * g.acc + 65536 * g.steps + 16777216 * g.source) | none => 0)
  | 0x30 => some (match x.gm with | some g => if bits (s.rwC (aDom d 0)) 2 1 = 1 then w32 g.inacc else 0 | none => 0)
  | 0x34 => some (utcWord x.utc x.utcValid x.leap61 x.leap59)
  | _ => none

/-- AON (R318). The prescaler reads 0 at a seconds transition and at a write (R301, R303), and a free value at any later instant: no command marks its clocks (log 45). -/
def State.aonReg (o : Nat) (s : State) : Option Word :=
  let a := s.aon
  match o with
  | 0x04 => some (w32 (b2n a.calValid + 2 * b2n a.t0 + 4 * b2n a.t1 + 8 * b2n a.mesh + 16 * b2n a.batPresent + 32 * b2n a.batDue + 64 * b2n a.synced))
  | 0x0C => some a.dateWord
  | 0x10 => some a.timeWord
  | 0x14 => some s.presc
  | 0x18 => some (w32 (twos 16 a.utcofs))
  | 0x1C => some (w32 a.tampCnt)
  | 0x20 => some a.tampDate
  | 0x24 => some a.tampTime
  | 0x28 => some (w32 (sat 12 a.vbatMv))
  | 0x34 => some (w32 (sat 32 a.useUah))
  | 0x38 => some (w32 (sat 32 a.ageHours))
  | 0x3C => some (w32 (sat 24 a.pwrCyc))
  | 0x40 => some (w32 (sat 32 a.opMin))
  | 0x44 => some (w32 a.retCnt)
  | _ => none

/-- KEY (R333). -/
def State.keyReg (a : Nat) (s : State) : Option Word :=
  match inst 0x058080 8 64 8 a with
  | some (k, o) => if o = 4 then some (s.keyStat k) else none
  | none =>
    if a = 0x058004 then some s.keyStatAll
    else if a = 0x05800C then some s.keys.rsp
    else if 0x058020 ≤ a ∧ a < 0x058040 then some (nth 0 (wordsN 8 (keyDigest s.keys.vendor)) ((a - 0x058020) / 4))
    else none

/-- NRG common registers (R298). -/
def State.nrgReg (o : Nat) (s : State) : Option Word :=
  let n := s.nrg
  if o = 4 then some (w32 (b2n n.cold + 2 * b2n (!n.snaps.isEmpty) + 65536 * (n.points.filter Point.on).length))
  else if o = 0xC then some (w32 n.snapNum)
  else if o = 0x10 then some (w32 (n.snapT / 1000000000 / 2 ^ 32 % 2 ^ 16))
  else if o = 0x14 then some (w32 (n.snapT / 1000000000))
  else if 0x40 ≤ o ∧ o < 0x60 then some (s.nrgRev ((o - 0x40) / 4))
  else none

/-- PUL_Pp (R299). -/
def State.pulReg (p o : Nat) (s : State) : Option Word :=
  let x := s.pulSt p
  match o with
  | 0x0C => some (w32 (b2n x.inPulse + 2 * b2n x.readback + 65536 * sat 16 x.late))
  | 0x10 => some (w32 (x.r / 2 ^ 32))
  | 0x14 => some (w32 x.r)
  | 0x18 => some (w32 x.pend)
  | 0x1C => some (hiW x.count)
  | 0x20 => some (loW x.count)
  | 0x24 => some (w32 (x.lastNs / 1000000000))
  | 0x28 => some (w32 (x.lastNs % 1000000000))
  | _ => none

/-- The half of a reset domain (R342). -/
def domainHalf : ResetDomain → Half
  | .isl | .lbe _ => .nucleus
  | .core h _ => h
  | _ => .coma

/-- FLT_C and FLT_N (R349, R350). -/
def State.fltReg (h : Half) (a : Nat) (s : State) : Option Word :=
  let c := decide (h = .coma)
  let o := a - fltBase h
  match inst (fltBase h + 0x80) 0x10 (fltCount h) 0xC a with
  | some (n, i) => if i = 0 then some (s.fltCfg h n) else if i = 4 then some (s.src h n).stat else some (s.src h n).cntW
  | none =>
    match o with
    | 0x04 => some (w32 (s.handCount h + 128 * b2n (s.flt.windows.any (fun d => domainHalf d == h)) + 256 * b2n s.pwr.grave +
        512 * b2n (c && s.flt.errnLevel) + 1024 * b2n (c && s.flt.errnSw)))
    | 0x0C => if c then some s.flt.rstCause else none
    | 0x10 => some (s.handWord h 0)
    | 0x14 => some (s.handWord h 1)
    | 0x18 => some (s.handWord h 2)
    | 0x20 => if c then some ((s.flt.graveSrc &&& 0xFFFF) + w32 (65536 * b2n s.pwr.grave)) else none
    | _ => none

/-- A Coma register that is computed; none for one that is storage. -/
def State.computedC (a : Nat) (s : State) : Option Word :=
  if a < 0x010000 then s.sysReg .coma a
  else if a < 0x020000 then s.tlkReg .coma a
  else if a < 0x030000 then (match inst 0x020000 0x800 4 0x1C0 a with | some (p, o) => s.prtReg p o | none => none)
  else if a < 0x040000 then (match inst 0x030000 0x100 4 0xC0 a with | some (n, o) => s.xcvReg n o | none => none)
  else if a < 0x050000 then
    match inst 0x040400 0x400 2 0x180 a with
    | some (d, o) => s.domReg (if d = 0 then .a else .b) o
    | none => s.timReg (a - 0x040000)
  else if a < 0x058000 then s.aonReg (a - 0x050000)
  else if a < 0x060000 then s.keyReg a
  else if a < 0x068000 then
    match inst 0x060080 0x80 8 0x70 a with
    | some (c, o) => if o = 0 then some (s.afeChanStat c ||| s.cor .coma a) else s.afeChanReg c o
    | none => if 0x060480 ≤ a then s.roverReg (a - 0x060480) else s.afeReg (a - 0x060000)
  else if a < 0x070000 then
    match inst 0x068080 0x80 8 0x60 a with
    | some (c, o) => s.cicChanReg c o
    | none => s.cicReg (a - 0x068000)
  else if a < 0x078000 then (if a < 0x070100 then s.nrgReg (a - 0x070000) else none)
  else if a < 0x080000 then (match inst 0x078000 0x40 4 0x30 a with | some (p, o) => s.pulReg p o | none => none)
  else if a < 0x090000 then s.fltReg .coma a
  else if a < 0x0A0000 then s.recReg (a - 0x090000)
  else if a = 0x0B0000 then some s.hspStat
  else if a = 0x0B0004 then some (match s.port? 0 with | some c => s.expectedSeq c | none => 0)
  else none

/-- ALN_Gg (R150). -/
def State.grpReg (g o : Nat) (s : State) : Option Word :=
  let x := s.grp g
  match o with
  | 0x20 => some (s.grpStat g)
  | 0x24 => some (w32 x.expect)
  | 0x28 => some (w32 (x.lastKey / 2 ^ 32 % 2 ^ 24))
  | 0x2C => some (loW x.lastKey)
  | 0x30 => some x.last
  | 0x34 => some (w32 x.lastT)
  | 0x38 => some (w32 x.provT)
  | 0x3C => some (w32 x.qstat)
  | _ => none

/-- ALM (R261). -/
def State.almReg (a : Nat) (s : State) : Option Word :=
  match inst 0x070100 0x20 8 0x20 a, inst 0x070200 0x20 16 0x20 a with
  | some (p, o), _ =>
    let t := (s.pin p).lastNs / 1000000000
    if o = 4 then some (s.pinStat p)
    else if o = 0xC then some (w32 (t / 2 ^ 32 % 2 ^ 16))
    else if o = 0x10 then some (w32 t)
    else if o = 0x14 then some (w32 ((s.pin p).lastNs % 1000000000))
    else none
  | none, some (c, o) => if o = 8 then some (w32 (s.gse c).st) else if o = 0xC then some (w32 (s.gse c).sq) else none
  | none, none =>
    if a = 0x070004 then
      some (w32 ((s.alm.watches.filter WatchSt.active).length + 32768 * (s.alm.rules.filter RuleSt.active).length))
    else none

/-- EGR common registers (R262). -/
def State.egrReg (o : Nat) (s : State) : Option Word :=
  let on := fun (k : Nat) => w32 (mask 32 (fun i => (s.stream (k + i)).on && egrEn (s.egrCfg (k + i)) && egrKind (s.egrCfg (k + i)) == 1))
  if o = 4 then some (w32 s.egrPool) else if o = 8 then some (on 32) else if o = 0xC then some (on 0) else none

/-- A Nucleus register that is computed. -/
def State.computedN (a : Nat) (s : State) : Option Word :=
  if a < 0x010000 then s.sysReg .nucleus a
  else if a < 0x020000 then s.tlkReg .nucleus a
  else if a < 0x030000 then (if a = 0x020008 then some (w32 (tableLoad s.srcT)) else none)
  else if a < 0x040000 then
    match inst 0x030400 0x100 8 0xC0 a with
    | some (g, o) => s.grpReg g o
    | none => if a = 0x030004 then some s.alnStat else if a = 0x03000C then some (w32 (tableLanes s.srcT)) else none
  else if a < 0x050000 then (if a = 0x040004 then some s.phxStat else none)
  else if a < 0x060000 then s.islReg (a - 0x050000)
  else if a < 0x070000 then
    match inst 0x060100 0x80 32 0x70 a with
    | some (e, o) => s.lbeEngReg e o
    | none => s.lbeReg (a - 0x060000)
  else if a < 0x078000 then s.almReg a
  else if a < 0x080000 then (if a < 0x078080 then s.egrReg (a - 0x078000) else none)
  else if a < 0x090000 then s.oryReg (a - 0x080000)
  else if a < 0x0A0000 then s.fltReg .nucleus a
  else if 0x0B0000 ≤ a then s.updReg (a - 0x0B0000)
  else none

def State.computed (h : Half) (a : Nat) (s : State) : Option Word := match h with | .coma => s.computedC a | .nucleus => s.computedN a

/-- The registers of which every bit is WO or RSV (R10): PWRCTL and the Coma session's UPDCTL, and every block's CLR. -/
def woReg (h : Half) (a : Nat) : Bool :=
  match h with
  | .coma => [0x14, 0x34, 0xC0, 0x010010, 0x050048, 0x058010, 0x07001C, 0x08001C, 0x090020, 0x0B0010].elem a
  | .nucleus =>
    [0x34, 0x010010, 0x020018, 0x028080, 0x03001C, 0x040018, 0x050040, 0x060014, 0x07001C, 0x078010, 0x080030, 0x09001C].elem a

/-- What a register reads as (R10): computed, the stored RW word, or the latched events, count, window word or clear-on-read value;
WO and RSV read 0. -/
def State.regValue (h : Half) (a : Nat) (s : State) : Word :=
  if woReg h a then 0
  else match s.computed h a with
  | some w => w
  | none =>
    if rwMask h a ≠ 0 then s.rw h a
    else s.evt h a ||| s.ctr h a ||| WMap.get zeroW (s.regs h).win a ||| s.cor h a

/-! ## Windows of the select registers (R406) -/

/-- ALM_R (R261). -/
def State.ruleWindow (i : Nat) (s : State) : List Word := (s.ruleWords i).take 4 ++ (s.ruleSt i).cnt.map w32

/-- ORY_W (R280). The three bits of the depth show a heartbeat's depth byte modulo 8: one above 7 breaks R264, and the spec does not say what it
reads (DESIGN CHOICE, log 146). -/
def State.nbWindow (k : Nat) (s : State) : List Word :=
  let n := s.nb k
  [w32 (b2n n.up + 2 * b2n n.breach + 4 * (n.depth % 8) + 256 * sat 8 n.missed), wInt n.ofs, wInt n.dly]

/-- The window a select register fills: first address and words. -/
def State.windowOf (h : Half) (a : Nat) (w : Word) (s : State) : Option (Nat × List Word) :=
  match h with
  | .coma =>
    if a = 0x070018 then some (0x070060, s.pointWindow w.toNat)
    else if a = 0x090014 then some (0x090040, s.recWords w.toNat)
    else if a = 0x090024 then some (0x0900C0, s.noteWords w.toNat)
    else none
  | .nucleus =>
    if a = 0x028000 then some (0x028004, s.srcWindow w.toNat)
    else if a = 0x040010 then some (0x040100, s.estWindowWords w.toNat)
    else if a = 0x040014 then some (0x040200, s.pairWindowWords w.toNat)
    else if a = 0x050034 then some (0x050100, s.islandWindow w.toNat)
    else if a = 0x050038 then some (0x050180, s.branchWindow w.toNat)
    else if a = 0x070018 then some (0x070400, s.ruleWindow w.toNat)
    else if a = 0x080020 then some (0x080024, s.nbWindow w.toNat)
    else none

/-- Words put into a window from an address on. -/
def putWords (m : WMap) : Nat → List Word → WMap
  | _, [] => m
  | a, w :: ws => putWords (WMap.put zeroW m a w) (a + 4) ws

/-- The window of a select register just written with w is filled. -/
def State.fillWindow (h : Half) (a : Nat) (w : Word) (s : State) : State :=
  match s.windowOf h a w with
  | some (b, ws) => s.mapRegs h (fun r => { r with win := putWords r.win b ws })
  | none => s

/-! ## Clear on read (R406) -/

/-- What reading a register clears. -/
def State.readClear (h : Half) (a : Nat) (s : State) : State :=
  match h with
  | .coma =>
    if a = 0x28 then { s with sys := { s.sys with tjxC := none } }
    else if a = 0x0B000C then s.putCor .coma a 0
    else if a = 0x050014 then s.freed
    else if a = 0x070070 then
      (s.mapPoint (s.rwC 0x070018).toNat (fun x => { x with maxDem := 0 })).mapRegs .coma (fun r => { r with win := WMap.put zeroW r.win a 0 })
    else match inst 0x060080 0x80 8 0x70 a with
    | some (_, o) => if o = 0 then s.putCor .coma a 0 else s
    | none => s
  | .nucleus =>
    if a = 0x28 then { s with sys := { s.sys with tjxN := none } }
    else if a = 0x02000C ∨ a = 0x050028 ∨ a = 0x05003C then s.putCor .nucleus a 0
    else if a = 0x040214 then
      (s.putPair { s.pairSt (s.rwN 0x040014).toNat with maxTve := 0 }).mapRegs .nucleus (fun r => { r with win := WMap.put zeroW r.win a 0 })
    else match inst 0x060100 0x80 32 0x70 a with
    | some (_, o) => if o = 0x34 then s.putCor .nucleus a 0 else s
    | none => s

end Sys2Proof.Machine
end

