-- ==== Sys2Proof/Machine/Regs.lean ====
section
/-! DEFINITION. The register commands REG.READ, REG.WRITE and REG.MODIFY: what each field refuses, what a write does, and the rows of
the table that name one register (R10, R11, R45, R406 and the rules of each block). -/

namespace Sys2Proof.Machine

/-! ## What a field refuses (R40 step 9) -/

/-- E_PARAM where a condition holds, else E_STATE where another holds. -/
def refuse (param state : Bool) : Option Byte := if param then some eParam else if state then some eState else none

def outside (n lo hi : Nat) : Bool := decide (n < lo) || decide (hi < n)

/-- PRT: frame length (R84, R102) and what remains for lossy traffic (R89). -/
def State.refusePrt (p o : Nat) (w : Word) (s : State) : Option Byte :=
  let lossy := fun (pfc buf : Word) => decide (192 < ((List.range 8).filter (fun q => bit pfc q)).length * bits buf 7 0 + 32)
  if o = 4 then refuse (outside (bits w 13 0) 1526 9216) false
  else if o = 0x44 then refuse (lossy w (s.rwC (aPrt p 0x4C))) false
  else if o = 0x4C then refuse (lossy (s.rwC (aPrt p 0x44)) w) false
  else none

/-- TIM (R69, R79, R80). -/
def State.refuseTim (a : Nat) (w : Word) (s : State) : Option Byte :=
  match inst 0x040400 0x400 2 0x180 a with
  | some (d, o) =>
    if o = 0 ∨ o = 4 ∨ o = 8 then refuse false (s.tim.sel.idx == d && s.anyRunning)
    else if o = 0xC then refuse (outside (bits w 8 0) 1 256) false
    else none
  | none =>
    if a = 0x040000 then refuse (bits w 3 2 == 3) false
    else if a = 0x04002C then refuse (outside (bits w 8 0) 1 500) false
    else none

/-- AON and KEY: locked out under R310; ranges of R333. -/
def State.refuseAon (a : Nat) (w : Word) (s : State) : Option Byte :=
  match inst 0x058080 8 64 8 a with
  | some (_, o) => refuse (o == 0 && decide (10000 < bits w 15 0)) s.pwr.lockout
  | none => refuse (a == 0x058000 && outside (bits w 12 0) 1 4096) s.pwr.lockout

/-- NRG (R282, R292): settings of an enabled point; what may be enabled. -/
def State.refuseNrg (a : Nat) (w : Word) (s : State) : Option Byte :=
  match inst 0x070100 0x10 256 0x10 a with
  | some (m, o) =>
    let c := s.nrgCfg m
    let v := w &&& 0xFFFF00FF
    let k := s.rwC (aNrg m 8)
    if o = 0 then
      refuse (bit v 0 && !bit c 0 && (nrgFeed v == 0 || (decide (2 ≤ nrgFeed v) && !s.nrgFeedOk v (s.rwC (aNrg m 4))) ||
        bits k 30 0 == 0 || bits k 30 23 == 255)) (bit c 0)
    else if o = 4 ∨ o = 8 then refuse false (bit c 0)
    else none
  | none => if a = 0x070000 then refuse (bits w 5 0 == 0 || 60 % bits w 5 0 != 0) false else none

/-- PUL (R296, R299). -/
def State.refusePul (p o : Nat) (w : Word) (s : State) : Option Byte :=
  let c := s.pulCfg p
  if o = 0 then refuse (bits w 18 12 == 0) (bit c 0 && (w &&& 0x7FFFE) != (c &&& 0x7FFFE))
  else if o = 4 then refuse (w == 0) (bit c 0)
  else if o = 8 then refuse (bits w 15 0 == 0) (bit c 0)
  else none

/-- SCH (R381, R383). -/
def State.refuseSch (h : Half) (o : Nat) (w : Word) (s : State) : Option Byte :=
  let r := fun (k : Nat) => if k = o then w else s.rw h (0x0A0000 + k)
  let pri := fun (k : Nat) => bits (r (4 + 4 * (k / 4))) (4 * (k % 4) + 3) (4 * (k % 4))
  if o = 4 ∨ o = 8 then refuse ((List.range 5).any (fun k => decide (pri (k + 3) ≤ pri 1) || decide (pri (k + 3) ≤ pri 2))) false
  else if 0xC ≤ o ∧ o ≤ 0x18 then
    refuse (decide (8192 < sumN ([0xC, 0x10, 0x14, 0x18].map (fun k => bits (r k) 15 0 + bits (r k) 31 16)))) false
  else if o = 0x20 then refuse (outside (bits w 15 0) 1 1000) false
  else none

/-- FLT: BRST needs a domain (R342, R350). -/
def refuseFlt (h : Half) (a : Nat) (w : Word) : Option Byte :=
  match inst (fltBase h + 0x80) 0x10 (fltCount h) 0xC a with
  | some (n, o) => refuse (o == 0 && bit (w &&& fltMask h n) 2 && (fltDomain h n).isNone) false
  | none => none

def State.refuseC (a : Nat) (w : Word) (s : State) : Option Byte :=
  if a < 0x010000 then
    if a = 0x14 then (match s.pwrReq (bits w 1 0) with | .error e => some e | .ok _ => none) else none
  else if a < 0x020000 then none
  else if a < 0x030000 then (match inst 0x020000 0x800 4 0x1C0 a with | some (p, o) => s.refusePrt p o w | none => none)
  else if a < 0x040000 then none
  else if a < 0x050000 then s.refuseTim a w
  else if a < 0x060000 then s.refuseAon a w
  else if a < 0x070000 then
    if a = 0x060000 then refuse (bits w 1 0 == 3) (s.afe.chains.any Chain.running)
    else if a = 0x060018 then refuse (bits w 3 0 == 0) false
    else none
  else if a < 0x078000 then s.refuseNrg a w
  else if a < 0x080000 then (match inst 0x078000 0x40 4 0x30 a with | some (p, o) => s.refusePul p o w | none => none)
  else if a < 0x090000 then refuseFlt .coma a w
  else if a < 0x0A0000 then (if a = 0x090000 then refuse (outside (bits w 15 8) 1 240) false else none)
  else if a < 0x0B0000 then s.refuseSch .coma (a - 0x0A0000) w
  else none

/-- ALN_Gg (R143, R150). -/
def State.refuseAln (g o : Nat) (w : Word) (s : State) : Option Byte :=
  let c := s.rwN (aGrp g 0)
  if o = 0 then refuse (!rateOk (bits w 3 0) (bit w 4)) (bits w 4 0 != bits c 4 0 && decide ((s.grp g).run ≠ .stopped))
  else if o = 4 then refuse (decide (1000000 ≤ bits w 31 8 * s.grpRate g)) false
  else if o = 8 then refuse (outside (bits w 30 24) 1 64) false
  else none

/-- ISL (R188, R206). -/
def State.refuseIsl (a : Nat) (w : Word) (s : State) : Option Byte :=
  if a = 0x050004 then refuse (bits w 23 16 == 0) (bit (s.rwN 0x050000) 0)
  else if a = 0x05002C then refuse (bits w 5 0 == 0) false
  else none

/-- LBE_Ee (R232). -/
def refuseLbe (a : Nat) (w : Word) : Option Byte :=
  match inst 0x060100 0x80 32 0x70 a with
  | some (_, o) =>
    if o = 4 then refuse (bits w 31 24 == 0) false
    else if o = 0xC then refuse (decide (bits w 31 24 ≤ bits w 23 16)) false
    else if o = 0x10 then refuse (bits w 7 0 == 0) false
    else none
  | none => none

/-- ALM pins and GOOSE blocks (R243, R248, R261). -/
def State.refuseAlm (a : Nat) (w : Word) (s : State) : Option Byte :=
  match inst 0x070100 0x20 8 0x20 a, inst 0x070200 0x20 16 0x20 a with
  | some (_, o), _ => if o = 0 then refuse (bits w 5 4 == 3 || (bit w 2 && bits w 31 16 == 0)) false else none
  | none, some (c, o) =>
    if o = 0 then refuse (bit w 1 && (bits w 7 2 == 0 || bits (s.gooseW c 3) 11 0 == 0)) false
    else if o = 4 then refuse (bits w 15 0 == 0 || decide (bits w 31 16 < bits w 15 0)) false
    else none
  | none, none => none

/-- EGR_Sn_CFG (R252, R262). -/
def State.refuseEgr (i : Nat) (w : Word) (s : State) : Option Byte :=
  let c := s.egrCfg i
  let others := sumN (((List.range 64).filter (fun k => k != i && egrEn (s.egrCfg k))).map (fun k => egrKib (s.egrCfg k)))
  let key := fun (x : Word) => (bits x 5 1, bits x 25 16)
  refuse (bits w 25 16 == 0 || (egrEn w && (egrKind w == 0 || decide (6 ≤ egrKind w) || decide (7104 < others + egrKib w))))
    (egrEn c && key w != key c)

/-- ORY (R274, R280). -/
def State.refuseOry (a : Nat) (w : Word) (s : State) : Option Byte :=
  let fixed := s.ory.joined || s.ory.pendJoin
  match inst 0x080100 0x10 32 0x10 a with
  | some (_, o) => refuse (o == 0 && bits w 30 29 == 3) fixed
  | none =>
    if a = 0x080014 then refuse (outside (bits w 7 0) 1 100 || outside (bits w 11 8) 2 15) fixed
    else if a = 0x080018 then refuse (bits w 19 16 == 0) false
    else if a = 0x08001C then refuse (outside (bits w 5 0) 1 60) false
    else none

def State.refuseN (a : Nat) (w : Word) (s : State) : Option Byte :=
  if a < 0x030000 then none
  else if a < 0x040000 then (match inst 0x030400 0x100 8 0xC0 a with | some (g, o) => s.refuseAln g o w | none => none)
  else if a < 0x050000 then none
  else if a < 0x060000 then s.refuseIsl a w
  else if a < 0x070000 then refuseLbe a w
  else if a < 0x078000 then s.refuseAlm a w
  else if a < 0x080000 then
    match inst 0x078080 0x10 64 0xC a with
    | some (i, o) => if o = 0 then s.refuseEgr i w else none
    | none => none
  else if a < 0x090000 then s.refuseOry a w
  else if a < 0x0A0000 then refuseFlt .nucleus a w
  else if a < 0x0B0000 then s.refuseSch .nucleus (a - 0x0A0000) w
  else none

/-- The code with which a register refuses a word, judged against a state (R406). -/
def State.refuses (h : Half) (a : Nat) (w : Word) (s : State) : Option Byte := match h with | .coma => s.refuseC a w | .nucleus => s.refuseN a w

/-! ## What a write does -/

/-- RW bits stored, W1C bits cleared; RO and RSV bits left alone (R10). -/
def State.store (h : Half) (a : Nat) (w : Word) (s : State) : State :=
  if rwMask h a ≠ 0 then s.putRw h a (w &&& rwMask h a) else if w1cMask h a ≠ 0 then s.w1c h a w else s

/-- SYS (R392, R409). -/
def State.writeSys (h : Half) (a : Nat) (w : Word) (s : State) : State :=
  let s1 := s.store h a w
  if a = 0x34 then (if bit w 0 then s1.clearCtr h 0x80 0x94 else s1)
  else if a = 0x14 ∧ h = .coma then (match s1.pwrReq (bits w 1 0) with | .ok t => t | .error _ => s1)
  else if a = 0xC0 ∧ h = .coma then (if bit w 0 then s1.updAbort .coma else s1)
  else s1

/-- TLK (R410). -/
def State.writeTlk (h : Half) (a : Nat) (w : Word) (s : State) : State :=
  if a = 0x010010 ∧ bit w 0 then (s.clearCtr h 0x010000 0x020000).mapTlk h (fun e => { e with txPkt := 0, rxPkt := 0 })
  else s.store h a w

/-- PRT (R82, R89, R102). -/
def State.writePrt (p o : Nat) (w : Word) (s : State) : State :=
  let st := fun (x : State) => x.store .coma (aPrt p o) w
  if o = 0 then
    if bit w 0 = s.prtOn p then st s
    else (if bit w 0 then st (s.drainPort p) else (st s).drainPort p).mapPrt p (fun x => { x with offAfter := none })
  else if 0x44 ≤ o ∧ o ≤ 0x4C then (st s).judgeXoff p
  else st s

/-- TIM (R54, R64, R65, R80). -/
def State.writeTim (a : Nat) (w : Word) (s : State) : State :=
  let s1 := s.store .coma a w
  match inst 0x040400 0x400 2 0x180 a with
  | some (d, o) => if o = 0 ∨ o = 4 ∨ o = 8 then (s1.mapDom (if d = 0 then .a else .b) Domain.servoReset).judge else s1
  | none =>
    if a = 0x040000 then (if s.tim.tref && (bit w 1 != bit (s.rwC a) 1) then (s1.bumpC 0x04007C 1).evTime 1 else s1).judge
    else if a = 0x040008 then s1.judge
    else if a = 0x04002C then s1.ppsLevel
    else s1

/-- AON_UTCOFS is written: a domain whose first announce has not been taken shows it, and TIM_UTC with the selected one (R75, R318). -/
def State.hostUtc (u : Int) (s : State) : State :=
  let inForce := !(s.tim.dom s.tim.sel).announced
  let s1 : State := { s with
    aon := { s.aon with utcofs := u }
    tim := { s.tim with utc := if inForce then u else s.tim.utc, utcAt := if inForce then some s.tim.now else s.tim.utcAt, domA := s.tim.domA.storedUtc u, domB := s.tim.domB.storedUtc u } }
  if inForce && decide (u ≠ s.tim.utc) then s1.evTime 2 else s1

/-- AON (R308, R312, R316, R318). A cleared tamper counter leaves a tamper not yet recorded to be recorded. -/
def State.writeAon (a : Nat) (w : Word) (s : State) : State :=
  let s1 := s.store .coma a w
  if a = 0x050000 then s1.tamperEnables w
  else if a = 0x050018 then s1.hostUtc (sext 16 (bits w 15 0))
  else if a = 0x050048 then
    let s2 : State := if bit w 0 then { s1 with
      aon := { s1.aon with tampCnt := 0 }
      rcd := { s1.rcd with tampSeen := if s1.aon.tampCnt = s1.rcd.tampSeen then 0 else 256 } } else s1
    let s3 := if bit w 1 then s2.cellRenewed else s2
    if bit w 2 then s3.calInvalid else s3
  else s1

/-- NRG (R282, R298). -/
def State.writeNrg (a : Nat) (w : Word) (s : State) : State :=
  match inst 0x070100 0x10 256 0x10 a with
  | some (m, o) => if o = 0 then s.nrgEnable m (w &&& 0xFFFF00FF) else s.store .coma a w
  | none =>
    if a = 0x070004 then (if bit w 0 then { s with nrg := { s.nrg with cold := false } } else s)
    else if a = 0x07001C then
      if bit w 0 then
        let s1 := s.clearCtr .coma 0x0700A0 0x0700AC
        { s1 with nrg := { s1.nrg with points := s1.nrg.points.map (fun (x : Point) => { x with cnt := [0, 0, 0, 0] }) } }
      else s
    else s.store .coma a w

/-- FLT (R343, R349, R350). -/
def State.writeFlt (h : Half) (a : Nat) (w : Word) (s : State) : State :=
  let s1 := s.store h a w
  if a = fltBase h + 0x1C then
    let zero := fun (x : FltSrc) => { x with occ := 0, supp := 0 }
    let s2 : State :=
      if bit w 0 then
        let s3 := s1.clearCtr h (fltBase h + 0x40) (fltBase h + 0x50)
        { s3 with flt := { s3.flt with
          coma := (match h with | .coma => s3.flt.coma.map zero | .nucleus => s3.flt.coma)
          nuc := (match h with | .coma => s3.flt.nuc | .nucleus => s3.flt.nuc.map zero) } }
      else s1
    if bit w 1 ∧ h = .coma then { s2 with flt := { s2.flt with rstCause := s2.flt.rstCause &&& 0xFFFF7FFF } } else s2
  else s1

/-- Forced occurrences that words written from an address ask for (R343): they come in the next cycle of the collector. -/
def forcesOf (h : Half) : Nat → List Word → State → State
  | _, [], s => s
  | a, w :: r, s =>
    forcesOf h (a + 4) r (match inst (fltBase h + 0x80) 0x10 (fltCount h) 0xC a with
      | some (n, o) => if o = 0 ∧ bit w 5 then s.forceFault h n else s
      | none => s)

/-- A CLR register's bit 0 clears the counters of an address range. -/
def State.clrIf (h : Half) (w : Word) (lo hi : Nat) (s : State) : State := if bit w 0 then s.clearCtr h lo hi else s

def State.writeC (a : Nat) (w : Word) (s : State) : State :=
  let s1 := s.store .coma a w
  if a < 0x010000 then s.writeSys .coma a w
  else if a < 0x020000 then s.writeTlk .coma a w
  else if a < 0x030000 then (match inst 0x020000 0x800 4 0x1C0 a with | some (p, o) => s.writePrt p o w | none => s1)
  else if a < 0x040000 then s1
  else if a < 0x050000 then s.writeTim a w
  else if a < 0x058000 then s.writeAon a w
  else if a < 0x060000 then (if a = 0x058010 then s.clrIf .coma w 0x058040 0x058060 else s1)
  else if a < 0x070000 then (if a = 0x060000 then s.presetApply (w &&& 0x7F) else s1)
  else if a < 0x078000 then s.writeNrg a w
  else if a < 0x080000 then
    match inst 0x078000 0x40 4 0x30 a with
    | some (p, o) => if o = 0 then s.pulApply p (w &&& 0x7FFFF) else s1
    | none => s1
  else if a < 0x090000 then s.writeFlt .coma a w
  else if a < 0x0A0000 then (if a = 0x090020 then s.clrIf .coma w 0x090028 0x090040 else s1)
  else if a < 0x0B0000 then s1
  else if a = 0x0B0010 then s.clrIf .coma w 0x0B0040 0x0B0070
  else s1

/-- ING and SRC (R126, R127). -/
def State.writeIng (a : Nat) (w : Word) (s : State) : State :=
  let clear := fun (x : Src) => { x with cnt := List.replicate 14 0 }
  if a = 0x020018 then
    if bit w 0 then
      let s1 := s.clearCtr .nucleus 0x020040 0x020088
      { s1 with ing := { s1.ing with srcs := s1.ing.srcs.map clear } }
    else s
  else if a = 0x028080 then
    let i := (s.rwN 0x028000).toNat
    let s1 := if bit w 0 then s.mapSrcSt i clear else s
    if bit w 1 then s1.mapSrcSt i Src.resetEph else s1
  else s.store .nucleus a w

/-- PHX (R172, R185). -/
def State.writePhx (a : Nat) (w : Word) (s : State) : State :=
  let s1 := s.store .nucleus a w
  if a = 0x040000 then s1.phxSync
  else if a = 0x040018 ∧ bit w 0 then
    let s2 := s1.clearCtr .nucleus 0x040040 0x040068
    { s2 with phx := { s2.phx with
      ests := s2.phx.ests.map (fun (e : Est) => { e with cnt := e.cnt.map (fun _ => 0) })
      pairs := s2.phx.pairs.map (fun (x : Pair) => { x with cnt := x.cnt.map (fun _ => 0) }) } }
  else s1

/-- ISL (R188, R206). -/
def State.writeIsl (a : Nat) (w : Word) (s : State) : State :=
  if a = 0x050000 then s.islEnable (w &&& 1)
  else if a = 0x050040 ∧ bit w 0 then
    let s1 := s.clearCtr .nucleus 0x050044 0x050084
    { s1 with isl := { s1.isl with branches := s1.isl.branches.map (fun (b : Branch) => { b with opens := 0, seps := 0 }) } }
  else s.store .nucleus a w

/-- ALM_CTL (R261): a change of rules_en waits for the common boundary, 0 stopping evaluation at once; a change of watch_out changes
what drives the outputs. -/
def State.writeAlmCtl (w : Word) (s : State) : State :=
  let old := s.rwN 0x070000
  let s1 := s.store .nucleus 0x070000 w
  let s2 : State :=
    if bit w 0 = bit old 0 then s1
    else State.idleCommits { s1 with alm := { s1.alm with rulesOn := s1.alm.rulesOn && bit w 0, rulesWait := some (bit w 0) } }
  if bit w 1 = bit old 1 then s2 else (s2.refreshPins []).refreshGoose

/-- ALM_DG (R249): a stream that becomes enabled starts its numbers at 0. -/
def State.writeAlmDg (w : Word) (s : State) : State :=
  let fresh := (dgStreams w).filter (fun i => !(dgStreams (s.rwN 0x070014)).elem i)
  let s1 := s.store .nucleus 0x070014 w
  { s1 with alm := { s1.alm with dgSeq := fresh.foldl (fun l i => at' l i (fun _ => 0)) s1.alm.dgSeq } }

/-- ALM (R244, R247, R261). -/
def State.writeAlm (a : Nat) (w : Word) (s : State) : State :=
  let s1 := s.store .nucleus a w
  match inst 0x070100 0x20 8 0x20 a, inst 0x070200 0x20 16 0x20 a with
  | some (p, o), _ =>
    if o = 0 then (s1.mapPin p (fun x => { x with mirror := w &&& 0xFFFF0037 })).drivePin p else s1
  | none, some (c, o) => if o = 0 ∧ bit w 0 ∧ ¬ s.gooseEn c then s1.gooseEnabled c else s1
  | none, none =>
    if a = 0x070000 then s.writeAlmCtl w
    else if a = 0x070014 then s.writeAlmDg w
    else if a = 0x07001C ∧ bit w 0 then
      let s2 := s1.clearCtr .nucleus 0x070000 0x078000
      { s2 with alm := { s2.alm with rules := s2.alm.rules.map (fun (r : RuleSt) => { r with cnt := r.cnt.map (fun _ => 0) }) } }
    else s1

def State.writeN (a : Nat) (w : Word) (s : State) : State :=
  let s1 := s.store .nucleus a w
  if a < 0x010000 then s.writeSys .nucleus a w
  else if a < 0x020000 then s.writeTlk .nucleus a w
  else if a < 0x030000 then s.writeIng a w
  else if a < 0x040000 then (if a = 0x03001C then s.clrIf .nucleus w 0x030000 0x030C00 else s1)
  else if a < 0x050000 then s.writePhx a w
  else if a < 0x060000 then s.writeIsl a w
  else if a < 0x070000 then (if a = 0x060014 then s.clrIf .nucleus w 0x060000 0x070000 else s1)
  else if a < 0x078000 then s.writeAlm a w
  else if a < 0x080000 then
    match inst 0x078080 0x10 64 0xC a with
    | some (i, o) => if o = 0 then s.egrApply i (w &&& 0xFFFF1FFF) else s1
    | none => if a = 0x078010 then s.clrIf .nucleus w 0x078000 0x080000 else s1
  else if a < 0x090000 then (if a = 0x080030 then s.clrIf .nucleus w 0x080040 0x080080 else s1)
  else if a < 0x0A0000 then s.writeFlt .nucleus a w
  else if a = 0x0B0000 then (if bit w 0 then s1.updAbort .nucleus else s1)
  else s1

/-- A word is written into a register, and a select register's window is filled (R10, R406). -/
def State.writeReg (h : Half) (a : Nat) (w : Word) (s : State) : State :=
  (match h with | .coma => s.writeC a w | .nucleus => s.writeN a w).fillWindow h a (w &&& rwMask h a)

/-! ## The commands (R45, R406) -/

/-- The base of a register's block. -/
def blockOf (a : Nat) : Nat := a / 0x8000 * 0x80

/-- How a word is refused: at an address without a register, or by the register's fields and block (R45, R406). -/
def State.refusesAt (h : Half) (a : Nat) (w : Word) (s : State) : Option Byte := if isReg h a then s.refuses h a w else some eParam

/-- Words judged one after another, each against the words before it: the index of the first one refused with E_PARAM, by its address or its
value, and whether any is refused with E_STATE (R406). -/
def checkRun (h : Half) : Nat → Nat → List Word → State → Option Nat × Bool
  | _, _, [], _ => (none, false)
  | k, a, w :: r, s =>
    match s.refusesAt h a w with
    | none => checkRun h (k + 1) (a + 4) r (s.store h a w)
    | some c =>
      let rest := checkRun h (k + 1) (a + 4) r s
      if c = eParam then (some k, rest.2) else (rest.1, true)

/-- The words written in ascending address order (R45). -/
def writeRun (h : Half) : Nat → List Word → State → State
  | _, [], s => s
  | a, w :: r, s => writeRun h (a + 4) r (s.writeReg h a w)

/-- What reading n registers from an address clears. -/
def readRun (h : Half) : Nat → Nat → State → State
  | 0, _, s => s
  | n + 1, a, s => readRun h n (a + 4) (s.readClear h a)

/-- Addresses of n registers from an address. -/
def addrs (a n : Nat) : List Nat := (List.range n).map (fun k => a + 4 * k)

/-- REG.READ. -/
def cmdRegRead (h : Hdr) (ps : List Word) (s : State) : Res :=
  arity 2 ps s fun _ =>
    let a := (par ps 0).toNat
    let n := (par ps 1).toNat
    if !isReg h.half a then .fail s eParam 0
    else if outside n 1 256 || !(addrs a n).all (isReg h.half) then .fail s eParam 1
    else .ok (readRun h.half n a s) ((addrs a n).map (fun x => s.regValue h.half x))

/-- REG.WRITE. -/
def cmdRegWrite (h : Hdr) (ps : List Word) (s : State) : Res :=
  if ps.length < 2 then .fail s eParam ps.length
  else if 257 < ps.length then .fail s eParam 257
  else
    let a := (par ps 0).toNat
    let ws := ps.drop 1
    if !isReg h.half a then .fail s eParam 0
    else match checkRun h.half 1 a ws s with
    | (some k, _) => .fail s eParam k
    | (none, true) => .fail s eState
    | (none, false) => { Res.ok (writeRun h.half a ws (s.countCfg h.half (blockOf a) h.port)) with after := forcesOf h.half a ws }

/-- The word that a REG.MODIFY writes: into W1C bits value AND mask alone. -/
def State.modified (h : Half) (a : Nat) (m v : Word) (s : State) : Word :=
  if w1cMask h a ≠ 0 then v &&& m else (s.regValue h a &&& ~~~m) ||| (v &&& m)

/-- REG.MODIFY. -/
def cmdRegModify (h : Hdr) (ps : List Word) (s : State) : Res :=
  arity 3 ps s fun _ =>
    let a := (par ps 0).toNat
    let w := s.modified h.half a (par ps 1) (par ps 2)
    if !isReg h.half a then .fail s eParam 0
    else match s.refuses h.half a w with
    | some c => .fail s c (if c = eParam then 2 else 0)
    | none =>
      let s1 := ((s.countCfg h.half (blockOf a) h.port).readClear h.half a).writeReg h.half a w
      { Res.ok s1 [s.regValue h.half a, s1.regValue h.half a] with after := forcesOf h.half a [w] }

/-! ## Rows that name one register -/

/-- The command's header with the half-select bit that a register's half needs. -/
def hdrOn (hf : Half) (h : Hdr) : Hdr := { h with half := hf }

/-- The write of one word into a register; the read of one register. -/
def State.writeRow (hf : Half) (a : Nat) (w : Word) (h : Hdr) (s : State) : State := s.serve 0x0101 (hdrOn hf h) [w32 a, w] cmdRegWrite
def State.readRow (hf : Half) (a : Nat) (h : Hdr) (s : State) : State := s.serve 0x0100 (hdrOn hf h) [w32 a, 1] cmdRegRead

/-- Offset of a domain's configuration register (R80). -/
def domOffset : DomReg → Nat
  | .cfg => 0
  | .ports => 4
  | .intv => 8

/-! ## The table's rows -/

/-- REG_READ (R45). -/
def execRegRead (h : Hdr) (ps : List Word) (s : State) : Host.Outcome State Fault Refusal :=
  .next (State.settled (s.serve 0x0100 h ps cmdRegRead))

/-- REG_WRITE (R45). -/
def execRegWrite (h : Hdr) (ps : List Word) (s : State) : Host.Outcome State Fault Refusal :=
  .next (State.settled (s.serve 0x0101 h ps cmdRegWrite))

/-- REG_MODIFY (R45). -/
def execRegModify (h : Hdr) (ps : List Word) (s : State) : Host.Outcome State Fault Refusal :=
  .next (State.settled (s.serve 0x0102 h ps cmdRegModify))

/-- PWRCTL_STANDBY (R29). -/
def execPwrctlStandby (h : Hdr) (s : State) : Host.Outcome State Fault Refusal :=
  .next (State.settled (s.writeRow .coma 0x14 1 h))

/-- PWRCTL_SERVICE (R28). -/
def execPwrctlService (h : Hdr) (s : State) : Host.Outcome State Fault Refusal :=
  .next (State.settled (s.writeRow .coma 0x14 2 h))

/-- ING_CLR (R126). -/
def execIngClr (h : Hdr) (s : State) : Host.Outcome State Fault Refusal :=
  .next (State.settled (s.writeRow .nucleus 0x020018 1 h))

/-- SRC_CLR_COUNTERS (R127). -/
def execSrcClrCounters (h : Hdr) (s : State) : Host.Outcome State Fault Refusal :=
  .next (State.settled (s.writeRow .nucleus 0x028080 1 h))

/-- SRC_CLR_EPHEMERIS (R127). -/
def execSrcClrEphemeris (h : Hdr) (s : State) : Host.Outcome State Fault Refusal :=
  .next (State.settled (s.writeRow .nucleus 0x028080 2 h))

/-- ALN_CLR (R149). -/
def execAlnClr (h : Hdr) (s : State) : Host.Outcome State Fault Refusal :=
  .next (State.settled (s.writeRow .nucleus 0x03001C 1 h))

/-- PHX_CLR (R185). -/
def execPhxClr (h : Hdr) (s : State) : Host.Outcome State Fault Refusal :=
  .next (State.settled (s.writeRow .nucleus 0x040018 1 h))

/-- ISL_CLR (R206). -/
def execIslClr (h : Hdr) (s : State) : Host.Outcome State Fault Refusal :=
  .next (State.settled (s.writeRow .nucleus 0x050040 1 h))

/-- LBE_CLR (R231). -/
def execLbeClr (h : Hdr) (s : State) : Host.Outcome State Fault Refusal :=
  .next (State.settled (s.writeRow .nucleus 0x060014 1 h))

/-- ALM_CLR (R261). -/
def execAlmClr (h : Hdr) (s : State) : Host.Outcome State Fault Refusal :=
  .next (State.settled (s.writeRow .nucleus 0x07001C 1 h))

/-- EGR_CLR (R262). -/
def execEgrClr (h : Hdr) (s : State) : Host.Outcome State Fault Refusal :=
  .next (State.settled (s.writeRow .nucleus 0x078010 1 h))

/-- ORY_CLR (R280). -/
def execOryClr (h : Hdr) (s : State) : Host.Outcome State Fault Refusal :=
  .next (State.settled (s.writeRow .nucleus 0x080030 1 h))

/-- NRG_CLR (R298). -/
def execNrgClr (h : Hdr) (s : State) : Host.Outcome State Fault Refusal :=
  .next (State.settled (s.writeRow .coma 0x07001C 1 h))

/-- REC_CLR (R364). -/
def execRecClr (h : Hdr) (s : State) : Host.Outcome State Fault Refusal :=
  .next (State.settled (s.writeRow .coma 0x090020 1 h))

/-- KEY_CLR (R333). -/
def execKeyClr (h : Hdr) (s : State) : Host.Outcome State Fault Refusal :=
  .next (State.settled (s.writeRow .coma 0x058010 1 h))

/-- FLT_CLR_COUNTERS (R349). -/
def execFltClrCounters (h : Hdr) (s : State) : Host.Outcome State Fault Refusal :=
  .next (State.settled (s.writeRow h.half (fltBase h.half + 0x1C) 1 h))

/-- FLT_CLR_RSTCAUSE (R349). -/
def execFltClrRstcause (h : Hdr) (s : State) : Host.Outcome State Fault Refusal :=
  .next (State.settled (s.writeRow .coma 0x08001C 2 h))

/-- SYS_CLR (R409). -/
def execSysClr (h : Hdr) (s : State) : Host.Outcome State Fault Refusal :=
  .next (State.settled (s.writeRow h.half 0x34 1 h))

/-- TLK_CLR (R410). -/
def execTlkClr (h : Hdr) (s : State) : Host.Outcome State Fault Refusal :=
  .next (State.settled (s.writeRow h.half 0x010010 1 h))

/-- HSP_CLR (R412). -/
def execHspClr (h : Hdr) (s : State) : Host.Outcome State Fault Refusal :=
  .next (State.settled (s.writeRow .coma 0x0B0010 1 h))

/-- AON_CLR_TAMPCNT (R318). -/
def execAonClrTampcnt (h : Hdr) (s : State) : Host.Outcome State Fault Refusal :=
  .next (State.settled (s.writeRow .coma 0x050048 1 h))

/-- AON_CLR_BAT_NEW (R316). -/
def execAonClrBatNew (h : Hdr) (s : State) : Host.Outcome State Fault Refusal :=
  .next (State.settled (s.writeRow .coma 0x050048 2 h))

/-- AON_CLR_CAL_INV (R308). -/
def execAonClrCalInv (h : Hdr) (s : State) : Host.Outcome State Fault Refusal :=
  .next (State.settled (s.writeRow .coma 0x050048 4 h))

/-- UPD_CTL_ABORT (R392). -/
def execUpdCtlAbort (h : Hdr) (s : State) : Host.Outcome State Fault Refusal :=
  .next (State.settled (match h.half with | .coma => s.writeRow .coma 0xC0 1 h | .nucleus => s.writeRow .nucleus 0x0B0000 (s.rwN 0x0B0000 ||| 1) h))

/-- SRC_SEL (R127). -/
def execSrcSel (h : Hdr) (v : Word) (s : State) : Host.Outcome State Fault Refusal :=
  .next (State.settled (s.writeRow .nucleus 0x028000 v h))

/-- PHX_SSEL (R185). -/
def execPhxSsel (h : Hdr) (v : Word) (s : State) : Host.Outcome State Fault Refusal :=
  .next (State.settled (s.writeRow .nucleus 0x040010 v h))

/-- PHX_XSEL (R185). -/
def execPhxXsel (h : Hdr) (v : Word) (s : State) : Host.Outcome State Fault Refusal :=
  .next (State.settled (s.writeRow .nucleus 0x040014 v h))

/-- ISL_ISEL (R206). -/
def execIslIsel (h : Hdr) (v : Word) (s : State) : Host.Outcome State Fault Refusal :=
  .next (State.settled (s.writeRow .nucleus 0x050034 v h))

/-- ISL_BSEL (R206). -/
def execIslBsel (h : Hdr) (v : Word) (s : State) : Host.Outcome State Fault Refusal :=
  .next (State.settled (s.writeRow .nucleus 0x050038 v h))

/-- ALM_RSEL (R261). -/
def execAlmRsel (h : Hdr) (v : Word) (s : State) : Host.Outcome State Fault Refusal :=
  .next (State.settled (s.writeRow .nucleus 0x070018 v h))

/-- NRG_SEL (R298). -/
def execNrgSel (h : Hdr) (v : Word) (s : State) : Host.Outcome State Fault Refusal :=
  .next (State.settled (s.writeRow .coma 0x070018 v h))

/-- ORY_NSEL (R280). -/
def execOryNsel (h : Hdr) (v : Word) (s : State) : Host.Outcome State Fault Refusal :=
  .next (State.settled (s.writeRow .nucleus 0x080020 v h))

/-- REC_CUR (R360). -/
def execRecCur (h : Hdr) (v : Word) (s : State) : Host.Outcome State Fault Refusal :=
  .next (State.settled (s.writeRow .coma 0x090014 v h))

/-- REC_SELFSEL (R364). -/
def execRecSelfsel (h : Hdr) (v : Word) (s : State) : Host.Outcome State Fault Refusal :=
  .next (State.settled (s.writeRow .coma 0x090024 v h))

/-- ING_QHWM (R406). -/
def execIngQhwm (h : Hdr) (s : State) : Host.Outcome State Fault Refusal :=
  .next (State.settled (s.readRow .nucleus 0x02000C h))

/-- ISL_MAXT (R406). -/
def execIslMaxt (h : Hdr) (s : State) : Host.Outcome State Fault Refusal :=
  .next (State.settled (s.readRow .nucleus 0x050028 h))

/-- ISL_ELOG (R406). -/
def execIslElog (h : Hdr) (s : State) : Host.Outcome State Fault Refusal :=
  .next (State.settled (s.readRow .nucleus 0x05003C h))

/-- LBE_EE_TMAX (R406). -/
def execLbeEeTmax (h : Hdr) (k : Nat) (s : State) : Host.Outcome State Fault Refusal :=
  .next (State.settled (s.readRow .nucleus (aLbe k 0x34) h))

/-- PHX_X_MAXTVE (R406). -/
def execPhxXMaxtve (h : Hdr) (s : State) : Host.Outcome State Fault Refusal :=
  .next (State.settled (s.readRow .nucleus 0x040214 h))

/-- SYS_TJX (R406). -/
def execSysTjx (h : Hdr) (s : State) : Host.Outcome State Fault Refusal :=
  .next (State.settled (s.readRow h.half 0x28 h))

/-- HSP_RQHWM (R406). -/
def execHspRqhwm (h : Hdr) (s : State) : Host.Outcome State Fault Refusal :=
  .next (State.settled (s.readRow .coma 0x0B000C h))

/-- NRG_W_MAXDEM (R406). -/
def execNrgWMaxdem (h : Hdr) (s : State) : Host.Outcome State Fault Refusal :=
  .next (State.settled (s.readRow .coma 0x070070 h))

/-- AFE_CC_STAT (R406). -/
def execAfeCcStat (h : Hdr) (k : Nat) (s : State) : Host.Outcome State Fault Refusal :=
  .next (State.settled (s.readRow .coma (aAfeC k 0) h))

/-- ISL_CTL_ENABLE (R188). -/
def execIslCtlEnable (h : Hdr) (v : Word) (s : State) : Host.Outcome State Fault Refusal :=
  .next (State.settled (s.writeRow .nucleus 0x050000 v h))

/-- ALM_CTL_RULES_EN (R261). -/
def execAlmCtlRulesEn (h : Hdr) (v : Word) (s : State) : Host.Outcome State Fault Refusal :=
  .next (State.settled (s.writeRow .nucleus 0x070000 v h))

/-- TIM_DOMAIN_CFG_WRITE (R80). -/
def execTimDomainCfgWrite (h : Hdr) (d : Dom) (r : DomReg) (v : Word) (s : State) : Host.Outcome State Fault Refusal :=
  .next (State.settled (s.writeRow .coma (aDom d (domOffset r)) v h))

/-- NRG_POINT_ENABLE (R282). -/
def execNrgPointEnable (h : Hdr) (k : Nat) (v : Word) (s : State) : Host.Outcome State Fault Refusal :=
  .next (State.settled (s.writeRow .coma (aNrg k 0) v h))

/-- PUL_ENABLE (R296). -/
def execPulEnable (h : Hdr) (k : Nat) (v : Word) (s : State) : Host.Outcome State Fault Refusal :=
  .next (State.settled (s.writeRow .coma (aPul k 0) v h))

/-- ALM_GOOSE_ENABLE (R247). -/
def execAlmGooseEnable (h : Hdr) (k : Nat) (v : Word) (s : State) : Host.Outcome State Fault Refusal :=
  .next (State.settled (s.writeRow .nucleus (aGse k 0) v h))

/-- EGR_STREAM_ENABLE (R252). -/
def execEgrStreamEnable (h : Hdr) (k : Nat) (v : Word) (s : State) : Host.Outcome State Fault Refusal :=
  .next (State.settled (s.writeRow .nucleus (aEgr k 0) v h))

/-- ALM_DG_WRITE (R249). -/
def execAlmDgWrite (h : Hdr) (v : Word) (s : State) : Host.Outcome State Fault Refusal :=
  .next (State.settled (s.writeRow .nucleus 0x070014 v h))

/-- AFE_PRESET_WRITE (R157). -/
def execAfePresetWrite (h : Hdr) (v : Word) (s : State) : Host.Outcome State Fault Refusal :=
  .next (State.settled (s.writeRow .coma 0x060000 v h))

/-- REC_IVL_WRITE (R363). -/
def execRecIvlWrite (h : Hdr) (v : Word) (s : State) : Host.Outcome State Fault Refusal :=
  .next (State.settled (s.writeRow .coma 0x090000 v h))

/-- ALM_PIN_CFG_WRITE (R244). -/
def execAlmPinCfgWrite (h : Hdr) (k : Nat) (v : Word) (s : State) : Host.Outcome State Fault Refusal :=
  .next (State.settled (s.writeRow .nucleus (aPin k 0) v h))

/-- FLT_SN_CFG_FORCE (R343). -/
def execFltSnCfgForce (h : Hdr) (k : Nat) (v : Word) (s : State) : Host.Outcome State Fault Refusal :=
  .next (State.settled (s.writeRow h.half (aFlt h.half k 0) (v ||| 0x20) h))

end Sys2Proof.Machine
end

