-- ==== Sys2Proof/Machine/Sundot.lean ====
section
/-! DEFINITION. The Sundot catalogue: which body an opcode runs, and the packets that waited (R38, R44, R382, R394, R413). -/

namespace Sys2Proof.Machine

/-- The body of an opcode (R44). An opcode outside the catalogue is refused before it gets here (R40 step 6). -/
def bodyOf (op : Nat) : Hdr → List Word → State → Res :=
  match op with
  | 0x0000 => cmdNop
  | 0x0001 => cmdIdent
  | 0x0002 => cmdStatus
  | 0x0003 => cmdAttnAck
  | 0x0100 => cmdRegRead
  | 0x0101 => cmdRegWrite
  | 0x0102 => cmdRegModify
  | 0x0200 => cmdTblRead
  | 0x0201 => cmdTblWrite
  | 0x0202 => cmdTblCommit
  | 0x0203 => cmdTblDiscard
  | 0x0204 => cmdTblInfo
  | 0x0300 => cmdGrpStart
  | 0x0301 => cmdGrpStop
  | 0x0302 => cmdGrpQuery
  | 0x0400 => cmdAfeStart
  | 0x0401 => cmdAfeStop
  | 0x0402 => cmdCicSync
  | 0x0403 => cmdCicLoadcoef
  | 0x0404 => cmdAfeCal
  | 0x0500 => cmdIslQuery
  | 0x0600 => cmdLbeStart
  | 0x0601 => cmdLbeStop
  | 0x0602 => cmdLbeQuery
  | 0x0700 => cmdAlmQuery
  | 0x0701 => cmdAlmRelease
  | 0x0800 => cmdNrgSnapshot
  | 0x0801 => cmdNrgRead
  | 0x0802 => cmdNrgPreset
  | 0x0900 => cmdTimeRead
  | 0x0901 => cmdTimeSelect
  | 0x0902 => cmdTimeRestep
  | 0x0903 => cmdTimeAsym
  | 0x0904 => cmdRtcSet
  | 0x0905 => cmdRtcRead
  | 0x0A00 => cmdKeyInstall
  | 0x0A01 => cmdKeyDerive
  | 0x0A02 => cmdKeyRevoke
  | 0x0A03 => cmdKeyChallenge
  | 0x0A04 => cmdKeyStatus
  | 0x0B00 => cmdRecOpen
  | 0x0B01 => cmdRecRead
  | 0x0B02 => cmdRecClose
  | 0x0B03 => cmdRecFreeze
  | 0x0B04 => cmdRecThaw
  | 0x0B05 => cmdRecClear
  | 0x0C00 => cmdFltRead
  | 0x0C01 => cmdFltClear
  | 0x0C02 => cmdFltForce
  | 0x0C03 => cmdFltErrpin
  | 0x0D00 => cmdUpdBegin
  | 0x0D01 => cmdUpdData
  | 0x0D02 => cmdUpdVerify
  | 0x0D03 => cmdUpdSwitch
  | 0x0D04 => cmdUpdRepair
  | 0x0E00 => cmdOryJoin
  | 0x0E01 => cmdOryLeave
  | 0x0E02 => cmdOryStatus
  | 0x0F00 => cmdXcvReadid
  | 0x0F01 => cmdXcvDiag
  | 0x0F02 => cmdPortCtl
  | _ => fun _ _ s => .fail s eOpcode

/-- A packet that passed steps 1 to 4 of R40. -/
def State.dispatch (op : Nat) (h : Hdr) (ps : List Word) (s : State) : State := s.serve op h ps (bodyOf op)

/-! ## Packets that waited -/

/-- The waiting packets that may run: their half takes packets, their block is not held, and none that has to be taken first waits. -/
def State.readyPackets (s : State) : List Packet → List Packet → List Packet
  | [], _ => []
  | k :: r, seen =>
    let rest := s.readyPackets r (k :: seen)
    if s.paused k.hdr.half || s.paused .coma || s.blockHeld k.opcode k.hdr k.params ||
        seen.any (fun e => ordered e k.opcode k.hdr k.params) then rest else k :: rest

/-- The flow of a priority that a half's scheduler served last (R370); none yet. -/
def State.lastFlow (hf : Half) (pri : Nat) (s : State) : Option Nat :=
  nth none (match hf with | .coma => s.cmd.servedC | .nucleus => s.cmd.servedN) pri

/-- How many flows of the priority stand between the last one served and this one, in ascending order round the 17 ports (R370). -/
def State.flowGap (hf : Half) (p : Nat) (s : State) : Nat :=
  match s.lastFlow hf (s.flowPri hf p) with
  | some q => (p + 16 - q) % 17
  | none => p

/-- The packet dispatched before another: the smaller priority number, then the flow that comes first after the last served (R370). -/
def State.sooner (hf : Half) (s : State) (k b : Packet) : Packet :=
  let pk := s.flowPri hf k.hdr.port
  let pb := s.flowPri hf b.hdr.port
  if pb < pk ∨ (pb = pk ∧ s.flowGap hf b.hdr.port < s.flowGap hf k.hdr.port) then b else k

/-- The packet that a half's scheduler dispatches next (R370). -/
def State.nextReady (hf : Half) (s : State) : Option Packet :=
  match s.readyPackets s.cmd.waiting [] with
  | [] => none
  | k :: r => some (r.foldl (s.sooner hf) k)

/-- Waiting packets run while they may, at most n. -/
def State.resumeN (hf : Half) : Nat → State → State
  | 0, s => s
  | n + 1, s =>
    match s.nextReady hf with
    | none => s
    | some k =>
      let s1 : State := State.mapPort k.hdr.port (fun c => { c with path := k.path }) { s with cmd := { s.cmd with waiting := s.cmd.waiting.erase k } }
      State.resumeN hf n (s1.run k.opcode k.hdr k.params (bodyOf k.opcode))

/-- The frames that waited for the firmware's answers (R86). -/
def State.answerFrames (s : State) : State :=
  s.cmd.answers.foldl (fun (s : State) x =>
    let r := rxOf x.2
    s.firmwareIn x.1 (s.rxPri x.1 r) r) { s with cmd := { s.cmd with answers := [] } }

/-- The half's work of classes 3 and 7 that waited, the class of the smaller priority number first (R369, R370). -/
def State.resumeWork (hf : Half) (s : State) : State :=
  match hf with
  | .nucleus => s.writeRecords .nucleus
  | .coma => if s.classPri .coma 7 < s.classPri .coma 3 then s.answerFrames.writeRecords .coma else (s.writeRecords .coma).answerFrames

/-- The scheduler of a half dispatches what waited for it (R382, R394, R413): the sparing of cores first, which follows the switch (R400), then
command packets, which precede every other work (R381). -/
def State.resume (hf : Half) (s : State) : State :=
  let s0 := if s.paused hf then s else s.spareDue hf
  let s1 := State.resumeN hf s0.cmd.waiting.length s0
  if s1.paused hf then s1 else s1.resumeWork hf

/-! ## Packets as bytes (R32-R35, R38-R40) -/

/-- Where a packet came in: over the HSP, or in band. -/
inductive Via where
  | hsp
  | udp (b : InBand)

/-- The number in n bytes at offset o, 0 for each byte that did not arrive (R40). -/
def fieldPad (o n : Nat) (bs : List Byte) : Nat := fieldAt o n (bs ++ List.replicate (o + n) 0)

/-- A packet's fields, 0 where a byte did not arrive (R32, R40). -/
def pktHdr (port : Nat) (bs : List Byte) : Hdr :=
  let c := nth 0 bs 2
  { port := port, half := if c.getLsbD 3 then .nucleus else .coma, tag := nth 0 bs 3, seq := w32 (fieldPad 8 4 bs),
    resync := c.getLsbD 1 }
def pktOp (bs : List Byte) : Nat := fieldPad 4 2 bs
def pktLen (bs : List Byte) : Nat := fieldAt 6 2 bs

/-- Steps 1 to 3 of R40; the largest L of the transport (R35). -/
def pktCheck (maxL : Nat) (bs : List Byte) : Option Byte :=
  if fieldAt 0 2 bs ≠ 0x0D1E ∨ bs.length < 2 ∨ (3 ≤ bs.length ∧ (nth 0 bs 2).toNat / 16 ≠ 1) then some eSync
  else if bs.length < 8 ∨ bs.length ≠ 16 + 4 * pktLen bs ∨ maxL < pktLen bs then some eLength
  else if fieldAt (bs.length - 4) 4 bs ≠ (crc32c (bs.take (bs.length - 4))).toNat then some eCrc
  else none

def pktParams (bs : List Byte) : List Word := wordsN (pktLen bs) (slice 12 (4 * pktLen bs) bs)

/-- The command port of a source, allocated or not (R38). -/
def State.portOf (v : Via) (s : State) : Option CmdPort :=
  match v with
  | .hsp => s.port? 0
  | .udp b => s.cmd.ports.find? (fun c => c.id != 0 && c.net == b.net && c.v6 == b.v6 && c.ip == b.ip && c.udp == b.udp)

/-- A reply that no command executed for: to the source's command port, or to a source that has none (R39, R40). -/
def State.reject (v : Via) (bs : List Byte) (code : Byte) (detail : Nat) (s : State) : State :=
  let c := s.portOf v
  let id := match c with | some c => c.id | none => 0
  let r0 := s.buildReply (pktHdr id bs) (pktOp bs) code detail []
  match v, c with
  | .hsp, _ => s.sendReply r0 0
  | .udp b, some c => s.sendReply { r0 with path := b.path } c.id
  | .udp b, none => s.pushFw b.net 7 (s.replyFrame b.net b.ip b.udp false { r0 with path := b.path })

/-- The lowest free in-band command port number (R39). -/
def State.freePort (s : State) : Option Nat := ((List.range 16).map (· + 1)).find? (fun i => !s.cmd.ports.any (fun c => c.id == i))

/-- RESYNC on a port that exists: what it held is released; over the HSP its queue is flushed (R38). -/
def State.resync (p : Nat) (s : State) : State :=
  let s1 := s.releaseHeld p
  if p = 0 then (s1.mapPort 0 (fun c => { c with q := c.q.flushed })).latchC 0x0B0008 3 else s1

/-- Step 4 of R40 and what follows (R38, R39). -/
def State.sequenced (v : Via) (bs : List Byte) (s : State) : State :=
  let run := fun (p : Nat) (x : State) => x.dispatch (pktOp bs) (pktHdr p bs) (pktParams bs)
  let resync := (pktHdr 0 bs).resync
  match s.portOf v with
  | some c =>
    let h := pktHdr c.id bs
    let s1 := match v with | .hsp => s | .udp b => s.mapPort c.id (fun c => { c with path := b.path })
    if resync then run c.id (s1.resync c.id)
    else if h.seq = s.expectedSeq c then run c.id s1
    else match (s.cmd.waiting.filter (fun k => k.hdr.port == c.id)).getLast?, c.last with
    | some k, _ => if k.hdr.seq = h.seq then s else s.reject v bs eSeq 0
    | none, some r =>
      if r.seq = h.seq then
        s.sendReply { r with level := s.attn.level, summary := s.attn.bits, gen := s.attn.gen, path := match v with | .hsp => r.path | .udp b => b.path } c.id
      else s.reject v bs eSeq 0
    | none, none => s.reject v bs eSeq 0
  | none =>
    match v with
    | .hsp => s
    | .udp b =>
      if !resync then s.reject v bs eSeq 1
      else match s.freePort with
      | none => s.reject v bs eBusy 0
      | some i =>
        let c : CmdPort := { CmdPort.fresh i with net := b.net, v6 := b.v6, ip := b.ip, udp := b.udp, path := b.path }
        let s1 : State := { s with cmd := { s.cmd with ports := insertBy CmdPort.id c s.cmd.ports } }
        run i s1

/-- A packet as it came in; rep: what counts a packet with REP = 1 (R33). -/
def State.packetIn (v : Via) (maxL : Nat) (rep : State → State) (bs : List Byte) (s : State) : State :=
  match pktCheck maxL bs with
  | some code => s.reject v bs code 0
  | none => if (nth 0 bs 2).getLsbD 2 then rep s else s.sequenced v bs

/-- A datagram to the command port number (R52). Nothing is taken before the Coma firmware runs (R390). -/
def State.datagramIn (b : InBand) (s : State) : State :=
  if !s.pwr.fw then s
  else s.packetIn (.udp b) (if s.maxlen b.net < 4166 then 360 else 1020) (fun s => s.bumpC (aPrt b.net prtCmdrej) 1) b.payload

/-- The release of an in-band command port idle for 60 s (R39). A bank whose commit is still pending is held by no port until then
(DEDUCED, log 139). -/
def doIdleRelease (p : Nat) (s : State) : State :=
  if p = 0 then s
  else
    let s1 := s.releaseHeld p
    { s1 with
      tbl := { s1.tbl with
        tbl := s1.tbl.tbl.map (fun t => if t.holder = some p then { t with holder := some noPort } else t)
        commits := s1.tbl.commits.map (fun k => if k.port = p then { k with gone := true } else k) }
      cmd := { s1.cmd with
      ports := s1.cmd.ports.filter (fun c => c.id != p)
      ops := s1.cmd.ops.filter (fun o => o.port != p)
      recs := s1.cmd.recs.filter (fun r => r.port != p) } }

/-! ## The table's rows -/

/-- COMMAND_PORT_IDLE_RELEASE (R39). -/
def execCommandPortIdleRelease (p : Nat) (s : State) : Host.Outcome State Fault Refusal :=
  .next (State.settled (whenUp .coma (doIdleRelease p) s))

/-- PORT_TRANSMIT_FRAME (R87). -/
def execPortTransmitFrame (p : Nat) (t : Nat) (s : State) : Host.Outcome State Fault Refusal :=
  .next (State.settled (whenUp .coma (doTransmit State.datagramIn p t) (if s.comaUp then s.reach t else s)))

/-- FRAME_RECEIVE (R83). -/
def execFrameReceive (p : Nat) (t : Nat) (f : RxFrame) (s : State) : Host.Outcome State Fault Refusal :=
  .next (State.settled ((whenUp .coma (doReceive State.datagramIn p t f.bytes f.errs) (if s.comaUp then s.reach t else s)).judge))

/-- BLOCK_RESET_COMPLETE (R342). -/
def execBlockResetComplete (d : ResetDomain) (s : State) : Host.Outcome State Fault Refusal :=
  .next (State.settled ((whenUp .coma (fun x => (x.blockDone d).resume (domainHalf d)) s).judge))

/-- UPD_IMAGE_READY (R394). -/
def execUpdImageReady (hf : Half) (s : State) : Host.Outcome State Fault Refusal :=
  .next (State.settled (whenUp .coma (fun x => (x.imageReady hf).resume hf) s))

/-- UPD_SWITCH_ROLLBACK (R395). -/
def execUpdSwitchRollback (hf : Half) (s : State) : Host.Outcome State Fault Refusal :=
  .next (State.settled (whenUp .coma (fun x => (x.imageRollback hf).resume hf) s))

end Sys2Proof.Machine
end

