-- ==== Sys2Proof/Machine/Hsp.lean ====
section
/-! DEFINITION. Transactions of the Host Serial Port (R49-R51, R412). Each is one command: HSP_CS_N falls and rises within it. -/

namespace Sys2Proof.Machine

/-- A discarded transaction counted, with its event; more than 16 in a second are F_HSP_PROTO (R338, R412). -/
def State.discardTx (a i : Nat) (s : State) : State :=
  let s1 : State := { s with cmd := { s.cmd with discards := s.cmd.discards + 1 } }
  let s2 := (s1.bumpC a 1).latchC 0x0B0008 i
  if s.cmd.discards = 16 then s2.faultC 42 else s2

/-- A write transaction: the bytes after its type byte (R50). -/
def doHspWrite (bs : List Byte) (s : State) : State :=
  if !s.hspRdy then s.discardTx 0x0B0064 1
  else if bs.length < 2 then s.discardTx 0x0B0068 2
  else (s.bumpC 0x0B0040 1).packetIn .hsp 1020 (fun s => s.bumpC 0x0B006C 1) bs

/-- The bytes of the oldest entry of the host reply queue: tag and what follows (R51). -/
def State.hspHead (s : State) : List Byte :=
  match (s.port? 0).bind (fun c => c.q.head) with
  | none => [0xE0]
  | some (.gap n) => 0x6A :: beBytes 2 n
  | some .flush => [0x3C]
  | some (.item r _) => 0x5A :: r.bytes false

/-- A read transaction of n bytes from the tag on: what the device drives, 0x00 beyond its bytes; an entry leaves the queue once its last
byte has been clocked out (R51). -/
def doHspRead (n : Nat) (s : State) : State :=
  let out := s.hspHead
  let whole := decide (out.length ≤ n)
  let s1 := State.bumpC 0x0B0044 1 { s with cmd := { s.cmd with hspOut := (out ++ List.replicate (n - out.length) 0).take n } }
  let s2 := if whole then s1.mapPort 0 (fun c => { c with q := c.q.pop }) else s1
  match (s.port? 0).bind (fun c => c.q.head) with
  | none => s1.bumpC 0x0B004C 1
  | some (.gap _) => if whole then s2.bumpC 0x0B0050 1 else s2
  | some .flush => if whole then s2.bumpC 0x0B0058 1 else s2
  | some (.item _ _) => if whole then s2.bumpC 0x0B0048 1 else (s2.bumpC 0x0B005C 1).latchC 0x0B0008 5

/-- A transaction of a type other than 0x01 and 0x02 (R49). -/
def doHspBad (ty : Byte) (s : State) : State := if ty = 1 ∨ ty = 2 then s else s.discardTx 0x0B0060 0

/-! ## The table's rows -/

/-- HSP_WRITE_TRANSACTION (R50). -/
def execHspWriteTransaction (bytes : List Byte) (s : State) : Host.Outcome State Fault Refusal :=
  .next (State.settled (whenUp .coma (doHspWrite bytes) s))

/-- HSP_READ_TRANSACTION (R51). -/
def execHspReadTransaction (n : Nat) (s : State) : Host.Outcome State Fault Refusal :=
  .next (State.settled (whenUp .coma (doHspRead n) s))

/-- HSP_BAD_TYPE (R49). -/
def execHspBadType (ty : Byte) (s : State) : Host.Outcome State Fault Refusal :=
  .next (State.settled (whenUp .coma (doHspBad ty) s))

end Sys2Proof.Machine
end

