-- ==== Sys2Proof/Machine/Balls.lean ====
section
/-! DEFINITION. The signal balls (R416): what each one does across power and reset (R418), and what boundary scan makes of it (R420). -/

namespace Sys2Proof.Machine

/-- The signal balls of R416. neg: the _N ball of a pair. -/
inductive Ball where
  | tx (n : Nat) (neg : Bool) | rx (n : Nat) (neg : Bool) | sref (neg : Bool)
  | xScl | xSda | xAbs (n : Nat) | xLos (n : Nat) | xTxflt (n : Nat) | xTxdis (n : Nat)
  | ppsIn | ppsOut | trefIn
  | hspClk | hspCsN | hspD (k : Nat) | hspRdy
  | rstN | bfClk | bfCsN | bfD (k : Nat) | syncN | errN | strap (k : Nat) | test
  | alm (p : Nat) | pul (p : Nat)
  | tck | trstN | tms | tdi | tdo
  | ain (k : Nat) | aref | xtalI | xtalO | vbat | tamp (k : Nat) | meshO | meshI
  deriving DecidableEq, Repr

/-- What a ball does: floats, is driven to a level, is in electrical idle, carries its interface's signals, or is held by the boundary scan. -/
inductive Drive where
  | highZ | low | high | idle | active | scan
  deriving DecidableEq, Repr

/-- A ball's type (R416): an input of whatever kind, an output, open-drain, bidirectional. -/
inductive Pad where
  | input | output | openDrain | both
  deriving DecidableEq, Repr

def Ball.pad : Ball → Pad
  | .tx _ _ | .xTxdis _ | .ppsOut | .hspRdy | .bfClk | .bfCsN | .alm _ | .pul _ | .tdo | .meshO | .xtalO => .output
  | .xScl | .xSda | .errN => .openDrain
  | .hspD _ | .bfD _ => .both
  | .rx _ _ | .sref _ | .xAbs _ | .xLos _ | .xTxflt _ | .ppsIn | .trefIn | .hspClk | .hspCsN | .rstN | .syncN | .strap _ | .test | .tck | .trstN
  | .tms | .tdi | .ain _ | .aref | .xtalI | .vbat | .tamp _ | .meshI => .input

/-- The balls that carry a boundary-scan cell (R420), in the order of R416; the order of the cells stands in the BSDL file alone. -/
def scanBalls : List Ball :=
  (List.range 8).map (fun i => .tx (i / 2) (i % 2 == 1)) ++ (List.range 8).map (fun i => .rx (i / 2) (i % 2 == 1)) ++
  [.sref false, .sref true, .xScl, .xSda] ++
  (List.range 4).map .xAbs ++ (List.range 4).map .xLos ++ (List.range 4).map .xTxflt ++ (List.range 4).map .xTxdis ++
  [.ppsIn, .ppsOut, .trefIn, .hspClk, .hspCsN] ++ (List.range 4).map .hspD ++ [.hspRdy, .rstN, .bfClk, .bfCsN] ++
  (List.range 4).map .bfD ++ [.syncN, .errN] ++ (List.range 3).map .strap ++ (List.range 8).map .alm ++ (List.range 4).map .pul

/-! ## What the device makes of a ball (R416, R418) -/

/-- A driven level. -/
def driven (b : Bool) : Drive := if b then .high else .low

/-- VDDIO is good (R310, R418). -/
def State.ioGood (s : State) : Bool := s.pwr.main && !s.pwr.vddioLow

/-- Chip reset is asserted, or phase P1 or P2 runs (R418). -/
def State.early (s : State) : Bool := s.pwr.inReset || decide (s.pwr.phase < 3)

/-- The boot flash is accessed: its directory and the Coma image in P2, the Nucleus image and the table set in P3 and after a half reset, an image
read back by UPD.VERIFY, the directory written at the end of a switch (R385, R389, R393, R394). -/
def State.readsFlash (s : State) : Bool :=
  let p2 := decide (s.pwr.phase = 2) && !s.pwr.rom && !s.pwr.stopped && !s.pwr.fw
  let p3 := s.pwr.fw && !s.pwr.grave && !s.pwr.hspBoot && !s.pwr.held && decide (s.pwr.fail ≠ 5) && decide (s.pwr.fail ≠ 7) &&
    (decide (s.pwr.phase = 3) || (decide (3 < s.pwr.phase) && s.pwr.nrst))
  let session := fun (h : Half) =>
    let u := s.updS h
    !s.toMemory h u.kind && (u.verifying || (u.switching && (u.ready || !s.swapsImage h)))
  !s.pwr.inReset && (p2 || p3 || (!s.pwr.grave && (session .coma || session .nucleus)))

/-- What the device itself does with a ball. HSP_RDY is low through P1 and P2 but while the ROM takes packets or a stop of start-up is read
(R390, DEDUCED, log 169); MESH_O is driven while AON_CTL.mesh_en = 1 (R313, R416). The two-wire bus is released and TDO floats between the
transactions and scans, each of which is one command; the lines of the HSP carry one while HSP_CS_N is low (log 4). -/
def State.drive (s : State) : Ball → Drive
  | .alm p => if s.early then .low else driven (s.pin p).ball
  | .pul p => if s.early then .low else driven (s.pulSt p).ball
  | .errN => if s.errn then .highZ else .low
  | .xTxdis n => if s.early then .high else driven (s.txdis n)
  | .hspRdy => driven s.hspRdy
  | .ppsOut => if s.early then .low else driven s.tim.ppsBall
  | .bfClk => if s.readsFlash then .active else .low
  | .bfCsN => if s.readsFlash then .active else .high
  | .bfD _ => if s.readsFlash then .active else .highZ
  | .hspD _ => if s.comaUp && Config.hspSelected s.tim.now then .active else .highZ
  | .tx _ _ => if s.early then .idle else .active
  | .meshO => if bit (s.rwC 0x050000) 1 then driven (s.aon.lfsr.getLsbD 14) else .highZ
  | .xtalO => .active
  | _ => .highZ

/-! ## Boundary scan (R420) -/

/-- The port is powered: VDDIO and VDD_C stand (R420). -/
def State.tapUp (s : State) : Bool := s.pwr.main && !s.pwr.low.elem .vddC

/-- What the loaded instruction acts as: one that drives the balls is BYPASS while RST_N is high. -/
def State.tapActs (s : State) : TapInstr := if s.pwr.tap.drives && s.pwr.rstN then .bypass else s.pwr.tap

/-- The level that the boundary register holds for a ball. -/
def State.cellLevel (b : Ball) (s : State) : Bool := nth false s.pwr.tapCells (scanBalls.idxOf b)

/-- A ball under EXTEST or CLAMP: an output takes its cell's level; which cell turns a bidirectional ball into an output stands in the BSDL file. -/
def State.scanned (b : Ball) (s : State) : Drive :=
  match b.pad with
  | .output => driven (s.cellLevel b)
  | .openDrain => if s.cellLevel b then .highZ else .low
  | .both => .scan
  | .input => .highZ

/-- What a ball shows: floating without its supply; held by an instruction that drives the balls while RST_N is low; else what the device makes of
it (R418, R420). The always-on balls run from VBAT in BACKUP. -/
def State.ball (s : State) (b : Ball) : Drive :=
  if b = .meshO ∨ b = .xtalO then (if s.pwr.mode = .off then .highZ else s.drive b)
  else if !s.ioGood then .highZ
  else if !scanBalls.elem b then s.drive b
  else match s.tapActs with
  | .highz => .highZ
  | .extest | .clamp => s.scanned b
  | .extestPulse | .extestTrain => (match b with | .tx _ _ => .active | _ => s.scanned b)
  | _ => s.drive b

/-- The level of a ball, where the device drives one. -/
def Drive.level : Drive → Option Bool
  | .low => some false
  | .high => some true
  | _ => none

end Sys2Proof.Machine
end

