-- ==== Sys2Proof/Machine/Jtag.lean ====
section
/-! DEFINITION. The test access port (R420). It works whatever RST_N and the power state are, while VDDIO and VDD_C stand. -/

namespace Sys2Proof.Machine

/-- The bits of a register, the lowest first. -/
def bitsLow (n : Nat) (w : Nat) : List Bool := (List.range n).map (fun i => w.testBit i)

/-- A scan of the data register that an instruction selects, an instruction row being the load of the instruction and one such scan: BYPASS (CLAMP
and HIGHZ use it too) and IDCODE shift their register out; the others capture the balls and take new cells from TDI, whose bits, like the levels
of balls that the device does not drive, are free (DESIGN CHOICE, log 168). s0: as the balls stood before. -/
def State.tapScan (s0 s : State) : State :=
  match s.tapActs with
  | .bypass | .clamp | .highz => { s with pwr := { s.pwr with tapOut := [false] } }
  | .idcode => { s with pwr := { s.pwr with tapOut := bitsLow 32 Config.idcode.toNat } }
  | .samplePreload | .extest | .extestPulse | .extestTrain =>
    { s with
      free := s.free + 2
      pwr := { s.pwr with
        tapOut := scanBalls.zipIdx.map (fun x => (s0.ball x.1).level.getD ((Config.freeNat s.free).testBit x.2))
        tapCells := bitsLow scanBalls.length (Config.freeNat (s.free + 1)) } }

/-- An instruction is loaded, TRST_N being high, and its data register scanned. -/
def State.tapLoad (i : TapInstr) (s : State) : State :=
  if s.tapUp then s.tapScan { s with pwr := { s.pwr with trst := false, tap := i } } else s

/-- TRST_N low: Test-Logic-Reset, in which the instruction is IDCODE. -/
def State.tapReset (s : State) : State := { s with pwr := { s.pwr with trst := true, tap := .idcode } }

/-! ## The table's rows -/

/-- JTAG_BYPASS (R420). -/
def execJtagBypass (s : State) : Host.Outcome State Fault Refusal :=
  .next (State.settled (s.tapLoad .bypass))

/-- JTAG_IDCODE (R420). -/
def execJtagIdcode (s : State) : Host.Outcome State Fault Refusal :=
  .next (State.settled (s.tapLoad .idcode))

/-- JTAG_SAMPLE_PRELOAD (R420). -/
def execJtagSamplePreload (s : State) : Host.Outcome State Fault Refusal :=
  .next (State.settled (s.tapLoad .samplePreload))

/-- JTAG_EXTEST (R420). -/
def execJtagExtest (s : State) : Host.Outcome State Fault Refusal :=
  .next (State.settled (s.tapLoad .extest))

/-- JTAG_CLAMP (R420). -/
def execJtagClamp (s : State) : Host.Outcome State Fault Refusal :=
  .next (State.settled (s.tapLoad .clamp))

/-- JTAG_HIGHZ (R420). -/
def execJtagHighz (s : State) : Host.Outcome State Fault Refusal :=
  .next (State.settled (s.tapLoad .highz))

/-- JTAG_EXTEST_PULSE (R420). -/
def execJtagExtestPulse (s : State) : Host.Outcome State Fault Refusal :=
  .next (State.settled (s.tapLoad .extestPulse))

/-- JTAG_EXTEST_TRAIN (R420). -/
def execJtagExtestTrain (s : State) : Host.Outcome State Fault Refusal :=
  .next (State.settled (s.tapLoad .extestTrain))

/-- TRST_N_LOW (R420). -/
def execTrstNLow (s : State) : Host.Outcome State Fault Refusal :=
  .next (State.settled (s.tapReset))

end Sys2Proof.Machine
end

