-- ==== Sys2Proof/Machine/Dispatch.lean ====
section
/-! DEFINITION. The effect of each command: one arm for each constructor, each one direct call of its meaning. -/

namespace Sys2Proof.Machine

def exec (i : Instr) (s : State) : Host.Outcome State Fault Refusal :=
  match i with
  | .nop h ps => Sys2Proof.Machine.execNop h ps s
  | .ident h ps => Sys2Proof.Machine.execIdent h ps s
  | .status h ps => Sys2Proof.Machine.execStatus h ps s
  | .attnAck h ps => Sys2Proof.Machine.execAttnAck h ps s
  | .regRead h ps => Sys2Proof.Machine.execRegRead h ps s
  | .regWrite h ps => Sys2Proof.Machine.execRegWrite h ps s
  | .regModify h ps => Sys2Proof.Machine.execRegModify h ps s
  | .tblRead h ps => Sys2Proof.Machine.execTblRead h ps s
  | .tblWrite h ps => Sys2Proof.Machine.execTblWrite h ps s
  | .tblCommit h ps => Sys2Proof.Machine.execTblCommit h ps s
  | .tblDiscard h ps => Sys2Proof.Machine.execTblDiscard h ps s
  | .tblInfo h ps => Sys2Proof.Machine.execTblInfo h ps s
  | .grpStart h ps => Sys2Proof.Machine.execGrpStart h ps s
  | .grpStop h ps => Sys2Proof.Machine.execGrpStop h ps s
  | .grpQuery h ps => Sys2Proof.Machine.execGrpQuery h ps s
  | .afeStart h ps => Sys2Proof.Machine.execAfeStart h ps s
  | .afeStop h ps => Sys2Proof.Machine.execAfeStop h ps s
  | .cicSync h ps => Sys2Proof.Machine.execCicSync h ps s
  | .cicLoadcoef h ps => Sys2Proof.Machine.execCicLoadcoef h ps s
  | .afeCal h ps => Sys2Proof.Machine.execAfeCal h ps s
  | .islQuery h ps => Sys2Proof.Machine.execIslQuery h ps s
  | .lbeStart h ps => Sys2Proof.Machine.execLbeStart h ps s
  | .lbeStop h ps => Sys2Proof.Machine.execLbeStop h ps s
  | .lbeQuery h ps => Sys2Proof.Machine.execLbeQuery h ps s
  | .almQuery h ps => Sys2Proof.Machine.execAlmQuery h ps s
  | .almRelease h ps => Sys2Proof.Machine.execAlmRelease h ps s
  | .nrgSnapshot h ps => Sys2Proof.Machine.execNrgSnapshot h ps s
  | .nrgRead h ps => Sys2Proof.Machine.execNrgRead h ps s
  | .nrgPreset h ps => Sys2Proof.Machine.execNrgPreset h ps s
  | .timeRead h ps => Sys2Proof.Machine.execTimeRead h ps s
  | .timeSelect h ps => Sys2Proof.Machine.execTimeSelect h ps s
  | .timeRestep h ps => Sys2Proof.Machine.execTimeRestep h ps s
  | .timeAsym h ps => Sys2Proof.Machine.execTimeAsym h ps s
  | .rtcSet h ps => Sys2Proof.Machine.execRtcSet h ps s
  | .rtcRead h ps => Sys2Proof.Machine.execRtcRead h ps s
  | .keyInstall h ps => Sys2Proof.Machine.execKeyInstall h ps s
  | .keyDerive h ps => Sys2Proof.Machine.execKeyDerive h ps s
  | .keyRevoke h ps => Sys2Proof.Machine.execKeyRevoke h ps s
  | .keyChallenge h ps => Sys2Proof.Machine.execKeyChallenge h ps s
  | .keyStatus h ps => Sys2Proof.Machine.execKeyStatus h ps s
  | .recOpen h ps => Sys2Proof.Machine.execRecOpen h ps s
  | .recRead h ps => Sys2Proof.Machine.execRecRead h ps s
  | .recClose h ps => Sys2Proof.Machine.execRecClose h ps s
  | .recFreeze h ps => Sys2Proof.Machine.execRecFreeze h ps s
  | .recThaw h ps => Sys2Proof.Machine.execRecThaw h ps s
  | .recClear h ps => Sys2Proof.Machine.execRecClear h ps s
  | .fltRead h ps => Sys2Proof.Machine.execFltRead h ps s
  | .fltClear h ps => Sys2Proof.Machine.execFltClear h ps s
  | .fltForce h ps => Sys2Proof.Machine.execFltForce h ps s
  | .fltErrpin h ps => Sys2Proof.Machine.execFltErrpin h ps s
  | .updBegin h ps => Sys2Proof.Machine.execUpdBegin h ps s
  | .updData h ps => Sys2Proof.Machine.execUpdData h ps s
  | .updVerify h ps => Sys2Proof.Machine.execUpdVerify h ps s
  | .updSwitch h ps => Sys2Proof.Machine.execUpdSwitch h ps s
  | .updRepairTile h ps => Sys2Proof.Machine.execUpdRepairTile h ps s
  | .updRepairLane h ps => Sys2Proof.Machine.execUpdRepairLane h ps s
  | .updRepairCore h ps => Sys2Proof.Machine.execUpdRepairCore h ps s
  | .updRepairHalfReset h ps => Sys2Proof.Machine.execUpdRepairHalfReset h ps s
  | .updRepairComaReset h ps => Sys2Proof.Machine.execUpdRepairComaReset h ps s
  | .oryJoin h ps => Sys2Proof.Machine.execOryJoin h ps s
  | .oryLeave h ps => Sys2Proof.Machine.execOryLeave h ps s
  | .oryStatus h ps => Sys2Proof.Machine.execOryStatus h ps s
  | .xcvReadid h ps => Sys2Proof.Machine.execXcvReadid h ps s
  | .xcvDiag h ps => Sys2Proof.Machine.execXcvDiag h ps s
  | .portCtlDisable h ps => Sys2Proof.Machine.execPortCtlDisable h ps s
  | .portCtlEnable h ps => Sys2Proof.Machine.execPortCtlEnable h ps s
  | .portCtlRereadModule h ps => Sys2Proof.Machine.execPortCtlRereadModule h ps s
  | .portCtlClearCounters h ps => Sys2Proof.Machine.execPortCtlClearCounters h ps s
  | .pwrctlStandby h => Sys2Proof.Machine.execPwrctlStandby h s
  | .pwrctlService h => Sys2Proof.Machine.execPwrctlService h s
  | .ingClr h => Sys2Proof.Machine.execIngClr h s
  | .srcClrCounters h => Sys2Proof.Machine.execSrcClrCounters h s
  | .srcClrEphemeris h => Sys2Proof.Machine.execSrcClrEphemeris h s
  | .alnClr h => Sys2Proof.Machine.execAlnClr h s
  | .phxClr h => Sys2Proof.Machine.execPhxClr h s
  | .islClr h => Sys2Proof.Machine.execIslClr h s
  | .lbeClr h => Sys2Proof.Machine.execLbeClr h s
  | .almClr h => Sys2Proof.Machine.execAlmClr h s
  | .egrClr h => Sys2Proof.Machine.execEgrClr h s
  | .oryClr h => Sys2Proof.Machine.execOryClr h s
  | .nrgClr h => Sys2Proof.Machine.execNrgClr h s
  | .recClr h => Sys2Proof.Machine.execRecClr h s
  | .keyClr h => Sys2Proof.Machine.execKeyClr h s
  | .fltClrCounters h => Sys2Proof.Machine.execFltClrCounters h s
  | .fltClrRstcause h => Sys2Proof.Machine.execFltClrRstcause h s
  | .sysClr h => Sys2Proof.Machine.execSysClr h s
  | .tlkClr h => Sys2Proof.Machine.execTlkClr h s
  | .hspClr h => Sys2Proof.Machine.execHspClr h s
  | .aonClrTampcnt h => Sys2Proof.Machine.execAonClrTampcnt h s
  | .aonClrBatNew h => Sys2Proof.Machine.execAonClrBatNew h s
  | .aonClrCalInv h => Sys2Proof.Machine.execAonClrCalInv h s
  | .updCtlAbort h => Sys2Proof.Machine.execUpdCtlAbort h s
  | .srcSel h v => Sys2Proof.Machine.execSrcSel h v s
  | .phxSsel h v => Sys2Proof.Machine.execPhxSsel h v s
  | .phxXsel h v => Sys2Proof.Machine.execPhxXsel h v s
  | .islIsel h v => Sys2Proof.Machine.execIslIsel h v s
  | .islBsel h v => Sys2Proof.Machine.execIslBsel h v s
  | .almRsel h v => Sys2Proof.Machine.execAlmRsel h v s
  | .nrgSel h v => Sys2Proof.Machine.execNrgSel h v s
  | .oryNsel h v => Sys2Proof.Machine.execOryNsel h v s
  | .recCur h v => Sys2Proof.Machine.execRecCur h v s
  | .recSelfsel h v => Sys2Proof.Machine.execRecSelfsel h v s
  | .ingQhwm h => Sys2Proof.Machine.execIngQhwm h s
  | .islMaxt h => Sys2Proof.Machine.execIslMaxt h s
  | .islElog h => Sys2Proof.Machine.execIslElog h s
  | .lbeEeTmax h k => Sys2Proof.Machine.execLbeEeTmax h k s
  | .phxXMaxtve h => Sys2Proof.Machine.execPhxXMaxtve h s
  | .sysTjx h => Sys2Proof.Machine.execSysTjx h s
  | .hspRqhwm h => Sys2Proof.Machine.execHspRqhwm h s
  | .nrgWMaxdem h => Sys2Proof.Machine.execNrgWMaxdem h s
  | .afeCcStat h k => Sys2Proof.Machine.execAfeCcStat h k s
  | .islCtlEnable h v => Sys2Proof.Machine.execIslCtlEnable h v s
  | .almCtlRulesEn h v => Sys2Proof.Machine.execAlmCtlRulesEn h v s
  | .timDomainCfgWrite h d r v => Sys2Proof.Machine.execTimDomainCfgWrite h d r v s
  | .nrgPointEnable h k v => Sys2Proof.Machine.execNrgPointEnable h k v s
  | .pulEnable h k v => Sys2Proof.Machine.execPulEnable h k v s
  | .almGooseEnable h k v => Sys2Proof.Machine.execAlmGooseEnable h k v s
  | .egrStreamEnable h k v => Sys2Proof.Machine.execEgrStreamEnable h k v s
  | .almDgWrite h v => Sys2Proof.Machine.execAlmDgWrite h v s
  | .afePresetWrite h v => Sys2Proof.Machine.execAfePresetWrite h v s
  | .recIvlWrite h v => Sys2Proof.Machine.execRecIvlWrite h v s
  | .almPinCfgWrite h k v => Sys2Proof.Machine.execAlmPinCfgWrite h k v s
  | .fltSnCfgForce h k v => Sys2Proof.Machine.execFltSnCfgForce h k v s
  | .hspWriteTransaction bytes => Sys2Proof.Machine.execHspWriteTransaction bytes s
  | .hspReadTransaction n => Sys2Proof.Machine.execHspReadTransaction n s
  | .hspBadType ty => Sys2Proof.Machine.execHspBadType ty s
  | .commandPortIdleRelease p => Sys2Proof.Machine.execCommandPortIdleRelease p s
  | .frameReceive p t f => Sys2Proof.Machine.execFrameReceive p t f s
  | .linkDown p hiBer => Sys2Proof.Machine.execLinkDown p hiBer s
  | .linkUp p => Sys2Proof.Machine.execLinkUp p s
  | .remoteFault p on => Sys2Proof.Machine.execRemoteFault p on s
  | .pfcPauseExpiry p pri => Sys2Proof.Machine.execPfcPauseExpiry p pri s
  | .pfcXoffRefresh p => Sys2Proof.Machine.execPfcXoffRefresh p s
  | .pfcXonRelease p => Sys2Proof.Machine.execPfcXonRelease p s
  | .portTransmitFrame p t => Sys2Proof.Machine.execPortTransmitFrame p t s
  | .xcvAbsEdge n level => Sys2Proof.Machine.execXcvAbsEdge n level s
  | .moduleInserted n => Sys2Proof.Machine.execModuleInserted n s
  | .moduleRemoved n => Sys2Proof.Machine.execModuleRemoved n s
  | .xcvLosChange n level => Sys2Proof.Machine.execXcvLosChange n level s
  | .xcvIdentityRead n reads a2 => Sys2Proof.Machine.execXcvIdentityRead n reads a2 s
  | .xcvBusTransaction n dev off data ack => Sys2Proof.Machine.execXcvBusTransaction n dev off data ack s
  | .xcvDiagPoll n data alarms => Sys2Proof.Machine.execXcvDiagPoll n data alarms s
  | .xcvTxfltAssert n => Sys2Proof.Machine.execXcvTxfltAssert n s
  | .xcvTxdisRetry n still => Sys2Proof.Machine.execXcvTxdisRetry n still s
  | .xcvBusStuck still => Sys2Proof.Machine.execXcvBusStuck still s
  | .xcvLifeHour n => Sys2Proof.Machine.execXcvLifeHour n s
  | .ptpReceiptTimeout d announce => Sys2Proof.Machine.execPtpReceiptTimeout d announce s
  | .delayReqSend d => Sys2Proof.Machine.execDelayReqSend d s
  | .pdelayReqSend p => Sys2Proof.Machine.execPdelayReqSend p s
  | .asymWindowExpiry d => Sys2Proof.Machine.execAsymWindowExpiry d s
  | .asymValidationComplete => Sys2Proof.Machine.execAsymValidationComplete s
  | .acqwaitExpiry => Sys2Proof.Machine.execAcqwaitExpiry s
  | .restepTimeout => Sys2Proof.Machine.execRestepTimeout s
  | .ppsInEdge t => Sys2Proof.Machine.execPpsInEdge t s
  | .ppsInLost => Sys2Proof.Machine.execPpsInLost s
  | .timeBaseSecond => Sys2Proof.Machine.execTimeBaseSecond s
  | .ppsOutPulseEnd => Sys2Proof.Machine.execPpsOutPulseEnd s
  | .trefPresenceChange on err => Sys2Proof.Machine.execTrefPresenceChange on err s
  | .followerCorrection p => Sys2Proof.Machine.execFollowerCorrection p s
  | .leapSecondStart => Sys2Proof.Machine.execLeapSecondStart s
  | .tailLinkPacketReceive hf cls bytes lanes => Sys2Proof.Machine.execTailLinkPacketReceive hf cls bytes lanes s
  | .tailLinkRetrainComplete hf ok => Sys2Proof.Machine.execTailLinkRetrainComplete hf ok s
  | .c37FrameParse => Sys2Proof.Machine.execC37FrameParse s
  | .svAsduParse => Sys2Proof.Machine.execSvAsduParse s
  | .ingestItemProcess t => Sys2Proof.Machine.execIngestItemProcess t s
  | .epochBoundary t => Sys2Proof.Machine.execEpochBoundary t s
  | .alignTick t => Sys2Proof.Machine.execAlignTick t s
  | .islandFinalRun ns => Sys2Proof.Machine.execIslandFinalRun ns s
  | .islandProvisionalRun ns => Sys2Proof.Machine.execIslandProvisionalRun ns s
  | .labelRoundTimeout => Sys2Proof.Machine.execLabelRoundTimeout s
  | .lbeUpdate e ns => Sys2Proof.Machine.execLbeUpdate e ns s
  | .phxEstimateEpoch src key t => Sys2Proof.Machine.execPhxEstimateEpoch src key t s
  | .cicOutput path bits => Sys2Proof.Machine.execCicOutput path bits s
  | .afeSyncApply t => Sys2Proof.Machine.execAfeSyncApply t s
  | .syncNFall t lowNs => Sys2Proof.Machine.execSyncNFall t lowNs s
  | .syncNStuck => Sys2Proof.Machine.execSyncNStuck s
  | .nominalCycleEnd => Sys2Proof.Machine.execNominalCycleEnd s
  | .afeBgcalTimer => Sys2Proof.Machine.execAfeBgcalTimer s
  | .roverStepAdvance => Sys2Proof.Machine.execRoverStepAdvance s
  | .nrgCycleEnd m => Sys2Proof.Machine.execNrgCycleEnd m s
  | .nrgPhasorCycleComplete m => Sys2Proof.Machine.execNrgPhasorCycleComplete m s
  | .demandIntervalEnd => Sys2Proof.Machine.execDemandIntervalEnd s
  | .pulseDue p => Sys2Proof.Machine.execPulseDue p s
  | .pulseWidthEnd p => Sys2Proof.Machine.execPulseWidthEnd p s
  | .pulseGapEnd p => Sys2Proof.Machine.execPulseGapEnd p s
  | .oryMessageReceive => Sys2Proof.Machine.execOryMessageReceive s
  | .oryHeartbeatSend => Sys2Proof.Machine.execOryHeartbeatSend s
  | .oryNeighbourTimeout k => Sys2Proof.Machine.execOryNeighbourTimeout k s
  | .oryJoinTimeout => Sys2Proof.Machine.execOryJoinTimeout s
  | .oryModesSend => Sys2Proof.Machine.execOryModesSend s
  | .oryTimechkSend => Sys2Proof.Machine.execOryTimechkSend s
  | .oryTagfailReport => Sys2Proof.Machine.execOryTagfailReport s
  | .gooseRepeat c => Sys2Proof.Machine.execGooseRepeat c s
  | .almPinMinpwEnd p => Sys2Proof.Machine.execAlmPinMinpwEnd p s
  | .almPinSample p level => Sys2Proof.Machine.execAlmPinSample p level s
  | .pulPinSample p level => Sys2Proof.Machine.execPulPinSample p level s
  | .errnPinSample level => Sys2Proof.Machine.execErrnPinSample level s
  | .keyHoldExpiry k => Sys2Proof.Machine.execKeyHoldExpiry k s
  | .keyRemask healthy => Sys2Proof.Machine.execKeyRemask healthy s
  | .keyHmacSelftest ok => Sys2Proof.Machine.execKeyHmacSelftest ok s
  | .calendarSecond => Sys2Proof.Machine.execCalendarSecond s
  | .calendarSyncWrite => Sys2Proof.Machine.execCalendarSyncWrite s
  | .operatingMinute => Sys2Proof.Machine.execOperatingMinute s
  | .vbatMeasure mv => Sys2Proof.Machine.execVbatMeasure mv s
  | .backupCellRemoved => Sys2Proof.Machine.execBackupCellRemoved s
  | .backupCellInserted mv => Sys2Proof.Machine.execBackupCellInserted mv s
  | .tamperInputQualify idx => Sys2Proof.Machine.execTamperInputQualify idx s
  | .tamperInputRelease idx => Sys2Proof.Machine.execTamperInputRelease idx s
  | .meshSample bit => Sys2Proof.Machine.execMeshSample bit s
  | .retentionRailLow => Sys2Proof.Machine.execRetentionRailLow s
  | .vddioBelow1v66 => Sys2Proof.Machine.execVddioBelow1v66 s
  | .vddioBelow1v60 => Sys2Proof.Machine.execVddioBelow1v60 s
  | .vddioAbove1v70 => Sys2Proof.Machine.execVddioAbove1v70 s
  | .vddioReturnTimer => Sys2Proof.Machine.execVddioReturnTimer s
  | .vddioBelow1v0 => Sys2Proof.Machine.execVddioBelow1v0 s
  | .vbatRise => Sys2Proof.Machine.execVbatRise s
  | .vbatLow => Sys2Proof.Machine.execVbatLow s
  | .railBelowReset r => Sys2Proof.Machine.execRailBelowReset r s
  | .railGood r => Sys2Proof.Machine.execRailGood r s
  | .rstNLow ns => Sys2Proof.Machine.execRstNLow ns s
  | .rstNRise => Sys2Proof.Machine.execRstNRise s
  | .chipResetAssert => Sys2Proof.Machine.execChipResetAssert s
  | .chipResetRelease straps => Sys2Proof.Machine.execChipResetRelease straps s
  | .startupP1Complete cores flash => Sys2Proof.Machine.execStartupP1Complete cores flash s
  | .startupP2Complete active other => Sys2Proof.Machine.execStartupP2Complete active other s
  | .startupP3Complete n => Sys2Proof.Machine.execStartupP3Complete n s
  | .powerTransitionComplete => Sys2Proof.Machine.execPowerTransitionComplete s
  | .faultOccurrence hf idx c => Sys2Proof.Machine.execFaultOccurrence hf idx c s
  | .blockResetComplete d => Sys2Proof.Machine.execBlockResetComplete d s
  | .fltSuppressionWindowEnd d => Sys2Proof.Machine.execFltSuppressionWindowEnd d s
  | .errnPulseEnd => Sys2Proof.Machine.execErrnPulseEnd s
  | .coreItemWatchdog hf core => Sys2Proof.Machine.execCoreItemWatchdog hf core s
  | .scrubPassDeadline hf => Sys2Proof.Machine.execScrubPassDeadline hf s
  | .tjSample hf t16 => Sys2Proof.Machine.execTjSample hf t16 s
  | .vmonSample k mv => Sys2Proof.Machine.execVmonSample k mv s
  | .recIntervalClose => Sys2Proof.Machine.execRecIntervalClose s
  | .recRecordWrite ok badByte noteOk => Sys2Proof.Machine.execRecRecordWrite ok badByte noteOk s
  | .recTrailerRewrite => Sys2Proof.Machine.execRecTrailerRewrite s
  | .recAutoThaw => Sys2Proof.Machine.execRecAutoThaw s
  | .recClearComplete => Sys2Proof.Machine.execRecClearComplete s
  | .updVerifyComplete hf => Sys2Proof.Machine.execUpdVerifyComplete hf s
  | .updSwitchStart hf => Sys2Proof.Machine.execUpdSwitchStart hf s
  | .updImageReady hf => Sys2Proof.Machine.execUpdImageReady hf s
  | .updSwitchRollback hf => Sys2Proof.Machine.execUpdSwitchRollback hf s
  | .updSwitchComplete hf => Sys2Proof.Machine.execUpdSwitchComplete hf s
  | .coreRepairComplete hf ok => Sys2Proof.Machine.execCoreRepairComplete hf ok s
  | .halfResetComplete n => Sys2Proof.Machine.execHalfResetComplete n s
  | .jtagBypass => Sys2Proof.Machine.execJtagBypass s
  | .jtagIdcode => Sys2Proof.Machine.execJtagIdcode s
  | .jtagSamplePreload => Sys2Proof.Machine.execJtagSamplePreload s
  | .jtagExtest => Sys2Proof.Machine.execJtagExtest s
  | .jtagClamp => Sys2Proof.Machine.execJtagClamp s
  | .jtagHighz => Sys2Proof.Machine.execJtagHighz s
  | .jtagExtestPulse => Sys2Proof.Machine.execJtagExtestPulse s
  | .jtagExtestTrain => Sys2Proof.Machine.execJtagExtestTrain s
  | .trstNLow => Sys2Proof.Machine.execTrstNLow s
  | .tileMigrationEnd => Sys2Proof.Machine.execTileMigrationEnd s
  | .oryLeaveComplete => Sys2Proof.Machine.execOryLeaveComplete s

end Sys2Proof.Machine
end

