-- ==== Sys2Proof/Safety.lean ====
section
/-! DEFINITION. The terms that claims are stated in: when a command packet is served, what its reply holds, what a reply alone may
change, and what holds between any two commands. -/

namespace Sys2Proof.Machine

/-- A command packet of an opcode is served at once: the scheduler takes packets from its port, nothing holds it back (R382, R394,
R413), and it passes the checks of R40 up to step 8. -/
def State.takes (op : Nat) (h : Hdr) (ps : List Word) (s : State) : Bool :=
  s.accepts h.port && !s.mustWait op h ps && (s.gate op h).isNone

/-- The reply stored for a command port (R38). -/
def State.reply? (p : Nat) (s : State) : Option Reply := (s.port? p).bind CmdPort.last

/-- The reply stored for the command's port answers that command (R36, R37): its half, tag, sequence number and opcode, a completion
code, a detail and the result words. -/
def Replied (h : Hdr) (op : Nat) (code : Byte) (detail : Nat) (results : List Word) (t : State) : Prop :=
  ∃ r, t.reply? h.port = some r ∧ r.half = h.half ∧ r.tag = h.tag ∧ r.seq = h.seq ∧ r.opcode = BitVec.ofNat 16 op ∧
    r.code = code ∧ r.detail = BitVec.ofNat 8 (sat 8 detail) ∧ r.results = results

/-- Words of the reply stored for a port. -/
def State.replyWords (p : Nat) (s : State) : Nat := ((s.reply? p).map Reply.words).getD 0

/-- t is u after a reply to port p and nothing else: the reply is queued or dropped (R51), the drop counted and staged for the recorder, the
queue's high-water mark noted, its flow the last served (R370) and the balls kept at their safe level; the attention fields are those of u
brought up to date, with the event of R42 where the reply starts a GAP marker. -/
structure OnlyReplied (p : Nat) (u t : State) : Prop where
  frame : t = { u with
    cmd := t.cmd, attn := t.attn, rcd := { u.rcd with stage := t.rcd.stage },
    regC := { u.regC with ctr := t.regC.ctr, evt := t.regC.evt, cor := t.regC.cor },
    alm := { u.alm with pins := t.alm.pins } }
  cmd : ∃ hf, t.cmd = { (u.served hf p).cmd with ports := t.cmd.ports }
  attn : t.attn = ((if u.marksGap p (t.replyWords p) then u.evQueue 1 else u).reattn false).attn
  ports : ∀ q, q ≠ p → t.port? q = u.port? q
  ctr : ∀ a, a ≠ 0x0B0054 → t.ctr .coma a = u.ctr .coma a
  evt : ∀ a, a ≠ 0x0B0008 → t.evt .coma a = u.evt .coma a
  cor : ∀ a, a ≠ 0x0B000C → t.cor .coma a = u.cor .coma a
  pins : u.pinsSafe = false → t.alm.pins = u.alm.pins

/-- Command c answers a next state whose reply is OK with a detail and results, and which is u but for that reply. -/
def Completes (c : Instr) (h : Hdr) (op detail : Nat) (results : List Word) (s u : State) : Prop :=
  ∃ t, exec c s = .next t ∧ Replied h op codeOk detail results t ∧ OnlyReplied h.port u t

/-- Command c answers an error code and changes nothing but for that reply (R40). -/
def Refuses (c : Instr) (h : Hdr) (op : Nat) (code : Byte) (detail : Nat) (s : State) : Prop :=
  ∃ t, exec c s = .next t ∧ Replied h op code detail [] t ∧ OnlyReplied h.port s t

/-- The drops a queue has yet to report: the counts of its markers and its pending count (R376). -/
def Queue.reported {α : Type} (q : Queue α) : Nat := sumN (q.entries.map (fun e => match e with | .gap n => n | _ => 0)) + q.pend

/-- The same with the completion OK_PENDING (R47). -/
def Defers (c : Instr) (h : Hdr) (op : Nat) (results : List Word) (s u : State) : Prop :=
  ∃ t, exec c s = .next t ∧ Replied h op codePending 0 results t ∧ OnlyReplied h.port u t

/-- Command c answers OK, and what follows the reply is f: the next cycle of a fault collector (R340, R343). -/
def CompletesThen (c : Instr) (h : Hdr) (op : Nat) (results : List Word) (s u : State) (f : State → State) : Prop :=
  ∃ r, Replied h op codeOk 0 results r ∧ OnlyReplied h.port u r ∧ exec c s = .next (f r).settled

/-- The state after a configuration write has been counted (R7, metric 0x0001 of R353). -/
def State.noted (h : Hdr) (hf : Half) (a : Nat) (s : State) : State := s.countCfg hf (blockOf a) h.port

/-- The write of one word to one register is served and no field refuses the word. -/
def State.takesWrite (h : Hdr) (hf : Half) (a : Nat) (w : Word) (s : State) : Bool :=
  s.takes 0x0101 (hdrOn hf h) [w32 a, w] && (s.refuses hf a w).isNone

/-- The read of one register is served. -/
def State.takesRead (h : Hdr) (hf : Half) (a : Nat) (s : State) : Bool := s.takes 0x0100 (hdrOn hf h) [w32 a, 1]

/-- Command c answers as the write of a register that leaves u. -/
def Writes (c : Instr) (h : Hdr) (hf : Half) (s u : State) : Prop := Completes c (hdrOn hf h) 0x0101 0 [] s u

/-- Command c answers as the read of the register at a: its word before anything is cleared, and u after. -/
def Reads (c : Instr) (h : Hdr) (hf : Half) (a : Nat) (s u : State) : Prop := Completes c (hdrOn hf h) 0x0100 0 [s.regValue hf a] s u

/-- The state after a select register is written and its window filled with words from an address on (R406). -/
def State.selects (hf : Half) (a : Nat) (w : Word) (b : Nat) (window : State → List Word) (s : State) : State :=
  (s.putRw hf a w).mapRegs hf (fun r => { r with win := putWords r.win b (window (s.putRw hf a w)) })

/-- Event command c leaves u, settled: the attention fields brought up to date and, while it applies, the balls at their safe level. -/
def Does (c : Instr) (s u : State) : Prop := exec c s = .next u.settled

/-- The same where the conditions of the time base are judged before (R61, R66, R338). -/
def DoesJudged (c : Instr) (s u : State) : Prop := exec c s = .next u.judge.settled

/-- What holds between any two commands: the attention fields are those that the persisting conditions and the unacknowledged events
give (R42), and while the safe level applies every alarm ball stands at it (R244). -/
def State.Consistent (s : State) : Prop :=
  s.attn.level = s.attnLevel ∧ s.attn.bits = s.attnBits ∧
    ∀ p, p < 8 → s.pinsSafe = true → (s.pin p).ball = bit (s.pin p).mirror 1

end Sys2Proof.Machine
end

