-- ==== Sys2Proof/Certificates/Slice0/Obligations.lean ====
section
/-! DEFINITION. The statements for the provers. -/

open Sys2Proof Sys2Proof.Machine

/-! ## The queue and the whole machine -/

/-- The command at the front of the queue is the one a step runs, on the state with the queue's rest; on an empty queue the block idles
(the model's choice, log 1). -/
def Obligations.StepRunsFrontCommand : Prop :=
  (∀ c r s, s.pending = c :: r → step s = exec c { s with pending := r }) ∧ (∀ s, s.pending = [] → step s = .next s)

/-- Right after reset the attention fields and the alarm balls are consistent. -/
def Obligations.ResetIsConsistent : Prop := State.reset.Consistent

/-- Every step keeps the attention fields those that the conditions and events give (R42), and the balls of the alarm pins at their safe
level while that level applies (R244). -/
def Obligations.EveryStepKeepsConsistent : Prop := ∀ s t, s.Consistent → step s = .next t → t.Consistent

/-! ## Session commands -/

/-- NOP, IDENT, STATUS and ATTN.ACK (R43, R44, R47): each runs to a next state whose reply is OK with the results of R44 and R47. STATUS
takes the records it returns. ATTN.ACK of the generation in force removes the events, leaves the level of the persisting conditions and counts
one generation, and detail is 0; of any other generation nothing is removed and detail is 1, and so where its own reply is dropped behind a new
GAP marker, which is an event of the same step that R43 puts before the compare. IDENT's serial and versions are constants of the part (log 5). -/
def Obligations.SessionCommandsComplete : Prop :=
  (∀ h s, s.takes 0x0000 h [] = true → ∃ t, exec (.nop h []) s = .next t ∧ Replied h 0x0000 codeOk 0 [] t ∧ OnlyReplied h.port s t) ∧
  (∀ h s, s.takes 0x0001 h [] = true → ∃ t, exec (.ident h []) s = .next t ∧
    Replied h 0x0001 codeOk 0
      [0x8820, (match h.half with | .coma => 0xB0000000 | .nucleus => 0xB0010000), hiW Config.serial.toNat, loW Config.serial.toNat,
        (match h.half with | .coma => s.sys.verC | .nucleus => s.sys.verN), (if s.ory.joined then w32 (2 ^ 31 + s.ory.id) else 0),
        w32 h.port, 0] t ∧ OnlyReplied h.port s t) ∧
  (∀ h s, s.takes 0x0002 h [] = true →
    let mine := (s.cmd.recs.filter (mineRec h)).take 8
    ∃ t, exec (.status h []) s = .next t ∧
      Replied h 0x0002 codeOk 0
        (s.statusWord h mine.length :: mine.flatMap (fun r => [w32 (65536 * r.opcode + 256 * r.code.toNat + r.tag.toNat), r.seq])) t ∧
      OnlyReplied h.port { s with cmd := { s.cmd with recs := dropFirst (mineRec h) 8 s.cmd.recs } } t) ∧
  (∀ h w s, s.takes 0x0003 h [w] = true → s.attn.gen = BitVec.ofNat 8 (bits w 7 0) → s.marksGap h.port 5 = false →
    ∃ t, exec (.attnAck h [w]) s = .next t ∧ Replied h 0x0003 codeOk 0 [] t ∧ OnlyReplied h.port s.acked t ∧
      t.attn.evLevel = 0 ∧ t.attn.evBits = 0 ∧ t.attn.level = s.persist ∧ t.attn.gen = s.attn.gen + 1) ∧
  (∀ h w s, s.takes 0x0003 h [w] = true → s.attn.gen ≠ BitVec.ofNat 8 (bits w 7 0) → s.marksGap h.port 5 = false →
    ∃ t, exec (.attnAck h [w]) s = .next t ∧ Replied h 0x0003 codeOk 1 [] t ∧ OnlyReplied h.port s t ∧
      t.attn.evLevel = s.attn.evLevel ∧ t.attn.evBits = s.attn.evBits ∧ (s.Consistent → t.attn = s.attn)) ∧
  (∀ h w s, s.takes 0x0003 h [w] = true → s.marksGap h.port 5 = true →
    ∃ t, exec (.attnAck h [w]) s = .next t ∧ Replied h 0x0003 codeOk 1 [] t ∧ OnlyReplied h.port s t ∧
      t.attn.evLevel = Nat.max s.attn.evLevel 1 ∧ t.attn.evBits = s.attn.evBits ||| 8 ∧
      t.attn.level = Nat.max s.persist (Nat.max s.attn.evLevel 1) ∧ t.attn.gen = s.attn.gen + 1)

/-! ## Registers -/

/-- The address is one of the plain storage registers of the scheduler blocks of either half or of the transceiver block. -/
def PlainRegister (h : Half) (a : Nat) : Prop :=
  isReg h a = true ∧ rwMask h a ≠ 0 ∧ ((0x0A0000 ≤ a ∧ a < 0x0B0000) ∨ (h = .coma ∧ 0x030000 ≤ a ∧ a < 0x040000))

/-- REG.READ of 1 to 256 registers that all stand in the map (R10, R45): it runs to a next state whose reply is OK with their words, in rising
address order, as they stood; what it leaves is the state in which the registers that a read clears have been cleared, and nothing else. A run
that reaches an address that is no register answers E_PARAM with detail 1 (detail 0 for the first address) and changes nothing. -/
def Obligations.RegisterReadCompletes : Prop :=
  (∀ h a n s, s.takes 0x0100 h [a, n] = true → 1 ≤ n.toNat → n.toNat ≤ 256 →
    (∀ k, k < n.toNat → isReg h.half (a.toNat + 4 * k) = true) →
    ∃ t, exec (.regRead h [a, n]) s = .next t ∧
      Replied h 0x0100 codeOk 0 ((List.range n.toNat).map (fun k => s.regValue h.half (a.toNat + 4 * k))) t ∧
      OnlyReplied h.port (readRun h.half n.toNat a.toNat s) t ∧ (∀ hf x, t.rw hf x = s.rw hf x)) ∧
  (∀ h a n s, s.takes 0x0100 h [a, n] = true → isReg h.half a.toNat = false → Refuses (.regRead h [a, n]) h 0x0100 eParam 0 s) ∧
  (∀ h a n k s, s.takes 0x0100 h [a, n] = true → isReg h.half a.toNat = true → k < n.toNat → isReg h.half (a.toNat + 4 * k) = false →
    Refuses (.regRead h [a, n]) h 0x0100 eParam 1 s)

/-- A register of W1C bits alone (R10); NRG_STAT is not meant, whose bit the block keeps. -/
def EventRegister (h : Half) (a : Nat) : Prop :=
  isReg h a = true ∧ rwMask h a = 0 ∧ w1cMask h a ≠ 0 ∧ (h, a) ≠ (.coma, 0x070004)

/-- The state against which word k of a run is judged: the block after the earlier words (R406). -/
def judgedAt (h : Half) (a : Nat) (ws : List Word) (k : Nat) (s : State) : State :=
  (ws.take k).zipIdx.foldl (fun x y => x.store h (a + 4 * y.2) y.1) s

/-- REG.WRITE and REG.MODIFY (R10, R45, R406). A plain storage register holds the RW bits of the value and every other RW register keeps its word;
MODIFY answers with the word before and after. A run of 1 to 256 words of which none is refused is written in rising address order and counts as
one configuration write; what a run forces follows in the next cycle of the collector (log 114). A 1 clears its bit of a W1C register, and MODIFY
writes only value AND mask there. A register of WO bits alone reads 0. Every word is judged before any is written, each against the block as the
earlier words would leave it: where the first word refused is refused with E_PARAM the detail is its index, otherwise a later word's E_PARAM
comes before E_STATE with detail 0; a MODIFY's value is refused with detail 2, an address that is no register with detail 0. Nothing is written. -/
def Obligations.RegisterWritesComplete : Prop :=
  (∀ h a w s, s.takes 0x0101 h [a, w] = true → PlainRegister h.half a.toNat → s.refuses h.half a.toNat w = none →
    let u := (s.countCfg h.half (blockOf a.toNat) h.port).putRw h.half a.toNat (w &&& rwMask h.half a.toNat)
    Completes (.regWrite h [a, w]) h 0x0101 0 [] s u ∧ u.rw h.half a.toNat = w &&& rwMask h.half a.toNat ∧
      ∀ hf x, (hf ≠ h.half ∨ x ≠ a.toNat) → u.rw hf x = s.rw hf x) ∧
  (∀ h a m v s, s.takes 0x0102 h [a, m, v] = true → PlainRegister h.half a.toNat →
    let w := (s.regValue h.half a.toNat &&& ~~~m) ||| (v &&& m)
    s.refuses h.half a.toNat w = none →
    let u := (s.countCfg h.half (blockOf a.toNat) h.port).putRw h.half a.toNat (w &&& rwMask h.half a.toNat)
    Completes (.regModify h [a, m, v]) h 0x0102 0 [s.regValue h.half a.toNat, u.regValue h.half a.toNat] s u) ∧
  (∀ h a ws s, s.takes 0x0101 h (a :: ws) = true → ws ≠ [] → ws.length ≤ 256 → isReg h.half a.toNat = true →
    (∀ k, k < ws.length → (judgedAt h.half a.toNat ws k s).refusesAt h.half (a.toNat + 4 * k) (nth 0 ws k) = none) →
    CompletesThen (.regWrite h (a :: ws)) h 0x0101 [] s (writeRun h.half a.toNat ws (s.countCfg h.half (blockOf a.toNat) h.port))
      (forcesOf h.half a.toNat ws)) ∧
  (∀ hf ws a s, (∀ k, k < ws.length → PlainRegister hf (a + 4 * k)) →
    (∀ k, k < ws.length → (writeRun hf a ws s).rw hf (a + 4 * k) = nth 0 ws k &&& rwMask hf (a + 4 * k)) ∧
    (∀ h x, (h ≠ hf ∨ x < a ∨ a + 4 * ws.length ≤ x) → (writeRun hf a ws s).rw h x = s.rw h x)) ∧
  (∀ h a w s, s.takes 0x0101 h [a, w] = true → EventRegister h.half a.toNat → s.refuses h.half a.toNat w = none →
    let u := (s.countCfg h.half (blockOf a.toNat) h.port).w1c h.half a.toNat w
    Completes (.regWrite h [a, w]) h 0x0101 0 [] s u ∧ u.evt h.half a.toNat = s.evt h.half a.toNat &&& ~~~w) ∧
  (∀ h a m v s, s.takes 0x0102 h [a, m, v] = true → EventRegister h.half a.toNat → s.refuses h.half a.toNat (v &&& m) = none →
    let u := (s.countCfg h.half (blockOf a.toNat) h.port).w1c h.half a.toNat (v &&& m)
    Completes (.regModify h [a, m, v]) h 0x0102 0 [s.regValue h.half a.toNat, u.regValue h.half a.toNat] s u ∧
      u.evt h.half a.toNat = s.evt h.half a.toNat &&& ~~~(v &&& m)) ∧
  (∀ hf a (s : State), woReg hf a = true → isReg hf a = true ∧ s.regValue hf a = 0) ∧
  (∀ h a ws k s, s.takes 0x0101 h (a :: ws) = true → ws.length ≤ 256 → isReg h.half a.toNat = true → k < ws.length →
    (∀ j, j < k → (judgedAt h.half a.toNat ws j s).refusesAt h.half (a.toNat + 4 * j) (nth 0 ws j) = none) →
    ((judgedAt h.half a.toNat ws k s).refusesAt h.half (a.toNat + 4 * k) (nth 0 ws k) = some eParam →
      Refuses (.regWrite h (a :: ws)) h 0x0101 eParam (k + 1) s) ∧
    ((judgedAt h.half a.toNat ws k s).refusesAt h.half (a.toNat + 4 * k) (nth 0 ws k) = some eState →
      Refuses (.regWrite h (a :: ws)) h 0x0101 eState 0 s ∨
        ∃ j, k + 1 < j ∧ j ≤ ws.length ∧ Refuses (.regWrite h (a :: ws)) h 0x0101 eParam j s)) ∧
  (∀ h a v w s, s.takes 0x0101 h [a, v, w] = true → isReg h.half a.toNat = true → s.refuses h.half a.toNat v = some eState →
    s.refusesAt h.half (a.toNat + 4) w = some eParam → Refuses (.regWrite h [a, v, w]) h 0x0101 eParam 2 s) ∧
  (∀ h a w s, s.takes 0x0101 h [a, w] = true → isReg h.half a.toNat = true → s.refuses h.half a.toNat w = some eState →
    Refuses (.regWrite h [a, w]) h 0x0101 eState 0 s) ∧
  (∀ h a w s, s.takes 0x0101 h [a, w] = true → isReg h.half a.toNat = false → Refuses (.regWrite h [a, w]) h 0x0101 eParam 0 s) ∧
  (∀ h a m v s, s.takes 0x0102 h [a, m, v] = true →
    (isReg h.half a.toNat = false → Refuses (.regModify h [a, m, v]) h 0x0102 eParam 0 s) ∧
    (isReg h.half a.toNat = true → s.refuses h.half a.toNat (s.modified h.half a.toNat m v) = some eParam →
      Refuses (.regModify h [a, m, v]) h 0x0102 eParam 2 s) ∧
    (isReg h.half a.toNat = true → s.refuses h.half a.toNat (s.modified h.half a.toNat m v) = some eState →
      Refuses (.regModify h [a, m, v]) h 0x0102 eState 0 s))

/-! ## Tables -/

/-- The table commands (R44, R46): reading, staging, discarding, the sizes, and a commit, which waits for the running groups' boundary and with no
group running takes effect at once; 0xFF commits every table that the port holds, as one operation, and discards those of them with no commit
pending. The active size that INFO answers is the model's choice (log 24), and so is the first staging copy (log 84); bits of a parameter word that
no row names are ignored (log 71). -/
def Obligations.TableCommandsComplete : Prop :=
  (∀ h id o n s, s.takes 0x0200 h [id, o, n] = true → tblCap (bits id 31 24) ≠ 0 → bits id 31 24 ≠ 5 → bit id 16 = false →
    0 < n.toNat → n.toNat ≤ 256 → o.toNat + n.toNat ≤ tblCap (bits id 31 24) →
    Completes (.tblRead h [id, o, n]) h 0x0200 0 ((List.range n.toNat).map (fun k => s.tblW (bits id 31 24) (o.toNat + k))) s s) ∧
  (∀ h id o n m s, s.takes 0x0200 h [id, o, n] = true → tblCap (bits id 31 24) ≠ 0 → bits id 31 24 ≠ 5 → bit id 16 = true →
    0 < n.toNat → n.toNat ≤ 256 → o.toNat + n.toNat ≤ tblCap (bits id 31 24) → (s.bank (bits id 31 24)).staging = some m →
    (s.bank (bits id 31 24)).holder = some h.port →
    Completes (.tblRead h [id, o, n]) h 0x0200 0 ((List.range n.toNat).map (fun k => tblBank m (o.toNat + k))) s s) ∧
  (∀ h id o n s, s.takes 0x0200 h [id, o, n] = true → bits id 31 24 = 5 → bit id 16 = false → 0 < n.toNat → n.toNat ≤ 256 →
    o.toNat + n.toNat ≤ tblCap 5 → Completes (.tblRead h [id, o, n]) h 0x0200 0 ((List.range n.toNat).map (fun k => s.chanMap (o.toNat + k))) s s) ∧
  (∀ h id o ws s, s.takes 0x0201 h (id :: o :: ws) = true → ws ≠ [] → tblCap (bits id 31 24) ≠ 0 → bits id 31 24 ≠ 5 →
    o.toNat + ws.length ≤ tblCap (bits id 31 24) →
    ((s.bank (bits id 31 24)).holder = none ∨ (s.bank (bits id 31 24)).holder = some h.port) →
    (s.bank (bits id 31 24)).pendingCommit = false → (bits id 31 24 = 2 → s.tbl.oldTopo = none) →
    Completes (.tblWrite h (id :: o :: ws)) h 0x0201 0 [] s (s.mapBank (bits id 31 24) (fun t =>
      { t with staging := some (bankWrite (t.staging.getD t.active) o.toNat ws), holder := some h.port }))) ∧
  (∀ h id s, s.takes 0x0203 h [id] = true → bits id 31 24 ≠ 0xFF → tblCap (bits id 31 24) ≠ 0 → bits id 31 24 ≠ 5 →
    (s.bank (bits id 31 24)).holder = some h.port → (s.bank (bits id 31 24)).pendingCommit = false →
    Completes (.tblDiscard h [id]) h 0x0203 0 [] s (s.mapBank (bits id 31 24) (fun t => { t with staging := none, holder := none }))) ∧
  (∀ h id s, s.takes 0x0204 h [id] = true → tblCap (bits id 31 24) ≠ 0 → bits id 31 24 ≠ 5 →
    Completes (.tblInfo h [id]) h 0x0204 0
      [w32 (tblCap (bits id 31 24)), w32 (tblCap (bits id 31 24)),
        w32 (2 ^ 24 * (s.bank (bits id 31 24)).holder.getD 0xFF + b2n (s.bank (bits id 31 24)).pendingCommit)] s s) ∧
  (∀ h id g s, s.takes 0x0202 h [id] = true → bits id 31 24 ≠ 0xFF → tblCap (bits id 31 24) ≠ 0 → bits id 31 24 ≠ 5 →
    (s.bank (bits id 31 24)).holder = some h.port → (s.bank (bits id 31 24)).pendingCommit = false →
    s.opBusy h 0x0202 (bits id 31 24) = false → g < 8 → s.runsAt g s.follower = true →
    Defers (.tblCommit h [id]) h 0x0202 [] s
      { (s.addOp h 0x0202 (bits id 31 24)).mapBank (bits id 31 24) (fun t => { t with pendingCommit := true }) with
        tbl := { ((s.addOp h 0x0202 (bits id 31 24)).mapBank (bits id 31 24) (fun t => { t with pendingCommit := true })).tbl with
          commits := s.tbl.commits ++ [{ port := h.port, tables := [bits id 31 24], res := bits id 31 24, released := false, gone := false }] } }) ∧
  (∀ h id s, s.takes 0x0202 h [id] = true → bits id 31 24 ≠ 0xFF → tblCap (bits id 31 24) ≠ 0 → bits id 31 24 ≠ 5 →
    (s.bank (bits id 31 24)).holder = some h.port → (s.bank (bits id 31 24)).pendingCommit = false →
    s.opBusy h 0x0202 (bits id 31 24) = false → (∀ g, g < 8 → s.runsAt g s.follower = false) →
    let v := (s.addOp h 0x0202 (bits id 31 24)).mapBank (bits id 31 24) (fun t => { t with pendingCommit := true })
    let ks := s.tbl.commits ++ [{ port := h.port, tables := [bits id 31 24], res := bits id 31 24, released := false, gone := false }]
    Defers (.tblCommit h [id]) h 0x0202 [] s
      (State.oneCycle (fun x => (ks.foldl (fun (x : State) k => x.applyCommit k) x).rulesDue) { v with tbl := { v.tbl with commits := [] } })) ∧
  (∀ h id k r g s, s.takes 0x0202 h [id] = true → bits id 31 24 = 0xFF → s.heldTables h.port = k :: r →
    (∀ i ∈ k :: r, (s.bank i).pendingCommit = false) → s.opBusy h 0x0202 k = false → g < 8 → s.runsAt g s.follower = true →
    let v := (k :: r).foldl (fun (x : State) i => x.mapBank i (fun t => { t with pendingCommit := true })) (s.addOp h 0x0202 k)
    Defers (.tblCommit h [id]) h 0x0202 [] s { v with tbl := { v.tbl with
      commits := s.tbl.commits ++ [{ port := h.port, tables := k :: r, res := k, released := false, gone := false }] } }) ∧
  (∀ h id s, s.takes 0x0202 h [id] = true → bits id 31 24 = 0xFF → s.heldTables h.port = [] → s.opsOf h.port < 32 →
    Refuses (.tblCommit h [id]) h 0x0202 eState 0 s) ∧
  (∀ h id s, s.takes 0x0203 h [id] = true → bits id 31 24 = 0xFF →
    let go := (s.heldTables h.port).filter (fun i => !(s.bank i).pendingCommit)
    Completes (.tblDiscard h [id]) h 0x0203 (if go.length < (s.heldTables h.port).length then 1 else 0) [] s
      (go.foldl (fun (x : State) i => x.mapBank i (fun t => { t with staging := none, holder := none })) s))

/-! ## Alignment groups -/

/-- GRP.START, GRP.STOP and GRP.QUERY (R144-R146): a start in P4 begins P5 (R58); a stop with no conjunction open, and no boundary in its own
cycle (R148), completes at once. Bits of a parameter word that no row names are ignored (log 71). -/
def Obligations.GroupCommandsComplete : Prop :=
  (∀ h w s, s.takes 0x0300 h [w] = true → s.tim.state ≠ .unset → s.tim.state ≠ .coarse → s.pwr.phase ≠ 4 →
    (s.grp (bits w 2 0)).run = .stopped → groupMembers s.srcT (bits w 2 0) ≠ [] →
    (∀ i, i ∈ groupMembers s.srcT (bits w 2 0) → bits (srcW s.srcT i 6) 11 8 = s.grpCode (bits w 2 0)) →
    bits (s.rwN (aGrp (bits w 2 0) 4)) 31 8 * s.grpRate (bits w 2 0) < 1000000 →
    Completes (.grpStart h [w]) h 0x0300 0 [] s
      (s.mapGrp (bits w 2 0) (fun x => { x with run := .running, since := s.follower, conjs := [] }))) ∧
  (∀ h w s, s.takes 0x0300 h [w] = true → s.tim.state ≠ .unset → s.tim.state ≠ .coarse → s.pwr.phase = 4 →
    (s.grp (bits w 2 0)).run = .stopped → groupMembers s.srcT (bits w 2 0) ≠ [] →
    (∀ i, i ∈ groupMembers s.srcT (bits w 2 0) → bits (srcW s.srcT i 6) 11 8 = s.grpCode (bits w 2 0)) →
    bits (s.rwN (aGrp (bits w 2 0) 4)) 31 8 * s.grpRate (bits w 2 0) < 1000000 →
    Completes (.grpStart h [w]) h 0x0300 0 [] s
      (s.toP5.mapGrp (bits w 2 0) (fun x => { x with run := .running, since := s.follower, conjs := [] })) ∧ s.toP5.pwr.phase = 5) ∧
  (∀ h w g s, s.takes 0x0301 h [w] = true → (s.grp (bits w 2 0)).run = .running → s.opBusy h 0x0301 (bits w 2 0) = false →
    (∀ c ∈ (s.grp (bits w 2 0)).conjs, c.st = .final) → isBoundary (s.grpRate (bits w 2 0)) s.follower = false →
    bits w 2 0 < s.aln.grps.length → g < 8 → g ≠ bits w 2 0 → s.runsAt g s.follower = true →
    let i := bits w 2 0
    let v := (s.addOp h 0x0301 i).mapGrp i (fun x => { x with run := .stopped, stopAt := s.follower, conjs := []
                                                              ended := if s.firstNs i ≤ s.follower then some (keyAt (s.grpRate i) s.follower) else x.ended })
    Defers (.grpStop h [w]) h 0x0301 [] s (v.drainDone.completeOp .nucleus 0x0301 i codeOk)) ∧
  (∀ h w s, s.takes 0x0301 h [w] = true → (s.grp (bits w 2 0)).run = .stopped → Completes (.grpStop h [w]) h 0x0301 0 [] s s) ∧
  (∀ h w g c s, s.takes 0x0301 h [w] = true → (s.grp (bits w 2 0)).run = .running → s.opBusy h 0x0301 (bits w 2 0) = false →
    c ∈ (s.grp (bits w 2 0)).conjs → c.st ≠ .final → bits w 2 0 < s.aln.grps.length → g < 8 → g ≠ bits w 2 0 → s.runsAt g s.follower = true →
    Defers (.grpStop h [w]) h 0x0301 [] s
      ((s.addOp h 0x0301 (bits w 2 0)).mapGrp (bits w 2 0) (fun x => { x with run := .stopping, stopAt := s.follower }))) ∧
  (∀ h w s, s.takes 0x0302 h [w] = true →
    Completes (.grpQuery h [w]) h 0x0302 0
      [s.grpStat (bits w 2 0), w32 ((s.grp (bits w 2 0)).lastKey / 2 ^ 32 % 2 ^ 24), loW (s.grp (bits w 2 0)).lastKey, (s.grp (bits w 2 0)).last,
        w32 (s.grp (bits w 2 0)).lastT, w32 (s.grp (bits w 2 0)).provT, w32 (s.grp (bits w 2 0)).expect,
        s.ctr .nucleus (aGrp (bits w 2 0) 0x40)] s s)

/-! ## Rows that write one register -/

/-- Clearing the counters of an address range (R407): those in it read 0, every other counter is left, and so is everything that is no counter of
that half: its RW registers, event bits, window words and clear-on-read values, the other half's registers and every block's state. -/
def Obligations.ClearedCountersReadZero : Prop :=
  ∀ h lo hi (s : State), (∀ a, lo ≤ a → a < hi → (s.clearCtr h lo hi).ctr h a = 0) ∧
    (∀ a, a < lo ∨ hi ≤ a → (s.clearCtr h lo hi).ctr h a = s.ctr h a) ∧
    (∀ h' a, h' ≠ h → (s.clearCtr h lo hi).ctr h' a = s.ctr h' a) ∧
    (∀ h' a, (s.clearCtr h lo hi).rw h' a = s.rw h' a ∧ (s.clearCtr h lo hi).evt h' a = s.evt h' a ∧
      (s.clearCtr h lo hi).cor h' a = s.cor h' a ∧ ((s.clearCtr h lo hi).regs h').win = (s.regs h').win) ∧
    s.clearCtr h lo hi = s.mapRegs h (fun r => { r with ctr := ((s.clearCtr h lo hi).regs h).ctr })

/-- The CLR rows of the Nucleus half (R126, R127, R149, R185, R206, R231, R261, R262, R280): each clears its block's counters; that ALM_CLR leaves the watches'
set and clear counts is the model's reading (log 100). -/
def Obligations.NucleusClearRowsComplete : Prop :=
  (∀ h s, s.takesWrite h .nucleus 0x020018 1 = true →
    let u := (s.noted h .nucleus 0x020018).clearCtr .nucleus 0x020040 0x020088
    Writes (.ingClr h) h .nucleus s
      { u with ing := { u.ing with srcs := u.ing.srcs.map (fun x => { x with cnt := List.replicate 14 0 }) } }) ∧
  (∀ h s, s.takesWrite h .nucleus 0x028080 1 = true →
    Writes (.srcClrCounters h) h .nucleus s ((s.noted h .nucleus 0x028080).mapSrcSt (s.rwN 0x028000).toNat
      (fun x => { x with cnt := List.replicate 14 0 }))) ∧
  (∀ h s, s.takesWrite h .nucleus 0x028080 2 = true →
    Writes (.srcClrEphemeris h) h .nucleus s ((s.noted h .nucleus 0x028080).mapSrcSt (s.rwN 0x028000).toNat
      (fun x => { x with ewma := 0, hist := List.replicate 32 0, nframes := 0, run := 0, stepped := false }))) ∧
  (∀ h s, s.takesWrite h .nucleus 0x03001C 1 = true →
    Writes (.alnClr h) h .nucleus s ((s.noted h .nucleus 0x03001C).clearCtr .nucleus 0x030000 0x030C00)) ∧
  (∀ h s, s.takesWrite h .nucleus 0x040018 1 = true →
    let u := (s.noted h .nucleus 0x040018).clearCtr .nucleus 0x040040 0x040068
    Writes (.phxClr h) h .nucleus s { u with phx := { u.phx with
      ests := u.phx.ests.map (fun (e : Est) => { e with cnt := e.cnt.map (fun _ => 0) })
      pairs := u.phx.pairs.map (fun (x : Pair) => { x with cnt := x.cnt.map (fun _ => 0) }) } }) ∧
  (∀ h s, s.takesWrite h .nucleus 0x050040 1 = true →
    let u := (s.noted h .nucleus 0x050040).clearCtr .nucleus 0x050044 0x050084
    Writes (.islClr h) h .nucleus s
      { u with isl := { u.isl with branches := u.isl.branches.map (fun (b : Branch) => { b with opens := 0, seps := 0 }) } }) ∧
  (∀ h s, s.takesWrite h .nucleus 0x060014 1 = true →
    Writes (.lbeClr h) h .nucleus s ((s.noted h .nucleus 0x060014).clearCtr .nucleus 0x060000 0x070000)) ∧
  (∀ h s, s.takesWrite h .nucleus 0x07001C 1 = true →
    let u := (s.noted h .nucleus 0x07001C).clearCtr .nucleus 0x070000 0x078000
    Writes (.almClr h) h .nucleus s
      { u with alm := { u.alm with rules := u.alm.rules.map (fun (r : RuleSt) => { r with cnt := r.cnt.map (fun _ => 0) }) } }) ∧
  (∀ h s, s.takesWrite h .nucleus 0x078010 1 = true →
    Writes (.egrClr h) h .nucleus s ((s.noted h .nucleus 0x078010).clearCtr .nucleus 0x078000 0x080000)) ∧
  (∀ h s, s.takesWrite h .nucleus 0x080030 1 = true →
    Writes (.oryClr h) h .nucleus s ((s.noted h .nucleus 0x080030).clearCtr .nucleus 0x080040 0x080080))

/-- The CLR rows of the Coma half and of both halves (R298, R308, R316, R318, R333, R349, R364, R392, R409, R410, R412).
The bit for an unrecorded tamper and the new cell's reading are the model's choice (log 79, 12). -/
def Obligations.ComaClearRowsComplete : Prop :=
  (∀ h s, s.takesWrite h .coma 0x07001C 1 = true →
    let u := (s.noted h .coma 0x07001C).clearCtr .coma 0x0700A0 0x0700AC
    Writes (.nrgClr h) h .coma s
      { u with nrg := { u.nrg with points := u.nrg.points.map (fun (x : Point) => { x with cnt := [0, 0, 0, 0] }) } }) ∧
  (∀ h s, s.takesWrite h .coma 0x090020 1 = true →
    Writes (.recClr h) h .coma s ((s.noted h .coma 0x090020).clearCtr .coma 0x090028 0x090040)) ∧
  (∀ h s, s.takesWrite h .coma 0x058010 1 = true →
    Writes (.keyClr h) h .coma s ((s.noted h .coma 0x058010).clearCtr .coma 0x058040 0x058060)) ∧
  (∀ h s, s.takesWrite h .coma 0x0B0010 1 = true →
    Writes (.hspClr h) h .coma s ((s.noted h .coma 0x0B0010).clearCtr .coma 0x0B0040 0x0B0070)) ∧
  (∀ h s, s.takesWrite h h.half 0x34 1 = true →
    Writes (.sysClr h) h h.half s ((s.noted h h.half 0x34).clearCtr h.half 0x80 0x94)) ∧
  (∀ h s, s.takesWrite h h.half 0x010010 1 = true →
    Writes (.tlkClr h) h h.half s (((s.noted h h.half 0x010010).clearCtr h.half 0x010000 0x020000).mapTlk h.half
      (fun e => { e with txPkt := 0, rxPkt := 0 }))) ∧
  (∀ h s, h.half = .coma → s.takesWrite h .coma 0x08001C 1 = true →
    let u := (s.noted h .coma 0x08001C).clearCtr .coma 0x080040 0x080050
    Writes (.fltClrCounters h) h .coma s { u with flt := { u.flt with coma := u.flt.coma.map (fun x => { x with occ := 0, supp := 0 }) } }) ∧
  (∀ h s, h.half = .nucleus → s.takesWrite h .nucleus 0x09001C 1 = true →
    let u := (s.noted h .nucleus 0x09001C).clearCtr .nucleus 0x090040 0x090050
    Writes (.fltClrCounters h) h .nucleus s { u with flt := { u.flt with nuc := u.flt.nuc.map (fun x => { x with occ := 0, supp := 0 }) } }) ∧
  (∀ h s, s.takesWrite h .coma 0x08001C 2 = true →
    let u := s.noted h .coma 0x08001C
    Writes (.fltClrRstcause h) h .coma s { u with flt := { u.flt with rstCause := u.flt.rstCause &&& 0xFFFF7FFF } }) ∧
  (∀ h s, s.takesWrite h .coma 0x050048 1 = true →
    let u := s.noted h .coma 0x050048
    Writes (.aonClrTampcnt h) h .coma s { u with
      aon := { u.aon with tampCnt := 0 }
      rcd := { u.rcd with tampSeen := if u.aon.tampCnt = u.rcd.tampSeen then 0 else 256 } }) ∧
  (∀ h s, s.takesWrite h .coma 0x050048 4 = true → s.comaUp = true →
    let u := s.noted h .coma 0x050048
    Writes (.aonClrCalInv h) h .coma s (State.evTime 1 { u with aon := { u.aon with
      year := 2000, month := 1, day := 1, hour := 0, minute := 0, second := 0, calValid := false, stopped := false } })) ∧
  (∀ h s, s.takesWrite h .coma 0x050048 2 = true →
    Writes (.aonClrBatNew h) h .coma s (s.noted h .coma 0x050048).cellRenewed ∧
      (s.noted h .coma 0x050048).cellRenewed.aon.batUse = 0 ∧ (s.noted h .coma 0x050048).cellRenewed.aon.batAge = 0) ∧
  (∀ h s, h.half = .coma → s.takesWrite h .coma 0xC0 1 = true →
    Writes (.updCtlAbort h) h .coma s (((s.noted h .coma 0xC0).mapUpd .coma (fun u => if u.switching then { u with port := none } else u.released)).complete
      (fun o => o.half == .coma && o.opcode == 0x0D02) eState)) ∧
  (∀ h s, h.half = .nucleus → s.takesWrite h .nucleus 0x0B0000 (s.rwN 0x0B0000 ||| 1) = true →
    let u := (s.noted h .nucleus 0x0B0000).putRw .nucleus 0x0B0000 ((s.rwN 0x0B0000 ||| 1) &&& 2)
    Writes (.updCtlAbort h) h .nucleus s ((u.mapUpd .nucleus (fun u => if u.switching then { u with port := none } else u.released)).complete
      (fun o => o.half == .nucleus && o.opcode == 0x0D02) eState))

/-- The select rows (R127, R185, R206, R261, R280, R298, R360, R364, R406): the number is stored in the register's RW bits and its window is
filled with that entry's words. -/
def Obligations.SelectRowsComplete : Prop :=
  (∀ h v s, s.takesWrite h .nucleus 0x028000 v = true → Writes (.srcSel h v) h .nucleus s
    ((s.noted h .nucleus 0x028000).selects .nucleus 0x028000 (v &&& 0xFFFF) 0x028004 (fun x => x.srcWindow (v &&& 0xFFFF).toNat))) ∧
  (∀ h v s, s.takesWrite h .nucleus 0x040010 v = true → Writes (.phxSsel h v) h .nucleus s
    ((s.noted h .nucleus 0x040010).selects .nucleus 0x040010 (v &&& 0xFFFF) 0x040100 (fun x => x.estWindowWords (v &&& 0xFFFF).toNat))) ∧
  (∀ h v s, s.takesWrite h .nucleus 0x040014 v = true → Writes (.phxXsel h v) h .nucleus s
    ((s.noted h .nucleus 0x040014).selects .nucleus 0x040014 (v &&& 0xFFF) 0x040200 (fun x => x.pairWindowWords (v &&& 0xFFF).toNat))) ∧
  (∀ h v s, s.takesWrite h .nucleus 0x050034 v = true → Writes (.islIsel h v) h .nucleus s
    ((s.noted h .nucleus 0x050034).selects .nucleus 0x050034 v 0x050100 (fun x => x.islandWindow v.toNat))) ∧
  (∀ h v s, s.takesWrite h .nucleus 0x050038 v = true → Writes (.islBsel h v) h .nucleus s
    ((s.noted h .nucleus 0x050038).selects .nucleus 0x050038 (v &&& 0x3FFFF) 0x050180 (fun x => x.branchWindow (v &&& 0x3FFFF).toNat))) ∧
  (∀ h v s, s.takesWrite h .nucleus 0x070018 v = true → Writes (.almRsel h v) h .nucleus s
    ((s.noted h .nucleus 0x070018).selects .nucleus 0x070018 (v &&& 0xFFF) 0x070400 (fun x => x.ruleWindow (v &&& 0xFFF).toNat))) ∧
  (∀ h v s, s.takesWrite h .nucleus 0x080020 v = true → Writes (.oryNsel h v) h .nucleus s
    ((s.noted h .nucleus 0x080020).selects .nucleus 0x080020 (v &&& 0x1F) 0x080024 (fun x => x.nbWindow (v &&& 0x1F).toNat))) ∧
  (∀ h v s, s.takesWrite h .coma 0x070018 v = true → Writes (.nrgSel h v) h .coma s
    ((s.noted h .coma 0x070018).selects .coma 0x070018 (v &&& 0xFF) 0x070060 (fun x => x.pointWindow (v &&& 0xFF).toNat))) ∧
  (∀ h v s, s.takesWrite h .coma 0x090014 v = true → Writes (.recCur h v) h .coma s
    ((s.noted h .coma 0x090014).selects .coma 0x090014 v 0x090040 (fun x => x.recWords v.toNat))) ∧
  (∀ h v s, s.takesWrite h .coma 0x090024 v = true → Writes (.recSelfsel h v) h .coma s
    ((s.noted h .coma 0x090024).selects .coma 0x090024 (v &&& 0x7F) 0x0900C0 (fun x => x.noteWords (v &&& 0x7F).toNat))) ∧
  (∀ hf a w b f (s : State), (s.selects hf a w b f).rw hf a = w ∧
    (∀ k x, (f (s.putRw hf a w))[k]? = some x → WMap.get zeroW ((s.selects hf a w b f).regs hf).win (b + 4 * k) = x) ∧
    (∀ x, x ≠ a → (s.selects hf a w b f).rw hf x = s.rw hf x))

/-- The read-and-clear rows (R406): the word before the read is answered, and the value kept since the last read starts again. -/
def Obligations.ClearOnReadRowsComplete : Prop :=
  (∀ h s, s.takesRead h .nucleus 0x02000C = true →
    Reads (.ingQhwm h) h .nucleus 0x02000C s (s.putCor .nucleus 0x02000C 0)) ∧
  (∀ h s, s.takesRead h .nucleus 0x050028 = true →
    Reads (.islMaxt h) h .nucleus 0x050028 s (s.putCor .nucleus 0x050028 0)) ∧
  (∀ h s, s.takesRead h .nucleus 0x05003C = true →
    Reads (.islElog h) h .nucleus 0x05003C s (s.putCor .nucleus 0x05003C 0)) ∧
  (∀ h k s, k < 32 → s.takesRead h .nucleus (aLbe k 0x34) = true →
    Reads (.lbeEeTmax h k) h .nucleus (aLbe k 0x34) s (s.putCor .nucleus (aLbe k 0x34) 0)) ∧
  (∀ h s, s.takesRead h .nucleus 0x040214 = true →
    Reads (.phxXMaxtve h) h .nucleus 0x040214 s ((s.putPair { s.pairSt (s.rwN 0x040014).toNat with maxTve := 0 }).mapRegs .nucleus
      (fun r => { r with win := WMap.put zeroW r.win 0x040214 0 }))) ∧
  (∀ h s, h.half = .coma → s.takesRead h .coma 0x28 = true →
    Reads (.sysTjx h) h .coma 0x28 s { s with sys := { s.sys with tjxC := none } }) ∧
  (∀ h s, h.half = .nucleus → s.takesRead h .nucleus 0x28 = true →
    Reads (.sysTjx h) h .nucleus 0x28 s { s with sys := { s.sys with tjxN := none } }) ∧
  (∀ h s, s.takesRead h .coma 0x0B000C = true → Reads (.hspRqhwm h) h .coma 0x0B000C s (s.putCor .coma 0x0B000C 0)) ∧
  (∀ h s, s.takesRead h .coma 0x070070 = true →
    Reads (.nrgWMaxdem h) h .coma 0x070070 s ((s.mapPoint (s.rwC 0x070018).toNat (fun x => { x with maxDem := 0 })).mapRegs .coma
      (fun r => { r with win := WMap.put zeroW r.win 0x070070 0 }))) ∧
  (∀ h k s, k < 8 → s.takesRead h .coma (aAfeC k 0) = true → Reads (.afeCcStat h k) h .coma (aAfeC k 0) s (s.putCor .coma (aAfeC k 0) 0)) ∧
  (∀ hf a (s : State), (s.putCor hf a 0).cor hf a = 0)

/-- The configuration rows of the Nucleus half: ISL_CTL.enable (R188), ALM_CTL.rules_en (R261), GOOSE and stream enables (R247, R252),
ALM_DG (R249), alarm pins (R244). That a disable clears the last run's fields and keeps the event log is the model's reading (log 116). -/
def Obligations.NucleusConfigRowsComplete : Prop :=
  (∀ h v s, s.takesWrite h .nucleus 0x050000 v = true →
    let u := (s.noted h .nucleus 0x050000).putRw .nucleus 0x050000 (v &&& 1)
    Writes (.islCtlEnable h v) h .nucleus s
      (if bit v 0 = bit (s.rwN 0x050000) 0 then u
       else State.holdDone { u with isl := u.isl.discard (bit v 0) })) ∧
  (∀ (b : Bool) (i : Isl), (i.discard b).on = false ∧ (i.discard b).armed = b ∧ (i.discard b).islands = [] ∧ (i.discard b).prov = [] ∧
    (i.discard b).nextHandle = i.nextHandle ∧ (i.discard b).elog = i.elog) ∧
  (∀ h v g s, s.takesWrite h .nucleus 0x070000 v = true → bit v 1 = bit (s.rwN 0x070000) 1 → bit v 0 ≠ bit (s.rwN 0x070000) 0 →
    g < 8 → s.runsAt g s.follower = true →
    let u := (s.noted h .nucleus 0x070000).putRw .nucleus 0x070000 (v &&& 3)
    Writes (.almCtlRulesEn h v) h .nucleus s
      { u with alm := { u.alm with rulesOn := u.alm.rulesOn && bit v 0, rulesWait := some (bit v 0) } }) ∧
  (∀ h v s, s.takesWrite h .nucleus 0x070000 v = true → bit v 1 = bit (s.rwN 0x070000) 1 → bit v 0 = bit (s.rwN 0x070000) 0 →
    Writes (.almCtlRulesEn h v) h .nucleus s ((s.noted h .nucleus 0x070000).putRw .nucleus 0x070000 (v &&& 3))) ∧
  (∀ h k v s, k < 16 → s.takesWrite h .nucleus (aGse k 0) v = true →
    let u := (s.noted h .nucleus (aGse k 0)).putRw .nucleus (aGse k 0) (v &&& 0x3FFF)
    Writes (.almGooseEnable h k v) h .nucleus s (if bit v 0 = true ∧ s.gooseEn k = false then u.gooseEnabled k else u)) ∧
  (∀ h k v s, k < 64 → s.takesWrite h .nucleus (aEgr k 0) v = true →
    let u := (s.noted h .nucleus (aEgr k 0)).putRw .nucleus (aEgr k 0) (v &&& 0xFFFF1FFF)
    let on := egrEn (v &&& 0xFFFF1FFF)
    Writes (.egrStreamEnable h k v) h .nucleus s
      (if on = true ∧ egrEn (s.egrCfg k) = false then u.mapStream k (fun _ => { Stream.reset with
          q := Queue.new (egrKib (v &&& 0xFFFF1FFF) * 256), on := bit (v &&& 0xFFFF1FFF) 12, cfgAt := (u.stream k).cfgAt })
       else if egrEn (s.egrCfg k) = true ∧ on = false then
         u.mapStream k (fun x => { x with q := x.q.flushed, on := false, lastKey := none, fill := 0 })
       else u)) ∧
  (∀ h v s, s.takesWrite h .nucleus 0x070014 v = true →
    let u := (s.noted h .nucleus 0x070014).putRw .nucleus 0x070014 (v &&& 0x7F7F)
    let fresh := (dgStreams v).filter (fun i => !(dgStreams (s.rwN 0x070014)).elem i)
    Writes (.almDgWrite h v) h .nucleus s { u with alm := { u.alm with dgSeq := fresh.foldl (fun l i => at' l i (fun _ => 0)) u.alm.dgSeq } }) ∧
  (∀ h k v s, k < 8 → s.takesWrite h .nucleus (aPin k 0) v = true →
    let u := (s.noted h .nucleus (aPin k 0)).putRw .nucleus (aPin k 0) (v &&& 0xFFFF0037)
    Writes (.almPinCfgWrite h k v) h .nucleus s ((u.mapPin k (fun x => { x with mirror := v &&& 0xFFFF0037 })).drivePin k))

/-- The configuration rows of the Coma half: domain registers (R80), metering points (R282), pulse outputs (R296), the front-end preset
(R157), the recorder interval (R363).
While a point is enabled, or a chain of the front end runs, the write is refused with E_STATE and changes nothing. -/
def Obligations.ComaConfigRowsComplete : Prop :=
  (∀ h d r v s, s.takesWrite h .coma (aDom d (domOffset r)) v = true →
    Writes (.timDomainCfgWrite h d r v) h .coma s
      ((((s.noted h .coma (aDom d (domOffset r))).putRw .coma (aDom d (domOffset r)) (v &&& rwMask .coma (aDom d (domOffset r)))).mapDom d
        Domain.servoReset).judge)) ∧
  (∀ x : Domain, x.servoReset.hist = [] ∧ x.servoReset.outliers = [] ∧ x.servoReset.mpds = [] ∧ x.servoReset.base = 0 ∧
    x.servoReset.frozen = x.suspect ∧ x.servoReset.pstate = 0 ∧ x.servoReset.gm = x.gm ∧ x.servoReset.ofs = x.ofs) ∧
  (∀ h k v s, k < 256 → s.takesWrite h .coma (aNrg k 0) v = true → bit (v &&& 0xFFFF00FF) 0 = true → (s.point k).on = false →
    let u := (s.noted h .coma (aNrg k 0)).putRw .coma (aNrg k 0) (v &&& 0xFFFF00FF)
    let x := u.mapPoint k (fun x => { x with
      on := true, exportDir := false, opp := 0, parts := [], cycAt := cycNs (u.nrgHz k) (cycIdx (u.nrgHz k) u.tim.now + 1)
      demA := 0, demB := 0, sig := u.nrgSig k })
    Writes (.nrgPointEnable h k v) h .coma s (match findBy Delivery.group (bits (v &&& 0xFFFF00FF) 5 3) u.nrg.finals with
      | some d => if 2 ≤ nrgFeed (v &&& 0xFFFF00FF) then x.nrgPart k d else x
      | none => x)) ∧
  (∀ h k v s, k < 256 → s.takesWrite h .coma (aNrg k 0) v = true → (bit (v &&& 0xFFFF00FF) 0 = false ∨ (s.point k).on = true) →
    Writes (.nrgPointEnable h k v) h .coma s ((s.noted h .coma (aNrg k 0)).putRw .coma (aNrg k 0) (v &&& 0xFFFF00FF))) ∧
  (∀ h k v s, k < 256 → s.takes 0x0101 (hdrOn .coma h) [w32 (aNrg k 0), v] = true → bit (s.nrgCfg k) 0 = true →
    Refuses (.nrgPointEnable h k v) (hdrOn .coma h) 0x0101 eState 0 s) ∧
  (∀ h k v s, k < 4 → s.takesWrite h .coma (aPul k 0) v = true →
    let u := (s.noted h .coma (aPul k 0)).putRw .coma (aPul k 0) (v &&& 0x7FFFF)
    let was := bit (s.pulCfg k) 0
    let now := bit (v &&& 0x7FFFF) 0
    Writes (.pulEnable h k v) h .coma s (u.mapPul k (fun x => { x with
      written := true
      ball := if x.inPulse then x.ball else pulLevel (v &&& 0x7FFFF) false
      r := if was = now then x.r else 0
      due := if was = true ∧ now = false then [] else x.due
      pend := if was = true ∧ now = false then 0 else x.pend }))) ∧
  (∀ h v s, s.takesWrite h .coma 0x060000 v = true →
    let u := s.noted h .coma 0x060000
    Writes (.afePresetWrite h v) h .coma s (State.putRw .coma 0x060000 (v &&& 0x7F)
      { u with afe := { u.afe with chans := u.afe.chans.map (fun (c : Chan) => { c with custom := none, taps := none }) } })) ∧
  (∀ h v s, s.takes 0x0101 (hdrOn .coma h) [w32 0x060000, v] = true → bits v 1 0 ≠ 3 → s.afe.chains.any Chain.running = true →
    Refuses (.afePresetWrite h v) (hdrOn .coma h) 0x0101 eState 0 s) ∧
  (∀ h v s, s.takesWrite h .coma 0x090000 v = true →
    Writes (.recIvlWrite h v) h .coma s ((s.noted h .coma 0x090000).putRw .coma 0x090000 (v &&& 0xFF03)))

/-! ## Command packets of the blocks -/

/-- AFE.START, AFE.STOP, CIC.SYNC, CIC.LOADCOEF, AFE.CAL (R156, R159, R160, R162, R164).
The order of calibrations and the source that a merged request shows are the model's choice (log 30, 141); bits of a parameter word that no row
names are ignored (log 71). -/
def Obligations.FrontEndCommandsComplete : Prop :=
  (∀ h w s, s.takes 0x0400 h [w] = true →
    let cs := (List.range 8).filter (fun c => bit w c && !(s.chan c).running)
    Completes (.afeStart h [w]) h 0x0400 0 [] s (cs.foldl (fun x c =>
      (chanPaths c).foldl (fun y p => y.restartChain p)
        (x.mapChan c (fun k => { k with running := true, taps := k.custom, quiet := 0 }))) s)) ∧
  (∀ h w s, s.takes 0x0401 h [w] = true →
    let cs := (List.range 8).filter (fun c => bit w c && (s.chan c).running)
    let ps := cs.flatMap chanPaths
    let x := cs.foldl (fun (x : State) c => x.mapChan c (fun k => { k with running := false, lastCyc := [] })) s
    Completes (.afeStop h [w]) h 0x0401 0 [] s
      ((ps.foldl (fun (y : State) p => y.mapChain p (fun k => { k with running := false })) x).calStop ps)) ∧
  (∀ ps (s : State), s.afe.rover = none → (s.calStop ps) = (s.afe.calQ.filter ps.elem).foldl (fun (x : State) p => x.completeOp .coma 0x0404 p eState)
    { s with afe := { s.afe with calQ := s.afe.calQ.filter (fun p => !ps.elem p) } }) ∧
  (∀ h s, s.takes 0x0402 h [] = true → s.afe.rover = none →
    Completes (.cicSync h []) h 0x0402 0 [] s
      (match s.afe.sync with | none => { s with afe := { s.afe with sync := some 1, syncAt := s.tim.now } } | some _ => s.bumpC 0x068020 1)) ∧
  (∀ h r s, s.takes 0x0402 h [] = true → s.afe.rover = some r → r.step ≠ 0 → s.afe.sync = none →
    let u := (({ s with afe := { s.afe with rover := some { r with step := 0 } } } : State).bumpC 0x068024 1).roverAborted
    Completes (.cicSync h []) h 0x0402 0 [] s { u with afe := { u.afe with sync := some 1, syncAt := s.tim.now } }) ∧
  (∀ h w cs s, s.takes 0x0403 h (w :: cs) = true → cs.length = 64 → (∀ c, c < 8 → bit w c = true → (s.chan c).running = false) →
    Completes (.cicLoadcoef h (w :: cs)) h 0x0403 0 [] s (((List.range 8).filter (fun c => bit w c)).foldl (fun x c =>
      x.mapChan c (fun k => { k with custom := some cs })) s)) ∧
  (∀ h w s, s.takes 0x0404 h [w] = true → bits w 3 0 ≤ 12 → s.opLocked h 0x0404 (bits w 3 0) = false →
    s.opBusy h 0x0404 (bits w 3 0) = false → s.afe.calQ.elem (bits w 3 0) = false → s.afe.rover = none → s.calReady (bits w 3 0) = true →
    Defers (.afeCal h [w]) h 0x0404 [] s ((s.addOp h 0x0404 (bits w 3 0)).roverStart (bits w 3 0) true)) ∧
  (∀ h w r s, s.takes 0x0404 h [w] = true → bits w 3 0 ≤ 12 → s.opLocked h 0x0404 (bits w 3 0) = false →
    s.opBusy h 0x0404 (bits w 3 0) = false → s.afe.calQ.elem (bits w 3 0) = false → s.afe.rover = some r → r.path ≠ bits w 3 0 →
    s.calReady (bits w 3 0) = true →
    let u := s.addOp h 0x0404 (bits w 3 0)
    Defers (.afeCal h [w]) h 0x0404 [] s { u with afe := { u.afe with calQ := u.afe.calQ ++ [bits w 3 0] } })

/-- ISL.QUERY, LBE.START, LBE.STOP, LBE.QUERY, ALM.QUERY, ALM.RELEASE (R205, R227-R229, R240, R260).
Bits of a parameter word that no row names are ignored (log 71). -/
def Obligations.AnalysisCommandsComplete : Prop :=
  (∀ h s, s.takes 0x0500 h [0xFFFFFFFF] = true → Completes (.islQuery h [0xFFFFFFFF]) h 0x0500 0
    ([s.islCounts, w32 (s.isl.lastKey / 2 ^ 32 % 2 ^ 24), loW s.isl.lastKey,
      w32 (b2n (!s.isl.prov.isEmpty) + 2 * b2n s.isl.incomplete + 256 * s.isl.roundsUsed), w32 s.isl.overflow] ++
      (s.islRecs.take 251).map (fun x => w32 x.handle)) s s) ∧
  (∀ h w x s, s.takes 0x0500 h [w] = true → w ≠ 0xFFFFFFFF → s.islHeld w.toNat = some x →
    Completes (.islQuery h [w]) h 0x0500 0 (x.words ++ (x.members.take 247).map w32) s s) ∧
  (∀ h w s, s.takes 0x0600 h [w] = true → (s.lb (bits w 4 0)).running = false → bit (lbeW s.lbeT (bits w 4 0) 0) 31 = true →
    lbeFmax s.lbeT (bits w 4 0) * lbeStride s.lbeT (bits w 4 0) ≤ 450 * s.grpRate (lbeGroup s.lbeT (bits w 4 0)) →
    s.lbePool + lbeNeed s.lbeT (bits w 4 0) ≤ 33554432 →
    Completes (.lbeStart h [w]) h 0x0600 0 [] s (s.mapLbe (bits w 4 0) (fun l => { Lbe.reset with
      running := true, since := s.follower, group := lbeGroup s.lbeT (bits w 4 0), mem := lbeNeed s.lbeT (bits w 4 0)
      lastKey := l.lastKey, lastT := l.lastT
      cfg := [s.rwN (aLbe (bits w 4 0) 4), s.rwN (aLbe (bits w 4 0) 8), s.rwN (aLbe (bits w 4 0) 0xC), s.rwN (aLbe (bits w 4 0) 0x10)] }))) ∧
  (∀ h w s, s.takes 0x0601 h [w] = true →
    Completes (.lbeStop h [w]) h 0x0601 0 [] s (if (s.lb (bits w 4 0)).running = false then s
      else if (s.lb (bits w 4 0)).q = [] then s.lbeHalt (bits w 4 0)
      else s.mapLbe (bits w 4 0) (fun l => { l with stopping := true, q := l.q.take 1 }))) ∧
  (∀ h w v s, s.takes 0x0602 h [w, v] = true → bits v 31 5 = 0 →
    Completes (.lbeQuery h [w, v]) h 0x0602 0
      (if bit v 4 then s.lbeSummary (bits w 4 0) (bits v 3 0) else s.lbeQuery (bits w 4 0) (bits v 3 0)) s s) ∧
  (∀ h w s, s.takes 0x0700 h [w] = true → bits w 31 30 = 0 → bits w 15 0 ≤ 4095 →
    Completes (.almQuery h [w]) h 0x0700 0 (s.ruleWords (bits w 15 0)) s s) ∧
  (∀ h w s, s.takes 0x0700 h [w] = true → bits w 31 30 = 1 → bits w 15 0 ≤ 16383 →
    Completes (.almQuery h [w]) h 0x0700 0 (s.watchWords (bits w 15 0)) s s) ∧
  (∀ h w s, s.takes 0x0700 h [w] = true → bits w 31 30 = 2 → bits w 15 0 ≤ 7 →
    Completes (.almQuery h [w]) h 0x0700 0
      [s.pinStat (bits w 15 0), w32 (s.mapped (bits w 15 0)), s.ctr .nucleus (aPin (bits w 15 0) 8)] s s) ∧
  (∀ h w s, s.takes 0x0700 h [w] = true → bits w 31 30 = 2 → bits w 15 0 = 0xFFFF →
    Completes (.almQuery h [w]) h 0x0700 0 ((List.range 8).map (fun p => s.pinStat p)) s s) ∧
  (∀ h w s, s.takes 0x0700 h [w] = true → bits w 31 30 = 0 → bits w 15 0 = 0xFFFF →
    Completes (.almQuery h [w]) h 0x0700 0 (listWords ((s.alm.rules.filter RuleSt.active).map (fun r =>
      listWord r.id r.latched r.prov (ruleClass (s.ruleW r.id 0)) (outSev (s.ruleW r.id 6))))) s s) ∧
  (∀ h w s, s.takes 0x0700 h [w] = true → bits w 31 30 = 1 → bits w 15 0 = 0xFFFF →
    Completes (.almQuery h [w]) h 0x0700 0 (listWords ((s.alm.watches.filter WatchSt.active).map (fun x =>
      listWord x.id false false (s.watchClass x.id) (outSev (s.watchW x.id 5))))) s s) ∧
  (∀ h w s, s.takes 0x0701 h [w] = true → bit (s.ruleW (bits w 11 0) 0) 31 = true → (s.ruleSt (bits w 11 0)).active = true →
    (s.ruleSt (bits w 11 0)).latched = true → (s.ruleSt (bits w 11 0)).clearOk = true →
    Completes (.almRelease h [w]) h 0x0701 0 [] s
      ((s.putRule (RuleSt.count 2 ((s.ruleSt (bits w 11 0)).inactive (s.ruleSt (bits w 11 0)).key))).changes
        [s.ruleChange (bits w 11 0) 6 (s.ruleSt (bits w 11 0)).value (s.ruleSt (bits w 11 0)).aux s.tim.now])) ∧
  (∀ h w s, s.takes 0x0701 h [w] = true → bit (s.ruleW (bits w 11 0) 0) 31 = true → (s.ruleSt (bits w 11 0)).active = true →
    (s.ruleSt (bits w 11 0)).latched = true → (s.ruleSt (bits w 11 0)).clearOk = false → Completes (.almRelease h [w]) h 0x0701 1 [] s s)

/-- NRG.SNAPSHOT, NRG.READ, NRG.PRESET (R289-R291): a snapshot is requested for the next instant of the grid, and while it is pending a
second one answers E_BUSY, an automatic one at the same instant being taken over. Bits of a parameter word that no row names are ignored (log 71). -/
def Obligations.MeteringCommandsComplete : Prop :=
  (∀ h s, s.takes 0x0800 h [] = true → s.nrg.snaps = [] →
    Completes (.nrgSnapshot h []) h 0x0800 0
      [w32 s.nrg.nextNum, hiW (s.snapInstant / 1000000000), loW (s.snapInstant / 1000000000)] s (s.snapStart s.snapInstant true)) ∧
  (∀ h y s, s.takes 0x0800 h [] = true → s.nrg.snaps.find? (fun x => x.inst == s.snapInstant && !x.cmd) = some y →
    Completes (.nrgSnapshot h []) h 0x0800 0
      [w32 y.num, hiW (s.snapInstant / 1000000000), loW (s.snapInstant / 1000000000)] s
      { s with nrg := { s.nrg with snaps := s.nrg.snaps.map (fun x => if x.num = y.num then { x with cmd := true } else x) } }) ∧
  (∀ h s, s.takes 0x0800 h [] = true → s.nrg.snaps ≠ [] → (∀ x ∈ s.nrg.snaps, x.cmd = true) → Refuses (.nrgSnapshot h []) h 0x0800 eBusy 0 s) ∧
  (∀ h w s, s.takes 0x0801 h [w] = true →
    let a := if bit w 8 then (s.point (bits w 7 0)).snap else (s.point (bits w 7 0)).acc
    Completes (.nrgRead h [w]) h 0x0801 0
      [hiW (nth 0 a 0 / 2 ^ 32), loW (nth 0 a 0 / 2 ^ 32), hiW (nth 0 a 1 / 2 ^ 32), loW (nth 0 a 1 / 2 ^ 32),
        hiW (nth 0 a 2 / 2 ^ 32), loW (nth 0 a 2 / 2 ^ 32), hiW (nth 0 a 3 / 2 ^ 32), loW (nth 0 a 3 / 2 ^ 32)] s s) ∧
  (∀ h w v hi lo s, s.takes 0x0802 h [w, v, hi, lo] = true →
    let u := s.mapPoint (bits w 7 0) (fun x => { x with acc := at' x.acc (bits v 1 0) (fun _ => (hi.toNat * 2 ^ 32 + lo.toNat) * 2 ^ 32) })
    Completes (.nrgPreset h [w, v, hi, lo]) h 0x0802 0 [] s (State.bumpC 0x0700A4 1 { u with nrg := { u.nrg with
      snaps := u.nrg.snaps.map (fun x => if (u.point (bits w 7 0)).on = false ∧ u.tim.now < x.inst then
        { x with copies := insertBy (fun e => e.1) (bits w 7 0, (u.point (bits w 7 0)).acc) x.copies } else x) } }))

/-- TIME.READ, TIME.SELECT, TIME.RESTEP, TIME.ASYM, RTC.SET, RTC.READ (R53, R61, R65, R67, R302, R307). That a selected domain serves at once, where R65
says within 1 ms, is the model's choice (log 108); bits of a parameter word that no row names are ignored (log 71). -/
def Obligations.TimeCommandsComplete : Prop :=
  (∀ h s, s.takes 0x0900 h [] = true → Completes (.timeRead h []) h 0x0900 0
    [w32 (s.tim.count / 2 ^ 40 / 1000000000 / 2 ^ 32 % 65536), loW (s.tim.count / 2 ^ 40 / 1000000000), w32 (s.tim.count / 2 ^ 40 % 1000000000),
      w32 (s.tim.count / 2 ^ 24 % 65536), s.timStat] s s) ∧
  (∀ h w s, s.takes 0x0901 h [w] = true →
    let d : Dom := if bit w 0 then .b else .a
    d ≠ s.tim.sel → (s.tim.dom d).healthy = true → s.tim.disagree = false →
    Completes (.timeSelect h [w]) h 0x0901 0 [] s (s.switchTo d).judge ∧ (s.switchTo d).tim.sel = d) ∧
  (∀ h w s, s.takes 0x0901 h [w] = true → (if bit w 0 then Dom.b else Dom.a) = s.tim.sel → Completes (.timeSelect h [w]) h 0x0901 0 [] s s) ∧
  (∀ h s, s.takes 0x0902 h [] = true → s.opLocked h 0x0902 0 = false → s.opBusy h 0x0902 0 = false → s.anyRunning = false →
    let u := if s.tim.state = .holdover ∨ s.tim.state = .fault then s.evTime 2 else s
    Defers (.timeRestep h []) h 0x0902 [] s (State.addOp h 0x0902 0 (State.mapSrc .coma 56 (fun x => { x with present := false })
      { u with tim := { u.tim.logRate with state := .coarse, restep := true } })).judge) ∧
  (∀ h w v s, s.takes 0x0903 h [w, v] = true → bits w 9 8 = 0 →
    Completes (.timeAsym h [w, v]) h 0x0903 0 [] s (s.enterAsym (if bit w 0 then .b else .a) v)) ∧
  (∀ h w v s, s.takes 0x0903 h [w, v] = true → bits w 9 8 = 1 →
    let d : Dom := if bit w 0 then .b else .a
    s.opLocked h 0x0903 d.idx = false → s.opBusy h 0x0903 d.idx = false → s.tim.ppsValid = true →
    Defers (.timeAsym h [w, v]) h 0x0903 [] s
      (State.addOp h 0x0903 d.idx { s with tim := { s.tim with
        valid := s.tim.valid ++ [{ dom := d, samples := [], edges := [], lost := false }] } })) ∧
  (∀ h w v s, s.takes 0x0904 h [w, v] = true → s.calFollows = false → s.pwr.lockout = false → bits v 31 24 = 0 →
    let a : Aon := { s.aon with year := bits w 31 16, month := bits w 15 8, day := bits w 7 0, hour := bits v 23 16, minute := bits v 15 8
                                second := bits v 7 0, calValid := true, stopped := false, prescAt := some s.tim.now }
    a.dateOk = true → Completes (.rtcSet h [w, v]) h 0x0904 0 [] s { s with aon := a }) ∧
  (∀ h s, s.takes 0x0905 h [] = true →
    Completes (.rtcRead h []) h 0x0905 0 [s.aon.dateWord, s.aon.timeWord, w32 (1 + 2 * b2n s.aon.calValid)] s s)

/-- KEY.INSTALL, KEY.DERIVE, KEY.REVOKE, KEY.CHALLENGE, KEY.STATUS (R323-R325, R329, R330): a stored key's slot is VALID, of the next
generation and out of its hold window, and its two halves give the key. -/
def Obligations.KeyCommandsComplete : Prop :=
  (∀ h w ks s, s.takes 0x0A00 h (w :: ks) = true → ks.length = 8 → bits w 31 6 = 0 → s.tamperOn = false → s.pwr.lockout = false →
    Completes (.keyInstall h (w :: ks)) h 0x0A00 0 [] s ((s.storeKey (bits w 5 0) false 0 (keyOf ks)).bumpC 0x058040 1)) ∧
  (∀ h w r s, s.takes 0x0A01 h (w :: r) = true → bits w 22 16 ≤ 64 → bits w 31 24 ≤ 128 →
    r.length = (bits w 22 16 + 3) / 4 + (bits w 31 24 + 3) / 4 → bits w 13 8 ≠ 0 → bits w 13 8 ≠ bits w 5 0 →
    s.descends (bits w 13 8) 64 (bits w 5 0) = false → s.tamperOn = false → s.keyValid (bits w 5 0) = true → s.pwr.lockout = false →
    Completes (.keyDerive h (w :: r)) h 0x0A01 0 [] s
      ((s.storeKey (bits w 13 8) true (bits w 5 0)
        (BitVec.ofNat 256 (beNat (hkdf (s.slot (bits w 5 0)).key (deriveSalt (w :: r)) (deriveInfo (w :: r)))))).bumpC 0x058044 1)) ∧
  (∀ h w s, s.takes 0x0A02 h [w] = true → s.pwr.lockout = false → s.keyValid (bits w 5 0) = true →
    Completes (.keyRevoke h [w]) h 0x0A02 0 [] s
      (((((s.invalidateBelow (bits w 5 0)).invalidate (bits w 5 0)).bumpC 0x058048 1).latchC 0x058008 1).dropAllHeads)) ∧
  (∀ h w s, s.takes 0x0A02 h [w] = true → s.pwr.lockout = false → s.keyValid (bits w 5 0) = false →
    Completes (.keyRevoke h [w]) h 0x0A02 1 [] s s) ∧
  (∀ h w a b c d s, s.takes 0x0A03 h [w, a, b, c, d] = true → bits w 5 0 ≠ 0 → s.keyValid (bits w 5 0) = true →
    bit (s.keyCfg (bits w 5 0)) 16 = true → s.keys.rsp ≠ 0xFFFFFFFF →
    Completes (.keyChallenge h [w, a, b, c, d]) h 0x0A03 0
      ((s.keys.rsp + 1) :: wordsN 4 (s.tag16 (bits w 5 0) (challengeMsg [a, b, c, d] (s.keys.rsp + 1)))) s
      { s with keys := { s.keys with rsp := s.keys.rsp + 1 } }) ∧
  (∀ h w s, s.takes 0x0A04 h [w] = true → bits w 7 0 ≤ 63 →
    Completes (.keyStatus h [w]) h 0x0A04 0 [s.keyStat (bits w 7 0)] s s) ∧
  (∀ h w s, s.takes 0x0A04 h [w] = true → bits w 7 0 = 0xFF →
    Completes (.keyStatus h [w]) h 0x0A04 0 ((List.range 64).map (fun k => s.keyStat k)) s s) ∧
  (∀ k d p key (s : State), k < s.keys.slots.length →
    let x := (s.storeKey k d p key).slot k
    x.st = 1 ∧ x.derived = d ∧ x.parent = p ∧ x.gen = (s.slot k).gen + 1 ∧ x.window = false ∧ x.masked ^^^ x.mask = key)

/-- REC.OPEN, READ, CLOSE, FREEZE, THAW, CLEAR (R360-R362): each runs to a next state. OPEN answers with the oldest and the newest number and
gives the port a cursor where one of the four is free or it has one; READ answers with the words of 1 to 8 records; CLOSE gives the cursor
back; FREEZE and THAW set and clear the freeze; CLEAR is accepted (OK_PENDING) with its key word while the recorder is not frozen. OPEN with no
cursor free and READ during a clear answer E_BUSY, READ without a cursor and CLEAR of a frozen recorder E_STATE, and nothing changes. -/
def Obligations.RecorderCommandsComplete : Prop :=
  (∀ h s, s.takes 0x0B00 h [] = true → s.rcd.clearing = false → (s.hasCursor h.port = true ∨ s.cursors < 4) →
    ∃ t, exec (.recOpen h []) s = .next t ∧ Replied h 0x0B00 codeOk 0 [w32 s.recOldest, w32 s.rcd.newest] t ∧
      OnlyReplied h.port (s.mapPort h.port (fun c => { c with cursor := true })) t) ∧
  (∀ h s, s.takes 0x0B00 h [] = true → (s.rcd.clearing = true ∨ s.hasCursor h.port = false ∧ 4 ≤ s.cursors) →
    Refuses (.recOpen h []) h 0x0B00 eBusy 0 s) ∧
  (∀ h a n s, s.takes 0x0B01 h [a, n] = true → 1 ≤ n.toNat → n.toNat ≤ 8 → s.hasCursor h.port = true → s.rcd.clearing = false →
    ∃ t, exec (.recRead h [a, n]) s = .next t ∧
      Replied h 0x0B01 codeOk 0 ((List.range n.toNat).flatMap (fun i => s.recWords (a.toNat + i))) t ∧ OnlyReplied h.port s t) ∧
  (∀ h a n s, s.takes 0x0B01 h [a, n] = true → 1 ≤ n.toNat → n.toNat ≤ 8 →
    (s.rcd.clearing = true → Refuses (.recRead h [a, n]) h 0x0B01 eBusy 0 s) ∧
    (s.rcd.clearing = false → s.hasCursor h.port = false → Refuses (.recRead h [a, n]) h 0x0B01 eState 0 s)) ∧
  (∀ h s, s.takes 0x0B02 h [] = true →
    ∃ t, exec (.recClose h []) s = .next t ∧ Replied h 0x0B02 codeOk 0 [] t ∧
      OnlyReplied h.port (s.mapPort h.port (fun c => { c with cursor := false })) t) ∧
  (∀ h s, s.takes 0x0B03 h [] = true →
    ∃ t, exec (.recFreeze h []) s = .next t ∧ Replied h 0x0B03 codeOk 0 [] t ∧
      OnlyReplied h.port (({ s with rcd := { s.rcd with frozen := true } } : State).bumpC 0x090038 1) t) ∧
  (∀ h s, s.takes 0x0B04 h [] = true →
    ∃ t, exec (.recThaw h []) s = .next t ∧ Replied h 0x0B04 codeOk 0 [] t ∧
      OnlyReplied h.port { s with rcd := { s.rcd with frozen := false } } t) ∧
  (∀ h s, s.takes 0x0B05 h [0x0B050B05] = true → s.rcd.frozen = false → s.rcd.clearing = false → s.opBusy h 0x0B05 0 = false →
    ∃ t, exec (.recClear h [0x0B050B05]) s = .next t ∧ Replied h 0x0B05 codePending 0 [] t ∧
      OnlyReplied h.port { s.addOp h 0x0B05 0 with rcd := { s.rcd with clearing := true } } t) ∧
  (∀ h s, s.takes 0x0B05 h [0x0B050B05] = true → s.rcd.frozen = true → s.rcd.clearing = false → s.opBusy h 0x0B05 0 = false →
    Refuses (.recClear h [0x0B050B05]) h 0x0B05 eState 0 s)

/-- FLT.READ, FLT.CLEAR, FLT.FORCE, FLT.ERRPIN and a forced occurrence by FLT_x_Sn_CFG (R340, R343, R346, R350). That the forced
occurrence, and the one that follows a clear, come after the reply is the model's reading (log 114); bits of a parameter word that no row names are
ignored (log 71). -/
def Obligations.FaultCommandsComplete : Prop :=
  (∀ h w s, s.takes 0x0C00 h [w] = true → bits w 7 0 < fltCount h.half →
    Completes (.fltRead h [w]) h 0x0C00 0
      [s.fltCfg h.half (bits w 7 0), (s.src h.half (bits w 7 0)).stat, (s.src h.half (bits w 7 0)).cntW] s s) ∧
  (∀ h w s, s.takes 0x0C00 h [w] = true → bits w 7 0 = 0xFF →
    Completes (.fltRead h [w]) h 0x0C00 0
      [s.handWord h.half 0, s.handWord h.half 1, if h.half = .coma then s.handWord h.half 2 else 0] s s) ∧
  (∀ h w s, s.takes 0x0C01 h [w] = true → bits w 7 0 < fltCount h.half → (s.src h.half (bits w 7 0)).handling = true →
    CompletesThen (.fltClear h [w]) h 0x0C01 [] s
      ((s.mapSrc h.half (bits w 7 0) (fun x => { x with handling := false, real := false, forced := false, missed := false, lvl := 0 })).reattn
        false)
      (if (s.src h.half (bits w 7 0)).present then State.fault h.half (bits w 7 0) else id)) ∧
  (∀ h w s, s.takes 0x0C02 h [w] = true → bits w 7 0 < fltCount h.half →
    CompletesThen (.fltForce h [w]) h 0x0C02 [] s s (State.forceFault h.half (bits w 7 0))) ∧
  (∀ h w s, s.takes 0x0C03 h [w] = true →
    Completes (.fltErrpin h [w]) h 0x0C03 0 [] s { s with flt := { s.flt with errnSw := bit w 0 } }) ∧
  (∀ h k v s, k < fltCount h.half → s.takesWrite h h.half (aFlt h.half k 0) (v ||| 0x20) = true →
    CompletesThen (.fltSnCfgForce h k v) h 0x0101 [] s
      ((s.noted h h.half (aFlt h.half k 0)).putRw h.half (aFlt h.half k 0) ((v ||| 0x20) &&& fltMask h.half k)) (State.forceFault h.half k))

/-- UPD.BEGIN, DATA, VERIFY, SWITCH (R385, R386, R390, R392-R394). The words go to the target's region of the flash, a sector being erased as a packet
enters it, so that what was sent in order can be read back; in an HSP boot firmware goes to core memory. Whether the flash takes the words is free
(log 93); that firmware is limited to its slot is the model's reading (log 166). -/
def Obligations.UpdateCommandsComplete : Prop :=
  (∀ h n s, s.takes 0x0D00 h [n] = true → n.toNat ≤ s.updLimit h.half →
    ((s.updS h.half).port = none ∨ (s.updS h.half).port = some h.port) → (s.updS h.half).switching = false →
    (s.updS h.half).verifying = false →
    Completes (.updBegin h [n]) h 0x0D00 0 [] s
      ((s.mapUpd h.half (fun u => { u.released with port := some h.port, len := n.toNat })).updCnt h.half 0x0B0040)) ∧
  (∀ h off ws s, s.takes 0x0D01 h (off :: ws) = true → ws ≠ [] → (s.updS h.half).port = some h.port → (s.updS h.half).switching = false →
    (s.updS h.half).verifying = false → off.toNat = (s.updS h.half).data.length →
    ((s.updS h.half).data = [] → 2 ≤ ws.length ∧ (fieldAt 4 1 (bytesOf ws) = fwType h.half ∨ fieldAt 4 1 (bytesOf ws) = 3 ∧ h.half = .nucleus)) →
    let ty := fieldAt 4 1 ((s.updS h.half).data ++ bytesOf ws)
    off.toNat + 4 * ws.length ≤ (if ty = 3 then (s.updS h.half).len else Nat.min (s.updS h.half).len (maxImage h.half)) →
    let memory := s.toMemory h.half ty
    let a := s.target h.half ty
    let u : State := if memory then s else { s with free := s.free + 1 }
    let v := if (s.updS h.half).data = [] ∧ ty = 3 then u.tsetInvalid else u
    let x := if memory then v else v.putRegion a (writeRegion off.toNat (bytesOf ws) ((s.region a).getD []))
    let fails := !memory && Config.programFails s.free
    ∃ t, exec (.updData h (off :: ws)) s = .next t ∧ Replied h 0x0D01 (if fails then eImage else codeOk) 0 [] t ∧
      OnlyReplied h.port (if fails then (v.loseRegion a).mapUpd h.half Upd.released
        else x.mapUpd h.half (fun u => { u with data := u.data ++ bytesOf ws, verified := false })) t) ∧
  (∀ d bs r : List Byte, r.take d.length = d → (∀ i, d.length ≤ i → i < (d.length + 65535) / 65536 * 65536 → nth 0xFF r i = 0xFF) →
    (writeRegion d.length bs r).take (d.length + bs.length) = d ++ bs) ∧
  (∀ h s, s.takes 0x0D02 h [] = true → (s.updS h.half).port = some h.port → (s.updS h.half).switching = false →
    (s.updS h.half).verifying = false → s.opBusy h 0x0D02 0 = false →
    Defers (.updVerify h []) h 0x0D02 [] s
      ((s.mapUpd h.half (fun u => { u with verifying := true, verified := false })).addOp h 0x0D02 0)) ∧
  (∀ h s, s.takes 0x0D03 h [] = true → (s.updS h.half).port = some h.port → (s.updS h.half).switching = false →
    (s.updS (otherHalf h.half)).switching = false → s.opBusy h 0x0D03 0 = false → (s.updS h.half).verified = true →
    Defers (.updSwitch h []) h 0x0D03 [] s
      ((s.mapUpd h.half (fun u => { u with switching := true, ready := false })).addOp h 0x0D03 0))

/-- UPD.REPAIR by its five rows (R147, R368, R396-R398).
The core action's first word and the order of the checks are the model's choice (log 55); bits of a parameter word that no row names are ignored
(log 71). -/
def Obligations.RepairCommandsComplete : Prop :=
  (∀ h w s, h.half = .nucleus → s.takes 0x0D04 h (withAction 1 [w]) = true → s.aln.repair = false → s.opBusy h 0x0D04 1 = false →
    (s.src .nucleus 21).handling = true → 0 < s.aln.spares →
    Defers (.updRepairTile h [w]) h 0x0D04 [w32 (s.aln.spares - 1)] s
      ((State.addOp h 0x0D04 1 { s with aln := { s.aln with repair := true, repLeft := 16 } }).latchN 0x030008 16)) ∧
  (∀ h w l s, s.takes 0x0D04 h (withAction 2 [w]) = true → (s.tlk h.half).rt = none → (s.tlk h.half).up = true →
    (s.tlk h.half).rxSub = none → s.worstLane h.half (s.tlk h.half).rxLanes = some l →
    Completes (.updRepairLane h [w]) h 0x0D04 0 [0] s
      ((((((s.spareLane h.half l).laneTrained h.half l).laneTrained h.half 8).latch h.half 0x010004 2).updEvt h.half 4).updCnt h.half 0x0B0054)) ∧
  (∀ h w n s, s.takes 0x0D04 h (withAction 3 [w]) = true → s.opLocked h 0x0D04 3 = false → s.opBusy h 0x0D04 3 = false →
    s.retiredCore h.half = some n →
    Defers (.updRepairCore h [w]) h 0x0D04 [w32 (s.spareCount h.half + 1)] s
      (State.addOp h 0x0D04 3 { s with core := { s.core with repairing := s.core.repairing ++ [(h.half, n)] } })) ∧
  (∀ h w s, h.half = .coma → s.takes 0x0D04 { h with half := .nucleus } (withAction 4 [w]) = true → s.opLocked h 0x0D04 4 = false →
    s.opBusy h 0x0D04 4 = false → s.upd.nuc.switching = false →
    Defers (.updRepairHalfReset h [w]) { h with half := .nucleus } 0x0D04 [0] s (s.resetNucleus.addOp h 0x0D04 4) ∧
      s.resetNucleus.pwr.nrst = true ∧
      s.resetNucleus.regN = { RegFile.empty with rw := if s.ory.joined then s.regN.rw.filter joinRange else [] } ∧ s.resetNucleus.ing = Ing.reset ∧
      s.resetNucleus.isl = Isl.reset ∧ s.resetNucleus.tlkN = TlkEnd.reset ∧
      ((∀ k ∈ s.cmd.waiting, k.hdr.half = .coma) → s.resetNucleus.regC = s.regC)) ∧
  (∀ h w s, h.half = .coma → s.takes 0x0D04 h (withAction 4 [w]) = true → s.opLocked h 0x0D04 4 = false → s.opBusy h 0x0D04 4 = false →
    Defers (.updRepairComaReset h [w]) h 0x0D04 [0] s (State.addOp h 0x0D04 4 { s with
      pwr := { s.pwr with resetDue := true }
      flt := { s.flt with rstCause := w32 (0x7F + 2 ^ 15 + 65536 * (s.handCount .coma + s.handCount .nucleus)) } }))

/-- ORY.JOIN, ORY.LEAVE, ORY.STATUS (R274, R275, R281), each to a next state: a join as root completes at once, as any other device it waits
for its parent; a leave sends LEAVE to every neighbour that is up and waits; STATUS answers with its five words and one for each of the 32
neighbours, and changes nothing. -/
def Obligations.OrreryCommandsComplete : Prop :=
  (∀ h a b c s, s.takes 0x0E00 h [a, b, c] = true → s.ory.joined = false → s.ory.pendJoin = false → s.ory.pendLeave = false →
    bits c 31 1 = 0 → (s.nbsWhere (fun k => nbRole (s.nbCfg k) == 1)).length = (if bit c 0 then 0 else 1) → bits b 5 0 ≠ 0 →
    s.keyValid (bits b 5 0) = true → s.opsOf h.port < 32 →
    let u : State := { s.addOp h 0x0E00 0 with ory := { s.ory with
      pendJoin := true, beating := true, root := bit c 0, orphan := false, depth := 0, id := bits a 10 0, slot := bits b 5 0
      session := if s.ory.session < s.sec % 2 ^ 32 then s.sec % 2 ^ 32 else (s.ory.session + 1) % 2 ^ 32, count := 0 } }
    ∃ t, exec (.oryJoin h [a, b, c]) s = .next t ∧ Replied h 0x0E00 codePending 0 [] t ∧
      OnlyReplied h.port (if bit c 0 then u.joinDone codeOk else u) t) ∧
  (∀ h s, s.takes 0x0E01 h [] = true → s.opLocked h 0x0E01 0 = false → s.ory.joined = true → s.opBusy h 0x0E01 0 = false →
    let v := s.addOp h 0x0E01 0
    let u := (s.nbsWhere (fun k => (s.nb k).up)).foldl (fun (x : State) k => x.originate k (nbId (x.nbCfg k)) 2 0 [])
      { v with ory := { v.ory with tx := if v.ory.tx.used + 1 ≤ v.ory.tx.cap then { v.ory.tx with entries := v.ory.tx.entries ++ [.flush] }
                                         else v.ory.tx } }
    ∃ t, exec (.oryLeave h []) s = .next t ∧ Replied h 0x0E01 codePending 0 [] t ∧
      OnlyReplied h.port (State.clearRoutes { u with ory := { u.ory with pendLeave := true, beating := false } }) t) ∧
  (∀ h s, s.takes 0x0E02 h [] = true →
    ∃ t, exec (.oryStatus h []) s = .next t ∧
      Replied h 0x0E02 codeOk 0
        ([s.oryStat, w32 (match s.parentNb with | some k => nbId (s.nbCfg k) | none => 0xFFFF), s.oryNup, w32 s.ory.session,
          w32 s.subtree.length] ++
        (List.range 32).map (fun k => w32 (2 ^ 31 * b2n (nbValid (s.nbCfg k)) + 2 ^ 30 * b2n (s.nb k).up + 2 ^ 28 * nbRole (s.nbCfg k) +
          2 ^ 26 * nbPort (s.nbCfg k) + 2 ^ 25 * b2n (s.nb k).breach + nbId (s.nbCfg k)))) t ∧ OnlyReplied h.port s t)

/-- XCV.READID, XCV.DIAG and PORT.CTL by its four rows (R93, R100). READID and DIAG answer from the bytes that the bus
last returned, bytes not yet returned being free (log 33, 63: the model's choice); bits of a parameter word that no row names are ignored (log 71). -/
def Obligations.TransceiverCommandsComplete : Prop :=
  (∀ h w s, s.takes 0x0F00 h [w] = true → (s.xc (bits w 1 0)).present = true → s.managed (bits w 1 0) = true →
    (s.xc (bits w 1 0)).idDone = true → s.flt.held.elem .xcv = false →
    let r := (s.muxTo (bits w 1 0)).moduleWords (s.xc (bits w 1 0)).a0 96
    Completes (.xcvReadid h [w]) h 0x0F00 0 r.2 s r.1) ∧
  (∀ h w s, s.takes 0x0F01 h [w] = true → (s.xc (bits w 1 0)).present = true → s.managed (bits w 1 0) = true →
    (s.xc (bits w 1 0)).idDone = true → s.flt.held.elem .xcv = false →
    let r := (s.muxTo (bits w 1 0)).moduleWords (s.xc (bits w 1 0)).a2 128
    Completes (.xcvDiag h [w]) h 0x0F01 0 r.2 s r.1) ∧
  (∀ h w s, s.takes 0x0F02 h [w] = true → s.cameOn h (bits w 1 0) = true →
    Completes (.portCtlDisable h [w]) h 0x0F02 0 [] s (s.mapPrt (bits w 1 0) (fun x => { x with offAfter := some h.seq }))) ∧
  (∀ h w s, s.takes 0x0F02 h [w] = true → s.cameOn h (bits w 1 0) = false →
    Completes (.portCtlDisable h [w]) h 0x0F02 0 [] s (s.portOff (bits w 1 0))) ∧
  (∀ h w s, s.takes 0x0F02 h [w] = true →
    let p := bits w 1 0
    let u := if s.prtOn p then s else s.drainPort p
    Completes (.portCtlEnable h [w]) h 0x0F02 0 [] s
      (((u.putRw .coma (aPrt p 0) (u.rwC (aPrt p 0) ||| 1)).mapPrt p (fun x => { x with offAfter := none })).mapXcv p (fun x =>
        if x.txflt ∧ (x.idDone ∨ !s.managed p) then Xcv.attempt (Xcv.anew x) else Xcv.anew x))) ∧
  (∀ h w s, s.takes 0x0F02 h [w] = true → (s.xc (bits w 1 0)).present = true →
    let again := fun (x : Xcv) => { Xcv.anew x with idDone := !s.managed (bits w 1 0), idValid := false, ddm := false, extCal := false }
    Completes (.portCtlRereadModule h [w]) h 0x0F02 0 [] s (s.mapXcv (bits w 1 0) (fun x =>
      if x.txflt = true ∧ s.managed (bits w 1 0) = false then Xcv.attempt (again x) else again x))) ∧
  (∀ h w s, s.takes 0x0F02 h [w] = true → (s.xc (bits w 1 0)).present = false → Refuses (.portCtlRereadModule h [w]) h 0x0F02 eState 0 s) ∧
  (∀ h w s, s.takes 0x0F02 h [w] = true →
    Completes (.portCtlClearCounters h [w]) h 0x0F02 0 [] s
      (((s.clearCtr .coma (aPrt (bits w 1 0) 0x80) (aPrt (bits w 1 0) 0x168)).clearCtr .coma (aXcv (bits w 1 0) 0x88)
        (aXcv (bits w 1 0) 0x98)).mapPrt (bits w 1 0) (fun x => { x with rxBytes := 0, txBytes := 0 })))

/-- PWRCTL (R28, R29, R31): a STANDBY request with nothing measuring begins the entry and applies the safe levels; a SERVICE request in
STANDBY begins the return.
What is refused or changes nothing in states that R28-R31 do not name is the model's reading (log 51). -/
def Obligations.PowerRequestsComplete : Prop :=
  (∀ h s, s.takesWrite h .coma 0x14 1 = true → s.pwr.mode = .service → s.pwr.trans = .none → s.measuring = false →
    let u := s.noted h .coma 0x14
    Writes (.pwrctlStandby h) h .coma s
      (State.drivePins { u with pwr := { u.pwr with trans := .toStandby, backToService := false } })) ∧
  (∀ h s, s.takesWrite h .coma 0x14 2 = true → s.pwr.mode = .standby → s.pwr.trans = .none → 4 ≤ s.pwr.phase →
    let u := s.noted h .coma 0x14
    Writes (.pwrctlService h) h .coma s { u with pwr := { u.pwr with trans := .toService } }) ∧
  (∀ h s, s.takesWrite h .coma 0x14 2 = true → s.pwr.trans = .toStandby →
    let u := s.noted h .coma 0x14
    Writes (.pwrctlService h) h .coma s { u with pwr := { u.pwr with backToService := true } })

/-! ## Events at the pins and on the network -/

/-- The Host Serial Port (R49-R51), the checks and sequence rules of a packet (R38, R40) and the idle release (R39). A packet with a wrong sync word or
version, length or CRC is answered with that code; one with REP set is counted; one of the expected number runs its command; the last number again
gets the stored reply with the attention fields of the moment, any other E_SEQ; RESYNC releases what the port held, flushes the queue, which leaves
one FLUSH, and runs its command. A read takes the oldest entry (a reply, GAP or FLUSH) once its last byte is out, or drives EMPTY; one that ends
early leaves the entry. Any other type is discarded and counted. Whole transactions (log 4), the split of the read counters (log 97), the idle
release (log 103, 139) and its end of a verification (log 40) are the model's reading. -/
def Obligations.HspTransactionsComplete : Prop :=
  (∀ bs s c, s.hspRdy = true → pktCheck 1020 bs = none → (nth 0 bs 2).getLsbD 2 = false → (nth 0 bs 2).getLsbD 1 = false →
    s.port? 0 = some c → (pktHdr c.id bs).seq = s.expectedSeq c →
    Does (.hspWriteTransaction bs) s ((s.bumpC 0x0B0040 1).dispatch (pktOp bs) (pktHdr c.id bs) (pktParams bs))) ∧
  (∀ bs s, s.hspRdy = true → 3 ≤ bs.length →
    let v := s.bumpC 0x0B0040 1
    let answers := fun (code : Byte) => Does (.hspWriteTransaction bs) s (v.sendReply (v.buildReply (pktHdr 0 bs) (pktOp bs) code 0 []) 0)
    let synced := fieldAt 0 2 bs = 0x0D1E ∧ (nth 0 bs 2).toNat / 16 = 1
    let fits := 8 ≤ bs.length ∧ bs.length = 16 + 4 * pktLen bs ∧ pktLen bs ≤ 1020
    (¬ synced → answers eSync) ∧ (synced → ¬ fits → answers eLength) ∧
    (synced → fits → fieldAt (bs.length - 4) 4 bs ≠ (crc32c (bs.take (bs.length - 4))).toNat → answers eCrc)) ∧
  (∀ bs s, s.hspRdy = true → pktCheck 1020 bs = none → (nth 0 bs 2).getLsbD 2 = true →
    Does (.hspWriteTransaction bs) s ((s.bumpC 0x0B0040 1).bumpC 0x0B006C 1)) ∧
  (∀ bs s c, s.hspRdy = true → pktCheck 1020 bs = none → (nth 0 bs 2).getLsbD 2 = false → (nth 0 bs 2).getLsbD 1 = false →
    s.port? 0 = some c → (∀ k ∈ s.cmd.waiting, k.hdr.port ≠ 0) → (pktHdr 0 bs).seq ≠ c.expected →
    let v := s.bumpC 0x0B0040 1
    (∀ r, c.last = some r → r.seq = (pktHdr 0 bs).seq → Does (.hspWriteTransaction bs) s
      (v.sendReply { r with level := s.attn.level, summary := s.attn.bits, gen := s.attn.gen } 0)) ∧
    ((∀ r, c.last = some r → r.seq ≠ (pktHdr 0 bs).seq) → Does (.hspWriteTransaction bs) s
      (v.sendReply (v.buildReply (pktHdr 0 bs) (pktOp bs) eSeq 0 []) 0))) ∧
  (∀ bs s c, s.hspRdy = true → pktCheck 1020 bs = none → (nth 0 bs 2).getLsbD 2 = false → (nth 0 bs 2).getLsbD 1 = true →
    s.port? 0 = some c →
    Does (.hspWriteTransaction bs) s (((s.bumpC 0x0B0040 1).resync 0).dispatch (pktOp bs) (pktHdr 0 bs) (pktParams bs))) ∧
  (∀ (p : Nat) (s : State), (∀ t ∈ (s.resync p).tbl.tbl, t.holder = some p → t.pendingCommit = true) ∧ (s.resync p).upd.coma.port ≠ some p ∧
    (s.resync p).upd.nuc.port ≠ some p ∧
    (s.resync 0).port? 0 = (s.port? 0).map (fun c => { c with cursor := false, q := { c.q with entries := [.flush], pend := 0 } })) ∧
  (∀ bs s, s.comaUp = true → s.hspRdy = false → s.cmd.discards ≠ 16 →
    let u : State := { s with cmd := { s.cmd with discards := s.cmd.discards + 1 } }
    Does (.hspWriteTransaction bs) s ((u.bumpC 0x0B0064 1).latchC 0x0B0008 1)) ∧
  (∀ n s c r k, s.comaUp = true → s.port? 0 = some c → c.q.head = some (.item r k) →
    let out := 0x5A :: r.bytes false
    let u := State.bumpC 0x0B0044 1 { s with cmd := { s.cmd with hspOut := (out ++ List.replicate (n - out.length) 0).take n } }
    (out.length ≤ n → Does (.hspReadTransaction n) s ((u.mapPort 0 (fun c => { c with q := c.q.pop })).bumpC 0x0B0048 1)) ∧
    (n < out.length → Does (.hspReadTransaction n) s ((u.bumpC 0x0B005C 1).latchC 0x0B0008 5))) ∧
  (∀ n s c k, s.comaUp = true → s.port? 0 = some c → c.q.head = some (.gap k) →
    let out : List Byte := 0x6A :: beBytes 2 k
    let u := State.bumpC 0x0B0044 1 { s with cmd := { s.cmd with hspOut := (out ++ List.replicate (n - out.length) 0).take n } }
    (3 ≤ n → Does (.hspReadTransaction n) s ((u.mapPort 0 (fun c => { c with q := c.q.pop })).bumpC 0x0B0050 1)) ∧
    (n < 3 → Does (.hspReadTransaction n) s u)) ∧
  (∀ n s c, s.comaUp = true → s.port? 0 = some c → c.q.head = some .flush → 1 ≤ n →
    let u := State.bumpC 0x0B0044 1 { s with cmd := { s.cmd with hspOut := 0x3C :: List.replicate (n - 1) 0 } }
    Does (.hspReadTransaction n) s ((u.mapPort 0 (fun c => { c with q := c.q.pop })).bumpC 0x0B0058 1)) ∧
  (∀ n s c, s.comaUp = true → s.port? 0 = some c → c.q.head = none → 1 ≤ n →
    let u := State.bumpC 0x0B0044 1 { s with cmd := { s.cmd with hspOut := 0xE0 :: List.replicate (n - 1) 0 } }
    Does (.hspReadTransaction n) s (u.bumpC 0x0B004C 1)) ∧
  (∀ ty s, s.comaUp = true → ty ≠ 1 → ty ≠ 2 → s.cmd.discards ≠ 16 →
    let u : State := { s with cmd := { s.cmd with discards := s.cmd.discards + 1 } }
    Does (.hspBadType ty) s ((u.bumpC 0x0B0060 1).latchC 0x0B0008 0)) ∧
  (∀ p s, s.comaUp = true → p ≠ 0 →
    let u := s.releaseHeld p
    Does (.commandPortIdleRelease p) s { u with
      tbl := { u.tbl with
        tbl := u.tbl.tbl.map (fun t => if t.holder = some p then { t with holder := some noPort } else t)
        commits := u.tbl.commits.map (fun k => if k.port = p then { k with gone := true } else k) }
      cmd := { u.cmd with
        ports := u.cmd.ports.filter (fun c => c.id != p), ops := u.cmd.ops.filter (fun o => o.port != p)
        recs := u.cmd.recs.filter (fun r => r.port != p) } } ∧
    (∀ q, q ≠ p → (u.port? q).map (fun c => (c.last, c.q, c.expected)) = (s.port? q).map (fun c => (c.last, c.q, c.expected))))

/-- A received frame that passes the filters is counted with its priority and given to its row's receiver (R83); one whose FCS is wrong is
counted and discarded, and decode errors of the PCS are counted (R84); in PCS loopback nothing is received from the balls (R102).
A command datagram (R52, R86) goes through the checks of R40 with its transport's largest length (R35) and the sequence rules of its source's port
(R38, R39): a source without a port is answered E_SEQ with detail 1, and with RESYNC gets the lowest free port, or E_BUSY.
What is counted for a frame is the model's reading where R83 leaves it (log 90, 163). -/
def Obligations.FrameReceptionCompletes : Prop :=
  (∀ p t bs e s, s.comaUp = true → p < 4 → 64 ≤ bs.length → bit (s.prtCtl p) 1 = false →
    let x := (s.reach t).bumpC (aPrt p 0x13C) e
    let r := rxOf (bs.take (bs.length - 4))
    (x.port p).link = true → x.prtOn p = true → fcs (bs.take (bs.length - 4)) = bs.drop (bs.length - 4) → x.dstOk p r = true →
    x.vlanOk p r = .yes → bs.length ≤ x.maxlen p →
    (x.quiet p = true → x.rxRow p r ≠ 2 ∧ x.rxRow p r ≠ 6 ∧ x.rxRow p r ≠ 10) →
    let q := x.rxPri p r
    let u := (x.bumpC (aPrt p (0x80 + 4 * q)) 1).mapPrt p (fun y => { y with rxBytes := (y.rxBytes + bs.length) % 2 ^ 64 })
    DoesJudged (.frameReceive p t { bytes := bs, errs := e }) s
      (u.rxDispatch State.datagramIn p q t ((x.stamp p 0 t).fdiv 65536).toNat bs.length (x.rxRow p r) r)) ∧
  (∀ p t bs e s, s.comaUp = true → p < 4 → 4 ≤ bs.length → bit (s.prtCtl p) 1 = false →
    let x := (s.reach t).bumpC (aPrt p 0x13C) e
    (x.port p).link = true → x.quiet p = false → fcs (bs.take (bs.length - 4)) ≠ bs.drop (bs.length - 4) →
    DoesJudged (.frameReceive p t { bytes := bs, errs := e }) s (x.bumpC (aPrt p prtFcserr) 1)) ∧
  (∀ p t bs e s, s.comaUp = true → bit (s.prtCtl p) 1 = true → DoesJudged (.frameReceive p t { bytes := bs, errs := e }) s (s.reach t)) ∧
  (∀ p q t arr len r i (s : State), ipOf r = some i → bit (s.rwC (aPrt p 0x2C)) 13 = true → s.onMgmt p r = true →
    let b : InBand := { net := p, v6 := i.v6, ip := i.src, udp := i.sport, payload := i.data,
                        path := { mac := r.src, v6 := i.v6, tag := r.tag.map (fun x => x.1), dscp := i.dscp, pri := q, len := len } }
    (s.stagingFits p q len = true → s.rxDispatch State.datagramIn p q t arr len 7 r = (s.datagramIn b).judgeXoffs) ∧
    (s.stagingFits p q len = false → s.rxDispatch State.datagramIn p q t arr len 7 r = s.stagingDrop p q)) ∧
  (∀ (b : InBand) (s : State), s.pwr.fw = false → s.datagramIn b = s) ∧
  (∀ (b : InBand) (s : State), s.pwr.fw = true →
    let bs := b.payload
    let maxL := if s.maxlen b.net < 4166 then 360 else 1020
    let told := fun (code : Byte) (d : Nat) =>
      let r := s.buildReply (pktHdr 0 bs) (pktOp bs) code d []
      s.pushFw b.net 7 (s.replyFrame b.net b.ip b.udp false { r with path := b.path })
    (∀ code c, pktCheck maxL bs = some code → s.portOf (.udp b) = some c →
        let r := s.buildReply (pktHdr c.id bs) (pktOp bs) code 0 []
        s.datagramIn b = s.sendReply { r with path := b.path } c.id) ∧
    (∀ code, pktCheck maxL bs = some code → s.portOf (.udp b) = none → s.datagramIn b = told code 0) ∧
    (pktCheck maxL bs = none → (nth 0 bs 2).getLsbD 2 = true → s.datagramIn b = s.bumpC (aPrt b.net prtCmdrej) 1) ∧
    (pktCheck maxL bs = none → (nth 0 bs 2).getLsbD 2 = false →
      let resync := (nth 0 bs 2).getLsbD 1
      (∀ c, s.portOf (.udp b) = some c → resync = false → (pktHdr c.id bs).seq = s.expectedSeq c →
        s.datagramIn b = (s.mapPort c.id (fun c => { c with path := b.path })).dispatch (pktOp bs) (pktHdr c.id bs) (pktParams bs)) ∧
      (∀ c, s.portOf (.udp b) = some c → resync = true → s.datagramIn b =
        ((s.mapPort c.id (fun c => { c with path := b.path })).resync c.id).dispatch (pktOp bs) (pktHdr c.id bs) (pktParams bs)) ∧
      (s.portOf (.udp b) = none → resync = false → s.datagramIn b = told eSeq 1) ∧
      (s.portOf (.udp b) = none → resync = true → (∀ i, 1 ≤ i → i ≤ 16 → (s.port? i).isSome = true) → s.datagramIn b = told eBusy 0) ∧
      (∀ i, s.portOf (.udp b) = none → resync = true → 1 ≤ i → i ≤ 16 → s.port? i = none → (∀ j, 1 ≤ j → j < i → (s.port? j).isSome = true) →
        let c : CmdPort := { CmdPort.fresh i with net := b.net, v6 := b.v6, ip := b.ip, udp := b.udp, path := b.path }
        s.datagramIn b = State.dispatch (pktOp bs) (pktHdr i bs) (pktParams bs)
          { s with cmd := { s.cmd with ports := insertBy CmdPort.id c s.cmd.ports } })))

/-- The links and the priority-based flow control of a port (R81, R82, R88, R89).
That block lock comes with the link is the model's reading (log 110); how far the orrery engine presses back is free (log 133). -/
def Obligations.LinkEventsComplete : Prop :=
  (∀ p s, s.comaUp = true →
    DoesJudged (.linkDown p false) s ((s.mapPrt p (fun x => { x with lock := false, hiBer := false })).portDown p)) ∧
  (∀ p s, s.comaUp = true → (s.port p).hiBer = false → (s.port p).bers < 10 →
    DoesJudged (.linkDown p true) s ((s.mapPrt p (fun x => { x with hiBer := true, bers := if x.hiBer then x.bers else x.bers + 1 })).portDown p)) ∧
  (∀ p s, s.comaUp = true → (s.port p).link = false →
    Does (.linkUp p) s (((s.drainPort p).mapPrt p (fun x => { x with link := true, lock := true, hiBer := false, sendsFault := false })).latchC (aPrt p 0xC) 0)) ∧
  (∀ p s, s.comaUp = true → (s.port p).rfault = false →
    Does (.remoteFault p true) s ((s.mapPrt p (fun x => { x with rfault := true })).latchC (aPrt p 0xC) 3)) ∧
  (∀ p s, s.comaUp = true → Does (.remoteFault p false) s (s.mapPrt p (fun x => { x with rfault := false }))) ∧
  (∀ p q s, s.comaUp = true → Does (.pfcPauseExpiry p q) s (s.mapPrt p (fun x => { x with pause := at' x.pause q (fun _ => 0) }))) ∧
  (∀ p s, s.comaUp = true → p < 4 → s.prt.length = 4 → (s.port p).pfc.length = 8 →
    ∃ t, exec (.pfcXoffRefresh p) s = .next t ∧ ∀ q, q < 8 → (s.port p).xoff.getLsbD q = true →
      (bits (s.rwC (aPrt p 0x48)) 31 16 * 256 ≤ s.occOf p q ∨ s.consumerPressed p q = true) →
      nth none (t.port p).pfc q = some (s.quanta p)) ∧
  (∀ p s, s.comaUp = true → p < 4 → s.prt.length = 4 → (s.port p).pfc.length = 8 →
    ∃ t, exec (.pfcXonRelease p) s = .next t ∧ ∀ q, q < 8 → (s.port p).xoff.getLsbD q = true →
      s.occOf p q < bits (s.rwC (aPrt p 0x48)) 31 16 * 256 → s.consumerPressed p q = false →
      nth none (t.port p).pfc q = some 0 ∧ (t.port p).xoff.getLsbD q = false)

/-- Nothing waits to leave port p: no PFC frame, no firmware frame, no reply, no orrery message and no stream entry. -/
def NothingWaits (p : Nat) (s : State) : Prop :=
  (s.port p).pfc.any Option.isSome = false ∧ (s.port p).fw = [] ∧ (∀ c ∈ s.cmd.ports, c.id ≠ 0 → c.net = p → c.q.entries = []) ∧
    s.ory.tx.entries = [] ∧ ∀ k, (s.stream k).q.entries = [] ∧ (s.stream k).fill = 0

/-- A frame boundary of a port (R82, R84, R87, R89): its own PFC frame goes first; then a frame of the highest priority, here a firmware frame or a
reply of priority 7; with nothing waiting the port sends nothing; a frame that has become longer than the port's limit is not sent; on a port
that is down the frame that would leave is discarded and counted. The order of the sources that share a priority and what a frame not sent counts
are the model's choice (log 88, 135, 160). -/
def Obligations.TransmissionCompletes : Prop :=
  (∀ p t s, s.comaUp = true → (s.port p).offAfter = none → s.txOn p = true → (s.port p).rfault = false → bit (s.prtCtl p) 1 = false →
    (s.port p).pfc.any Option.isSome = true →
    Does (.portTransmitFrame p t) s ((s.reach t).sendPfc p)) ∧
  (∀ p t s i f, s.comaUp = true → (s.port p).offAfter = none → (s.port p).pfc.any Option.isSome = false →
    (s.port p).fw.findIdx? (fun f => f.pri == 7) = some i → (s.port p).fw[i]? = some f → f.kind = .plain →
    s.ory.tx.entries = [] → (∀ k, (s.stream k).q.entries = []) →
    let u := (s.reach t).mapPrt p (fun x => { x with fw := x.fw.eraseIdx i })
    (s.txOn p = true → (s.port p).rfault = false → bit (s.prtCtl p) 1 = false → (s.port p).paused 7 = false →
      (padFrame f.bytes).length + 4 ≤ s.maxlen p → Does (.portTransmitFrame p t) s ((u.putWire p f.bytes).bumpC (aPrt p 0xBC) 1)) ∧
    (s.txOn p = true → (s.port p).rfault = false → (s.port p).loop = [] → (s.port p).paused 7 = false →
      s.maxlen p < (padFrame f.bytes).length + 4 → Does (.portTransmitFrame p t) s u) ∧
    (s.txOn p = false → Does (.portTransmitFrame p t) s (u.bumpC (aPrt p prtTxdown) 1))) ∧
  (∀ p t s c r n, s.comaUp = true → (s.port p).offAfter = none → s.txOn p = true → (s.port p).rfault = false → bit (s.prtCtl p) 1 = false →
    (s.port p).pfc.any Option.isSome = false → (s.port p).fw = [] → (s.port p).paused 7 = false →
    s.ory.tx.entries = [] → (∀ k, (s.stream k).q.entries = []) →
    s.cmd.ports.find? (fun c => c.id != 0 && c.net == p && !c.q.entries.isEmpty) = some c → s.port? c.id = some c →
    c.q.head = some (.item r n) → (padFrame (s.replyFrame p c.ip c.udp c.dropped r)).length + 4 ≤ s.maxlen p →
    Does (.portTransmitFrame p t) s ((((s.reach t).mapPort c.id (fun x => { x with q := x.q.pop, dropped := false })).putWire p
      (s.replyFrame p c.ip c.udp c.dropped r)).bumpC (aPrt p 0xBC) 1)) ∧
  (∀ p t s, s.comaUp = true → (s.port p).offAfter = none → (s.port p).loop = [] → NothingWaits p s →
    Does (.portTransmitFrame p t) s (s.reach t)) ∧
  (∀ p t s, s.comaUp = true → (s.port p).offAfter = none → s.txOn p = false → (s.port p).pfc.any Option.isSome = true →
    Does (.portTransmitFrame p t) s
      (((s.reach t).mapPrt p (fun x => { x with pfc := List.replicate 8 none })).bumpC (aPrt p prtTxdown) 1))

/-- The transceiver modules (R93-R99).
Places of module bytes are those of SFF-8472 (log 37); a mean of bias is rounded down (log 130). -/
def Obligations.ModuleEventsComplete : Prop :=
  (∀ n l s, s.comaUp = true → Does (.xcvAbsEdge n l) s (s.mapXcv n (fun x => { x with debounce := some l }))) ∧
  (∀ n s, s.comaUp = true → (s.xc n).present = false → (s.xc n).debounce ≠ some true →
    Does (.moduleInserted n) s ((((s.mapXcv n (fun x => { Xcv.reset with present := true, los := x.los, inserted := true })).latchC
      (aXcv n 8) 0).latchC (aPrt n 0xC) 5).evService 1)) ∧
  (∀ n s, s.comaUp = true → n < 4 → s.xcv.length = 4 → (s.xc n).present = true → (s.xc n).debounce ≠ some false →
    ∃ t, exec (.moduleRemoved n) s = .next t ∧ (t.xc n).present = false ∧ (t.xc n).idDone = false ∧ (t.xc n).life = none ∧
      (t.xc n).txflt = false ∧ (t.xc n).txFail = false ∧ (t.xc n).los = (s.xc n).los) ∧
  (∀ n l s, s.comaUp = true → (s.xc n).los ≠ l → Does (.xcvLosChange n l) s ((s.mapXcv n (fun x => { x with los := l })).latchC (aXcv n 8) 6)) ∧
  (∀ n rs a0 a2 s, s.comaUp = true → n < 4 → s.xcv.length = 4 → (s.xc n).present = true → s.managed n = true → (s.xc n).idDone = false →
    (rs.take 3).find? identityOk = some a0 →
    ∃ t, exec (.xcvIdentityRead n rs a2) s = .next t ∧ (t.xc n).idDone = true ∧ (t.xc n).idValid = true ∧
      (t.xc n).a0 = (a0.take 96).map some) ∧
  (∀ n rs a2 s, s.comaUp = true → (s.xc n).present = true → s.managed n = true → (s.xc n).idDone = false → (s.xc n).txflt = false →
    (rs.take 3).find? identityOk = none →
    ∃ t, exec (.xcvIdentityRead n rs a2) s = .next t ∧
      t.xcv = (s.mapXcv n (fun x => { x with idDone := true, idValid := false, life := none })).xcv) ∧
  (∀ n o d s, s.comaUp = true → s.managed n = true → s.flt.held.elem .xcv = false →
    Does (.xcvBusTransaction n 0xA0 o d true) s
      (((s.muxTo n).over .coma 51).mapXcv n (fun x => { x with a0 := putBytes o (d.take s.busMost) x.a0 })) ∧
    Does (.xcvBusTransaction n 0xA2 o d true) s
      (((s.muxTo n).over .coma 51).mapXcv n (fun x => { x with a2 := putBytes o (d.take s.busMost) x.a2 })) ∧
    Does (.xcvBusTransaction n 0xA0 o d false) s ((s.muxTo n).bumpC (aXcv n 0x88) 1)) ∧
  (∀ n d s, s.comaUp = true → (s.xc n).present = true → (s.xc n).ddm = true → s.managed n = true → bit (s.rwC (aXcv n 0)) 0 = true →
    (s.xc n).life = none →
    DoesJudged (.xcvDiagPoll n d [0, 0]) s ((s.muxTo n).mapXcv n (fun x =>
      { x with diag := (s.xc n).values d, pollDue := false, a2 := putBytes 112 [0, 0] (putBytes 96 (d.take 10) x.a2) }))) ∧
  (∀ n s, s.comaUp = true → (s.xc n).present = true → (s.xc n).txHold = false → s.managed n = true → (s.xc n).idDone = false →
    Does (.xcvTxfltAssert n) s (((s.mapXcv n (fun x => { x with txflt := true })).bumpC (aXcv n 0x90) 1).latchC (aXcv n 8) 3)) ∧
  (∀ n s, s.comaUp = true → (s.xc n).txHold = true → (s.xc n).txFail = false →
    DoesJudged (.xcvTxdisRetry n false) s ((s.mapXcv n (fun x => { x with txflt := false, txHold := false })).over .coma (52 + n)) ∧
    ((s.xc n).tries < 3 → DoesJudged (.xcvTxdisRetry n true) s (s.mapXcv n (fun x =>
      { x with txHold := true, tries := Nat.min 3 (x.tries + 1) }))) ∧
    (¬ (s.xc n).tries < 3 → DoesJudged (.xcvTxdisRetry n true) s ((s.mapXcv n (fun x => { x with txFail := true })).lasting .coma (52 + n)))) ∧
  (∀ s, s.comaUp = true →
    let u : State := { s with sys := { s.sys with xbus := { s.sys.xbus with clocks := s.sys.xbus.clocks + 9, stops := s.sys.xbus.stops + 1 } } }
    DoesJudged (.xcvBusStuck true) s (u.lasting .coma 51) ∧ DoesJudged (.xcvBusStuck false) s (u.over .coma 51)) ∧
  (∀ n i l s, s.comaUp = true → s.lifeOf n = some (i, l) → l.baseMin < 60 → bits (s.rwC (aXcv n 0xC)) 31 16 = 0 →
    let u := (s.mapLife i (fun k => { k with biasHour := l.biasSum / Nat.max 1 l.biasCnt, biasSum := 0, biasCnt := 0 })).mapXcv n
      (fun x => { x with wearing := false, lifeDue := false })
    Does (.xcvLifeHour n) s (u.writeLife n))

/-! ## Events of the time base and of the Tail link -/

/-- Precision-time timers (R62, R66, R67, R71, R73).
Message layouts are those of IEEE 1588 (log 17); the rounding of means and medians is the model's (log 65, 125). -/
def Obligations.PrecisionTimeEventsComplete : Prop :=
  (∀ d s, s.comaUp = true →
    Does (.ptpReceiptTimeout d true) s (((s.mapDom d (fun x => { x with annOk := false })).bumpC (aDom d 0x54) 1).judge.mapDom d
      (fun x => { x with gm := none, pstate := 0 })) ∧
    DoesJudged (.ptpReceiptTimeout d false) s ((s.mapDom d (fun x => { x with syncOk := false })).bumpC (aDom d 0x50) 1)) ∧
  (∀ d s, s.comaUp = true → domEn (s.domCfg d) = true → domP2p (s.domCfg d) = false → (s.tim.dom d).pstate ≠ 0 →
    let x := s.tim.dom d
    let m := ptpMsg 1 44 (bits (s.domCfg d) 15 8) x.dseq 1 0x7F 0 (s.portId x.parent) (List.replicate 10 0)
    Does (.delayReqSend d) s (((s.mapDom d (fun x => { x with dseq := (x.dseq + 1) % 65536, dreq := some (x.dseq, 0) })).pushKind x.parent
      (bits (s.domPorts d) 18 16) (s.ptpFrame d x.parent false m) (.delayReq d)).bumpC (aDom d 0x48) 1)) ∧
  (∀ p d s, s.comaUp = true → s.pdelayDom p = some d →
    let m := ptpMsg 2 54 (bits (s.domCfg d) 15 8) (s.port p).pdseq 5 0x7F 0 (s.portId p) (List.replicate 20 0)
    Does (.pdelayReqSend p) s (((s.mapPrt p (fun x => { x with pdseq := (x.pdseq + 1) % 65536, pdreq := some (x.pdseq, 0), pdtwo := none })).pushKind
      p (bits (s.domPorts d) 18 16) (s.ptpFrame d p true m) .pdelayReq).bumpC (aDom d 0x4C) 1)) ∧
  (∀ d s, s.comaUp = true → (s.tim.dom d).check = true → (s.tim.dom d).suspect = false → (s.tim.dom d).ref = 1 → (s.tim.dom d.other).healthy = true →
    (s.tim.dom d).refLost = false →
    ((s.tim.dom d).ofs - (s.tim.dom d.other).ofs - (s.tim.dom d).ref0).natAbs ≤ bits (s.rwC 0x04000C) 27 16 →
    DoesJudged (.asymWindowExpiry d) s
      ((s.mapDom d (fun x => { x with base := medianI x.mpds, frozen := false, check := false })).bumpC (aDom d 0x60) 1)) ∧
  (∀ d s, s.comaUp = true → (s.tim.dom d).check = true → (s.tim.dom d).suspect = false → (s.tim.dom d).ref = 0 →
    DoesJudged (.asymWindowExpiry d) s ((((((s.mapDom d (fun x => { x with suspect := true })).timEvt (6 + d.idx)).bumpC
      (aDom d 0x64) 1).evTime 2).mapSrc .coma 57 (fun x => { x with present := true })).faultC 57)) ∧
  (∀ v rest s, s.comaUp = true → s.tim.valid = v :: rest → v.lost = true →
    let u : State := { s with tim := { s.tim with valid := rest } }
    Does .asymValidationComplete s (u.completeOp .coma 0x0903 v.dom.idx eState)) ∧
  (∀ v rest s, s.comaUp = true → s.tim.valid = v :: rest → v.lost = false → v.samples ≠ [] →
    (sortI v.edges).getLast?.getD 0 - (sortI v.edges).head?.getD 0 ≤ 100 →
    let u : State := { s with tim := { s.tim with valid := rest } }
    Does .asymValidationComplete s ((u.enterAsym v.dom (wInt ((sumI v.samples).fdiv v.samples.length))).completeOp .coma 0x0903 v.dom.idx codeOk))

/-- The time base itself (R18, R54, R58, R61, R67-R69, R75, R76, R78).
The tick of a second is a command (log 3). -/
def Obligations.TimeBaseEventsComplete : Prop :=
  (∀ s, s.comaUp = true → s.pwr.phase = 4 →
    ∃ t, exec .acqwaitExpiry s = .next t ∧ t.pwr = { s.pwr with phase := 5 } ∧ t.tim = s.tim) ∧
  (∀ s, s.comaUp = true → s.tim.restep = true →
    let u : State := { s with tim := { s.tim with restep := false } }
    Does .restepTimeout s (u.completeOp .coma 0x0902 0 eState)) ∧
  (∀ t s, s.comaUp = true → bit (s.rwC 0x040024) 0 = false → Does (.ppsInEdge t) s (s.reach t)) ∧
  (∀ t s, s.comaUp = true → bit (s.rwC 0x040024) 0 = true → (s.tim.state = .unset ∨ s.tim.state = .coarse) →
    Does (.ppsInEdge t) s ((s.reach t).bumpC 0x040064 1)) ∧
  (∀ t s, s.comaUp = true → bits (s.rwC 0x040024) 31 8 = 0 → bit (s.rwC 0x040024) 0 = true → s.tim.state = .locked → t % 1000000000 = 0 →
    s.tim.ppsSec + 1 = t / 1000000000 → 2 ≤ s.tim.ppsRun → s.tim.ppsValid = false →
    ∃ u, exec (.ppsInEdge t) s = .next u ∧ u.tim.ppsValid = true ∧ u.tim.ppsOfs = 0 ∧ u.tim.ppsSec = t / 1000000000 ∧
      u.tim.ppsRun = s.tim.ppsRun + 1) ∧
  (∀ s, s.comaUp = true → s.tim.ppsValid = true →
    let lose := fun (x : Domain) => { x with ppsLost := x.ppsLost || x.check }
    let lost : State := { s with tim := { s.tim with
      ppsValid := false, ppsRun := 0, domA := lose s.tim.domA, domB := lose s.tim.domB
      valid := s.tim.valid.map (fun v => { v with lost := true }) } }
    let u := (lost.timEvt 9).evTime 2
    let end_ := fun (x : State) (v : Valid) (rest : List Valid) =>
      State.completeOp .coma 0x0903 v.dom.idx eState { x with tim := { x.tim with valid := rest } }
    (s.tim.valid = [] → Does .ppsInLost s u) ∧
    (∀ v, s.tim.valid = [v] → Does .ppsInLost s (end_ u v [])) ∧
    (∀ v w, s.tim.valid = [v, w] → Does .ppsInLost s (end_ (end_ u v [{ w with lost := true }]) w []))) ∧
  (∀ s, s.comaUp = true → s.afe.autoWait = false →
    let x := s.reach ((s.sec + 1) * 1000000000)
    DoesJudged .timeBaseSecond s (State.pollSecond (State.ppsLevel { x with
      cmd := { x.cmd with discards := 0 }
      tim := { x.tim with ppsOut := x.tim.ppsOut || x.ppsGate }
      prt := x.prt.map (fun p => { p with answers := 0, bers := if x.sec % 60 = 0 then 0 else p.bers })
      egr := { x.egr with streams := x.egr.streams.map (fun y => { y with cmds := 0 }) } }))) ∧
  (∀ s, s.comaUp = true → Does .ppsOutPulseEnd s { s with tim := { s.tim with ppsOut := false, ppsBall := bit (s.rwC 0x04002C) 9 } }) ∧
  (∀ e s, s.comaUp = true →
    let on : State := { s with tim := { s.tim with tref := true, trefErr := e } }
    let off : State := { s with tim := { s.tim with tref := false, trefErr := e } }
    (bit (s.rwC 0x040000) 1 = false → Does (.trefPresenceChange true e) s on ∧ Does (.trefPresenceChange false e) s off) ∧
    (bit (s.rwC 0x040000) 1 = true → s.tim.tref = false →
      Does (.trefPresenceChange true e) s (((on.bumpC 0x04007C 1).evTime 1).over .coma 58)) ∧
    (bit (s.rwC 0x040000) 1 = true → s.tim.tref = true →
      Does (.trefPresenceChange false e) s (((off.bumpC 0x04007C 1).evTime 1).lasting .coma 58))) ∧
  (∀ p s, s.nucUp = true → s.tlkN.up = true →
    let found := (p.reading : Int) - (p.launch + (s.tlkLat .nucleus).toNat)
    let x := s.tlkGood .nucleus .time (beBytes 16 p.launch)
    let u : State := { x with tim := { x.tim with fofs := found, follow := x.followRest }, free := x.free + 1 }
    x.followRest.natAbs ≤ 1024 ∧ (found.natAbs ≤ 1024 → Does (.followerCorrection p) s u) ∧
    (1024 < found.natAbs → Does (.followerCorrection p) s (u.faultN 4))) ∧
  (∀ s, s.comaUp = true → s.tim.leap61 = true → s.tim.leap59 = false →
    ∃ u, exec .leapSecondStart s = .next u ∧ u.tim.utc = s.tim.utc + 1 ∧ u.aon.utcofs = s.tim.utc + 1 ∧ u.tim.leap61 = false ∧
      u.tim.leapUntil = s.tim.leapInst + 86400 ∧ u.tim.leapDir = false) ∧
  (∀ s, s.comaUp = true → s.tim.leap61 = false → s.tim.leap59 = true →
    ∃ u, exec .leapSecondStart s = .next u ∧ u.tim.utc = s.tim.utc - 1 ∧ u.tim.leap59 = false ∧ u.tim.leapDir = true)

/-- The Tail link (R17, R19, R396, R410, R411): a good packet is counted at both ends and its segment joined to those of its class, the frame being
given to the consumer when it ends; a bad one is asked for again, and the second failure of the same packet blames a lane, which the spare
replaces, or, with the spare in use, is retrained; a frame that crosses in its packets arrives whole; a retraining's end counts and a failed one
takes the link down. The lane blamed where none shows an error, the CRC's byte order, a frame's last segment and that the next packet is the replay
are the model's choice (log 42, 92), the measured latency a free value (log 39). -/
def Obligations.TailLinkEventsComplete : Prop :=
  (∀ h cls p lanes s, s.nucUp = true → (s.tlk h).up = true → p.length ≤ 256 →
    DoesJudged (.tailLinkPacketReceive h cls (tlkPacket p) lanes) s (s.tlkGood h cls p)) ∧
  (∀ h (p : List Byte) (s : State), (s.tlk h).rt = none → s.tlkGood h .measure p =
    (s.mapTlk h (TlkEnd.deliver .measure p)).mapTlk (otherHalf h) (fun e => { e with txPkt := (e.txPkt + 1) % 2 ^ 64 })) ∧
  (∀ h (p : List Byte) (s : State), (s.tlk h).rt.isSome = true → p.length < 256 →
    let u := (s.mapTlk h (TlkEnd.deliver .control p)).mapTlk (otherHalf h) (fun e => { e with txPkt := (e.txPkt + 1) % 2 ^ 64 })
    s.tlkGood h .control p = (u.bump h tlkInflight 1).latch h 0x010004 64) ∧
  (∀ cls f (e : TlkEnd), e.part.length = 4 → e.got.length = 4 → nth [] e.part (tlkIdx cls) = [] →
    let x := ((tlkSegments f).map tlkPayload).foldl (fun (x : TlkEnd) p => x.deliver cls p) e
    nth [] x.got (tlkIdx cls) = f ∧ nth [] x.part (tlkIdx cls) = []) ∧
  (∀ h cls bs s, s.nucUp = true → (s.tlk h).up = true → (s.tlk h).replay = false → 4 ≤ bs.length → bs.length ≤ 260 → tlkCrcOk bs = false →
    DoesJudged (.tailLinkPacketReceive h cls bs 0) s
      ((((s.bump h tlkCrcerr 1).mapTlk h (fun e => { e with replay := true })).bump h tlkReplay 1).latch h 0x010004 4)) ∧
  (∀ h cls bs s, s.nucUp = true → (s.tlk h).up = true → (s.tlk h).replay = true → 4 ≤ bs.length → bs.length ≤ 260 → tlkCrcOk bs = false →
    let x := s.bump h tlkCrcerr 1
    let l := (s.worstLane h (s.tlk h).rxLanes).getD ((s.tlk h).rxLanes.headD 0)
    DoesJudged (.tailLinkPacketReceive h cls bs 0) s (((x.bump h tlkRefail 1).latch h 0x010004 8).laneFails h l) ∧
    ∀ k, k < 9 → k ∈ (s.tlk h).rxLanes → DoesJudged (.tailLinkPacketReceive h cls bs (BitVec.ofNat 9 (2 ^ k))) s
      ((((x.bump h (aLane k 4) 1).bump h tlkRefail 1).latch h 0x010004 8).laneFails h k)) ∧
  (∀ h l (s : State), ((s.tlk h).rxSub = none → s.laneFails h l = ((s.spareLane h l).mapTlk h (fun e => { e with rt := some l })).faultC (12 + l)) ∧
    ((s.tlk h).rxSub.isSome = true →
      s.laneFails h l = ((s.mapTlk h (fun e => { e with rt := some l, replay := false })).latch h 0x010004 2).faultC 10)) ∧
  (∀ f : List Byte, (tlkSegments f).flatMap tlkPayload = f ∧ ∀ p ∈ tlkSegments f, p.length ≤ 260 ∧ tlkCrcOk p = true) ∧
  (∀ h l s, s.comaUp = true → (s.tlk h).rt = some l →
    let u := s.mapTlk h (fun e => { e with rt := none })
    DoesJudged (.tailLinkRetrainComplete h true) s
      (if (s.tlk h).rxSub = some l then (u.laneTrained h l).laneTrained h 8 else u.laneTrained h l) ∧
    DoesJudged (.tailLinkRetrainComplete h false) s
      (((((s.mapTlk .coma (fun e => { e with up := false, rt := none, replay := false })).mapTlk .nucleus
        (fun e => { e with up := false, rt := none, replay := false })).latch .coma 0x010004 32).latch .nucleus 0x010004 32).lasting .coma 11))

/-! ## Events of the measuring pipeline -/

/-- Parsing and ingest (R110-R113, R119, R122, R130, R131, R172): a well-formed data frame of a known source goes to its source's parsing, a
sampled-value frame to its own, an item of the ingest queue to stages 4 and 5 and to the close rules of the groups it is written for; an item that is
all old or repeated evaluates none. The resampler and windows are constants of the part (log 10). -/
def Obligations.IngestEventsComplete : Prop :=
  (∀ s c r i, s.nucUp = true → s.ing.cands = c :: r →
    let u := State.unstage c.port c.pri c.len { s with ing := { s.ing with cands := r } }
    let p := c.payload
    bit (s.rwN 0x020000) 0 = true → c.trunc = false → nth 0 p 0 = 0xAA → (nth 0 p 1 = 0x01 ∨ nth 0 p 1 = 0x02) → 16 ≤ p.length →
    fieldAt 2 2 p = p.length → crcCcitt (p.take (p.length - 2)) = fieldAt (p.length - 2) 2 p → u.lookup c (fieldAt 4 2 p) = some i →
    Does .c37FrameParse s (u.parseFrame i c)) ∧
  (∀ s c r, s.nucUp = true → s.ing.cands = c :: r → bit (s.rwN 0x020000) 0 = false →
    Does .c37FrameParse s ((State.unstage c.port c.pri c.len { s with ing := { s.ing with cands := r } }).ingCount 0x020060 3 1)) ∧
  (∀ s c r, s.nucUp = true → s.ing.svs = c :: r →
    Does .svAsduParse s ((State.unstage c.port c.pri c.len { s with ing := { s.ing with svs := r } }).parseSv c)) ∧
  (∀ t s it n, s.nucUp = true →
    let x := (s.reach t).release
    x.ing.q.head = some (.item it n) →
    let u : State := { x with ing := { x.ing with q := x.ing.q.pop } }
    Does (.ingestItemProcess t) s (u.ingestItem it) ∧
    ((∀ b ∈ it.blocks, u.repeated b.src it.key = true ∨ u.isOld b.src it.key b.ent = true) →
      u.ingestItem it = (it.blocks.foldl (fun (x : State) b => x.ingestBlock it b) u).idleCommits)) ∧
  (∀ i key t s, s.nucUp = true →
    let x := (s.reachF t).release
    x.phxOn = true → (x.est i).running = true → srcRate x.srcT i ≠ 0 → (∀ n, (x.est i).done = some n → n < key) → x.estimateDue i key = true →
    ((x.windowInputs i key).any (fun l => l.any Option.isSome) = false → Does (.phxEstimateEpoch i key t) s (x.countGaps i key)) ∧
    (∀ lanes u, x.estimateEpoch i key = (some lanes, u) → (u.repeated i key = false ∨ u.isOld i key (entryWords u.srcT i) = true) →
      Does (.phxEstimateEpoch i key t) s (((u.srcCount i cFrames).stage5 i key (u.estPort i) (entryWords u.srcT i)
        ((u.tim.now : Int) - keyNs (srcRate u.srcT i) key) false lanes).evalGroups (u.itemGroups i key (entryWords u.srcT i)))) ∧
    (∀ lanes u, x.estimateEpoch i key = (some lanes, u) → u.repeated i key = true → u.isOld i key (entryWords u.srcT i) = false →
      Does (.phxEstimateEpoch i key t) s ((u.srcCount i cDup).stageAdd 0x0060 0 5 1)))

/-- Alignment (R130, R134, R147, R148): at a boundary what has expired is released, what waited takes effect, and every group that runs there
opens its conjunction; a tick finalizes what is due; a migration's end leaves one spare tile less. -/
def Obligations.AlignmentEventsComplete : Prop :=
  (∀ t s, s.nucUp = true →
    let x := ((((s.reachF t).release.repairCount t).commitsDue t).latchSettings t)
    let u := ((List.range 8).filter (fun g => x.opensAt g t)).foldl (fun (s : State) g =>
      if ((s.openConj g (keyAt (s.grpRate g) t)).grp g).expect = 0 then (s.openConj g (keyAt (s.grpRate g) t)).evalGroup g
      else s.openConj g (keyAt (s.grpRate g) t)) x
    exec (.epochBoundary t) s = .next (State.settled (State.idleCommits ((List.range 8).foldl (fun s g => s.stopDone g) u)))) ∧
  (∀ t s, s.nucUp = true → exec (.alignTick t) s =
    .next (State.settled (State.idleCommits ((List.range 8).foldl (fun s g => (s.evalGroup g).stopDone g) (s.reachF t).release)))) ∧
  (∀ s, s.nucUp = true → s.aln.repair = true → 2 ≤ s.aln.spares →
    let u : State := { s with aln := { s.aln with repair := false, repLeft := 0, spares := s.aln.spares - 1 } }
    exec .tileMigrationEnd s = .next (State.settled
      (((((u.bumpN 0x030010 1).latchN 0x030008 17).bumpN 0x0B0054 1).latchN 0x0B0008 4).completeOp .nucleus 0x0D04 1 codeOk)))

/-- Islands and the estimators of modes (R188, R196, R199, R203, R208, R217, R227).
Numbers the spec does not state are constants (log 11); what the engines do where R213-R229 leave it open is the model's choice (log 58). -/
def Obligations.AnalysisEventsComplete : Prop :=
  (∀ ns s d r, s.nucUp = true → s.isl.q = d :: r →
    let u : State := { s with isl := { s.isl with q := r } }
    (d.final = true → Does (.islandFinalRun ns) s (u.finalRun d ns)) ∧
    (d.final = false → s.isl.init = false → Does (.islandProvisionalRun ns) s (u.provRun d ns)) ∧
    (d.final = false → s.isl.init = true → Does (.islandProvisionalRun ns) s u)) ∧
  (∀ s r rest, s.nucUp = true → s.isl.rounds = r :: rest → Does .labelRoundTimeout s (State.closeRounds 64 true r.key (s.roundLate r))) ∧
  (∀ (r : Rounds) (s : State), (r.inc = true → s.roundLate r = s) ∧
    (r.inc = false → s.isl.incRun + 1 < bits (s.rwN 0x05002C) 5 0 →
      let u : State := { s with isl := { s.isl with
        rounds := s.isl.rounds.map (fun x => if x.key = r.key then { x with inc := true } else x)
        incomplete := s.isl.incomplete || s.newestRounds r.key, incRun := s.isl.incRun + 1 } }
      s.roundLate r = (u.bumpN 0x05007C 1).latchN 0x05000C 8)) ∧
  (∀ e ns s d r, e < s.lbe.length → s.nucUp = true → (s.lb e).q = d :: r → (s.lb e).running = true → (s.lb e).started = true →
    rateFps (s.lb e).rate ≠ d.rate → (s.lb e).stopping = false →
    Does (.lbeUpdate e ns) s ((s.mapLbe e (fun l => { l with q := r })).lbeCfgstop e)) ∧
  (∀ e ns s d r, s.nucUp = true → (s.lb e).q = d :: r → (s.lb e).running = true → ((s.lb e).started = true → rateFps (s.lb e).rate = d.rate) →
    let T := s.lbeT
    let x0 := s.mapLbe e (fun l => { l with q := r })
    let x := (if (match (s.lb e).prevKey with | some k => decide (d.key ≠ k + 1) || x0.regrouped d k | none => false) then x0.lbeRestart e
      else x0).mapLbe e (fun l => { l with
        started := true, rate := if l.started then l.rate else ((List.range 12).find? (fun c => rateFps c == d.rate)).getD 0
        prevKey := some d.key, lastKey := d.key, defs := lbeDefs T e, lastT := ns, cvgAt := 2 * lbeFwin T e * d.rate })
    let f := x.lbeFilter e d
    let hist := ((f.1.take (lbeM T e)) :: f.2.hist).take ((lbeL T e - 1) * lbeStride T e + 1)
    let z := embed (lbeM T e) (lbeStride T e) (lbeL T e) hist
    let skip := decide (bits (lbeW T e 3) 23 16 * (lbeM T e * lbeL T e) < 256 * (z.filter (fun y => y.2)).length)
    let timed := (((x.mapLbe e (fun _ => { f.2 with hist := hist, skipped := skip })).bumpN (aLbe e 0x48)
      ((f.1.filter (fun y => y.2)).length)).bumpN 0x060040 1).corMax .nucleus (aLbe e 0x34) ns
    let v := if 17000 < ns then timed.faultN 58 else timed
    let u := if skip then v.bumpN (aLbe e 0x44) 1 else v.lbeTracked e f.1 (z.map (fun y => y.1))
    Does (.lbeUpdate e ns) s (if (u.lb e).stopping && (u.lb e).q.isEmpty then u.lbeHalt e else u))

/-! ## Events of the Coma half's blocks -/

/-- The analog front end (R156-R165).
The taps' values and roundings are constants of the part (log 6, 28); a cycle that becomes due while another runs is held back (log 30). -/
def Obligations.FrontEndEventsComplete : Prop :=
  (∀ bs s, s.comaUp = true → (s.chain 12).running = true → bs.length = 2 * presetD s.afePreset → s.inputPath 12 = 12 →
    let u := s.mapChain 12 (fun c => c.output s.afePreset (s.tapsOf (pathChan 12)) bs)
    Does (.cicOutput 12 bs) s (State.modBits 12 bs (u.mapChain 12 (fun c => { c with last := u.waveWord 12 12 })))) ∧
  (∀ p bs s, s.comaUp = true → p < 12 → (s.chain p).running = true → bs.length = 2 * presetD s.afePreset → s.inputPath p = p →
    (s.chan (pathChan p)).running = false →
    let u := s.mapChain p (fun c => c.output s.afePreset (s.tapsOf (pathChan p)) bs)
    Does (.cicOutput p bs) s (State.modBits p bs (u.mapChain p (fun c => { c with last := u.waveWord p p })))) ∧
  (∀ p b (s : State), p < s.afe.chains.length → (s.chain p).level = b → (s.chain p).same + 1 = modStuck →
    State.modBits p [b] s = (s.mapChain p (fun c => { c with level := b, same := modStuck })).lasting .coma (63 + p)) ∧
  (∀ p bs s, s.comaUp = true → p < 4 → p < s.afe.chains.length → (s.chain p).running = true → bs.length = 2 * presetD s.afePreset →
    s.inputPath p = p → s.supplier p = p → (s.chan p).running = true →
    let u := s.mapChain p (fun c => c.output s.afePreset (s.tapsOf p) bs)
    let v := u.mapChain p (fun c => { c with last := u.waveWord p p })
    let n := (v.chain p).index s.afePreset
    let x : Wave := { tick := n * (9600 / presetRate s.afePreset), per := 9600 / presetRate s.afePreset, word := v.waveWord p p }
    let y := v.mapChan p (fun k => { k with wave := insertBy Wave.tick x (k.wave.filter (fun y => decide (x.tick < y.tick + 600))) })
    Does (.cicOutput p bs) s (State.modBits p bs
      (State.pushSamp 0xFD00 p { idx := n, arr := s.tim.now, v := waveVal x.word, u := waveU x.word, q := waveOvr x.word }
        (if waveOvr x.word then (y.bumpC (aAfeC p 0x28) 1).putCor .coma (aAfeC p 0) 8 else y)))) ∧
  (∀ t src s, s.comaUp = true → s.afe.sync = some src → syncG s.afePreset t = some s.syncDue →
    let x := s.reach t
    Does (.afeSyncApply t) s (State.bumpC 0x068018 1 { x with afe := { x.afe with
      chains := x.afe.chains.map (fun (c : Chain) => if c.running then c.restart s.afePreset s.syncDue else c)
      sync := none, synced := true, lastSync := t, lastSyncSrc := src } })) ∧
  (∀ t ns s, s.comaUp = true → bit (s.rwC 0x060000) 6 = true → 100 ≤ ns → ns < 10000000 → s.afe.syncEdge = none → s.afe.rover = none →
    s.afe.sync = none →
    let x := (s.reach t).over .coma 60
    Does (.syncNFall t ns) s { x with afe := { x.afe with syncLow := false, syncEdge := some t, sync := some 0, syncAt := x.tim.now } }) ∧
  (∀ t ns s, s.comaUp = true → bit (s.rwC 0x060000) 6 = true → ns < 100 →
    let x := (s.reach t).over .coma 60
    Does (.syncNFall t ns) s (State.bumpC 0x06801C 1 { x with afe := { x.afe with syncLow := false } })) ∧
  (∀ s, s.comaUp = true → s.afe.syncLow = true →
    Does .syncNStuck s ((State.latchC 0x060008 8 { s with afe := { s.afe with syncLow := false } }).lasting .coma 60)) ∧
  (∀ s, s.comaUp = true →
    (s.lastCycle ≤ s.afe.cycDone → Does .nominalCycleEnd s s) ∧
    (s.afe.cycDone < s.lastCycle → (s.chan 0).running = false → s.afe.neutAlarm = false → s.nucUp = false →
      ∃ t, exec .nominalCycleEnd s = .next t ∧ t.afe.neutAlarm = false ∧ t.afe.neutRun = 0 ∧ t.afe.cycDone = s.lastCycle ∧
        t.afe.chans = s.afe.chans.map (fun c => { c with
          lastCyc := c.between ((s.lastCycle - 1) * (9600 / s.afeHz)) (s.lastCycle * (9600 / s.afeHz)) }))) ∧
  (∀ s, s.comaUp = true → bit (s.rwC 0x060000) 4 = true →
    (∀ p, s.afe.rover = none → State.bgPick 13 s.afe.bgNext s = some p →
      Does .afeBgcalTimer s (State.roverStart p false { s with afe := { s.afe with bgNext := (p + 1) % 13 } })) ∧
    (s.afe.rover.isSome = true → Does .afeBgcalTimer s { s with afe := { s.afe with bgDue := s.afe.bgDue + 1 } })) ∧
  (∀ r s, s.comaUp = true → s.afe.rover = some r → r.path < 12 → r.step = 4 → presetUnsettled s.afePreset + 256 ≤ (s.chain r.path).outs →
    Does .roverStepAdvance s ((s.putRover { r with step := 6, ofs := meanVolts r.path (s.chain r.path).sum256 }).restartChain r.path))

/-- Metering and the pulse outputs (R284-R286, R292, R294-R297, R338).
What a missing cycle adds is the model's choice where R286 leaves it (log 87). -/
def Obligations.MeteringEventsComplete : Prop :=
  (∀ m s, s.comaUp = true → s.nrgLive m = true → nrgFeed (s.nrgCfg m) = 1 →
    let hz := s.nrgHz m
    let a := (s.point m).cycAt
    let b := cycNs hz (cycIdx hz a + 1)
    s.waveReady b = true →
    let w := s.waveCycle m hz a b
    Does (.nrgCycleEnd m) s (((s.mapPoint m (Point.count 1 w.2.2.2)).addCycle m hz b (if w.2.2.1 then 0 else w.1.1)
      (if w.2.2.1 then 0 else w.1.2) w.2.1 w.2.2.1).snapCycle m)) ∧
  (∀ m s, s.comaUp = true → s.nrgLive m = true → 2 ≤ nrgFeed (s.nrgCfg m) →
    let hz := s.nrgHz m
    let a := (s.point m).cycAt
    let b := cycNs hz (cycIdx hz a + 1)
    let rate := s.grpRate (bits (s.nrgCfg m) 5 3)
    (s.phasorReady m a b = true → Does (.nrgPhasorCycleComplete m) s (s.addPhasor m hz a b)) ∧
    (b ≤ s.tim.now → s.nucUp = false → (s.point m).parts = [] →
      Does (.nrgPhasorCycleComplete m) s (((s.addCycle m hz b 0 0 true true).mapPoint m (fun x => { x with
        parts := x.parts.filter (fun e => decide (b < keyNs rate (e.1 + 1))) })).snapCycle m))) ∧
  (∀ s, s.comaUp = true → bits (s.rwC 0x070000) 5 0 ≠ 0 → s.pwr.grave = false → bit (s.rwC 0x070000) 6 = false →
    let t := s.demandEnd
    let x := s.reach t
    let ns := t - (if s.nrg.lastDemand = 0 then x.demandStart t else s.nrg.lastDemand)
    let u := (x.nrg.points.filter Point.on).foldl (fun s y => s.demandPoint ns y.id) x
    Does .demandIntervalEnd s { u with nrg := { u.nrg with lastDemand := t } }) ∧
  (∀ p d r s, s.comaUp = true → s.pwr.grave = false → (s.pulSt p).due = d :: r →
    let u := (s.reach d).mapPul p (fun x => { x with due := r })
    ((s.pulSt p).inPulse = false → (s.pulSt p).inGap = false → Does (.pulseDue p) s (u.pulStart p)) ∧
    ((s.pulSt p).inPulse = true → (s.pulSt p).pend < 65535 → Does (.pulseDue p) s (u.mapPul p (fun x => { x with pend := x.pend + 1 }))) ∧
    ((s.pulSt p).inPulse = true → ¬ (s.pulSt p).pend < 65535 → Does (.pulseDue p) s (u.bumpC (aPul p 0x2C) 1))) ∧
  (∀ p s, s.comaUp = true → (s.pulSt p).inPulse = true →
    let x := s.reach (s.pulSt p).widthEnd
    ((s.pulSt p).widthEnd < (s.pulSt p).gapEnd → Does (.pulseWidthEnd p) s (x.mapPul p (fun y =>
      { y with inPulse := false, inGap := true, ball := pulLevel (s.pulCfg p) false }))) ∧
    ((s.pulSt p).gapEnd ≤ (s.pulSt p).widthEnd → Does (.pulseWidthEnd p) s ((x.mapPul p (fun y =>
      { y with inPulse := false, inGap := false, ball := pulLevel (s.pulCfg p) false })).pulNext p))) ∧
  (∀ p s, s.comaUp = true → (s.pulSt p).inGap = true →
    Does (.pulseGapEnd p) s (((s.reach (s.pulSt p).gapEnd).mapPul p (fun x => { x with inGap := false })).pulNext p)) ∧
  (∀ p s, s.comaUp = true →
    Does (.pulPinSample p (s.pulSt p).ball) s (s.mapPul p (fun x => { x with readback := (s.pulSt p).ball, misses := 0 })) ∧
    (p < 4 → (s.pulSt p).misses = 1 → Does (.pulPinSample p (!(s.pulSt p).ball)) s
      ((s.mapPul p (fun x => { x with readback := !(s.pulSt p).ball, misses := Nat.min 2 (x.misses + 1) })).faultC (77 + p))))

/-- The orrery (R265, R268-R270, R274, R275).
The zeros of a first TIMECHK are the model's choice (log 35); that a root sends no MODES upward is its reading (log 60). -/
def Obligations.OrreryEventsComplete : Prop :=
  (∀ m rest s, s.nucUp = true → s.ory.rx = m :: rest →
    let u := State.unstage m.port m.pri m.len { s with ory := { s.ory with rx := rest } }
    (replayStep (ndSrc m.bytes) (fieldAt 12 4 m.bytes) (fieldAt 16 4 m.bytes) (findBy Replay.origin (ndSrc m.bytes) s.ory.replay) = none →
      DoesJudged .oryMessageReceive s (u.bumpN 0x080044 1)) ∧
    (∀ r, replayStep (ndSrc m.bytes) (fieldAt 12 4 m.bytes) (fieldAt 16 4 m.bytes) (findBy Replay.origin (ndSrc m.bytes) s.ory.replay) = some r →
      DoesJudged .oryMessageReceive s (State.oryByType m { u with ory := { u.ory with replay := insertBy Replay.origin r u.ory.replay } }))) ∧
  (∀ s, s.nucUp = true →
    let period := fun (x : State) k => x.mapNb k (fun n => { n with heard := false, missed := if n.heard then 0 else Nat.min 255 (n.missed + 1) })
    (s.ory.beating = true → Does .oryHeartbeatSend s ((s.nbsWhere (fun _ => true)).foldl (fun (x : State) k =>
      (period x k).originate k (nbId (x.nbCfg k)) 1 0 s.heartbeatPayload) s)) ∧
    (s.ory.beating = false → Does .oryHeartbeatSend s ((s.nbsWhere (fun _ => true)).foldl period s))) ∧
  (∀ k s, s.nucUp = true →
    let miss := bits (s.rwN 0x080014) 11 8
    let u := (s.mapNb k (fun n => { n with up := false, bitmap := [], tchk := none })).latchN 0x080008 3
    let v : State := { u with isl := { u.isl with learnt := u.isl.learnt.filter (fun e => e.1 != k) } }
    ((s.nb k).missed < miss → DoesJudged (.oryNeighbourTimeout k) s s) ∧
    (miss ≤ (s.nb k).missed → (s.nb k).up = true → (nbRole (s.nbCfg k) ≠ 1 ∨ s.ory.joined = false) →
      DoesJudged (.oryNeighbourTimeout k) s v) ∧
    (miss ≤ (s.nb k).missed → (s.nb k).up = true → nbRole (s.nbCfg k) = 1 → s.ory.joined = true → DoesJudged (.oryNeighbourTimeout k) s
      (State.occur .nucleus 61 true false (State.latchN 0x080008 4 { v with ory := { v.ory with orphan := true } })).1)) ∧
  (∀ s, s.nucUp = true → s.ory.pendJoin = true →
    let u : State := { s with ory := { s.ory with pendJoin := false, joined := false, beating := false } }
    Does .oryJoinTimeout s (u.completeOp .nucleus 0x0E00 0 eState)) ∧
  (∀ s, s.nucUp = true → s.ory.joined = true → bit (s.rwN 0x08001C) 6 = true → s.ory.root = true →
    Does .oryModesSend s s) ∧
  (∀ s k, s.nucUp = true → s.ory.joined = true → bit (s.rwN 0x08001C) 6 = true → bit (s.rwN 0x08001C) 7 = false → s.parentNb = some k →
    (∀ e j, (nth Mode.free (s.lb e).modes j).held = false) →
    Does .oryModesSend s (s.toParent 6 0 (beBytes 8 (maxN 0 (s.lbe.map (fun l => l.lastKey)) % 2 ^ 56) ++ beBytes 2 0))) ∧
  (∀ s, s.nucUp = true → s.ory.joined = true → bit (s.rwN 0x080000) 1 = true →
    Does .oryTimechkSend s ((s.nbsWhere (fun k => (s.nb k).up)).foldl (fun (x : State) k =>
      x.originate k (nbId (x.nbCfg k)) 7 0 (List.replicate 10 0 ++ (match (x.nb k).tchk with
        | some (e, i) => taiBytes e ++ taiBytes i
        | none => List.replicate 20 0))) s)) ∧
  (∀ s, s.nucUp = true →
    Does .oryTagfailReport s { s.bumpN 0x080040 s.ory.tagFails with ory := { s.ory with tagFails := 0 } }) ∧
  (∀ s, s.nucUp = true → s.ory.pendLeave = true →
    let u : State := { s with ory := { s.ory with pendLeave := false, joined := false, root := false, orphan := false, depth := 0 } }
    Does .oryLeaveComplete s ((u.clearRoutes.latchN 0x080008 1).completeOp .nucleus 0x0E01 0 codeOk))

/-- GOOSE repeats and the sampled pins (R243, R244, R247, R338). -/
def Obligations.OutputEventsComplete : Prop :=
  (∀ c s, s.nucUp = true → s.gooseEn c = true → 0 < (s.gse c).st →
    Does (.gooseRepeat c) s ((s.mapGse c (fun g => { g with sq := nextSq g.sq, repeatI := g.repeatI + 1 })).sendGoose c)) ∧
  (∀ p s, s.nucUp = true → (s.pin p).width = true →
    Does (.almPinMinpwEnd p) s ((s.mapPin p (fun x => { x with width := false })).drivePin p)) ∧
  (∀ p s, s.comaUp = true →
    DoesJudged (.almPinSample p (s.pinBall p)) s (s.mapPin p (fun x => { x with readback := s.pinBall p, misses := 0 })) ∧
    ((s.pin p).misses = 1 → DoesJudged (.almPinSample p (!s.pinBall p)) s ((((s.mapPin p (fun x =>
      { x with readback := !s.pinBall p, misses := Nat.min 2 (x.misses + 1) })).bumpN (aPin p 0x18) 1).latchN 0x070008 4).faultC 76))) ∧
  (∀ s, s.comaUp = true →
    Does (.errnPinSample s.errn) s (State.over .coma 87 { s with flt := { s.flt with errnMiss := 0, errnLevel := s.errn } }) ∧
    (s.flt.errnMiss = 1 → Does (.errnPinSample (!s.errn)) s
      (State.lasting .coma 87 { s with flt := { s.flt with errnMiss := 2, errnLevel := !s.errn } })))

/-- Keys (R326, R327, R338).
The masks are free draws (log 8). -/
def Obligations.KeyEventsComplete : Prop :=
  (∀ k s, (s.slot k).window = true →
    exec (.keyHoldExpiry k) s = .next (State.settled ((s.mapSlot k (fun x => { x with window := false })).dropAllHeads))) ∧
  (∀ s, s.pwr.mode ≠ .off →
    ∃ t, exec (.keyRemask true) s = .next t ∧ t.keys.remaskOk = true ∧ t.free = s.free + 64 ∧ t.keys.slots.length = s.keys.slots.length ∧
      (s.keys.slots.length = 64 → ∀ k, k < 64 → (t.slot k).key = (s.slot k).key ∧ (t.slot k).mask = Config.random (s.free + k) ∧
        (t.slot k).st = (s.slot k).st)) ∧
  (∀ s, s.pwr.mode ≠ .off → s.comaUp = true → exec (.keyRemask false) s =
    .next (State.settled ((State.latchC 0x058008 4 { s with keys := { s.keys with remaskOk := false } }).faultC 83))) ∧
  (∀ s, s.comaUp = true →
    exec (.keyHmacSelftest true) s = .next s.settled ∧ exec (.keyHmacSelftest false) s = .next (State.settled (s.faultC 84)))

/-- The always-on domain (R301, R304, R305, R309, R311-R316).
The start of the mesh sequence is the model's (log 80). -/
def Obligations.AlwaysOnEventsComplete : Prop :=
  (∀ s, s.pwr.mode ≠ .off → s.aon.stopped = false → s.aon.atEnd = false → s.tim.calSet = false →
    let u : State := { s with aon := { s.aon with
      prescAt := some s.tim.now, batAge := s.aon.batAge + 1
      batUse := s.aon.batUse + (if s.pwr.mode = .backup then bits (s.rwC 0x05002C) 31 16 else 0) } }
    (u.cellWorn && !u.aon.batDue) = false → Does .calendarSecond s { u with aon := u.aon.tick }) ∧
  (∀ s, s.comaUp = true → s.calFollows = true → s.pwr.lockout = false → s.aon.stopped = false →
    let set := fun (s : State) =>
      let u := s.soc s.sec
      let c := civil (u / 86400)
      s.aon.write s.tim.now c.1 c.2.1 c.2.2 (u % 86400 / 3600) (u % 3600 / 60) (u % 60)
    let x := s.reach ((s.sec + 1) * 1000000000)
    (s.nsec = 0 → s.tim.utcAt ≠ some s.tim.now → (set s).dateOk = true →
      Does .calendarSyncWrite s { s with aon := { set s with synced := true } }) ∧
    (s.tim.utcAt = some s.tim.now → (set x).dateOk = true → Does .calendarSyncWrite s { x with aon := { set x with synced := true } })) ∧
  (∀ s, s.pwr.main = true → s.comaUp = false →
    Does .operatingMinute s (State.lifeMinutes { s with aon := { s.aon with opMin := sat 32 (s.aon.opMin + 1) } })) ∧
  (∀ s, s.pwr.main = true → ∃ t, exec .operatingMinute s = .next t ∧ t.aon.opMin = sat 32 (s.aon.opMin + 1)) ∧
  (∀ mv s, s.pwr.main = true → ∃ t, exec (.vbatMeasure mv) s = .next t ∧ t.aon.vbatMv = mv) ∧
  (∀ s, s.pwr.main = true →
    Does .backupCellRemoved s (State.latchC 0x050008 4 { s with aon := { s.aon with batPresent := false }, pwr := { s.pwr with vbat := false } })) ∧
  (∀ mv s, s.pwr.main = true →
    ∃ t, exec (.backupCellInserted mv) s = .next t ∧ t.aon.batPresent = true ∧ t.aon.batUse = 0 ∧ t.aon.batAge = 0 ∧ t.aon.vbatMv = mv ∧
      t.pwr.vbat = true) ∧
  (∀ s, s.pwr.mode ≠ .off →
    (bit (s.rwC 0x050000) 2 = true → s.aon.t0 = false →
      Does (.tamperInputQualify 0) s (State.tamperEvent 0 { s with aon := { s.aon with t0 := true } })) ∧
    (bit (s.rwC 0x050000) 3 = true → s.aon.t1 = false →
      Does (.tamperInputQualify 1) s (State.tamperEvent 1 { s with aon := { s.aon with t1 := true } }))) ∧
  (∀ s, Does (.tamperInputRelease 0) s { s with aon := { s.aon with t0 := false } } ∧
    Does (.tamperInputRelease 1) s { s with aon := { s.aon with t1 := false } }) ∧
  (∀ b s, s.pwr.mode ≠ .off → bit (s.rwC 0x050000) 1 = true → b = s.aon.lfsr.getLsbD 14 → s.aon.mesh = false →
    Does (.meshSample b) s { s with aon := { s.aon with
      lfsr := lfsrNext s.aon.lfsr, meshMiss := 0, meshMatch := Nat.min 16 (s.aon.meshMatch + 1) } }) ∧
  (∀ b s, s.pwr.mode ≠ .off → bit (s.rwC 0x050000) 1 = true → b ≠ s.aon.lfsr.getLsbD 14 → s.aon.mesh = false → 1 ≤ s.aon.meshMiss →
    Does (.meshSample b) s (State.tamperEvent 2 { s with aon := { s.aon with
      lfsr := lfsrNext s.aon.lfsr, meshMiss := 2, meshMatch := 0, mesh := true } })) ∧
  (∀ s, Does .retentionRailLow s { s with aon := { s.aon with retLatch := true } })

/-! ## Supplies, reset and start-up -/

/-- Supply and reset events (R28, R300, R308-R310, R344, R345, R348, R389, R423).
The power state's name before P3 is the model's choice (log 15). -/
def Obligations.SupplyEventsComplete : Prop :=
  (∀ s, s.pwr.main = true →
    Does .vddioBelow1v66 s { s.assertReset with pwr := { s.assertReset.pwr with lockout := true, vddioLow := true, timer := false } }) ∧
  (∀ s, s.pwr.main = true →
    ∃ t, exec .vddioBelow1v60 s = .next t ∧ t.pwr.main = false ∧ t.pwr.onVbat = true ∧ t.pwr.mode = (if s.pwr.vbat then .backup else .off) ∧
      t.pwr.inReset = true ∧ t.pwr.lockout = true ∧ t.pwr.tap = .idcode ∧ t.keys = s.keys ∧ t.rcd.log = s.rcd.log ∧ t.aon.retLatch = (s.aon.retLatch || !s.pwr.vbat)) ∧
  (∀ s, s.pwr.vddioLow = true → Does .vddioAbove1v70 s { s with pwr := { s.pwr with timer := true } }) ∧
  (∀ s, s.pwr.timer = true → s.aon.retLatch = false → Does .vddioReturnTimer s { s with
      pwr := { s.pwr with timer := false, vddioLow := false, main := true, onVbat := false, mode := .standby, phase := 0 }
      aon := { s.aon with pwrCyc := sat 24 (s.aon.pwrCyc + 1) } }) ∧
  (∀ s, s.pwr.timer = true → s.aon.retLatch = true →
    ∃ t, exec .vddioReturnTimer s = .next t ∧ t.pwr.main = true ∧ t.aon.retLatch = false ∧ t.aon.opMin = s.aon.opMin ∧
      ∀ k, (t.slot k).st = 0) ∧
  (∀ s, ∃ t, exec .vddioBelow1v0 s = .next t ∧ t.pwr.main = false ∧ t.pwr.grave = false ∧ t.pwr.nrst = false ∧ t.keys = s.keys) ∧
  (∀ s, s.pwr.mode = .off →
    ∃ t, exec .vbatRise s = .next t ∧ t.pwr.vbat = true ∧ t.pwr.mode = .backup ∧ t.aon.calValid = false ∧ t.aon.calPend = true ∧
      t.aon.dateWord = 0x07D00101 ∧ t.aon.timeWord = 0 ∧ (t.evt .coma 0x050008).getLsbD 8 = true ∧ ∀ k, (t.slot k).st = 0) ∧
  (∀ s, s.pwr.mode ≠ .off → Does .vbatRise s { s with pwr := { s.pwr with vbat := true } }) ∧
  (∀ s, s.pwr.mode = .backup → Does .vbatLow s
    { s with pwr := { s.pwr with vbat := false, mode := .off }, aon := { s.aon with retLatch := true } }) ∧
  (∀ r s, s.pwr.main = true →
    ∃ t, exec (.railBelowReset r) s = .next t ∧ t.pwr.inReset = true ∧ r ∈ t.pwr.low ∧ t.keys = s.keys ∧ t.cmd = Cmd.reset) ∧
  (∀ r s, Does (.railGood r) s { s with pwr := { s.pwr with low := s.pwr.low.filter (fun x => x != r) } }) ∧
  (∀ ns s, 1000 ≤ ns → s.pwr.main = true →
    Does (.rstNLow ns) s { s.assertReset with pwr := { s.assertReset.pwr with rstN := false } }) ∧
  (∀ ns s, ns < 1000 → Does (.rstNLow ns) s s) ∧
  (∀ s, Does .rstNRise s { s with pwr := { s.pwr with rstN := true, tap := if s.pwr.tap.drives then .idcode else s.pwr.tap } }) ∧
  (∀ s, s.pwr.resetDue = true → s.pwr.grave = false → Does .chipResetAssert s s.assertReset) ∧
  (∀ st s, s.mayRelease = true → st.toNat % 4 ≠ 3 → s.aon.calPend = false → s.aon.tampPend = false → s.aon.retPend = false →
    s.aon.batPend = false →
    Does (.chipResetRelease st) s { s with
      pwr := { s.pwr with inReset := false, phase := 1, lockout := false, straps := st, stopped := false, fail := 0 }
      flt := { s.flt with errnSw := false } })

/-- The phases of start-up and the power transitions (R28, R30, R386-R391, R397): images are read from the slots of the flash, a region this run
wrote or read keeping what it holds, the operand standing for one it does not know (log 167). The slots and codes after an HSP boot are the model's
reading (log 53). -/
def Obligations.StartupEventsComplete : Prop :=
  (∀ cores fl s, s.comaUp = true → s.pwr.phase = 1 → s.pwr.stopped = false →
    let u := State.timeFromCalendar (State.scanFlash fl { s with
      core := { s.core with coma := coreAssign 2 true ((List.range 3).map (fun i => nth false cores i)) } })
    (s.pwr.straps.toNat % 4 ≠ 2 → flashUsable fl = true → (flashNewest fl).isSome = true →
      Does (.startupP1Complete cores fl) s { u with pwr := { u.pwr with phase := 2 } }) ∧
    (s.pwr.straps.toNat % 4 = 0 → flashUsable fl = false → Does (.startupP1Complete cores fl) s { u with
      pwr := { u.pwr with phase := 2, stopped := true, fail := 2 }, flt := { u.flt with errnSw := true } })) ∧
  (∀ cores fl s, s.comaUp = true → s.pwr.phase = 1 → s.pwr.stopped = false → s.pwr.straps.toNat % 4 = 2 →
    ∃ t, exec (.startupP1Complete cores fl) s = .next t ∧ t.pwr = { s.pwr with phase := 2, rom := true }) ∧
  (∀ a o d s, s.comaUp = true → s.upd.dir = some d → s.pwr.phase = 2 → s.pwr.rom = false → s.pwr.stopped = false → s.pwr.fw = false →
    let x := (s.readRegion (slotAt .coma d.comaB) a).readRegion (slotAt .coma (!d.comaB)) o
    let runs := fun (b : Bool) (fail : Nat) =>
      (State.setVer .coma (if b then d.verCB else d.verCA) { x with pwr := { x.pwr with cslot := b, nslot := d.nucB, fail := fail } }).fwStart
    (x.slotOk .coma d.comaB = true → Does (.startupP2Complete a o) s (runs d.comaB 0)) ∧
    (x.slotOk .coma d.comaB = false → x.slotOk .coma (!d.comaB) = true → Does (.startupP2Complete a o) s (runs (!d.comaB) 4)) ∧
    (x.slotOk .coma d.comaB = false → x.slotOk .coma (!d.comaB) = false → s.pwr.straps.toNat % 4 = 0 →
      Does (.startupP2Complete a o) s { x with
        pwr := { x.pwr with phase := 2, stopped := true, fail := 4 }, flt := { x.flt with errnSw := true } })) ∧
  (∀ h b bs (s : State), (s.region (slotAt h b) = none → (s.readRegion (slotAt h b) bs).slotOk h b = imageOk s.keys.vendor h (imageIn bs)) ∧
    (∀ old, s.region (slotAt h b) = some old → (s.readRegion (slotAt h b) bs).slotOk h b = imageOk s.keys.vendor h (imageIn old))) ∧
  (∀ n s, s.comaUp = true → s.pwr.phase = 3 → s.pwr.fw = true → s.pwr.grave = false → s.pwr.held = false → s.nucFailure n = 0 →
    s.pwr.fail ≠ 5 → s.pwr.fail ≠ 7 → s.pwr.hspBoot = true → s.tim.stepped = false →
    let u := s.nucleusUp n
    DoesJudged (.startupP3Complete n) s (State.drivePins (State.latchC 0x000030 0 { u with pwr := { u.pwr with phase := 4 } }))) ∧
  (∀ n d s, s.comaUp = true → s.pwr.phase = 3 → s.pwr.fw = true → s.pwr.grave = false → s.pwr.held = false → s.pwr.fail ≠ 5 → s.pwr.fail ≠ 7 →
    s.pwr.hspBoot = false → s.upd.dir = some d →
    let x := s.readNucleus n
    let u := if d.tsetValid && d.autoload then ((x.nucleusUp n).readRegion tsetAt n.tset).loadTset d.tsetLen else x.nucleusUp n
    x.nucFailure n = 0 → u.tim.stepped = false →
    DoesJudged (.startupP3Complete n) s (State.drivePins (State.latchC 0x000030 0 { u with pwr := { u.pwr with phase := 4 } }))) ∧
  (∀ n s, s.comaUp = true → s.pwr.phase = 3 → s.pwr.fw = true → s.pwr.grave = false → s.pwr.held = false → s.pwr.fail ≠ 5 → s.pwr.fail ≠ 7 →
    let x := s.readNucleus n
    let stays := fun (k : Nat) => ({ x with pwr := { x.pwr with nrst := true, fail := k, held := decide (k = 6) } } : State)
    (x.nucFailure n = 5 → DoesJudged (.startupP3Complete n) s ((stays 5).lasting .coma 11)) ∧
    (x.nucFailure n = 6 → DoesJudged (.startupP3Complete n) s (stays 6)) ∧
    (x.nucFailure n = 7 → DoesJudged (.startupP3Complete n) s (stays 7))) ∧
  (∀ s, s.comaUp = true → s.pwr.grave = false → s.pwr.trans = .toStandby →
    DoesJudged .powerTransitionComplete s (State.latchC 0x000030 0 { s with
      pwr := { s.pwr with mode := .standby, trans := if s.pwr.backToService then .toService else .none, backToService := false }
      tlkC := { s.tlkC with up := false, rt := none, replay := false }, tlkN := { s.tlkN with up := false, rt := none, replay := false } })) ∧
  (∀ n s, s.comaUp = true → s.pwr.nrst = true → s.pwr.grave = false → s.pwr.held = false → 4 ≤ s.pwr.phase →
    let x := s.readNucleus n
    let u := x.nucleusBack n
    (x.nucFailure n = 0 →
      DoesJudged (.halfResetComplete n) s ((((u.bumpN 0x0B0058 1).bumpN 0x0B0054 1).latchN 0x0B0008 4).completeOp .coma 0x0D04 4 codeOk) ∧
        u.pwr.mode = s.pwr.mode ∧ u.pwr.trans = s.pwr.trans) ∧
    (x.nucFailure n = 6 → DoesJudged (.halfResetComplete n) s
      (State.completeOp .coma 0x0D04 4 eState { x with pwr := { x.pwr with nrst := true, fail := 6, held := true } })))

/-! ## Faults -/

/-- A fault source (R147, R149, R151, R339-R342, R346): an occurrence of a free source enters handling and takes its reactions; one of a source in handling is noted
as missed; one in a suppression window is counted; the end of a present condition leaves handling as it is. A corrected error is counted and
occurs beyond its threshold; an uncorrectable word of a lane store reads without its valid bit. Held blocks and windows end by their events.
What the occurrence says of its condition is the model's operand (log 13). -/
def Obligations.FaultEventsComplete : Prop :=
  (∀ h n s, s.halfUp h = true → n < fltCount h → (h, n) ≠ (.nucleus, 21) → s.suppressed h n = false → (s.src h n).handling = false → bit (s.reacts h n true) 2 = false →
    (bit (s.reacts h n true) 3 = false ∨ h = .coma ∨ s.tlkN.up = true) →
    let u := s.enterHandling h n true false
    DoesJudged (.faultOccurrence h n .moment) s (if u.halfUp h then u.srcEffect h n else u)) ∧
  (∀ h n s, s.halfUp h = true → n < fltCount h → (h, n) ≠ (.nucleus, 21) → s.suppressed h n = false → (s.src h n).handling = true →
    DoesJudged (.faultOccurrence h n .moment) s
      (((s.mapSrc h n (fun x => { x with missed := true })).latch h (aFltR h 8) 2).srcEffect h n)) ∧
  (∀ h n s, s.halfUp h = true → n < fltCount h → (h, n) ≠ (.nucleus, 21) → s.suppressed h n = true →
    DoesJudged (.faultOccurrence h n .moment) s
      (((s.mapSrc h n (fun x => { x with supp := sat 16 (x.supp + 1) })).bump h (aFltR h 0x44) 1).latch h (aFltR h 8) 4)) ∧
  (∀ h n s, s.halfUp h = true → n < fltCount h → (h, n) ≠ (.nucleus, 21) → s.suppressed h n = true →
    DoesJudged (.faultOccurrence h n .stays) s
      ((((s.mapSrc h n (fun x => { x with present := true })).mapSrc h n (fun x => { x with supp := sat 16 (x.supp + 1) })).bump h
        (aFltR h 0x44) 1).latch h (aFltR h 8) 4)) ∧
  (∀ s, s.halfUp .nucleus = true →
    let u := (s.bumpN 0x030018 1).stageAdd 0x0060 0 15 1
    (bit (s.rwN 0x030000) 0 = false → DoesJudged (.faultOccurrence .nucleus 21 .moment) s u) ∧
    (bit (s.rwN 0x030000) 0 = true → DoesJudged (.faultOccurrence .nucleus 21 .moment) s (u.fault .nucleus 21)) ∧
    (∀ n, n ≤ 64 → DoesJudged (.faultOccurrence .nucleus 7 (.corrected n)) s (s.bumpN 0x000080 1)) ∧
    (∀ n, 64 < n → DoesJudged (.faultOccurrence .nucleus 7 (.corrected n)) s ((s.bumpN 0x000080 1).fault .nucleus 7)) ∧
    (∀ n, bits (s.rwN 0x030020) 15 0 = 0 → DoesJudged (.faultOccurrence .nucleus 21 (.corrected n)) s (s.bumpN 0x030014 1)) ∧
    (∀ id key ch, s.aln.repair = true → bit (s.rwN 0x030000) 0 = false →
      let lost := State.mapSrcSt id (fun x => { x with slots := x.slots.map (fun t => if t.key = key then
        { t with lanes := at' t.lanes ch (fun l => (l.1, l.2 &&& ~~~flagV)) } else t) }) { s with free := s.free + 1 }
      DoesJudged (.faultOccurrence .nucleus 21 (.uncorrectable id key ch)) s ((lost.bumpN 0x030018 1).stageAdd 0x0060 0 15 1))) ∧
  (∀ h n s, n < fltCount h → DoesJudged (.faultOccurrence h n .ends) s (s.mapSrc h n (fun x => { x with present := false }))) ∧
  (∀ d s, s.comaUp = true → d ∈ s.flt.held → (∀ h n, d ≠ .core h n) → s.cmd.waiting = [] →
    DoesJudged (.blockResetComplete d) s { s with flt := { s.flt with held := s.flt.held.filter (fun x => x != d) } }) ∧
  (∀ d s, Does (.fltSuppressionWindowEnd d) s { s with flt := { s.flt with windows := s.flt.windows.filter (fun x => x != d) } }) ∧
  (∀ s, Does .errnPulseEnd s { s with flt := { s.flt with pulse := false } })

/-- Watchdogs and monitors (R367, R368, R380, R409). -/
def Obligations.MonitorEventsComplete : Prop :=
  (∀ n s, s.comaUp = true → nth .retired s.core.coma n = .active → Does (.coreItemWatchdog .coma n) s (s.faultC (37 + n))) ∧
  (∀ n s, s.nucUp = true → nth .retired s.core.nuc n = .active → Does (.coreItemWatchdog .nucleus n) s (s.faultN (12 + n))) ∧
  (∀ s, s.comaUp = true →
    Does (.scrubPassDeadline .coma) s (State.faultC 34 { s with sys := { s.sys with scrubC := { s.sys.scrubC with mins := 0 } } })) ∧
  (∀ s, s.nucUp = true →
    Does (.scrubPassDeadline .nucleus) s (State.faultN 8 { s with sys := { s.sys with scrubN := { s.sys.scrubN with mins := 0 } } })) ∧
  (∀ t s, s.comaUp = true → t ≤ 1760 →
    ∃ u, exec (.tjSample .coma t) s = .next u ∧ u.sys.tjC = t ∧ u.sys.tjN = s.sys.tjN ∧ (u.src .coma 4).present = false ∧
      (u.src .coma 5).present = false) ∧
  (∀ t s, s.nucUp = true → t ≤ 1760 → ∃ u, exec (.tjSample .nucleus t) s = .next u ∧ u.sys.tjN = t ∧ u.sys.tjC = s.sys.tjC) ∧
  (∀ k mv s, s.comaUp = true → k < 10 →
    let u : State := { s with sys := { s.sys with vmon := at' s.sys.vmon k (fun _ => mv) } }
    Does (.vmonSample k mv) s ((u.stageExt 0x0020 0 k mv).condition .coma 3 ((List.range 8).any (fun i => railOut i (nth 0 u.sys.vmon i))))) ∧
  (∀ h n s, s.halfUp h = true → s.core.repairing.find? (fun x => x.1 == h) = some (h, n) →
    let u : State := { s with core := { s.core with repairing := s.core.repairing.filter (fun x => x.1 != h) } }
    DoesJudged (.coreRepairComplete h true) s
      ((((u.mapCores h (setCore n .spare)).updEvt h 4).updCnt h 0x0B0054).completeOp h 0x0D04 3 codeOk) ∧
    DoesJudged (.coreRepairComplete h false) s ((u.updEvt h 5).completeOp h 0x0D04 3 eState))

/-! ## The recorder and updates -/

/-- The recorder's own work (R353-R356, R361, R362).
Conventions of the payload are the model's (log 61). -/
def Obligations.RecorderEventsComplete : Prop :=
  (∀ s, s.comaUp = true → 5 ≤ s.pwr.phase → s.aon.opMin % 60 = 0 → s.aon.opMin ≠ s.rcd.lastHour → s.aon.opMin = s.rcd.lastClose →
    let u := (s.closeMetric s.rcd.lastHour 0x0001).closeMetric s.rcd.lastHour 0x0090
    Does .recIntervalClose s { u with rcd := { u.rcd with lastHour := s.aon.opMin } }) ∧
  (∀ x s b, s.comaUp = true → s.rcd.idle = false → s.headSumm = some x → nextGood s.rcd.bad recSlots s.rcd.nextSeq ≤ 0xFFFFFFFF →
    let q := nextGood s.rcd.bad recSlots s.rcd.nextSeq
    let v : State := { s with rcd := { s.rcd with
      log := insertBy (fun e => e.1) (q % recSlots, s.recordBytes q x) s.rcd.log, newest := q, any := true, nextSeq := q + 1
      q := s.rcd.q.pop, badRun := 0, seqEnd := decide (q = 0xFFFFFFFF)
      firstFlags := if 5 ≤ s.pwr.phase ∨ s.pwr.grave then 0 else s.rcd.firstFlags, tampSeen := s.aon.tampCnt } }
    ((∀ k, s.rcd.q.head ≠ some (.gap k)) → DoesJudged (.recRecordWrite true b true) s (v.bumpC 0x090028 1)) ∧
    (∀ k, s.rcd.q.head = some (.gap k) → DoesJudged (.recRecordWrite true b true) s
      ((State.bumpC 0x090028 1 { v with rcd := { v.rcd with gapAt := s.rcd.gapAt.drop 1 } }).latchC 0x090008 2))) ∧
  (∀ q rest bs s, s.comaUp = true → s.rcd.idle = false → s.rcd.rewrites = q :: rest →
    s.rcd.log.find? (fun e => e.1 == q % recSlots) = some (q % recSlots, bs) → recSeq bs = q →
    Does .recTrailerRewrite s (State.bumpC 0x09002C 1 { s with rcd := { s.rcd with
      rewrites := rest, log := insertBy (fun e => e.1) (q % recSlots, bs.take 124 ++ recTrailer (recRep bs + 1)) s.rcd.log } })) ∧
  (∀ s, s.comaUp = true → s.rcd.frozen = true →
    Does .recAutoThaw s (((State.bumpC 0x09003C 1 { s with rcd := { s.rcd with frozen := false } }).latchC 0x090008 1).evQueue 1)) ∧
  (∀ s, s.comaUp = true → s.rcd.clearing = true →
    Does .recClearComplete s ((State.latchC 0x090008 3 { s with rcd := { s.rcd with clearing := false, log := [], rewrites := [] } }).completeOp
      .coma 0x0B05 0 codeOk))

/-- Firmware updates (R393-R395, R400, R401): the checks are made on the bytes read back; dispatch stops at an epoch boundary of every running group;
a rollback, and a switch in which nothing stops, set the last switch's second and pause as well. A rollback keeps the session where its port has
not let it go (log 94, 40); the vendor's key is fused (log 7), the signature is computed under it. -/
def Obligations.UpdateEventsComplete : Prop :=
  (∀ h s, s.comaUp = true → (s.updS h).verifying = true →
    let ok := (s.readBack h).good s.keys.vendor h
    let u := s.mapUpd h (fun u => { u with verifying := false, verified := ok })
    (ok = true → DoesJudged (.updVerifyComplete h) s (((u.updEvt h 0).updCnt h 0x0B0044).completeOp h 0x0D02 0 codeOk)) ∧
    (ok = false → DoesJudged (.updVerifyComplete h) s (((u.updEvt h 1).updCnt h 0x0B0048).completeOp h 0x0D02 0 eImage))) ∧
  (∀ h s, s.comaUp = true → (s.updS h).switching = true → (s.updS h).ready = false → s.swapsImage h = true → s.paused h = false →
    (s.common s.follower = true →
      DoesJudged (.updSwitchStart h) s ((s.mapUpd h (fun u => { u with pausedAt := s.tim.now })).setPaused h true)) ∧
    (s.common s.follower = false → DoesJudged (.updSwitchStart h) s s)) ∧
  (∀ h s, s.comaUp = true → (s.updS h).switching = true → (s.updS h).ready = false → s.paused h = true → s.pwr.rom = false →
    s.cmd.waiting = [] →
    ∃ t, exec (.updImageReady h) s = .next t ∧ (t.updS h).ready = true ∧ t.paused h = false) ∧
  (∀ h s, s.comaUp = true → (s.updS h).switching = true → (s.updS h).ready = false → s.paused h = true → s.cmd.waiting = [] →
    ∃ t, exec (.updSwitchRollback h) s = .next t ∧ (t.updS h).switching = false ∧ (t.updS h).rollback = true ∧ t.paused h = false ∧
      (t.updS h).switchAt = s.sec ∧ (t.updS h).delay = (s.tim.now - (s.updS h).pausedAt) / 1000 ∧
      ((s.updS h).port = none → (t.updS h).port = none ∧ (t.updS h).verified = false)) ∧
  (∀ h s, s.comaUp = true → (s.updS h).switching = true → (s.updS h).kind = 3 →
    DoesJudged (.updSwitchComplete h) s
      (((((s.tsetSwitched (s.updS h)).mapUpd h (fun u =>
        { u.released with switchAt := s.sec, delay := 0, rollback := false })).updEvt h 2).updCnt h 0x0B004C).completeOp
        h 0x0D03 0 codeOk))

/-! ## The test access port -/

/-- The test access port (R420): an instruction is loaded while VDDIO and VDD_C stand, and its data register scanned: the one bit of BYPASS, CLAMP and
HIGHZ, the 32 bits of IDCODE, or the boundary register, which shows the level of every ball that the device drives; while RST_N is high the
instructions that drive the balls act as BYPASS and leave every ball to the device, and while it is low EXTEST and CLAMP hold an output at its
cell and HIGHZ floats it. TRST_N low selects IDCODE. What TDI brings in is free (log 168). -/
def Obligations.TestPortCommandsComplete : Prop :=
  (∀ s, s.tapUp = true →
    let u := fun (i : TapInstr) (o : List Bool) => ({ s with pwr := { s.pwr with trst := false, tap := i, tapOut := o } } : State)
    let scan := fun (i : TapInstr) => ({ u i (scanBalls.zipIdx.map (fun x => (s.ball x.1).level.getD ((Config.freeNat s.free).testBit x.2))) with
      free := s.free + 2 } : State)
    let filled := fun (x : State) => ({ x with pwr := { x.pwr with tapCells := bitsLow scanBalls.length (Config.freeNat (s.free + 1)) } } : State)
    Does .jtagBypass s (u .bypass [false]) ∧ Does .jtagIdcode s (u .idcode (bitsLow 32 Config.idcode.toNat)) ∧
    Does .jtagSamplePreload s (filled (scan .samplePreload)) ∧ Does .jtagClamp s (u .clamp [false]) ∧ Does .jtagHighz s (u .highz [false]) ∧
    (s.pwr.rstN = true → Does .jtagExtest s (u .extest [false]) ∧ Does .jtagExtestPulse s (u .extestPulse [false]) ∧
      Does .jtagExtestTrain s (u .extestTrain [false])) ∧
    (s.pwr.rstN = false → Does .jtagExtest s (filled (scan .extest)) ∧ Does .jtagExtestPulse s (filled (scan .extestPulse)) ∧
      Does .jtagExtestTrain s (filled (scan .extestTrain)))) ∧
  (∀ s, Does .trstNLow s { s with pwr := { s.pwr with trst := true, tap := .idcode } }) ∧
  (∀ (b : Ball) (s : State), s.ioGood = true → b ∈ scanBalls → (s.pwr.rstN = true ∨ s.pwr.tap.drives = false) → s.ball b = s.drive b) ∧
  (∀ (b : Ball) (s : State), s.ioGood = true → b ∈ scanBalls → s.pwr.rstN = false →
    (s.pwr.tap = .highz → s.ball b = .highZ) ∧
    ((s.pwr.tap = .extest ∨ s.pwr.tap = .clamp) → b.pad = .output → s.ball b = driven (s.cellLevel b))) ∧
  (∀ (b : Ball) (s : State), s.ioGood = false → b ≠ .meshO → b ≠ .xtalO → s.ball b = .highZ)

/-! ## Rules over many commands -/

/-- A packet that fails step 5, 6, 7 or 8 of R40 is answered with that step's code and changes nothing else. -/
def Obligations.PacketsThatFailTheGateChangeNothing : Prop :=
  ∀ op h ps code s, s.accepts h.port = true → s.mustWait op h ps = false → s.gate op h = some code →
    ∃ t, (s.dispatch op h ps).settled = t ∧ Replied h op code 0 [] t ∧ OnlyReplied h.port s t ∧
      (s.pwr.grave = true ∧ op ≠ 0x0001 ∧ op ≠ 0x0002 ∧ op ≠ 0x0C00 → code = eGrave)

/-- A command that its opcode's own execution refuses changes nothing (R40), for every opcode of the catalogue and all parameters, but for what a
rule names: E_KEY is counted (R333), an exhausted response count is an event (R329, R333), and UPD.DATA that cannot be programmed ends its session
(R392). -/
def Obligations.RefusedCommandsChangeNothing : Prop :=
  ∀ op h ps s, s.takes op h ps = true →
    let r := bodyOf op h ps s
    r.code ≠ codeOk → r.code ≠ codePending →
    ∃ t, (s.dispatch op h ps).settled = t ∧ Replied h op r.code r.detail r.results t ∧
      t.keys = s.keys ∧ t.aon = s.aon ∧ t.tbl = s.tbl ∧
      t.upd = (if op = 0x0D01 ∧ r.code = eImage then r.st.upd else s.upd) ∧
      OnlyReplied h.port (if op = 0x0D01 ∧ r.code = eImage then r.st else if r.code = eKey then s.bumpC 0x058050 1
        else if op = 0x0A03 ∧ r.code = eState then s.latchC 0x058008 5 else s) t

/-- A request for STANDBY is refused with E_STATE, and changes nothing, while a group, an engine or an estimator runs (R29). That a group which is
stopping still runs is the model's reading (log 51). -/
def Obligations.StandbyIsRefusedWhileMeasuring : Prop :=
  ∀ h s, ((∃ g ∈ s.aln.grps, g.run ≠ .stopped) ∨ (∃ e ∈ s.lbe, e.running = true) ∨ (∃ x ∈ s.phx.ests, x.running = true)) →
    (s.takes 0x0101 (hdrOn .coma h) [0x14, 1] = true → Refuses (.pwrctlStandby h) (hdrOn .coma h) 0x0101 eState 0 s) ∧
    (∀ w, h.half = .coma → bits w 1 0 = 1 → s.takes 0x0101 h [0x14, w] = true → Refuses (.regWrite h [0x14, w]) h 0x0101 eState 0 s)

/-- The neighbour and heartbeat registers take no write while the device is joined or a join is pending (R276): E_STATE for a word that the fields
allow, E_PARAM for one that they refuse (R280, R406), for REG.WRITE and REG.MODIFY alike, and a run of words that reaches one of them is refused
whole; in every case nothing changes. -/
def Obligations.NeighbourRegistersAreFixedWhileJoined : Prop :=
  ∀ h s, h.half = .nucleus → (s.ory.joined = true ∨ s.ory.pendJoin = true) →
    (∀ k o a w, k < 32 → o < 4 → a = w32 (0x080100 + 16 * k + 4 * o) → s.takes 0x0101 h [a, w] = true →
      ((o ≠ 0 ∨ bits w 30 29 ≠ 3) → Refuses (.regWrite h [a, w]) h 0x0101 eState 0 s) ∧
      (o = 0 → bits w 30 29 = 3 → Refuses (.regWrite h [a, w]) h 0x0101 eParam 1 s)) ∧
    (∀ w, s.takes 0x0101 h [0x080014, w] = true →
      (1 ≤ bits w 7 0 → bits w 7 0 ≤ 100 → 2 ≤ bits w 11 8 → Refuses (.regWrite h [0x080014, w]) h 0x0101 eState 0 s) ∧
      ((bits w 7 0 = 0 ∨ 100 < bits w 7 0 ∨ bits w 11 8 < 2) → Refuses (.regWrite h [0x080014, w]) h 0x0101 eParam 1 s)) ∧
    (∀ k o a m v, k < 32 → o < 4 → a = w32 (0x080100 + 16 * k + 4 * o) → s.takes 0x0102 h [a, m, v] = true →
      let w := (s.regValue .nucleus a.toNat &&& ~~~m) ||| (v &&& m)
      ((o ≠ 0 ∨ bits w 30 29 ≠ 3) → Refuses (.regModify h [a, m, v]) h 0x0102 eState 0 s) ∧
      (o = 0 → bits w 30 29 = 3 → Refuses (.regModify h [a, m, v]) h 0x0102 eParam 2 s)) ∧
    (∀ m v, s.takes 0x0102 h [0x080014, m, v] = true →
      let w := (s.regValue .nucleus 0x080014 &&& ~~~m) ||| (v &&& m)
      (1 ≤ bits w 7 0 → bits w 7 0 ≤ 100 → 2 ≤ bits w 11 8 → Refuses (.regModify h [0x080014, m, v]) h 0x0102 eState 0 s) ∧
      ((bits w 7 0 = 0 ∨ 100 < bits w 7 0 ∨ bits w 11 8 < 2) → Refuses (.regModify h [0x080014, m, v]) h 0x0102 eParam 2 s)) ∧
    (∀ a ws i, s.takes 0x0101 h (a :: ws) = true → ws.length ≤ 256 → i < ws.length →
      (a.toNat + 4 * i = 0x080014 ∨ ∃ k o, k < 32 ∧ o < 4 ∧ a.toNat + 4 * i = 0x080100 + 16 * k + 4 * o) →
      Refuses (.regWrite h (a :: ws)) h 0x0101 eState 0 s ∨ ∃ d, Refuses (.regWrite h (a :: ws)) h 0x0101 eParam d s)

/-- KEY.STATUS (R330). -/
def Obligations.KeyStatusReadsTheSlots : Prop :=
  ∀ h w s, s.takes 0x0A04 h [w] = true →
    (bits w 7 0 ≤ 63 → Completes (.keyStatus h [w]) h 0x0A04 0 [s.regValue .coma (0x058084 + 8 * bits w 7 0)] s s) ∧
    (bits w 7 0 = 0xFF →
      Completes (.keyStatus h [w]) h 0x0A04 0 ((List.range 64).map (fun k => s.regValue .coma (0x058084 + 8 * k))) s s) ∧
    (63 < bits w 7 0 → bits w 7 0 ≠ 0xFF → Refuses (.keyStatus h [w]) h 0x0A04 eParam 0 s)

/-- The end of the calendar's range (R306): it stops, cal_valid clears, AON_EVT.cal_end is latched and the time event raised, at once while
the Coma half runs; a stopped calendar keeps its date. -/
def Obligations.CalendarStopsAtItsEnd : Prop :=
  (∀ s, s.pwr.mode ≠ .off → s.aon.stopped = false → s.aon.atEnd = true →
    ∃ t, exec .calendarSecond s = .next t ∧ t.aon.stopped = true ∧ t.aon.calValid = false ∧ (t.evt .coma 0x050008).getLsbD 7 = true ∧
      (s.comaUp = true → t.attn.evBits.getLsbD 1 = true ∧ t.attn.gen ≠ s.attn.gen ∧ 1 ≤ t.attn.level) ∧
      (s.comaUp = false → t.aon.calPend = true)) ∧
  (∀ s, s.pwr.mode ≠ .off → s.aon.stopped = true →
    ∃ t, exec .calendarSecond s = .next t ∧ t.aon.utcSec = s.aon.utcSec ∧ t.aon.stopped = true ∧ t.aon.calValid = s.aon.calValid)

/-- The calendar counts one second of UTC at a time through the Gregorian calendar and never shows an impossible date (R301). -/
def Obligations.CalendarCountsGregorianSeconds : Prop :=
  ∀ s, s.pwr.mode ≠ .off → s.aon.stopped = false → s.aon.atEnd = false → s.aon.dateOk = true → s.tim.calSet = false →
    ∃ t, exec .calendarSecond s = .next t ∧ t.aon.utcSec = s.aon.utcSec + 1 ∧ t.aon.dateOk = true

/-- The queues' discipline (R376-R379): a push keeps an item that fits and otherwise reports one drop more; a read takes the oldest entry and
loses no report; no queue outgrows its capacity; a flush leaves one marker. -/
def Obligations.QueuesReportEveryDrop : Prop :=
  ∀ (α : Type) (v : α) (n : Nat) (q : Queue α),
    (q.fits n = true → (q.push v n).items = q.items ++ [v] ∧ (q.push v n).reported = q.reported ∧ (q.push v n).used = q.used + n) ∧
    (q.fits n = false → (q.push v n).items = q.items ∧ (q.push v n).reported = q.reported + 1) ∧
    (q.used ≤ q.cap → (q.push v n).used ≤ q.cap) ∧
    (∀ k r, q.entries = .gap k :: r → q.pop.items = q.items ∧ q.pop.reported + k = q.reported) ∧
    (∀ x m r, q.entries = .item x m :: r → x :: q.pop.items = q.items ∧ q.pop.reported = q.reported) ∧
    (q.used ≤ q.cap → q.pop.used ≤ q.cap) ∧ q.flushed.entries = [.flush] ∧ q.flushed.items = [] ∧ q.flushed.reported = 0

/-- No register and no KEY.STATUS shows a key (R6, R320): two states that differ in the stored halves of the slots alone read the same. -/
def Obligations.KeysCannotBeReadBack : Prop :=
  ∀ (s : State) (f g : Nat → BitVec 256),
    let s' : State := { s with keys := { s.keys with slots := s.keys.slots.zipIdx.map (fun x => { x.1 with masked := f x.2, mask := g x.2 }) } }
    (∀ hf a, s'.regValue hf a = s.regValue hf a) ∧
    (∀ h ps, (cmdKeyStatus h ps s').code = (cmdKeyStatus h ps s).code ∧ (cmdKeyStatus h ps s').results = (cmdKeyStatus h ps s).results)
end

