-- ==== Sys2Proof/WellFormed.lean ====
section
/-! DEFINITION. The operands a command can carry: a command outside these ranges names a port, instance or pin the block
does not have, or a packet no transport can bring. Meanings are total all the same. -/

namespace Sys2Proof

/-- A header names one of the 17 command ports (R38, R39). -/
def Hdr.wf (h : Hdr) : Bool := h.port ≤ 16

/-- At most 1,020 parameter words fit any transport (R35). -/
def paramsWf (ps : List Word) : Bool := ps.length ≤ 1020

/-- Fault source index of a half (R404: 96 in FLT_C, 64 in FLT_N). -/
def sourceWf (hf : Half) (i : Nat) : Bool := match hf with | .coma => i < 96 | .nucleus => i < 64

/-- Core index of a half (R365). -/
def coreWf (hf : Half) (i : Nat) : Bool := match hf with | .coma => i < 3 | .nucleus => i < 5

/-- Instance numbers of a reset domain (R342). -/
def ResetDomain.wf : ResetDomain → Bool
  | .prt n => n < 4
  | .core hf n => coreWf hf n
  | .lbe e => e < 32
  | .xcv | .tim | .afe | .recorder | .key | .isl => true

/-- Pass and fail flags of every core of a half are given (R365). -/
def NucleusStart.wf (n : NucleusStart) : Bool := n.cores.length == 5

/-- The operands are in the ranges that the block has. -/
def Instr.wf : Instr → Bool
  | .nop h ps | .ident h ps | .status h ps | .attnAck h ps | .regRead h ps | .regWrite h ps | .regModify h ps
  | .tblRead h ps | .tblWrite h ps | .tblCommit h ps | .tblDiscard h ps | .tblInfo h ps | .grpStart h ps | .grpStop h ps
  | .grpQuery h ps | .afeStart h ps | .afeStop h ps | .cicSync h ps | .cicLoadcoef h ps | .afeCal h ps | .islQuery h ps
  | .lbeStart h ps | .lbeStop h ps | .lbeQuery h ps | .almQuery h ps | .almRelease h ps | .nrgSnapshot h ps
  | .nrgRead h ps | .nrgPreset h ps | .timeRead h ps | .timeSelect h ps | .timeRestep h ps | .timeAsym h ps
  | .rtcSet h ps | .rtcRead h ps | .keyInstall h ps | .keyDerive h ps | .keyRevoke h ps | .keyChallenge h ps
  | .keyStatus h ps | .recOpen h ps | .recRead h ps | .recClose h ps | .recFreeze h ps | .recThaw h ps | .recClear h ps
  | .fltRead h ps | .fltClear h ps | .fltForce h ps | .fltErrpin h ps | .updBegin h ps | .updData h ps | .updVerify h ps
  | .updSwitch h ps | .updRepairTile h ps | .updRepairLane h ps | .updRepairCore h ps | .updRepairHalfReset h ps
  | .updRepairComaReset h ps | .oryJoin h ps | .oryLeave h ps | .oryStatus h ps | .xcvReadid h ps | .xcvDiag h ps
  | .portCtlDisable h ps | .portCtlEnable h ps | .portCtlRereadModule h ps | .portCtlClearCounters h ps =>
    h.wf && paramsWf ps
  | .pwrctlStandby h | .pwrctlService h | .ingClr h | .srcClrCounters h | .srcClrEphemeris h | .alnClr h | .phxClr h
  | .islClr h | .lbeClr h | .almClr h | .egrClr h | .oryClr h | .nrgClr h | .recClr h | .keyClr h | .fltClrCounters h
  | .fltClrRstcause h | .sysClr h | .tlkClr h | .hspClr h | .aonClrTampcnt h | .aonClrBatNew h | .aonClrCalInv h
  | .updCtlAbort h | .ingQhwm h | .islMaxt h | .islElog h | .phxXMaxtve h | .sysTjx h | .hspRqhwm h | .nrgWMaxdem h => h.wf
  | .srcSel h _ | .phxSsel h _ | .phxXsel h _ | .islIsel h _ | .islBsel h _ | .almRsel h _ | .nrgSel h _ | .oryNsel h _
  | .recCur h _ | .recSelfsel h _ | .islCtlEnable h _ | .almCtlRulesEn h _ | .almDgWrite h _ | .afePresetWrite h _
  | .recIvlWrite h _ => h.wf
  | .timDomainCfgWrite h _ _ _ => h.wf
  | .lbeEeTmax h k => h.wf && k < 32
  | .afeCcStat h k => h.wf && k < 8
  | .nrgPointEnable h k _ => h.wf && k < 256
  | .pulEnable h k _ => h.wf && k < 4
  | .almGooseEnable h k _ => h.wf && k < 16
  | .egrStreamEnable h k _ => h.wf && k < 64
  | .almPinCfgWrite h k _ => h.wf && k < 8
  | .fltSnCfgForce h k _ => h.wf && sourceWf h.half k
  | .tailLinkPacketReceive _ _ bytes _ => 4 ≤ bytes.length && bytes.length ≤ 260
  | .commandPortIdleRelease p => 1 ≤ p && p ≤ 16
  | .frameReceive p _ _ | .linkDown p _ | .linkUp p | .remoteFault p _ | .pfcXoffRefresh p | .pfcXonRelease p
  | .portTransmitFrame p _ | .pdelayReqSend p => p < 4
  | .pfcPauseExpiry p pri => p < 4 && pri < 8
  | .xcvAbsEdge n _ | .moduleInserted n | .moduleRemoved n | .xcvLosChange n _ | .xcvIdentityRead n _ _
  | .xcvBusTransaction n _ _ _ _ | .xcvDiagPoll n _ _ | .xcvTxfltAssert n | .xcvTxdisRetry n _ | .xcvLifeHour n => n < 4
  | .lbeUpdate e _ => e < 32
  | .cicOutput path _ => path < 13
  | .nrgCycleEnd m | .nrgPhasorCycleComplete m => m < 256
  | .pulseDue p | .pulseWidthEnd p | .pulseGapEnd p | .pulPinSample p _ => p < 4
  | .almPinMinpwEnd p | .almPinSample p _ => p < 8
  | .gooseRepeat c => c < 16
  | .oryNeighbourTimeout k => k < 32
  | .keyHoldExpiry k => k < 64
  | .tamperInputQualify i | .tamperInputRelease i => i < 2
  | .faultOccurrence hf i _ => sourceWf hf i
  | .blockResetComplete d | .fltSuppressionWindowEnd d => d.wf
  | .coreItemWatchdog hf n => coreWf hf n
  | .vmonSample k _ => k < 10
  | .startupP1Complete cores _ => cores.length == 3
  | .startupP3Complete n | .halfResetComplete n => n.wf
  | .phxEstimateEpoch src _ _ => src == 0xFD00 || (0xFE00 ≤ src && src ≤ 0xFFFF)
  | .hspWriteTransaction _ | .hspReadTransaction _ | .hspBadType _ | .xcvBusStuck _ | .ptpReceiptTimeout _ _
  | .delayReqSend _ | .asymWindowExpiry _ | .asymValidationComplete | .acqwaitExpiry | .restepTimeout | .ppsInEdge _
  | .ppsInLost | .timeBaseSecond | .ppsOutPulseEnd | .trefPresenceChange _ _ | .followerCorrection _ | .leapSecondStart
  | .tailLinkRetrainComplete _ _ | .c37FrameParse | .svAsduParse | .ingestItemProcess _
  | .epochBoundary _ | .alignTick _ | .islandFinalRun _ | .islandProvisionalRun _ | .labelRoundTimeout | .afeSyncApply _
  | .syncNFall _ _ | .syncNStuck | .nominalCycleEnd | .afeBgcalTimer | .roverStepAdvance | .demandIntervalEnd
  | .oryMessageReceive | .oryHeartbeatSend | .oryJoinTimeout | .oryModesSend | .oryTimechkSend | .oryTagfailReport
  | .errnPinSample _ | .keyRemask _ | .keyHmacSelftest _ | .calendarSecond | .calendarSyncWrite | .operatingMinute
  | .vbatMeasure _ | .backupCellRemoved | .backupCellInserted _ | .meshSample _ | .retentionRailLow | .vddioBelow1v66
  | .vddioBelow1v60 | .vddioAbove1v70 | .vddioReturnTimer | .vddioBelow1v0 | .vbatRise | .vbatLow | .railBelowReset _
  | .railGood _ | .rstNLow _ | .rstNRise | .chipResetAssert | .chipResetRelease _ | .startupP2Complete _ _
  | .powerTransitionComplete | .errnPulseEnd | .scrubPassDeadline _ | .tjSample _ _ | .recIntervalClose
  | .recRecordWrite _ _ _ | .recTrailerRewrite | .recAutoThaw | .recClearComplete | .updVerifyComplete _
  | .updSwitchStart _ | .updImageReady _ | .updSwitchRollback _ | .updSwitchComplete _ | .coreRepairComplete _ _
  | .jtagBypass | .jtagIdcode | .jtagSamplePreload | .jtagExtest | .jtagClamp | .jtagHighz | .jtagExtestPulse
  | .jtagExtestTrain | .trstNLow | .tileMigrationEnd | .oryLeaveComplete => true

end Sys2Proof
end

