-- ==== Sys2Proof/Laws/PerInstr.lean ====
section
/-! SUPPORT. The family Wf of per-command statements: a well-formed command that carries a packet's header names one of the 17
command ports (R38, R39). -/

namespace Sys2Proof.Laws.Wf

/-- The header of a command that is a packet. -/
def header : Instr → Option Hdr
  | .nop h _ | .ident h _ | .status h _ | .attnAck h _ | .regRead h _ | .regWrite h _ | .regModify h _ | .tblRead h _
  | .tblWrite h _ | .tblCommit h _ | .tblDiscard h _ | .tblInfo h _ | .grpStart h _ | .grpStop h _ | .grpQuery h _
  | .afeStart h _ | .afeStop h _ | .cicSync h _ | .cicLoadcoef h _ | .afeCal h _ | .islQuery h _ | .lbeStart h _ | .lbeStop h _
  | .lbeQuery h _ | .almQuery h _ | .almRelease h _ | .nrgSnapshot h _ | .nrgRead h _ | .nrgPreset h _ | .timeRead h _
  | .timeSelect h _ | .timeRestep h _ | .timeAsym h _ | .rtcSet h _ | .rtcRead h _ | .keyInstall h _ | .keyDerive h _
  | .keyRevoke h _ | .keyChallenge h _ | .keyStatus h _ | .recOpen h _ | .recRead h _ | .recClose h _ | .recFreeze h _
  | .recThaw h _ | .recClear h _ | .fltRead h _ | .fltClear h _ | .fltForce h _ | .fltErrpin h _ | .updBegin h _ | .updData h _
  | .updVerify h _ | .updSwitch h _ | .updRepairTile h _ | .updRepairLane h _ | .updRepairCore h _ | .updRepairHalfReset h _
  | .updRepairComaReset h _ | .oryJoin h _ | .oryLeave h _ | .oryStatus h _ | .xcvReadid h _ | .xcvDiag h _ | .portCtlDisable h _
  | .portCtlEnable h _ | .portCtlRereadModule h _ | .portCtlClearCounters h _ | .pwrctlStandby h | .pwrctlService h | .ingClr h
  | .srcClrCounters h | .srcClrEphemeris h | .alnClr h | .phxClr h | .islClr h | .lbeClr h | .almClr h | .egrClr h | .oryClr h
  | .nrgClr h | .recClr h | .keyClr h | .fltClrCounters h | .fltClrRstcause h | .sysClr h | .tlkClr h | .hspClr h
  | .aonClrTampcnt h | .aonClrBatNew h | .aonClrCalInv h | .updCtlAbort h | .srcSel h _ | .phxSsel h _ | .phxXsel h _
  | .islIsel h _ | .islBsel h _ | .almRsel h _ | .nrgSel h _ | .oryNsel h _ | .recCur h _ | .recSelfsel h _ | .ingQhwm h
  | .islMaxt h | .islElog h | .lbeEeTmax h _ | .phxXMaxtve h | .sysTjx h | .hspRqhwm h | .nrgWMaxdem h | .afeCcStat h _
  | .islCtlEnable h _ | .almCtlRulesEn h _ | .timDomainCfgWrite h _ _ _ | .nrgPointEnable h _ _ | .pulEnable h _ _
  | .almGooseEnable h _ _ | .egrStreamEnable h _ _ | .almDgWrite h _ | .afePresetWrite h _ | .recIvlWrite h _
  | .almPinCfgWrite h _ _ | .fltSnCfgForce h _ _ => some h
  | .hspWriteTransaction _ | .hspReadTransaction _ | .hspBadType _ | .commandPortIdleRelease _ | .frameReceive _ _ _
  | .linkDown _ _ | .linkUp _ | .remoteFault _ _ | .pfcPauseExpiry _ _ | .pfcXoffRefresh _ | .pfcXonRelease _
  | .portTransmitFrame _ _ | .xcvAbsEdge _ _ | .moduleInserted _ | .moduleRemoved _ | .xcvLosChange _ _ | .xcvIdentityRead _ _ _
  | .xcvBusTransaction _ _ _ _ _ | .xcvDiagPoll _ _ _ | .xcvTxfltAssert _ | .xcvTxdisRetry _ _ | .xcvBusStuck _ | .xcvLifeHour _
  | .ptpReceiptTimeout _ _ | .delayReqSend _ | .pdelayReqSend _ | .asymWindowExpiry _ | .asymValidationComplete | .acqwaitExpiry
  | .restepTimeout | .ppsInEdge _ | .ppsInLost | .timeBaseSecond | .ppsOutPulseEnd | .trefPresenceChange _ _
  | .followerCorrection _ | .leapSecondStart | .tailLinkPacketReceive _ _ _ _ | .tailLinkRetrainComplete _ _ | .c37FrameParse
  | .svAsduParse | .ingestItemProcess _ | .epochBoundary _ | .alignTick _ | .islandFinalRun _ | .islandProvisionalRun _
  | .labelRoundTimeout | .lbeUpdate _ _ | .phxEstimateEpoch _ _ _ | .cicOutput _ _ | .afeSyncApply _ | .syncNFall _ _
  | .syncNStuck | .nominalCycleEnd | .afeBgcalTimer | .roverStepAdvance | .nrgCycleEnd _ | .nrgPhasorCycleComplete _
  | .demandIntervalEnd | .pulseDue _ | .pulseWidthEnd _ | .pulseGapEnd _ | .oryMessageReceive | .oryHeartbeatSend
  | .oryNeighbourTimeout _ | .oryJoinTimeout | .oryModesSend | .oryTimechkSend | .oryTagfailReport | .gooseRepeat _
  | .almPinMinpwEnd _ | .almPinSample _ _ | .pulPinSample _ _ | .errnPinSample _ | .keyHoldExpiry _ | .keyRemask _
  | .keyHmacSelftest _ | .calendarSecond | .calendarSyncWrite | .operatingMinute | .vbatMeasure _ | .backupCellRemoved
  | .backupCellInserted _ | .tamperInputQualify _ | .tamperInputRelease _ | .meshSample _ | .retentionRailLow | .vddioBelow1v66
  | .vddioBelow1v60 | .vddioAbove1v70 | .vddioReturnTimer | .vddioBelow1v0 | .vbatRise | .vbatLow | .railBelowReset _
  | .railGood _ | .rstNLow _ | .rstNRise | .chipResetAssert | .chipResetRelease _ | .startupP1Complete _ _
  | .startupP2Complete _ _ | .startupP3Complete _ | .powerTransitionComplete | .faultOccurrence _ _ _ | .blockResetComplete _
  | .fltSuppressionWindowEnd _ | .errnPulseEnd | .coreItemWatchdog _ _ | .scrubPassDeadline _ | .tjSample _ _ | .vmonSample _ _
  | .recIntervalClose | .recRecordWrite _ _ _ | .recTrailerRewrite | .recAutoThaw | .recClearComplete | .updVerifyComplete _
  | .updSwitchStart _ | .updImageReady _ | .updSwitchRollback _ | .updSwitchComplete _ | .coreRepairComplete _ _
  | .halfResetComplete _ | .jtagBypass | .jtagIdcode | .jtagSamplePreload | .jtagExtest | .jtagClamp | .jtagHighz
  | .jtagExtestPulse | .jtagExtestTrain | .trstNLow | .tileMigrationEnd | .oryLeaveComplete => none

/-- A well-formed command's header names a command port. -/
def Statement (i : Instr) : Prop := i.wf = true → ∀ h, header i = some h → h.port ≤ 16

theorem port_of {h : Hdr} (w : h.wf = true) : h.port ≤ 16 := of_decide_eq_true w
theorem port_and {h : Hdr} {b : Bool} (w : (h.wf && b) = true) : h.port ≤ 16 := port_of ((Bool.and_eq_true _ _).mp w).1
theorem only {i : Instr} {h : Hdr} (e : header i = some h) (p : h.port ≤ 16) : ∀ x, header i = some x → x.port ≤ 16 :=
  fun _ q => Option.some.inj (e.symm.trans q) ▸ p

theorem nop (h : Hdr) (ps : List Word) : Statement (.nop h ps) :=
  fun w => only rfl (port_and w)
theorem ident (h : Hdr) (ps : List Word) : Statement (.ident h ps) :=
  fun w => only rfl (port_and w)
theorem status (h : Hdr) (ps : List Word) : Statement (.status h ps) :=
  fun w => only rfl (port_and w)
theorem attnAck (h : Hdr) (ps : List Word) : Statement (.attnAck h ps) :=
  fun w => only rfl (port_and w)
theorem regRead (h : Hdr) (ps : List Word) : Statement (.regRead h ps) :=
  fun w => only rfl (port_and w)
theorem regWrite (h : Hdr) (ps : List Word) : Statement (.regWrite h ps) :=
  fun w => only rfl (port_and w)
theorem regModify (h : Hdr) (ps : List Word) : Statement (.regModify h ps) :=
  fun w => only rfl (port_and w)
theorem tblRead (h : Hdr) (ps : List Word) : Statement (.tblRead h ps) :=
  fun w => only rfl (port_and w)
theorem tblWrite (h : Hdr) (ps : List Word) : Statement (.tblWrite h ps) :=
  fun w => only rfl (port_and w)
theorem tblCommit (h : Hdr) (ps : List Word) : Statement (.tblCommit h ps) :=
  fun w => only rfl (port_and w)
theorem tblDiscard (h : Hdr) (ps : List Word) : Statement (.tblDiscard h ps) :=
  fun w => only rfl (port_and w)
theorem tblInfo (h : Hdr) (ps : List Word) : Statement (.tblInfo h ps) :=
  fun w => only rfl (port_and w)
theorem grpStart (h : Hdr) (ps : List Word) : Statement (.grpStart h ps) :=
  fun w => only rfl (port_and w)
theorem grpStop (h : Hdr) (ps : List Word) : Statement (.grpStop h ps) :=
  fun w => only rfl (port_and w)
theorem grpQuery (h : Hdr) (ps : List Word) : Statement (.grpQuery h ps) :=
  fun w => only rfl (port_and w)
theorem afeStart (h : Hdr) (ps : List Word) : Statement (.afeStart h ps) :=
  fun w => only rfl (port_and w)
theorem afeStop (h : Hdr) (ps : List Word) : Statement (.afeStop h ps) :=
  fun w => only rfl (port_and w)
theorem cicSync (h : Hdr) (ps : List Word) : Statement (.cicSync h ps) :=
  fun w => only rfl (port_and w)
theorem cicLoadcoef (h : Hdr) (ps : List Word) : Statement (.cicLoadcoef h ps) :=
  fun w => only rfl (port_and w)
theorem afeCal (h : Hdr) (ps : List Word) : Statement (.afeCal h ps) :=
  fun w => only rfl (port_and w)
theorem islQuery (h : Hdr) (ps : List Word) : Statement (.islQuery h ps) :=
  fun w => only rfl (port_and w)
theorem lbeStart (h : Hdr) (ps : List Word) : Statement (.lbeStart h ps) :=
  fun w => only rfl (port_and w)
theorem lbeStop (h : Hdr) (ps : List Word) : Statement (.lbeStop h ps) :=
  fun w => only rfl (port_and w)
theorem lbeQuery (h : Hdr) (ps : List Word) : Statement (.lbeQuery h ps) :=
  fun w => only rfl (port_and w)
theorem almQuery (h : Hdr) (ps : List Word) : Statement (.almQuery h ps) :=
  fun w => only rfl (port_and w)
theorem almRelease (h : Hdr) (ps : List Word) : Statement (.almRelease h ps) :=
  fun w => only rfl (port_and w)
theorem nrgSnapshot (h : Hdr) (ps : List Word) : Statement (.nrgSnapshot h ps) :=
  fun w => only rfl (port_and w)
theorem nrgRead (h : Hdr) (ps : List Word) : Statement (.nrgRead h ps) :=
  fun w => only rfl (port_and w)
theorem nrgPreset (h : Hdr) (ps : List Word) : Statement (.nrgPreset h ps) :=
  fun w => only rfl (port_and w)
theorem timeRead (h : Hdr) (ps : List Word) : Statement (.timeRead h ps) :=
  fun w => only rfl (port_and w)
theorem timeSelect (h : Hdr) (ps : List Word) : Statement (.timeSelect h ps) :=
  fun w => only rfl (port_and w)
theorem timeRestep (h : Hdr) (ps : List Word) : Statement (.timeRestep h ps) :=
  fun w => only rfl (port_and w)
theorem timeAsym (h : Hdr) (ps : List Word) : Statement (.timeAsym h ps) :=
  fun w => only rfl (port_and w)
theorem rtcSet (h : Hdr) (ps : List Word) : Statement (.rtcSet h ps) :=
  fun w => only rfl (port_and w)
theorem rtcRead (h : Hdr) (ps : List Word) : Statement (.rtcRead h ps) :=
  fun w => only rfl (port_and w)
theorem keyInstall (h : Hdr) (ps : List Word) : Statement (.keyInstall h ps) :=
  fun w => only rfl (port_and w)
theorem keyDerive (h : Hdr) (ps : List Word) : Statement (.keyDerive h ps) :=
  fun w => only rfl (port_and w)
theorem keyRevoke (h : Hdr) (ps : List Word) : Statement (.keyRevoke h ps) :=
  fun w => only rfl (port_and w)
theorem keyChallenge (h : Hdr) (ps : List Word) : Statement (.keyChallenge h ps) :=
  fun w => only rfl (port_and w)
theorem keyStatus (h : Hdr) (ps : List Word) : Statement (.keyStatus h ps) :=
  fun w => only rfl (port_and w)
theorem recOpen (h : Hdr) (ps : List Word) : Statement (.recOpen h ps) :=
  fun w => only rfl (port_and w)
theorem recRead (h : Hdr) (ps : List Word) : Statement (.recRead h ps) :=
  fun w => only rfl (port_and w)
theorem recClose (h : Hdr) (ps : List Word) : Statement (.recClose h ps) :=
  fun w => only rfl (port_and w)
theorem recFreeze (h : Hdr) (ps : List Word) : Statement (.recFreeze h ps) :=
  fun w => only rfl (port_and w)
theorem recThaw (h : Hdr) (ps : List Word) : Statement (.recThaw h ps) :=
  fun w => only rfl (port_and w)
theorem recClear (h : Hdr) (ps : List Word) : Statement (.recClear h ps) :=
  fun w => only rfl (port_and w)
theorem fltRead (h : Hdr) (ps : List Word) : Statement (.fltRead h ps) :=
  fun w => only rfl (port_and w)
theorem fltClear (h : Hdr) (ps : List Word) : Statement (.fltClear h ps) :=
  fun w => only rfl (port_and w)
theorem fltForce (h : Hdr) (ps : List Word) : Statement (.fltForce h ps) :=
  fun w => only rfl (port_and w)
theorem fltErrpin (h : Hdr) (ps : List Word) : Statement (.fltErrpin h ps) :=
  fun w => only rfl (port_and w)
theorem updBegin (h : Hdr) (ps : List Word) : Statement (.updBegin h ps) :=
  fun w => only rfl (port_and w)
theorem updData (h : Hdr) (ps : List Word) : Statement (.updData h ps) :=
  fun w => only rfl (port_and w)
theorem updVerify (h : Hdr) (ps : List Word) : Statement (.updVerify h ps) :=
  fun w => only rfl (port_and w)
theorem updSwitch (h : Hdr) (ps : List Word) : Statement (.updSwitch h ps) :=
  fun w => only rfl (port_and w)
theorem updRepairTile (h : Hdr) (ps : List Word) : Statement (.updRepairTile h ps) :=
  fun w => only rfl (port_and w)
theorem updRepairLane (h : Hdr) (ps : List Word) : Statement (.updRepairLane h ps) :=
  fun w => only rfl (port_and w)
theorem updRepairCore (h : Hdr) (ps : List Word) : Statement (.updRepairCore h ps) :=
  fun w => only rfl (port_and w)
theorem updRepairHalfReset (h : Hdr) (ps : List Word) : Statement (.updRepairHalfReset h ps) :=
  fun w => only rfl (port_and w)
theorem updRepairComaReset (h : Hdr) (ps : List Word) : Statement (.updRepairComaReset h ps) :=
  fun w => only rfl (port_and w)
theorem oryJoin (h : Hdr) (ps : List Word) : Statement (.oryJoin h ps) :=
  fun w => only rfl (port_and w)
theorem oryLeave (h : Hdr) (ps : List Word) : Statement (.oryLeave h ps) :=
  fun w => only rfl (port_and w)
theorem oryStatus (h : Hdr) (ps : List Word) : Statement (.oryStatus h ps) :=
  fun w => only rfl (port_and w)
theorem xcvReadid (h : Hdr) (ps : List Word) : Statement (.xcvReadid h ps) :=
  fun w => only rfl (port_and w)
theorem xcvDiag (h : Hdr) (ps : List Word) : Statement (.xcvDiag h ps) :=
  fun w => only rfl (port_and w)
theorem portCtlDisable (h : Hdr) (ps : List Word) : Statement (.portCtlDisable h ps) :=
  fun w => only rfl (port_and w)
theorem portCtlEnable (h : Hdr) (ps : List Word) : Statement (.portCtlEnable h ps) :=
  fun w => only rfl (port_and w)
theorem portCtlRereadModule (h : Hdr) (ps : List Word) : Statement (.portCtlRereadModule h ps) :=
  fun w => only rfl (port_and w)
theorem portCtlClearCounters (h : Hdr) (ps : List Word) : Statement (.portCtlClearCounters h ps) :=
  fun w => only rfl (port_and w)
theorem pwrctlStandby (h : Hdr) : Statement (.pwrctlStandby h) :=
  fun w => only rfl (port_of w)
theorem pwrctlService (h : Hdr) : Statement (.pwrctlService h) :=
  fun w => only rfl (port_of w)
theorem ingClr (h : Hdr) : Statement (.ingClr h) :=
  fun w => only rfl (port_of w)
theorem srcClrCounters (h : Hdr) : Statement (.srcClrCounters h) :=
  fun w => only rfl (port_of w)
theorem srcClrEphemeris (h : Hdr) : Statement (.srcClrEphemeris h) :=
  fun w => only rfl (port_of w)
theorem alnClr (h : Hdr) : Statement (.alnClr h) :=
  fun w => only rfl (port_of w)
theorem phxClr (h : Hdr) : Statement (.phxClr h) :=
  fun w => only rfl (port_of w)
theorem islClr (h : Hdr) : Statement (.islClr h) :=
  fun w => only rfl (port_of w)
theorem lbeClr (h : Hdr) : Statement (.lbeClr h) :=
  fun w => only rfl (port_of w)
theorem almClr (h : Hdr) : Statement (.almClr h) :=
  fun w => only rfl (port_of w)
theorem egrClr (h : Hdr) : Statement (.egrClr h) :=
  fun w => only rfl (port_of w)
theorem oryClr (h : Hdr) : Statement (.oryClr h) :=
  fun w => only rfl (port_of w)
theorem nrgClr (h : Hdr) : Statement (.nrgClr h) :=
  fun w => only rfl (port_of w)
theorem recClr (h : Hdr) : Statement (.recClr h) :=
  fun w => only rfl (port_of w)
theorem keyClr (h : Hdr) : Statement (.keyClr h) :=
  fun w => only rfl (port_of w)
theorem fltClrCounters (h : Hdr) : Statement (.fltClrCounters h) :=
  fun w => only rfl (port_of w)
theorem fltClrRstcause (h : Hdr) : Statement (.fltClrRstcause h) :=
  fun w => only rfl (port_of w)
theorem sysClr (h : Hdr) : Statement (.sysClr h) :=
  fun w => only rfl (port_of w)
theorem tlkClr (h : Hdr) : Statement (.tlkClr h) :=
  fun w => only rfl (port_of w)
theorem hspClr (h : Hdr) : Statement (.hspClr h) :=
  fun w => only rfl (port_of w)
theorem aonClrTampcnt (h : Hdr) : Statement (.aonClrTampcnt h) :=
  fun w => only rfl (port_of w)
theorem aonClrBatNew (h : Hdr) : Statement (.aonClrBatNew h) :=
  fun w => only rfl (port_of w)
theorem aonClrCalInv (h : Hdr) : Statement (.aonClrCalInv h) :=
  fun w => only rfl (port_of w)
theorem updCtlAbort (h : Hdr) : Statement (.updCtlAbort h) :=
  fun w => only rfl (port_of w)
theorem srcSel (h : Hdr) (v : Word) : Statement (.srcSel h v) :=
  fun w => only rfl (port_of w)
theorem phxSsel (h : Hdr) (v : Word) : Statement (.phxSsel h v) :=
  fun w => only rfl (port_of w)
theorem phxXsel (h : Hdr) (v : Word) : Statement (.phxXsel h v) :=
  fun w => only rfl (port_of w)
theorem islIsel (h : Hdr) (v : Word) : Statement (.islIsel h v) :=
  fun w => only rfl (port_of w)
theorem islBsel (h : Hdr) (v : Word) : Statement (.islBsel h v) :=
  fun w => only rfl (port_of w)
theorem almRsel (h : Hdr) (v : Word) : Statement (.almRsel h v) :=
  fun w => only rfl (port_of w)
theorem nrgSel (h : Hdr) (v : Word) : Statement (.nrgSel h v) :=
  fun w => only rfl (port_of w)
theorem oryNsel (h : Hdr) (v : Word) : Statement (.oryNsel h v) :=
  fun w => only rfl (port_of w)
theorem recCur (h : Hdr) (v : Word) : Statement (.recCur h v) :=
  fun w => only rfl (port_of w)
theorem recSelfsel (h : Hdr) (v : Word) : Statement (.recSelfsel h v) :=
  fun w => only rfl (port_of w)
theorem ingQhwm (h : Hdr) : Statement (.ingQhwm h) :=
  fun w => only rfl (port_of w)
theorem islMaxt (h : Hdr) : Statement (.islMaxt h) :=
  fun w => only rfl (port_of w)
theorem islElog (h : Hdr) : Statement (.islElog h) :=
  fun w => only rfl (port_of w)
theorem lbeEeTmax (h : Hdr) (k : Nat) : Statement (.lbeEeTmax h k) :=
  fun w => only rfl (port_and w)
theorem phxXMaxtve (h : Hdr) : Statement (.phxXMaxtve h) :=
  fun w => only rfl (port_of w)
theorem sysTjx (h : Hdr) : Statement (.sysTjx h) :=
  fun w => only rfl (port_of w)
theorem hspRqhwm (h : Hdr) : Statement (.hspRqhwm h) :=
  fun w => only rfl (port_of w)
theorem nrgWMaxdem (h : Hdr) : Statement (.nrgWMaxdem h) :=
  fun w => only rfl (port_of w)
theorem afeCcStat (h : Hdr) (k : Nat) : Statement (.afeCcStat h k) :=
  fun w => only rfl (port_and w)
theorem islCtlEnable (h : Hdr) (v : Word) : Statement (.islCtlEnable h v) :=
  fun w => only rfl (port_of w)
theorem almCtlRulesEn (h : Hdr) (v : Word) : Statement (.almCtlRulesEn h v) :=
  fun w => only rfl (port_of w)
theorem timDomainCfgWrite (h : Hdr) (d : Dom) (r : DomReg) (v : Word) : Statement (.timDomainCfgWrite h d r v) :=
  fun w => only rfl (port_of w)
theorem nrgPointEnable (h : Hdr) (k : Nat) (v : Word) : Statement (.nrgPointEnable h k v) :=
  fun w => only rfl (port_and w)
theorem pulEnable (h : Hdr) (k : Nat) (v : Word) : Statement (.pulEnable h k v) :=
  fun w => only rfl (port_and w)
theorem almGooseEnable (h : Hdr) (k : Nat) (v : Word) : Statement (.almGooseEnable h k v) :=
  fun w => only rfl (port_and w)
theorem egrStreamEnable (h : Hdr) (k : Nat) (v : Word) : Statement (.egrStreamEnable h k v) :=
  fun w => only rfl (port_and w)
theorem almDgWrite (h : Hdr) (v : Word) : Statement (.almDgWrite h v) :=
  fun w => only rfl (port_of w)
theorem afePresetWrite (h : Hdr) (v : Word) : Statement (.afePresetWrite h v) :=
  fun w => only rfl (port_of w)
theorem recIvlWrite (h : Hdr) (v : Word) : Statement (.recIvlWrite h v) :=
  fun w => only rfl (port_of w)
theorem almPinCfgWrite (h : Hdr) (k : Nat) (v : Word) : Statement (.almPinCfgWrite h k v) :=
  fun w => only rfl (port_and w)
theorem fltSnCfgForce (h : Hdr) (k : Nat) (v : Word) : Statement (.fltSnCfgForce h k v) :=
  fun w => only rfl (port_and w)
theorem hspWriteTransaction (bytes : List Byte) : Statement (.hspWriteTransaction bytes) := fun _ _ e => nomatch e
theorem hspReadTransaction (n : Nat) : Statement (.hspReadTransaction n) := fun _ _ e => nomatch e
theorem hspBadType (ty : Byte) : Statement (.hspBadType ty) := fun _ _ e => nomatch e
theorem commandPortIdleRelease (p : Nat) : Statement (.commandPortIdleRelease p) := fun _ _ e => nomatch e
theorem frameReceive (p : Nat) (t : Nat) (f : RxFrame) : Statement (.frameReceive p t f) := fun _ _ e => nomatch e
theorem linkDown (p : Nat) (hiBer : Bool) : Statement (.linkDown p hiBer) := fun _ _ e => nomatch e
theorem linkUp (p : Nat) : Statement (.linkUp p) := fun _ _ e => nomatch e
theorem remoteFault (p : Nat) (on : Bool) : Statement (.remoteFault p on) := fun _ _ e => nomatch e
theorem pfcPauseExpiry (p : Nat) (pri : Nat) : Statement (.pfcPauseExpiry p pri) := fun _ _ e => nomatch e
theorem pfcXoffRefresh (p : Nat) : Statement (.pfcXoffRefresh p) := fun _ _ e => nomatch e
theorem pfcXonRelease (p : Nat) : Statement (.pfcXonRelease p) := fun _ _ e => nomatch e
theorem portTransmitFrame (p : Nat) (t : Nat) : Statement (.portTransmitFrame p t) := fun _ _ e => nomatch e
theorem xcvAbsEdge (n : Nat) (level : Bool) : Statement (.xcvAbsEdge n level) := fun _ _ e => nomatch e
theorem moduleInserted (n : Nat) : Statement (.moduleInserted n) := fun _ _ e => nomatch e
theorem moduleRemoved (n : Nat) : Statement (.moduleRemoved n) := fun _ _ e => nomatch e
theorem xcvLosChange (n : Nat) (level : Bool) : Statement (.xcvLosChange n level) := fun _ _ e => nomatch e
theorem xcvIdentityRead (n : Nat) (reads : List (List Byte)) (a2 : List Byte) : Statement (.xcvIdentityRead n reads a2) := fun _ _ e => nomatch e
theorem xcvBusTransaction (n : Nat) (dev : Byte) (off : Nat) (data : List Byte) (ack : Bool) : Statement (.xcvBusTransaction n dev off data ack) := fun _ _ e => nomatch e
theorem xcvDiagPoll (n : Nat) (data : List Byte) (alarms : List Byte) : Statement (.xcvDiagPoll n data alarms) := fun _ _ e => nomatch e
theorem xcvTxfltAssert (n : Nat) : Statement (.xcvTxfltAssert n) := fun _ _ e => nomatch e
theorem xcvTxdisRetry (n : Nat) (still : Bool) : Statement (.xcvTxdisRetry n still) := fun _ _ e => nomatch e
theorem xcvBusStuck (still : Bool) : Statement (.xcvBusStuck still) := fun _ _ e => nomatch e
theorem xcvLifeHour (n : Nat) : Statement (.xcvLifeHour n) := fun _ _ e => nomatch e
theorem ptpReceiptTimeout (d : Dom) (announce : Bool) : Statement (.ptpReceiptTimeout d announce) := fun _ _ e => nomatch e
theorem delayReqSend (d : Dom) : Statement (.delayReqSend d) := fun _ _ e => nomatch e
theorem pdelayReqSend (p : Nat) : Statement (.pdelayReqSend p) := fun _ _ e => nomatch e
theorem asymWindowExpiry (d : Dom) : Statement (.asymWindowExpiry d) := fun _ _ e => nomatch e
theorem asymValidationComplete : Statement (.asymValidationComplete) := fun _ _ e => nomatch e
theorem acqwaitExpiry : Statement (.acqwaitExpiry) := fun _ _ e => nomatch e
theorem restepTimeout : Statement (.restepTimeout) := fun _ _ e => nomatch e
theorem ppsInEdge (t : Nat) : Statement (.ppsInEdge t) := fun _ _ e => nomatch e
theorem ppsInLost : Statement (.ppsInLost) := fun _ _ e => nomatch e
theorem timeBaseSecond : Statement (.timeBaseSecond) := fun _ _ e => nomatch e
theorem ppsOutPulseEnd : Statement (.ppsOutPulseEnd) := fun _ _ e => nomatch e
theorem trefPresenceChange (on : Bool) (err : Int) : Statement (.trefPresenceChange on err) := fun _ _ e => nomatch e
theorem followerCorrection (p : TimePkt) : Statement (.followerCorrection p) := fun _ _ e => nomatch e
theorem leapSecondStart : Statement (.leapSecondStart) := fun _ _ e => nomatch e
theorem tailLinkPacketReceive (hf : Half) (cls : TlkClass) (bytes : List Byte) (lanes : BitVec 9) : Statement (.tailLinkPacketReceive hf cls bytes lanes) := fun _ _ e => nomatch e
theorem tailLinkRetrainComplete (hf : Half) (ok : Bool) : Statement (.tailLinkRetrainComplete hf ok) := fun _ _ e => nomatch e
theorem c37FrameParse : Statement (.c37FrameParse) := fun _ _ e => nomatch e
theorem svAsduParse : Statement (.svAsduParse) := fun _ _ e => nomatch e
theorem ingestItemProcess (t : Nat) : Statement (.ingestItemProcess t) := fun _ _ e => nomatch e
theorem epochBoundary (t : Nat) : Statement (.epochBoundary t) := fun _ _ e => nomatch e
theorem alignTick (t : Nat) : Statement (.alignTick t) := fun _ _ e => nomatch e
theorem islandFinalRun (ns : Nat) : Statement (.islandFinalRun ns) := fun _ _ e => nomatch e
theorem islandProvisionalRun (ns : Nat) : Statement (.islandProvisionalRun ns) := fun _ _ e => nomatch e
theorem labelRoundTimeout : Statement (.labelRoundTimeout) := fun _ _ e => nomatch e
theorem lbeUpdate (e : Nat) (ns : Nat) : Statement (.lbeUpdate e ns) := fun _ _ e => nomatch e
theorem phxEstimateEpoch (src : Nat) (key : Nat) (t : Nat) : Statement (.phxEstimateEpoch src key t) := fun _ _ e => nomatch e
theorem cicOutput (path : Nat) (bits : List Bool) : Statement (.cicOutput path bits) := fun _ _ e => nomatch e
theorem afeSyncApply (t : Nat) : Statement (.afeSyncApply t) := fun _ _ e => nomatch e
theorem syncNFall (t : Nat) (lowNs : Nat) : Statement (.syncNFall t lowNs) := fun _ _ e => nomatch e
theorem syncNStuck : Statement (.syncNStuck) := fun _ _ e => nomatch e
theorem nominalCycleEnd : Statement (.nominalCycleEnd) := fun _ _ e => nomatch e
theorem afeBgcalTimer : Statement (.afeBgcalTimer) := fun _ _ e => nomatch e
theorem roverStepAdvance : Statement (.roverStepAdvance) := fun _ _ e => nomatch e
theorem nrgCycleEnd (m : Nat) : Statement (.nrgCycleEnd m) := fun _ _ e => nomatch e
theorem nrgPhasorCycleComplete (m : Nat) : Statement (.nrgPhasorCycleComplete m) := fun _ _ e => nomatch e
theorem demandIntervalEnd : Statement (.demandIntervalEnd) := fun _ _ e => nomatch e
theorem pulseDue (p : Nat) : Statement (.pulseDue p) := fun _ _ e => nomatch e
theorem pulseWidthEnd (p : Nat) : Statement (.pulseWidthEnd p) := fun _ _ e => nomatch e
theorem pulseGapEnd (p : Nat) : Statement (.pulseGapEnd p) := fun _ _ e => nomatch e
theorem oryMessageReceive : Statement (.oryMessageReceive) := fun _ _ e => nomatch e
theorem oryHeartbeatSend : Statement (.oryHeartbeatSend) := fun _ _ e => nomatch e
theorem oryNeighbourTimeout (k : Nat) : Statement (.oryNeighbourTimeout k) := fun _ _ e => nomatch e
theorem oryJoinTimeout : Statement (.oryJoinTimeout) := fun _ _ e => nomatch e
theorem oryModesSend : Statement (.oryModesSend) := fun _ _ e => nomatch e
theorem oryTimechkSend : Statement (.oryTimechkSend) := fun _ _ e => nomatch e
theorem oryTagfailReport : Statement (.oryTagfailReport) := fun _ _ e => nomatch e
theorem gooseRepeat (c : Nat) : Statement (.gooseRepeat c) := fun _ _ e => nomatch e
theorem almPinMinpwEnd (p : Nat) : Statement (.almPinMinpwEnd p) := fun _ _ e => nomatch e
theorem almPinSample (p : Nat) (level : Bool) : Statement (.almPinSample p level) := fun _ _ e => nomatch e
theorem pulPinSample (p : Nat) (level : Bool) : Statement (.pulPinSample p level) := fun _ _ e => nomatch e
theorem errnPinSample (level : Bool) : Statement (.errnPinSample level) := fun _ _ e => nomatch e
theorem keyHoldExpiry (k : Nat) : Statement (.keyHoldExpiry k) := fun _ _ e => nomatch e
theorem keyRemask (healthy : Bool) : Statement (.keyRemask healthy) := fun _ _ e => nomatch e
theorem keyHmacSelftest (ok : Bool) : Statement (.keyHmacSelftest ok) := fun _ _ e => nomatch e
theorem calendarSecond : Statement (.calendarSecond) := fun _ _ e => nomatch e
theorem calendarSyncWrite : Statement (.calendarSyncWrite) := fun _ _ e => nomatch e
theorem operatingMinute : Statement (.operatingMinute) := fun _ _ e => nomatch e
theorem vbatMeasure (mv : Nat) : Statement (.vbatMeasure mv) := fun _ _ e => nomatch e
theorem backupCellRemoved : Statement (.backupCellRemoved) := fun _ _ e => nomatch e
theorem backupCellInserted (mv : Nat) : Statement (.backupCellInserted mv) := fun _ _ e => nomatch e
theorem tamperInputQualify (i : Nat) : Statement (.tamperInputQualify i) := fun _ _ e => nomatch e
theorem tamperInputRelease (i : Nat) : Statement (.tamperInputRelease i) := fun _ _ e => nomatch e
theorem meshSample (bit : Bool) : Statement (.meshSample bit) := fun _ _ e => nomatch e
theorem retentionRailLow : Statement (.retentionRailLow) := fun _ _ e => nomatch e
theorem vddioBelow1v66 : Statement (.vddioBelow1v66) := fun _ _ e => nomatch e
theorem vddioBelow1v60 : Statement (.vddioBelow1v60) := fun _ _ e => nomatch e
theorem vddioAbove1v70 : Statement (.vddioAbove1v70) := fun _ _ e => nomatch e
theorem vddioReturnTimer : Statement (.vddioReturnTimer) := fun _ _ e => nomatch e
theorem vddioBelow1v0 : Statement (.vddioBelow1v0) := fun _ _ e => nomatch e
theorem vbatRise : Statement (.vbatRise) := fun _ _ e => nomatch e
theorem vbatLow : Statement (.vbatLow) := fun _ _ e => nomatch e
theorem railBelowReset (r : Rail) : Statement (.railBelowReset r) := fun _ _ e => nomatch e
theorem railGood (r : Rail) : Statement (.railGood r) := fun _ _ e => nomatch e
theorem rstNLow (ns : Nat) : Statement (.rstNLow ns) := fun _ _ e => nomatch e
theorem rstNRise : Statement (.rstNRise) := fun _ _ e => nomatch e
theorem chipResetAssert : Statement (.chipResetAssert) := fun _ _ e => nomatch e
theorem chipResetRelease (straps : BitVec 3) : Statement (.chipResetRelease straps) := fun _ _ e => nomatch e
theorem startupP1Complete (cores : List Bool) (flash : FlashScan) : Statement (.startupP1Complete cores flash) := fun _ _ e => nomatch e
theorem startupP2Complete (active : List Byte) (other : List Byte) : Statement (.startupP2Complete active other) := fun _ _ e => nomatch e
theorem startupP3Complete (n : NucleusStart) : Statement (.startupP3Complete n) := fun _ _ e => nomatch e
theorem powerTransitionComplete : Statement (.powerTransitionComplete) := fun _ _ e => nomatch e
theorem faultOccurrence (hf : Half) (idx : Nat) (c : FaultCond) : Statement (.faultOccurrence hf idx c) := fun _ _ e => nomatch e
theorem blockResetComplete (d : ResetDomain) : Statement (.blockResetComplete d) := fun _ _ e => nomatch e
theorem fltSuppressionWindowEnd (d : ResetDomain) : Statement (.fltSuppressionWindowEnd d) := fun _ _ e => nomatch e
theorem errnPulseEnd : Statement (.errnPulseEnd) := fun _ _ e => nomatch e
theorem coreItemWatchdog (hf : Half) (core : Nat) : Statement (.coreItemWatchdog hf core) := fun _ _ e => nomatch e
theorem scrubPassDeadline (hf : Half) : Statement (.scrubPassDeadline hf) := fun _ _ e => nomatch e
theorem tjSample (hf : Half) (t16 : Int) : Statement (.tjSample hf t16) := fun _ _ e => nomatch e
theorem vmonSample (k : Nat) (mv : Nat) : Statement (.vmonSample k mv) := fun _ _ e => nomatch e
theorem recIntervalClose : Statement (.recIntervalClose) := fun _ _ e => nomatch e
theorem recRecordWrite (ok : Bool) (badByte : Nat) (noteOk : Bool) : Statement (.recRecordWrite ok badByte noteOk) := fun _ _ e => nomatch e
theorem recTrailerRewrite : Statement (.recTrailerRewrite) := fun _ _ e => nomatch e
theorem recAutoThaw : Statement (.recAutoThaw) := fun _ _ e => nomatch e
theorem recClearComplete : Statement (.recClearComplete) := fun _ _ e => nomatch e
theorem updVerifyComplete (hf : Half) : Statement (.updVerifyComplete hf) := fun _ _ e => nomatch e
theorem updSwitchStart (hf : Half) : Statement (.updSwitchStart hf) := fun _ _ e => nomatch e
theorem updImageReady (hf : Half) : Statement (.updImageReady hf) := fun _ _ e => nomatch e
theorem updSwitchRollback (hf : Half) : Statement (.updSwitchRollback hf) := fun _ _ e => nomatch e
theorem updSwitchComplete (hf : Half) : Statement (.updSwitchComplete hf) := fun _ _ e => nomatch e
theorem coreRepairComplete (hf : Half) (ok : Bool) : Statement (.coreRepairComplete hf ok) := fun _ _ e => nomatch e
theorem halfResetComplete (n : NucleusStart) : Statement (.halfResetComplete n) := fun _ _ e => nomatch e
theorem jtagBypass : Statement (.jtagBypass) := fun _ _ e => nomatch e
theorem jtagIdcode : Statement (.jtagIdcode) := fun _ _ e => nomatch e
theorem jtagSamplePreload : Statement (.jtagSamplePreload) := fun _ _ e => nomatch e
theorem jtagExtest : Statement (.jtagExtest) := fun _ _ e => nomatch e
theorem jtagClamp : Statement (.jtagClamp) := fun _ _ e => nomatch e
theorem jtagHighz : Statement (.jtagHighz) := fun _ _ e => nomatch e
theorem jtagExtestPulse : Statement (.jtagExtestPulse) := fun _ _ e => nomatch e
theorem jtagExtestTrain : Statement (.jtagExtestTrain) := fun _ _ e => nomatch e
theorem trstNLow : Statement (.trstNLow) := fun _ _ e => nomatch e
theorem tileMigrationEnd : Statement (.tileMigrationEnd) := fun _ _ e => nomatch e
theorem oryLeaveComplete : Statement (.oryLeaveComplete) := fun _ _ e => nomatch e

end Sys2Proof.Laws.Wf
end

