-- ==== Sys2Proof/Laws/Words.lean ====
section
/-! SUPPORT. Laws of the sparse word maps and keyed lists: read after write, every other place alone, and the canonical form kept. -/

namespace Sys2Proof.Machine

/-! ## Keyed lists -/

theorem findBy_insertBy_self {α : Type} (key : α → Nat) (x : α) (l : List α) : findBy key (key x) (insertBy key x l) = some x := by
  induction l with
  | nil => simp [insertBy, findBy]
  | cons y ys ih =>
    unfold insertBy
    split
    · simp [findBy]
    · split
      · simp [findBy]
      · rename_i h1 h2
        have : ¬ key y = key x := fun e => h2 e.symm
        simpa [findBy, List.find?_cons, this] using ih

theorem findBy_insertBy_ne {α : Type} (key : α → Nat) (x : α) (k : Nat) (l : List α) (h : k ≠ key x) :
    findBy key k (insertBy key x l) = findBy key k l := by
  have h' : ¬ key x = k := fun e => h e.symm
  induction l with
  | nil => simp [insertBy, findBy, h']
  | cons y ys ih =>
    unfold insertBy
    split
    · simp [findBy, List.find?_cons, h']
    · split
      · rename_i h1 h2
        have : ¬ key y = k := fun e => h' (h2.trans e)
        simp [findBy, h', this]
      · simp only [findBy, List.find?_cons] at ih ⊢
        rw [ih]

/-! ## Word maps -/

variable {d : Nat → Word}

theorem WMap.get_insert_self (m : WMap) (k : Nat) (w : Word) : WMap.get d (WMap.insert k w m) k = w := by
  induction m with
  | nil => simp [WMap.insert, WMap.get]
  | cons e r ih =>
    obtain ⟨a, v⟩ := e
    unfold WMap.insert
    split
    · simp [WMap.get]
    · split
      · simp [WMap.get]
      · rename_i h1 h2
        simpa [WMap.get, h1] using ih

theorem WMap.get_insert_ne (m : WMap) (k j : Nat) (w : Word) (h : j ≠ k) : WMap.get d (WMap.insert k w m) j = WMap.get d m j := by
  induction m with
  | nil => simp [WMap.insert, WMap.get, h]
  | cons e r ih =>
    obtain ⟨a, v⟩ := e
    unfold WMap.insert
    split
    · rename_i h1; subst h1; simp [WMap.get, h]
    · split
      · simp [WMap.get, h]
      · simp [WMap.get, ih]

theorem WMap.get_erase_self (m : WMap) (k : Nat) : WMap.get d (WMap.erase k m) k = d k := by
  induction m with
  | nil => simp [WMap.erase, WMap.get]
  | cons e r ih =>
    obtain ⟨a, v⟩ := e
    unfold WMap.erase
    split
    · exact ih
    · rename_i h1; simpa [WMap.get, h1] using ih

theorem WMap.get_erase_ne (m : WMap) (k j : Nat) (h : j ≠ k) : WMap.get d (WMap.erase k m) j = WMap.get d m j := by
  induction m with
  | nil => simp [WMap.erase]
  | cons e r ih =>
    obtain ⟨a, v⟩ := e
    unfold WMap.erase
    split
    · rename_i h1; subst h1; simpa [WMap.get, h] using ih
    · simp [WMap.get, ih]

/-- A word written is the word read. -/
theorem WMap.get_put_self (m : WMap) (k : Nat) (w : Word) : WMap.get d (WMap.put d m k w) k = w := by
  unfold WMap.put
  split
  · rename_i h; rw [WMap.get_erase_self, h]
  · exact WMap.get_insert_self m k w

/-- A write leaves every other word alone. -/
theorem WMap.get_put_ne (m : WMap) (k j : Nat) (w : Word) (h : j ≠ k) : WMap.get d (WMap.put d m k w) j = WMap.get d m j := by
  unfold WMap.put
  split
  · exact WMap.get_erase_ne m k j h
  · exact WMap.get_insert_ne m k j w h

theorem WMap.get_put (m : WMap) (k j : Nat) (w : Word) : WMap.get d (WMap.put d m k w) j = if j = k then w else WMap.get d m j := by
  split
  · rename_i h; subst h; exact WMap.get_put_self m j w
  · rename_i h; exact WMap.get_put_ne m k j w h

/-- Words outside a range that is cleared stay; those inside read as the default. -/
theorem WMap.get_filter_out (m : WMap) (p : Nat → Bool) (j : Nat) (h : p j = true) :
    WMap.get d (m.filter (fun e => p e.1)) j = WMap.get d m j := by
  induction m with
  | nil => rfl
  | cons e r ih =>
    obtain ⟨a, v⟩ := e
    by_cases ha : p a = true
    · simp [ha, WMap.get, ih]
    · have : j ≠ a := fun e => ha (e ▸ h)
      simp [ha, WMap.get, this, ih]

theorem WMap.get_filter_in (m : WMap) (p : Nat → Bool) (j : Nat) (h : p j = false) :
    WMap.get d (m.filter (fun e => p e.1)) j = d j := by
  induction m with
  | nil => rfl
  | cons e r ih =>
    obtain ⟨a, v⟩ := e
    by_cases ha : p a = true
    · have : j ≠ a := fun e => by simp [e, ha] at h
      simp [ha, WMap.get, this, ih]
    · simp [ha, ih]

/-! ## The canonical form -/

theorem WMap.wfFrom_mono (m : WMap) (lo lo' : Nat) (h : lo' ≤ lo) (hm : WMap.wfFrom d lo m = true) : WMap.wfFrom d lo' m = true := by
  cases m with
  | nil => rfl
  | cons e r =>
    obtain ⟨a, v⟩ := e
    simp only [WMap.wfFrom, Bool.and_eq_true, decide_eq_true_eq] at hm ⊢
    exact ⟨⟨by omega, hm.1.2⟩, hm.2⟩

theorem WMap.wfFrom_insert (m : WMap) (k : Nat) (w : Word) (hw : w ≠ d k) :
    ∀ lo, lo ≤ k → WMap.wfFrom d lo m = true → WMap.wfFrom d lo (WMap.insert k w m) = true := by
  induction m with
  | nil => intro lo hk _; simp [WMap.insert, WMap.wfFrom, hk, hw]
  | cons e r ih =>
    intro lo hk hm
    obtain ⟨a, v⟩ := e
    simp only [WMap.wfFrom, Bool.and_eq_true, decide_eq_true_eq] at hm
    obtain ⟨⟨h1, h2⟩, h3⟩ := hm
    unfold WMap.insert
    split
    · rename_i he; subst he; simp [WMap.wfFrom, hk, hw, h3]
    · split
      · rename_i hne hlt
        simp only [WMap.wfFrom, Bool.and_eq_true, decide_eq_true_eq]
        exact ⟨⟨hk, hw⟩, ⟨by omega, h2⟩, h3⟩
      · rename_i hne hlt
        simp only [WMap.wfFrom, Bool.and_eq_true, decide_eq_true_eq]
        exact ⟨⟨h1, h2⟩, ih (a + 1) (by omega) h3⟩

theorem WMap.wfFrom_erase (m : WMap) (k : Nat) : ∀ lo, WMap.wfFrom d lo m = true → WMap.wfFrom d lo (WMap.erase k m) = true := by
  induction m with
  | nil => intro lo _; rfl
  | cons e r ih =>
    intro lo hm
    obtain ⟨a, v⟩ := e
    simp only [WMap.wfFrom, Bool.and_eq_true, decide_eq_true_eq] at hm
    obtain ⟨⟨h1, h2⟩, h3⟩ := hm
    unfold WMap.erase
    split
    · exact WMap.wfFrom_mono _ (a + 1) lo (by omega) (ih (a + 1) h3)
    · simp only [WMap.wfFrom, Bool.and_eq_true, decide_eq_true_eq]
      exact ⟨⟨h1, h2⟩, ih (a + 1) h3⟩

/-- A write keeps the canonical form. -/
theorem WMap.wf_put (m : WMap) (k : Nat) (w : Word) (hm : WMap.wf d m = true) : WMap.wf d (WMap.put d m k w) = true := by
  unfold WMap.put
  split
  · exact WMap.wfFrom_erase m k 0 hm
  · rename_i h; exact WMap.wfFrom_insert m k w h 0 (Nat.zero_le k) hm

/-- Clearing a range of counters keeps it. -/
theorem WMap.wf_filter (q : Nat × Word → Bool) (m : WMap) (hm : WMap.wf d m = true) : WMap.wf d (m.filter q) = true := by
  suffices h : ∀ lo, WMap.wfFrom d lo m = true → WMap.wfFrom d lo (m.filter q) = true from h 0 hm
  clear hm
  induction m with
  | nil => intro lo _; rfl
  | cons e r ih =>
    intro lo h
    obtain ⟨a, v⟩ := e
    simp only [WMap.wfFrom, Bool.and_eq_true, decide_eq_true_eq] at h
    rw [List.filter_cons]
    split
    · simp only [WMap.wfFrom, Bool.and_eq_true, decide_eq_true_eq]
      exact ⟨h.1, ih (a + 1) h.2⟩
    · exact WMap.wfFrom_mono _ (a + 1) lo (by omega) (ih (a + 1) h.2)

end Sys2Proof.Machine
end

