-- ==== Sys2Proof/Laws/Serve.lean ====
section
/-! SUPPORT. What settling and answering do to a state: the one lemma a proof about a command packet cites. -/

namespace Sys2Proof.Machine

/-! ## Registers -/

@[simp] theorem State.rw_mapRegs_ctr (h h' : Half) (a : Nat) (f : WMap → WMap) (s : State) :
    (s.mapRegs h (fun r => { r with ctr := f r.ctr })).rw h' a = s.rw h' a := by
  cases h <;> cases h' <;> rfl

theorem State.ctr_bump_ne (h h' : Half) (a b n : Nat) (s : State) (hb : b ≠ a) : (s.bump h a n).ctr h' b = s.ctr h' b := by
  cases h <;> cases h' <;> simp [State.bump, State.mapRegs, State.ctr, State.regs, WMap.get_put_ne, hb]

theorem State.evt_latch_ne (h h' : Half) (a b : Nat) (w : Word) (s : State) (hb : b ≠ a) : (s.latch h a w).evt h' b = s.evt h' b := by
  cases h <;> cases h' <;> simp [State.latch, State.mapRegs, State.evt, State.regs, WMap.get_put_ne, hb]

theorem State.cor_putCor_ne (h h' : Half) (a b : Nat) (w : Word) (s : State) (hb : b ≠ a) : (s.putCor h a w).cor h' b = s.cor h' b := by
  cases h <;> cases h' <;> simp [State.putCor, State.mapRegs, State.cor, State.regs, WMap.get_put_ne, hb]

/-! ## Balls -/

theorem nth_at'_self {α : Type} (d : α) (l : List α) (i : Nat) (f : α → α) (hi : i < l.length) : nth d (at' l i f) i = f (nth d l i) := by
  simp [nth, at', hi]

theorem nth_at'_ne {α : Type} (d : α) (l : List α) (i j : Nat) (f : α → α) (h : j ≠ i) : nth d (at' l i f) j = nth d l j := by
  simp [nth, at', h.symm]

theorem at'_over {α : Type} (l : List α) (i : Nat) (f : α → α) (hi : l.length ≤ i) : at' l i f = l := by
  simp [at', List.modify_eq_self, hi]

/-- With the safe level applied, a ball is driven to the mirror's level and nothing but that pin changes. -/
theorem State.drivePin_safe (p : Nat) (s : State) (h : s.pinsSafe = true) :
    s.drivePin p = { s with alm := { s.alm with pins := (s.drivePin p).alm.pins } } ∧
    (∀ q, (s.drivePin p).pin q = if q = p then { s.pin q with ball := bit (s.pin q).mirror 1, lastNs := ((s.drivePin p).pin q).lastNs }
      else s.pin q) ∧ ∀ q, ((s.drivePin p).pin q).mirror = (s.pin q).mirror := by
  have hb : s.pinBall p = bit (s.pin p).mirror 1 := by simp [State.pinBall, h]
  by_cases he : s.pinBall p = (s.pin p).ball
  · have h1 : s.drivePin p = s := by simp [State.drivePin, he]
    rw [h1]
    refine ⟨rfl, fun q => ?_, fun _ => rfl⟩
    split
    · rename_i hq; subst hq; rw [← hb, he]
    · rfl
  · have h1 : s.drivePin p = s.mapPin p (fun y => { y with ball := s.pinBall p, lastNs := if s.pwr.nrst then y.lastNs else s.tim.now }) := by
      simp [State.drivePin, he, h]
    rw [h1]
    have h2 : ∀ q, (s.mapPin p (fun y => { y with ball := s.pinBall p, lastNs := if s.pwr.nrst then y.lastNs else s.tim.now })).pin q =
        if q = p then (if p < s.alm.pins.length then { s.pin q with ball := s.pinBall p, lastNs := if s.pwr.nrst then (s.pin q).lastNs else s.tim.now } else s.pin q) else s.pin q := by
      intro q
      simp only [State.pin, State.mapPin]
      by_cases hq : q = p
      · subst hq
        by_cases hl : q < s.alm.pins.length
        · simp only [hl, if_true]; exact nth_at'_self _ _ _ _ hl
        · simp only [hl, if_true, if_false]; rw [at'_over _ _ _ (by omega)]
      · simp only [hq, if_false]; exact nth_at'_ne _ _ _ _ _ hq
    have h3 : ¬ p < s.alm.pins.length → bit (s.pin p).mirror 1 = (s.pin p).ball := by
      intro hl
      have : s.pin p = Pin.reset := by simp [State.pin, nth, List.getElem?_eq_none (by omega : s.alm.pins.length ≤ p)]
      rw [this]; rfl
    refine ⟨rfl, fun q => ?_, fun q => ?_⟩
    · rw [h2 q]
      by_cases hq : q = p
      · subst hq
        by_cases hl : q < s.alm.pins.length
        · simp [hl, hb]
        · simp only [hl, if_true, if_false]; rw [h3 hl]
      · simp [hq]
    · rw [h2 q]
      by_cases hq : q = p
      · subst hq; by_cases hl : q < s.alm.pins.length <;> simp [hl]
      · simp [hq]

/-- Driving pins of a list with the safe level applied. -/
theorem State.drivePins_safe (l : List Nat) : ∀ (s : State), s.pinsSafe = true →
    (l.foldl (fun s p => s.drivePin p) s = { s with alm := { s.alm with pins := (l.foldl (fun s p => s.drivePin p) s).alm.pins } }) ∧
    (∀ q, q ∈ l → ((l.foldl (fun s p => s.drivePin p) s).pin q).ball = bit (s.pin q).mirror 1) ∧
    (∀ q, ((l.foldl (fun s p => s.drivePin p) s).pin q).mirror = (s.pin q).mirror) := by
  induction l with
  | nil => intro s _; exact ⟨rfl, fun q hq => absurd hq (by simp), fun _ => rfl⟩
  | cons p r ih =>
    intro s h
    obtain ⟨e1, e2, e3⟩ := State.drivePin_safe p s h
    have h' : (s.drivePin p).pinsSafe = true := by rw [e1]; exact h
    obtain ⟨f1, f2, f3⟩ := ih (s.drivePin p) h'
    simp only [List.foldl_cons]
    refine ⟨?_, fun q hq => ?_, fun q => by rw [f3, e3]⟩
    · rw [f1, e1]
    · by_cases hr : q ∈ r
      · rw [f2 q hr, e3]
      · have hp : q = p := by simpa [hr] using hq
        subst hp
        -- later pins leave this one alone
        have keep : ∀ (l : List Nat) (u : State), u.pinsSafe = true → q ∉ l →
            (l.foldl (fun s p => s.drivePin p) u).pin q = u.pin q := by
          intro l
          induction l with
          | nil => intro u _ _; rfl
          | cons a b ihb =>
            intro u hu hq'
            obtain ⟨g1, g2, _⟩ := State.drivePin_safe a u hu
            have hu' : (u.drivePin a).pinsSafe = true := by rw [g1]; exact hu
            simp only [List.foldl_cons]
            rw [ihb _ hu' (fun hm => hq' (List.mem_cons_of_mem _ hm)), g2 q]
            have : q ≠ a := fun e => hq' (by simp [e])
            simp [this]
        rw [keep r (s.drivePin q) h' hr, e2 q]
        simp

/-! ## Settling -/

theorem State.settled_frame (s : State) :
    s.settled = { s with attn := s.settled.attn, alm := { s.alm with pins := s.settled.alm.pins } } := by
  unfold State.settled
  by_cases h : s.pinsSafe = true
  · simp only [h, if_true]
    have e := (State.drivePins_safe (List.range 8) s h).1
    unfold State.drivePins
    rw [e]; rfl
  · simp only [h]; rfl

theorem State.settled_pins (s : State) (h : s.pinsSafe = false) : s.settled.alm.pins = s.alm.pins := by
  simp [State.settled, h, State.reattn]

/-- A settled state is consistent, whatever it was before. -/
theorem State.settled_consistent (s : State) : s.settled.Consistent := by
  refine ⟨rfl, rfl, fun p hp hsafe => ?_⟩
  have hs : s.pinsSafe = true := by rw [State.settled_frame] at hsafe; exact hsafe
  obtain ⟨e1, e2, e3⟩ := State.drivePins_safe (List.range 8) s hs
  have hpin : s.settled.pin p = (s.drivePins).pin p := by simp [State.settled, hs, State.reattn, State.pin]
  rw [hpin]
  unfold State.drivePins
  rw [e2 p (List.mem_range.mpr hp), e3]

/-! ## Answering -/

/-- The numbers of the command ports that are allocated. -/
def Cmd.portIds (c : Cmd) : List Nat := c.ports.map CmdPort.id

/-- Which ports are allocated is a matter of their numbers. -/
theorem State.port?_ids (p : Nat) (s t : State) (h : t.cmd.portIds = s.cmd.portIds) : (t.port? p).isSome = (s.port? p).isSome := by
  have hf : ∀ u : State, (u.port? p).isSome = u.cmd.portIds.any (fun i => i == p) := by
    intro u; simp only [State.port?, findBy, Cmd.portIds, List.any_map]
    rw [Bool.eq_iff_iff]; simp
  rw [hf, hf, h]

theorem State.port?_mapPort (p q : Nat) (f : CmdPort → CmdPort) (s : State) (hf : ∀ c, (f c).id = c.id) :
    (s.mapPort p f).port? q = if q = p then (s.port? q).map f else s.port? q := by
  simp only [State.port?, State.mapPort, findBy]
  induction s.cmd.ports with
  | nil => simp
  | cons c r ih =>
    have hid : (if c.id = p then f c else c).id = c.id := by split <;> simp [hf]
    simp only [List.map_cons, List.find?_cons, hid]
    by_cases hc : c.id = q
    · simp only [hc, beq_self_eq_true]
      split <;> simp_all
    · simp only [beq_eq_false_iff_ne.mpr hc]; exact ih

/-- What a reply put into a port's queue may change (R51). -/
structure Sent (p : Nat) (s t : State) : Prop where
  frame : t = { s with
    cmd := t.cmd, attn := t.attn, rcd := { s.rcd with stage := t.rcd.stage },
    regC := { s.regC with ctr := t.regC.ctr, evt := t.regC.evt, cor := t.regC.cor } }
  cmd : t.cmd = { s.cmd with ports := t.cmd.ports }
  last : ∀ q, t.reply? q = s.reply? q
  ports : ∀ q, q ≠ p → t.port? q = s.port? q
  ctr : ∀ a, a ≠ 0x0B0054 → t.ctr .coma a = s.ctr .coma a
  evt : ∀ a, a ≠ 0x0B0008 → t.evt .coma a = s.evt .coma a
  cor : ∀ a, a ≠ 0x0B000C → t.cor .coma a = s.cor .coma a

theorem CmdPort.give_id (ps : List CmdPort) (r : Reply) (c : CmdPort) : (c.give ps r).id = c.id ∧ (c.give ps r).last = c.last := by
  unfold CmdPort.give; split
  · exact ⟨rfl, rfl⟩
  · split <;> exact ⟨rfl, rfl⟩

theorem Sent.refl (p : Nat) (s : State) : Sent p s s := ⟨rfl, rfl, fun _ => rfl, fun _ _ => rfl, fun _ _ => rfl, fun _ _ => rfl, fun _ _ => rfl⟩

theorem Sent.trans {p : Nat} {s t u : State} (h1 : Sent p s t) (h2 : Sent p t u) : Sent p s u where
  frame := by rw [h2.frame, h1.frame]
  cmd := by rw [h2.cmd, h1.cmd]
  last q := (h2.last q).trans (h1.last q)
  ports q hq := (h2.ports q hq).trans (h1.ports q hq)
  ctr a ha := (h2.ctr a ha).trans (h1.ctr a ha)
  evt a ha := (h2.evt a ha).trans (h1.evt a ha)
  cor a ha := (h2.cor a ha).trans (h1.cor a ha)

theorem sent_give (r : Reply) (p : Nat) (s : State) : Sent p s (s.mapPort p (fun c => c.give s.cmd.ports r)) where
  frame := rfl
  cmd := rfl
  last q := by
    simp only [State.reply?]
    rw [State.port?_mapPort p q _ s (fun c => (CmdPort.give_id _ _ _).1)]
    split
    · cases s.port? q with
      | none => rfl
      | some c => exact (CmdPort.give_id _ _ _).2
    · rfl
  ports q hq := by
    rw [State.port?_mapPort p q _ s (fun c => (CmdPort.give_id _ _ _).1)]; simp [hq]
  ctr _ _ := rfl
  evt _ _ := rfl
  cor _ _ := rfl

theorem sent_note (p : Nat) (s : State) : Sent p s s.noteReplies where
  frame := rfl
  cmd := rfl
  last _ := rfl
  ports _ _ := rfl
  ctr _ _ := rfl
  evt _ _ := rfl
  cor a ha := by unfold State.noteReplies State.corMax; exact State.cor_putCor_ne _ _ _ _ _ _ ha

theorem sent_bump (p n : Nat) (s : State) : Sent p s (s.bumpC 0x0B0054 n) where
  frame := rfl
  cmd := rfl
  last _ := rfl
  ports _ _ := rfl
  ctr _ ha := State.ctr_bump_ne _ _ _ _ _ _ ha
  evt _ _ := rfl
  cor _ _ := rfl

theorem sent_latch (p i : Nat) (s : State) : Sent p s (s.latchC 0x0B0008 i) where
  frame := rfl
  cmd := rfl
  last _ := rfl
  ports _ _ := rfl
  ctr _ _ := rfl
  evt _ ha := State.evt_latch_ne _ _ _ _ _ _ ha
  cor _ _ := rfl

theorem sent_raise (p i l : Nat) (s : State) : Sent p s (s.raise i l) :=
  ⟨rfl, rfl, fun _ => rfl, fun _ _ => rfl, fun _ _ => rfl, fun _ _ => rfl, fun _ _ => rfl⟩

theorem sent_stage (p m j i : Nat) (n : Int) (s : State) : Sent p s (s.stageAdd m j i n) := by
  unfold State.stageAdd
  split
  · exact Sent.refl p s
  · exact ⟨rfl, rfl, fun _ => rfl, fun _ _ => rfl, fun _ _ => rfl, fun _ _ => rfl, fun _ _ => rfl⟩

theorem sent_reply (r : Reply) (p : Nat) (s : State) : Sent p s (s.sendReply r p) := by
  unfold State.sendReply
  split
  · exact Sent.refl p s
  · rename_i c _
    have h1 := (sent_give r p s).trans (sent_note p _)
    have h2 : Sent p s (if s.marksGap p r.words = true
        then State.evQueue 1 (State.latchC 0x0B0008 4 (s.mapPort p (fun c => c.give s.cmd.ports r)).noteReplies)
        else (s.mapPort p (fun c => c.give s.cmd.ports r)).noteReplies) := by
      split
      · exact (h1.trans (sent_latch p 4 _)).trans (sent_raise p 3 1 _)
      · exact h1
    dsimp only
    cases (pooled s.cmd.ports c).fits r.words
    · simp only [Bool.false_eq_true, if_false]
      split
      · rename_i hp; subst hp
        exact (h2.trans (sent_bump 0 1 _)).trans (sent_stage 0 _ _ _ _ _)
      · exact h2.trans (sent_stage p _ _ _ _ _)
    · simpa only [if_true] using h2

/-! ## The attention fields of a reply (R42) -/

theorem State.marksGap_congr (p n : Nat) (s t : State) (h : t.cmd.ports = s.cmd.ports) : t.marksGap p n = s.marksGap p n := by
  simp only [State.marksGap, State.port?, h]

/-- What an answer stores in its port leaves the room of the pool as it is. -/
theorem State.marksGap_mapPort (p n q : Nat) (f : CmdPort → CmdPort) (s : State) (hid : ∀ c, (f c).id = c.id) (hq : ∀ c, (f c).q = c.q) :
    (s.mapPort q f).marksGap p n = s.marksGap p n := by
  have hp : (s.mapPort q f).port? p = if p = q then (s.port? p).map f else s.port? p := State.port?_mapPort _ _ _ _ hid
  have hu : ∀ l : List CmdPort, l.map (fun c => CmdPort.q (if c.id = q then f c else c)) = l.map CmdPort.q := by
    intro l; apply List.map_congr_left; intro c _; split
    · exact hq c
    · rfl
  have hpool : poolUsed (s.mapPort q f).cmd.ports = poolUsed s.cmd.ports := by
    have := congrArg (fun l => sumN (l.map (fun (x : Queue Reply) => x.used))) (hu s.cmd.ports)
    simpa [poolUsed, State.mapPort, List.map_map, Function.comp_def] using this
  simp only [State.marksGap, pooled, hpool, hp]
  cases s.port? p with
  | none => simp
  | some c => by_cases e : p = q <;> simp [e, hq]

theorem attn_stage (m j i : Nat) (n : Int) (s : State) : (s.stageAdd m j i n).attn = s.attn := by
  unfold State.stageAdd; split <;> rfl

/-- A reply raises the queue event where it starts a GAP marker, and leaves the attention fields alone otherwise. -/
theorem attn_reply (r : Reply) (p : Nat) (s : State) :
    (s.sendReply r p).attn = (if s.marksGap p r.words then s.evQueue 1 else s).attn := by
  unfold State.sendReply
  split
  · rename_i hn
    have : s.marksGap p r.words = false := by simp [State.marksGap, hn]
    simp [this]
  · rename_i c _
    dsimp only
    generalize hm : s.marksGap p r.words = m
    cases m <;> (split <;> (try rw [attn_stage]) <;> (try split) <;> rfl)

/-- Settling brings the attention fields up to date. -/
theorem State.settled_attn (s : State) : s.settled.attn = (s.reattn false).attn := by
  unfold State.settled
  by_cases h : s.pinsSafe = true
  · simp only [h, if_true]
    have e := (State.drivePins_safe (List.range 8) s h).1
    unfold State.drivePins
    rw [e]; rfl
  · simp only [h]; rfl

/-- An answered command, settled: its reply is stored for its port, and nothing else has changed but what a reply changes. -/
theorem answer_spec (h : Hdr) (op : Nat) (code : Byte) (detail : Nat) (results : List Word) (u : State)
    (hp : (u.port? h.port).isSome = true) :
    Replied h op code detail results (u.answer h op code detail results).settled ∧
    OnlyReplied h.port u (u.answer h op code detail results).settled := by
  let f : CmdPort → CmdPort := fun c => { c with expected := h.seq + 1, last := some (u.buildReply h op code detail results) }
  let v := u.served h.half h.port
  have hf : ∀ c : CmdPort, (f c).id = c.id := fun _ => rfl
  have hs := sent_reply (u.buildReply h op code detail results) h.port (v.mapPort h.port f)
  have hat := attn_reply (u.buildReply h op code detail results) h.port (v.mapPort h.port f)
  have ha : u.answer h op code detail results = (v.mapPort h.port f).sendReply (u.buildReply h op code detail results) h.port := rfl
  rw [← ha] at hs hat
  have hset := State.settled_frame (u.answer h op code detail results)
  have hv : ∀ q, v.port? q = u.port? q := fun _ => rfl
  have hr : (u.answer h op code detail results).settled.reply? h.port = some (u.buildReply h op code detail results) := by
    have e1 : (u.answer h op code detail results).settled.reply? h.port = (u.answer h op code detail results).reply? h.port := by
      rw [hset]; rfl
    rw [e1, hs.last, State.reply?, State.port?_mapPort _ _ _ _ hf, hv]
    obtain ⟨c, hc⟩ := Option.isSome_iff_exists.mp hp
    simp [hc, f]
  constructor
  · exact ⟨u.buildReply h op code detail results, hr, rfl, rfl, rfl, rfl, rfl, rfl, rfl⟩
  · constructor
    · rw [hset, hs.frame]; rfl
    · exact ⟨h.half, by rw [hset]; exact hs.cmd⟩
    · have hw : (u.answer h op code detail results).settled.replyWords h.port = (u.buildReply h op code detail results).words := by
        simp [State.replyWords, hr]
      have hg : (v.mapPort h.port f).marksGap h.port (u.buildReply h op code detail results).words =
          u.marksGap h.port (u.buildReply h op code detail results).words := by
        rw [State.marksGap_mapPort _ _ _ _ _ hf (fun _ => rfl)]; exact State.marksGap_congr _ _ _ _ rfl
      rw [State.settled_attn, hw, ← hg]
      have hfr := hs.frame
      have key : ((u.answer h op code detail results).reattn false).attn =
          (State.reattn false { u with attn := (u.answer h op code detail results).attn }).attn := by
        rw [hfr]; rfl
      rw [key, hat]
      split <;> rfl
    · intro q hq
      have : (u.answer h op code detail results).settled.port? q = (u.answer h op code detail results).port? q := by rw [hset]; rfl
      rw [this, hs.ports q hq, State.port?_mapPort _ _ _ _ hf]; simp [hq, hv]
    · intro a ha'; rw [hset]; exact hs.ctr a ha'
    · intro a ha'; rw [hset]; exact hs.evt a ha'
    · intro a ha'; rw [hset]; exact hs.cor a ha'
    · intro hsafe
      have h2 : (u.answer h op code detail results).pinsSafe = false := by rw [hs.frame]; exact hsafe
      rw [State.settled_pins _ h2, hs.frame]; rfl

/-- A packet that is taken runs its command's body and is answered. -/
theorem serve_taken (op : Nat) (h : Hdr) (ps : List Word) (body : Hdr → List Word → State → Res) (s : State)
    (ht : s.takes op h ps = true) :
    s.serve op h ps body =
      (body h ps s).after ((body h ps s).st.answer h op (body h ps s).code (body h ps s).detail (body h ps s).results) := by
  simp only [State.takes, Bool.and_eq_true, Bool.not_eq_true', Option.isNone_iff_eq_none] at ht
  simp [State.serve, State.run, ht.1.1, ht.1.2, ht.2]

/-- The port of a packet that is taken is allocated. -/
theorem takes_port (op : Nat) (h : Hdr) (ps : List Word) (s : State) (ht : s.takes op h ps = true) : (s.port? h.port).isSome = true := by
  simp only [State.takes, State.accepts, Bool.and_eq_true] at ht
  exact ht.1.1.2

/-- A command whose body answers OK and leaves the ports allocated: its reply and its effect. -/
theorem serve_ok (op detail : Nat) (h : Hdr) (ps results : List Word) (body : Hdr → List Word → State → Res) (s u : State)
    (ht : s.takes op h ps = true) (hb : body h ps s = Res.ok u results detail) (hp : (u.port? h.port).isSome = true) :
    Replied h op codeOk detail results (s.serve op h ps body).settled ∧ OnlyReplied h.port u (s.serve op h ps body).settled := by
  rw [serve_taken op h ps body s ht, hb]
  exact answer_spec h op codeOk detail results u hp

/-- A command whose body answers OK_PENDING. -/
theorem serve_pending (op : Nat) (h : Hdr) (ps results : List Word) (body : Hdr → List Word → State → Res) (s u : State)
    (ht : s.takes op h ps = true) (hb : body h ps s = Res.pending u results) (hp : (u.port? h.port).isSome = true) :
    Replied h op codePending 0 results (s.serve op h ps body).settled ∧ OnlyReplied h.port u (s.serve op h ps body).settled := by
  rw [serve_taken op h ps body s ht, hb]
  exact answer_spec h op codePending 0 results u hp

end Sys2Proof.Machine
end

