-- ==== Sys2Proof/Laws/Rows.lean ====
section
/-! SUPPORT. What the write and the read of one register do: the lemmas a proof about a row that names one register cites. -/

namespace Sys2Proof.Machine

theorem OnlyReplied.rw {p : Nat} {u t : State} (h : OnlyReplied p u t) (hf : Half) (x : Nat) : t.rw hf x = u.rw hf x := by
  rw [h.frame]; cases hf <;> rfl

/-! ## Counting a configuration write -/

/-- Staging a count changes the recorder's staging buffer alone. -/
theorem State.stageAdd_frame (m j i : Nat) (n : Int) (s : State) :
    s.stageAdd m j i n = { s with rcd := { s.rcd with stage := (s.stageAdd m j i n).rcd.stage } } := by
  unfold State.stageAdd; split <;> rfl

theorem State.countCfg_frame (h : Half) (b p : Nat) (s : State) :
    s.countCfg h b p = { s with rcd := { s.rcd with stage := (s.countCfg h b p).rcd.stage } } := by
  unfold State.countCfg
  split
  · rfl
  · dsimp only
    rw [State.stageAdd_frame 0x0001 _ (4 + p), State.stageAdd_frame 0x0001 _ (if p = 0 then 1 else 2), State.stageAdd_frame 0x0001 _ 0]

theorem State.noted_frame (h : Hdr) (hf : Half) (a : Nat) (s : State) :
    s.noted h hf a = { s with rcd := { s.rcd with stage := (s.noted h hf a).rcd.stage } } := State.countCfg_frame _ _ _ _

@[simp] theorem State.noted_cmd (h : Hdr) (hf : Half) (a : Nat) (s : State) : (s.noted h hf a).cmd = s.cmd := by rw [State.noted_frame]
@[simp] theorem State.noted_rw (h : Hdr) (hf hf' : Half) (a x : Nat) (s : State) : (s.noted h hf a).rw hf' x = s.rw hf' x := by
  rw [State.noted_frame]; cases hf' <;> rfl
@[simp] theorem State.noted_comaUp (h : Hdr) (hf : Half) (a : Nat) (s : State) : (s.noted h hf a).comaUp = s.comaUp := by
  rw [State.noted_frame]; rfl

/-! ## One register -/

/-- The write of one word to one register that is no fault source's configuration. -/
theorem row_writes (c : Instr) (h : Hdr) (hf : Half) (a : Nat) (w : Word) (s u : State)
    (hx : exec c s = .next (State.settled (s.writeRow hf a w h))) (ht : s.takesWrite h hf a w = true)
    (hr : isReg hf a = true) (ha : a < 2 ^ 32) (hn : inst (fltBase hf + 0x80) 0x10 (fltCount hf) 0xC a = none)
    (hu : (s.noted h hf a).writeReg hf a w = u) (hp : u.cmd.portIds = s.cmd.portIds) : Writes c h hf s u := by
  simp only [State.takesWrite, Bool.and_eq_true, Option.isNone_iff_eq_none] at ht
  have ea : (w32 a).toNat = a := (BitVec.toNat_ofNat a 32).trans (Nat.mod_eq_of_lt ha)
  refine ⟨_, hx, ?_⟩
  unfold State.writeRow
  rw [serve_taken _ _ _ _ _ ht.1]
  have hb : cmdRegWrite (hdrOn hf h) [w32 a, w] s = { Res.ok u with after := id } := by
    have e1 : forcesOf hf a [w] = id := by funext x; simp [forcesOf, hn]
    simp only [State.noted] at hu
    simp [cmdRegWrite, par, nth, hdrOn, ea, hr, checkRun, State.refusesAt, ht.2, writeRun, hu, e1]
  rw [hb]
  refine answer_spec (hdrOn hf h) 0x0101 codeOk 0 [] u ?_
  rw [State.port?_ids _ s _ hp]; exact takes_port _ _ _ _ ht.1

/-- The read of one register. -/
theorem row_reads (c : Instr) (h : Hdr) (hf : Half) (a : Nat) (s u : State)
    (hx : exec c s = .next (State.settled (s.readRow hf a h))) (ht : s.takesRead h hf a = true) (hr : isReg hf a = true) (ha : a < 2 ^ 32)
    (hu : s.readClear hf a = u) (hp : u.cmd.portIds = s.cmd.portIds) : Reads c h hf a s u := by
  have ea : (w32 a).toNat = a := (BitVec.toNat_ofNat a 32).trans (Nat.mod_eq_of_lt ha)
  refine ⟨_, hx, ?_⟩
  unfold State.readRow
  unfold State.takesRead at ht
  rw [serve_taken _ _ _ _ _ ht]
  have hb : cmdRegRead (hdrOn hf h) [w32 a, 1] s = Res.ok u [s.regValue hf a] := by
    simp [cmdRegRead, arity, par, nth, hdrOn, ea, hr, readRun, hu, addrs, outside]
  rw [hb]
  refine answer_spec (hdrOn hf h) 0x0100 codeOk 0 [s.regValue hf a] u ?_
  rw [State.port?_ids _ s _ hp]; exact takes_port _ _ _ _ ht

end Sys2Proof.Machine
end

