-- ==== Sys2Proof/Laws/PortsKept.lean ====
section
/-! SUPPORT. The shared operations leave the command ports alone: what a command's effect does besides its reply never touches them. -/

namespace Sys2Proof.Machine

/-! ## Operations that are one update -/

@[simp] theorem State.mapRegs_cmd (h : Half) (f : RegFile → RegFile) (s : State) : (s.mapRegs h f).cmd = s.cmd := rfl
@[simp] theorem State.putRw_cmd (h : Half) (a : Nat) (w : Word) (s : State) : (s.putRw h a w).cmd = s.cmd := rfl
@[simp] theorem State.bump_cmd (h : Half) (a n : Nat) (s : State) : (s.bump h a n).cmd = s.cmd := rfl
@[simp] theorem State.latch_cmd (h : Half) (a : Nat) (w : Word) (s : State) : (s.latch h a w).cmd = s.cmd := rfl
@[simp] theorem State.putCor_cmd (h : Half) (a : Nat) (w : Word) (s : State) : (s.putCor h a w).cmd = s.cmd := rfl
@[simp] theorem State.clearCtr_cmd (h : Half) (lo hi : Nat) (s : State) : (s.clearCtr h lo hi).cmd = s.cmd := rfl
@[simp] theorem State.reattn_cmd (b : Bool) (s : State) : (s.reattn b).cmd = s.cmd := rfl
@[simp] theorem State.raise_cmd (i l : Nat) (s : State) : (s.raise i l).cmd = s.cmd := rfl
@[simp] theorem State.mapSrc_cmd (h : Half) (n : Nat) (f : FltSrc → FltSrc) (s : State) : (s.mapSrc h n f).cmd = s.cmd := rfl
@[simp] theorem State.mapDom_cmd (d : Dom) (f : Domain → Domain) (s : State) : (s.mapDom d f).cmd = s.cmd := rfl
@[simp] theorem State.mapPin_cmd (p : Nat) (f : Pin → Pin) (s : State) : (s.mapPin p f).cmd = s.cmd := rfl
@[simp] theorem State.mapGse_cmd (c : Nat) (f : Goose → Goose) (s : State) : (s.mapGse c f).cmd = s.cmd := rfl
@[simp] theorem State.mapStream_cmd (i : Nat) (f : Stream → Stream) (s : State) : (s.mapStream i f).cmd = s.cmd := rfl
@[simp] theorem State.mapPrt_cmd (p : Nat) (f : Port → Port) (s : State) : (s.mapPrt p f).cmd = s.cmd := rfl
@[simp] theorem State.mapNb_cmd (k : Nat) (f : Nb → Nb) (s : State) : (s.mapNb k f).cmd = s.cmd := rfl
@[simp] theorem State.mapLbe_cmd (e : Nat) (f : Lbe → Lbe) (s : State) : (s.mapLbe e f).cmd = s.cmd := rfl
@[simp] theorem State.mapCores_cmd (h : Half) (f : List CoreState → List CoreState) (s : State) : (s.mapCores h f).cmd = s.cmd := rfl
@[simp] theorem State.putStage_cmd (g : Stage) (s : State) : (s.putStage g).cmd = s.cmd := rfl
@[simp] theorem State.putRule_cmd (r : RuleSt) (s : State) : (s.putRule r).cmd = s.cmd := rfl
@[simp] theorem State.errp_cmd (s : State) : s.errp.cmd = s.cmd := rfl
@[simp] theorem State.othersNow_cmd (s : State) : s.othersNow.cmd = s.cmd := rfl
@[simp] theorem State.holdDrop_cmd (s : State) : s.holdDrop.cmd = s.cmd := rfl
@[simp] theorem State.kindMism_cmd (s : State) : s.kindMism.cmd = s.cmd := rfl
@[simp] theorem State.mapPoint_cmd (m : Nat) (f : Point → Point) (s : State) : (s.mapPoint m f).cmd = s.cmd := rfl
@[simp] theorem State.mapPul_cmd (p : Nat) (f : Pul → Pul) (s : State) : (s.mapPul p f).cmd = s.cmd := rfl
@[simp] theorem State.stageAdd_cmd (m j i : Nat) (n : Int) (s : State) : (s.stageAdd m j i n).cmd = s.cmd := by rw [State.stageAdd_frame]

/-- A fold of steps that keep the command ports keeps them. -/
theorem ports_foldl {α : Type} (f : State → α → State) (hf : ∀ s a, (f s a).cmd.portIds = s.cmd.portIds) (l : List α) :
    ∀ s, (l.foldl f s).cmd.portIds = s.cmd.portIds := by
  induction l with
  | nil => intro s; rfl
  | cons a r ih => intro s; rw [List.foldl_cons, ih, hf]

/-- The same where an accumulator goes along. -/
theorem ports_foldl_fst {α β : Type} (f : State × β → α → State × β) (hf : ∀ p a, (f p a).1.cmd.portIds = p.1.cmd.portIds) (l : List α) :
    ∀ p, (l.foldl f p).1.cmd.portIds = p.1.cmd.portIds := by
  induction l with
  | nil => intro s; rfl
  | cons a r ih => intro s; rw [List.foldl_cons, ih, hf]

/-! ## Answers and records -/

theorem portIds_map (p : Nat) (f : CmdPort → CmdPort) (hf : ∀ c, (f c).id = c.id) (s : State) :
    (s.mapPort p f).cmd.portIds = s.cmd.portIds := by
  simp only [State.mapPort, Cmd.portIds, List.map_map]
  apply List.map_congr_left; intro c _
  simp only [Function.comp_apply]; split
  · exact hf c
  · rfl

@[simp] theorem State.sendReply_ports (r : Reply) (p : Nat) (s : State) : (s.sendReply r p).cmd.portIds = s.cmd.portIds := by
  unfold State.sendReply; split
  · rfl
  · have e : ∀ x : State, x.cmd.portIds = s.cmd.portIds → (State.bumpC 0x0B0054 1 x).cmd.portIds = s.cmd.portIds := fun _ h => h
    have k : (s.mapPort p (fun c => c.give s.cmd.ports r)).noteReplies.cmd.portIds = s.cmd.portIds :=
      portIds_map _ _ (fun c => (CmdPort.give_id _ _ c).1) s
    dsimp only; repeat' split
    all_goals first
      | exact k
      | (rw [State.stageAdd_cmd]; (try rw [State.bump_cmd]); exact k)

@[simp] theorem State.answer_ports (h : Hdr) (op : Nat) (c : Byte) (d : Nat) (r : List Word) (s : State) :
    (s.answer h op c d r).cmd.portIds = s.cmd.portIds := by
  unfold State.answer; dsimp only
  rw [State.sendReply_ports, portIds_map]
  · rfl
  · intro _; rfl

@[simp] theorem State.refuseWaiting_ports (s : State) : s.refuseWaiting.cmd.portIds = s.cmd.portIds := by
  unfold State.refuseWaiting; split
  · rfl
  · rw [ports_foldl _ (fun s k => by rw [State.answer_ports, portIds_map]; intro _; rfl)]; rfl

@[simp] theorem State.clearNucleus_ports (s : State) : s.clearNucleus.cmd.portIds = s.cmd.portIds := by
  unfold State.clearNucleus; rw [State.refuseWaiting_ports]; rfl

/-! ## The recorder -/

@[simp] theorem State.summDropped_cmd (s : State) : s.summDropped.cmd = s.cmd := by unfold State.summDropped; dsimp only; rw [State.stageAdd_cmd]; rfl

@[simp] theorem State.closeSumm_cmd (x : Summ) (s : State) : (s.closeSumm x).cmd = s.cmd := by
  unfold State.closeSumm
  extract_lets queued r0 repeats
  have h : ∀ t, repeats = some t → t.cmd = s.cmd := by
    intro t ht; simp only [repeats] at ht
    split at ht
    · cases ht
    · generalize queued = q at ht
      cases q with
      | some z => dsimp only at ht; split at ht <;> cases ht; rfl
      | none => dsimp only at ht; (repeat' split at ht) <;> cases ht; rfl
  cases hr : repeats with
  | some t => exact h t hr
  | none =>
    change (if s.rcd.q.fits 1 then s else s.summDropped).cmd = s.cmd
    split <;> simp

@[simp] theorem State.recNote_cmd (c n : Nat) (s : State) : (s.recNote c n).cmd = s.cmd := State.closeSumm_cmd _ _
@[simp] theorem State.recBegin_cmd (s : State) : s.recBegin.cmd = s.cmd := by unfold State.recBegin; simp

/-! ## Streams, outputs and alarm changes -/

@[simp] theorem State.drivePin_ports (p : Nat) (s : State) : (s.drivePin p).cmd.portIds = s.cmd.portIds := by
  unfold State.drivePin; dsimp only; repeat' split
  all_goals rfl

@[simp] theorem State.drivePins_ports (s : State) : s.drivePins.cmd.portIds = s.cmd.portIds := ports_foldl _ (fun s p => State.drivePin_ports p s) _ s

@[simp] theorem State.dropHeadsN_ports (i n : Nat) : ∀ s : State, (s.dropHeadsN i n).cmd.portIds = s.cmd.portIds := by
  induction n with
  | zero => intro s; rfl
  | succ n ih =>
    intro s; unfold State.dropHeadsN; dsimp only; repeat' split
    all_goals first | rfl | (rw [ih]; rfl)

@[simp] theorem State.dropHeads_ports (i : Nat) (s : State) : (s.dropHeads i).cmd.portIds = s.cmd.portIds := State.dropHeadsN_ports _ _ _

@[simp] theorem State.pushFrame_ports (i : Nat) (f : EgrFrame) (s : State) : (s.pushFrame i f).cmd.portIds = s.cmd.portIds := by
  unfold State.pushFrame; dsimp only; repeat' split
  all_goals simp

@[simp] theorem State.sendGoose_ports (c : Nat) (s : State) : (s.sendGoose c).cmd.portIds = s.cmd.portIds := by
  unfold State.sendGoose; dsimp only; repeat' split
  all_goals simp

@[simp] theorem State.gooseMake_ports (f a : Bool) (c : Nat) (s : State) : (s.gooseMake f a c).cmd.portIds = s.cmd.portIds := by
  unfold State.gooseMake; dsimp only; split <;> simp

@[simp] theorem State.gooseNew_ports (b : Bool) (c : Nat) (s : State) : (s.gooseNew b c).cmd.portIds = s.cmd.portIds := by
  unfold State.gooseNew; repeat' split
  all_goals simp

@[simp] theorem State.refreshGoose_ports (s : State) : s.refreshGoose.cmd.portIds = s.cmd.portIds :=
  ports_foldl _ (fun s c => State.gooseNew_ports false c s) _ s

@[simp] theorem State.refreshPins_ports (l : List Word) (s : State) : (s.refreshPins l).cmd.portIds = s.cmd.portIds := by
  unfold State.refreshPins; simp

@[simp] theorem State.sendDatagram_ports (i : Nat) (b : List Byte) (s : State) : (s.sendDatagram i b).cmd.portIds = s.cmd.portIds := by
  unfold State.sendDatagram; dsimp only; split <;> simp

@[simp] theorem State.datagrams_ports (c : Change) (s : State) : (s.datagrams c).cmd.portIds = s.cmd.portIds :=
  ports_foldl _ (fun _ _ => by simp) _ s

@[simp] theorem State.dropOryN_ports (n : Nat) : ∀ s : State, (s.dropOryN n).cmd.portIds = s.cmd.portIds := by
  induction n with
  | zero => intro s; rfl
  | succ n ih =>
    intro s; unfold State.dropOryN; dsimp only; repeat' split
    all_goals first | rfl | (rw [ih]; rfl)

@[simp] theorem State.pushOry_ports (f : OryFrame) (s : State) : (s.pushOry f).cmd.portIds = s.cmd.portIds := by
  unfold State.pushOry State.dropOry; dsimp only; repeat' split
  all_goals simp

@[simp] theorem State.originate_ports (k d t f : Nat) (p : List Byte) (s : State) : (s.originate k d t f p).cmd.portIds = s.cmd.portIds := by
  unfold State.originate; simp

@[simp] theorem State.toParent_ports (t f : Nat) (p : List Byte) (s : State) : (s.toParent t f p).cmd.portIds = s.cmd.portIds := by
  unfold State.toParent; repeat' split
  all_goals simp

@[simp] theorem State.countChange_ports (c : Change) (s : State) : (s.countChange c).cmd.portIds = s.cmd.portIds := by
  unfold State.countChange; dsimp only; repeat' split
  all_goals rfl

@[simp] theorem State.changeFrames_ports (c : Change) (s : State) : (s.changeFrames c).cmd.portIds = s.cmd.portIds := by
  unfold State.changeFrames; dsimp only; repeat' split
  all_goals simp

@[simp] theorem State.applyChanges_ports (cs : List Change) (s : State) : (s.applyChanges cs).cmd.portIds = s.cmd.portIds := by
  unfold State.applyChanges; split
  · rfl
  · dsimp only
    rw [ports_foldl _ (fun s c => State.changeFrames_ports c s), State.refreshGoose_ports, State.refreshPins_ports,
      ports_foldl _ (fun s c => State.countChange_ports c s)]

@[simp] theorem State.changes_ports (cs : List Change) (s : State) : (s.changes cs).cmd.portIds = s.cmd.portIds := by
  unfold State.changes; split
  · rfl
  · simp

/-! ## Faults -/

@[simp] theorem State.offerState_ports (c o : Nat) (own any : Bool) (v : Word) (x k : Nat) (s : State) :
    (s.offerState c o own any v x k).cmd.portIds = s.cmd.portIds := by
  unfold State.offerState; dsimp only; repeat' split
  all_goals first
    | rfl
    | refine (State.changes_ports _ _).trans (ports_foldl_fst _ (fun _ _ => ?_) _ _)
      rfl

@[simp] theorem State.offerOsc_ports (e k : Nat) (b own any : Bool) (m : Mode) (s : State) : (s.offerOsc e k b own any m).cmd.portIds = s.cmd.portIds := by
  unfold State.offerOsc; dsimp only; rw [State.offerState_ports]

@[simp] theorem State.clearOsc_ports (e k : Nat) (b : Bool) (s : State) : (s.clearOsc e k b).cmd.portIds = s.cmd.portIds := by
  unfold State.clearOsc; dsimp only
  cases b <;> (repeat' split) <;> first | rfl | (rw [State.offerOsc_ports]; rfl)

@[simp] theorem State.clearOscAll_ports (e : Nat) (s : State) : (s.clearOscAll e).cmd.portIds = s.cmd.portIds := by
  unfold State.clearOscAll
  refine ports_foldl _ (fun x k => ?_) _ s
  rw [State.clearOsc_ports, State.clearOsc_ports]

@[simp] theorem State.lbeRestart_ports (e : Nat) (s : State) : (s.lbeRestart e).cmd.portIds = s.cmd.portIds := by
  unfold State.lbeRestart; simp

@[simp] theorem State.lbeHalt_ports (e : Nat) (s : State) : (s.lbeHalt e).cmd.portIds = s.cmd.portIds := by
  unfold State.lbeHalt; simp

@[simp] theorem State.enterGrave_ports (h : Half) (n : Nat) (s : State) : (s.enterGrave h n).cmd.portIds = s.cmd.portIds := by
  unfold State.enterGrave; dsimp only; split <;> simp

@[simp] theorem State.trapIn_ports (h : Half) (s : State) : (s.trapIn h).cmd.portIds = s.cmd.portIds := by
  unfold State.trapIn; cases h <;> (dsimp only; split <;> rfl)

@[simp] theorem State.crst_ports (h : Half) (n : Nat) (s : State) : (s.crst h n).cmd.portIds = s.cmd.portIds := by
  unfold State.crst; split
  · unfold State.resetNucleus; simp
  · rfl

@[simp] theorem State.react_ports (h : Half) (n : Nat) (real : Bool) (r : Word) (s : State) : (s.react h n real r).cmd.portIds = s.cmd.portIds := by
  unfold State.react
  extract_lets s2 due s3
  have e2 : s2.cmd.portIds = s.cmd.portIds := by simp only [s2]; split <;> simp
  have e3 : s3.cmd.portIds = s.cmd.portIds := by rw [← e2]; simp only [s3]; (repeat' split) <;> simp
  rw [← e3]; split <;> simp

@[simp] theorem State.reactAttn_cmd (h : Half) (n : Nat) (r : Word) (s : State) : (s.reactAttn h n r).cmd = s.cmd := by
  unfold State.reactAttn; repeat' split
  all_goals rfl

@[simp] theorem State.enterBut_ports (w : Word) (h : Half) (n : Nat) (real forced : Bool) (s : State) :
    (s.enterBut w h n real forced).cmd.portIds = s.cmd.portIds := by
  unfold State.enterBut; simp

@[simp] theorem State.joinReal_ports (w : Word) (h : Half) (n : Nat) (s : State) : (s.joinReal w h n).cmd.portIds = s.cmd.portIds := by
  unfold State.joinReal; simp

@[simp] theorem State.occurBut_ports (w : Word) (h : Half) (n : Nat) (r f : Bool) (s : State) : (s.occurBut w h n r f).1.cmd.portIds = s.cmd.portIds := by
  unfold State.occurBut; repeat' split
  all_goals simp

@[simp] theorem State.nbDown_ports (k : Nat) (s : State) : (s.nbDown k).cmd.portIds = s.cmd.portIds := by
  unfold State.nbDown; dsimp only; repeat' split
  all_goals simp

@[simp] theorem State.portDown_ports (p : Nat) (s : State) : (s.portDown p).cmd.portIds = s.cmd.portIds := by
  unfold State.portDown; dsimp only; split
  · rfl
  · rw [ports_foldl _ (fun s k => State.nbDown_ports k s)]; rfl

@[simp] theorem State.spareCore_ports (h : Half) (n : Nat) (s : State) : (s.spareCore h n).cmd.portIds = s.cmd.portIds := by
  unfold State.spareCore; dsimp only; repeat' split
  all_goals simp

@[simp] theorem State.roverAborted_cmd (s : State) : s.roverAborted.cmd = s.cmd := rfl

@[simp] theorem State.domainClear_ports (d : ResetDomain) (s : State) : (s.domainClear d).cmd.portIds = s.cmd.portIds := by
  unfold State.domainClear; dsimp only; repeat' split
  all_goals simp

@[simp] theorem State.brst_ports (h : Half) (d : ResetDomain) (s : State) : (s.brst h d).cmd.portIds = s.cmd.portIds := by
  unfold State.brst; dsimp only; split <;> simp

@[simp] theorem State.srcEffect_ports (h : Half) (n : Nat) (s : State) : (s.srcEffect h n).cmd.portIds = s.cmd.portIds := by
  unfold State.srcEffect; dsimp only; repeat' split
  all_goals simp

@[simp] theorem State.occurrenceBut_ports (w : Word) (l : List ResetDomain) (h : Half) (n : Nat) (r f : Bool) (s : State) :
    (s.occurrenceBut w l h n r f).1.cmd.portIds = s.cmd.portIds := by
  unfold State.occurrenceBut
  have e1 := State.occurBut_ports w h n r f s
  generalize s.occurBut w h n r f = y at e1
  obtain ⟨s1, taken⟩ := y
  dsimp only at e1 ⊢; repeat' split
  all_goals simp [e1]

@[simp] theorem State.occurrence_ports (h : Half) (n : Nat) (r f : Bool) (s : State) : (s.occurrence h n r f).cmd.portIds = s.cmd.portIds :=
  State.occurrenceBut_ports _ _ _ _ _ _ _

/-! ## The time base -/

@[simp] theorem State.recordOps_ports (l : List (PendOp × Byte)) (s : State) : (s.recordOps l).cmd.portIds = s.cmd.portIds := by
  unfold State.recordOps; split <;> rfl

@[simp] theorem State.complete_ports (f : PendOp → Bool) (c : Byte) (s : State) : (s.complete f c).cmd.portIds = s.cmd.portIds := by
  unfold State.complete; dsimp only; rw [State.recordOps_ports]; rfl

@[simp] theorem State.completeOp_ports (h : Half) (o r : Nat) (c : Byte) (s : State) : (s.completeOp h o r c).cmd.portIds = s.cmd.portIds :=
  State.complete_ports _ _ _

@[simp] theorem State.judgeHealth_ports (d : Dom) (s : State) : (s.judgeHealth d).cmd.portIds = s.cmd.portIds := by
  unfold State.judgeHealth; dsimp only; repeat' split
  all_goals rfl

@[simp] theorem State.judgeDisagree_ports (s : State) : s.judgeDisagree.cmd.portIds = s.cmd.portIds := by
  unfold State.judgeDisagree; dsimp only; repeat' split
  all_goals rfl

@[simp] theorem State.toP5_ports (s : State) : s.toP5.cmd.portIds = s.cmd.portIds := by
  unfold State.toP5; split
  · simp
  · rfl

/-! ## The energy cycles a time step ends -/

@[simp] theorem State.pulseCount_ports (p m k e hz f : Nat) (s : State) : (s.pulseCount p m k e hz f).cmd.portIds = s.cmd.portIds := by
  unfold State.pulseCount; dsimp only; split <;> rfl

@[simp] theorem State.addAcc_ports (m k n : Nat) (s : State) : (s.addAcc m k n).cmd.portIds = s.cmd.portIds := by
  unfold State.addAcc; dsimp only; split <;> rfl

@[simp] theorem State.snapHead_ports (s : State) : s.snapHead.cmd.portIds = s.cmd.portIds := by
  unfold State.snapHead; repeat' split
  all_goals rfl

@[simp] theorem State.snapDone_ports (s : State) : s.snapDone.cmd.portIds = s.cmd.portIds := ports_foldl _ (fun s _ => State.snapHead_ports s) _ s

@[simp] theorem State.snapCycle_ports (m : Nat) (s : State) : (s.snapCycle m).cmd.portIds = s.cmd.portIds := by
  unfold State.snapCycle; rw [State.snapDone_ports]

@[simp] theorem State.creditCycle_ports (m hz f a b c d : Nat) (s : State) : (s.creditCycle m hz f a b c d).cmd.portIds = s.cmd.portIds := by
  unfold State.creditCycle
  rw [ports_foldl _ (fun s i => by rw [State.pulseCount_ports, State.pulseCount_ports]), State.addAcc_ports, State.addAcc_ports]

@[simp] theorem State.judgeDirection_ports (m d : Nat) (p : Bool) (s : State) : (s.judgeDirection m d p).cmd.portIds = s.cmd.portIds := by
  unfold State.judgeDirection; dsimp only; repeat' split
  all_goals simp

@[simp] theorem State.noteCycle_ports (m : Nat) (x : Bool) (p q : Word) (a : Nat) (s : State) : (s.noteCycle m x p q a).cmd.portIds = s.cmd.portIds := by
  unfold State.noteCycle; cases x <;> rfl

@[simp] theorem State.addCycle_ports (m hz f : Nat) (p q : Rat) (x w : Bool) (s : State) : (s.addCycle m hz f p q x w).cmd.portIds = s.cmd.portIds := by
  unfold State.addCycle; dsimp only
  cases w <;> (repeat' split)
  all_goals first
    | rw [State.judgeDirection_ports, State.noteCycle_ports]
    | rw [State.noteCycle_ports]
  all_goals exact State.creditCycle_ports _ _ _ _ _ _ _ _

@[simp] theorem State.cutPoint_ports (t m : Nat) (s : State) : (s.cutPoint t m).cmd.portIds = s.cmd.portIds := by
  unfold State.cutPoint
  refine ports_foldl _ (fun s d => ?_) _ s
  dsimp only; repeat' split
  · rfl
  · unfold State.addWave; simp
  · unfold State.addPhasor; simp

@[simp] theorem State.cutCycles_ports (s : State) : s.cutCycles.cmd.portIds = s.cmd.portIds := by
  unfold State.cutCycles; split
  · rfl
  · dsimp only; rw [State.snapDone_ports]
    exact ports_foldl _ (fun s x => State.cutPoint_ports _ _ s) _ s

@[simp] theorem State.rebaseCycles_cmd (j : Int) (s : State) : (s.rebaseCycles j).cmd = s.cmd := rfl
@[simp] theorem State.steer_cmd (s : State) : s.steer.cmd = s.cmd := by unfold State.steer; split <;> rfl

@[simp] theorem State.stepTo_ports (d : Dom) (s : State) : (s.stepTo d).cmd.portIds = s.cmd.portIds := by
  unfold State.stepTo; simp

@[simp] theorem State.judgeStep_ports (s : State) : s.judgeStep.cmd.portIds = s.cmd.portIds := by
  unfold State.judgeStep; dsimp only; repeat' split
  all_goals simp

@[simp] theorem State.switchTo_ports (d : Dom) (s : State) : (s.switchTo d).cmd.portIds = s.cmd.portIds := by unfold State.switchTo; simp
@[simp] theorem State.toFault_ports (s : State) : s.toFault.cmd.portIds = s.cmd.portIds := by unfold State.toFault; simp
@[simp] theorem State.toHoldover_ports (s : State) : s.toHoldover.cmd.portIds = s.cmd.portIds := rfl
@[simp] theorem State.toLocked_ports (s : State) : s.toLocked.cmd.portIds = s.cmd.portIds := by unfold State.toLocked; simp

@[simp] theorem State.judgeSteer_ports (s : State) : s.judgeSteer.cmd.portIds = s.cmd.portIds := by
  unfold State.judgeSteer; dsimp only; repeat' split
  all_goals simp

@[simp] theorem State.judge_ports (s : State) : s.judge.cmd.portIds = s.cmd.portIds := by
  unfold State.judge; split <;> simp

end Sys2Proof.Machine
end

