-- ==== Sys2Proof/Laws/State.lean ====
section
/-! SUPPORT. What each shared update of one component leaves: one lemma for each field of State, so that no proof unfolds a record
update. -/

namespace Sys2Proof.Machine


/-! ### State.mapRegs -/

@[simp] theorem State.mapRegs_pending (h : Half) (f : RegFile → RegFile) (s : State) : (s.mapRegs h f).pending = s.pending := rfl
@[simp] theorem State.mapRegs_pwr (h : Half) (f : RegFile → RegFile) (s : State) : (s.mapRegs h f).pwr = s.pwr := rfl
@[simp] theorem State.mapRegs_attn (h : Half) (f : RegFile → RegFile) (s : State) : (s.mapRegs h f).attn = s.attn := rfl
@[simp] theorem State.mapRegs_flt (h : Half) (f : RegFile → RegFile) (s : State) : (s.mapRegs h f).flt = s.flt := rfl
@[simp] theorem State.mapRegs_core (h : Half) (f : RegFile → RegFile) (s : State) : (s.mapRegs h f).core = s.core := rfl
@[simp] theorem State.mapRegs_tlkC (h : Half) (f : RegFile → RegFile) (s : State) : (s.mapRegs h f).tlkC = s.tlkC := rfl
@[simp] theorem State.mapRegs_tlkN (h : Half) (f : RegFile → RegFile) (s : State) : (s.mapRegs h f).tlkN = s.tlkN := rfl
@[simp] theorem State.mapRegs_sys (h : Half) (f : RegFile → RegFile) (s : State) : (s.mapRegs h f).sys = s.sys := rfl
@[simp] theorem State.mapRegs_prt (h : Half) (f : RegFile → RegFile) (s : State) : (s.mapRegs h f).prt = s.prt := rfl
@[simp] theorem State.mapRegs_xcv (h : Half) (f : RegFile → RegFile) (s : State) : (s.mapRegs h f).xcv = s.xcv := rfl
@[simp] theorem State.mapRegs_tim (h : Half) (f : RegFile → RegFile) (s : State) : (s.mapRegs h f).tim = s.tim := rfl
@[simp] theorem State.mapRegs_aon (h : Half) (f : RegFile → RegFile) (s : State) : (s.mapRegs h f).aon = s.aon := rfl
@[simp] theorem State.mapRegs_keys (h : Half) (f : RegFile → RegFile) (s : State) : (s.mapRegs h f).keys = s.keys := rfl
@[simp] theorem State.mapRegs_afe (h : Half) (f : RegFile → RegFile) (s : State) : (s.mapRegs h f).afe = s.afe := rfl
@[simp] theorem State.mapRegs_tbl (h : Half) (f : RegFile → RegFile) (s : State) : (s.mapRegs h f).tbl = s.tbl := rfl
@[simp] theorem State.mapRegs_ing (h : Half) (f : RegFile → RegFile) (s : State) : (s.mapRegs h f).ing = s.ing := rfl
@[simp] theorem State.mapRegs_aln (h : Half) (f : RegFile → RegFile) (s : State) : (s.mapRegs h f).aln = s.aln := rfl
@[simp] theorem State.mapRegs_phx (h : Half) (f : RegFile → RegFile) (s : State) : (s.mapRegs h f).phx = s.phx := rfl
@[simp] theorem State.mapRegs_isl (h : Half) (f : RegFile → RegFile) (s : State) : (s.mapRegs h f).isl = s.isl := rfl
@[simp] theorem State.mapRegs_lbe (h : Half) (f : RegFile → RegFile) (s : State) : (s.mapRegs h f).lbe = s.lbe := rfl
@[simp] theorem State.mapRegs_alm (h : Half) (f : RegFile → RegFile) (s : State) : (s.mapRegs h f).alm = s.alm := rfl
@[simp] theorem State.mapRegs_egr (h : Half) (f : RegFile → RegFile) (s : State) : (s.mapRegs h f).egr = s.egr := rfl
@[simp] theorem State.mapRegs_ory (h : Half) (f : RegFile → RegFile) (s : State) : (s.mapRegs h f).ory = s.ory := rfl
@[simp] theorem State.mapRegs_nrg (h : Half) (f : RegFile → RegFile) (s : State) : (s.mapRegs h f).nrg = s.nrg := rfl
@[simp] theorem State.mapRegs_pul (h : Half) (f : RegFile → RegFile) (s : State) : (s.mapRegs h f).pul = s.pul := rfl
@[simp] theorem State.mapRegs_rcd (h : Half) (f : RegFile → RegFile) (s : State) : (s.mapRegs h f).rcd = s.rcd := rfl
@[simp] theorem State.mapRegs_upd (h : Half) (f : RegFile → RegFile) (s : State) : (s.mapRegs h f).upd = s.upd := rfl
@[simp] theorem State.mapRegs_free (h : Half) (f : RegFile → RegFile) (s : State) : (s.mapRegs h f).free = s.free := rfl

/-! ### State.putRw -/

@[simp] theorem State.putRw_pending (h : Half) (a : Nat) (w : Word) (s : State) : (s.putRw h a w).pending = s.pending := rfl
@[simp] theorem State.putRw_pwr (h : Half) (a : Nat) (w : Word) (s : State) : (s.putRw h a w).pwr = s.pwr := rfl
@[simp] theorem State.putRw_attn (h : Half) (a : Nat) (w : Word) (s : State) : (s.putRw h a w).attn = s.attn := rfl
@[simp] theorem State.putRw_flt (h : Half) (a : Nat) (w : Word) (s : State) : (s.putRw h a w).flt = s.flt := rfl
@[simp] theorem State.putRw_core (h : Half) (a : Nat) (w : Word) (s : State) : (s.putRw h a w).core = s.core := rfl
@[simp] theorem State.putRw_tlkC (h : Half) (a : Nat) (w : Word) (s : State) : (s.putRw h a w).tlkC = s.tlkC := rfl
@[simp] theorem State.putRw_tlkN (h : Half) (a : Nat) (w : Word) (s : State) : (s.putRw h a w).tlkN = s.tlkN := rfl
@[simp] theorem State.putRw_sys (h : Half) (a : Nat) (w : Word) (s : State) : (s.putRw h a w).sys = s.sys := rfl
@[simp] theorem State.putRw_prt (h : Half) (a : Nat) (w : Word) (s : State) : (s.putRw h a w).prt = s.prt := rfl
@[simp] theorem State.putRw_xcv (h : Half) (a : Nat) (w : Word) (s : State) : (s.putRw h a w).xcv = s.xcv := rfl
@[simp] theorem State.putRw_tim (h : Half) (a : Nat) (w : Word) (s : State) : (s.putRw h a w).tim = s.tim := rfl
@[simp] theorem State.putRw_aon (h : Half) (a : Nat) (w : Word) (s : State) : (s.putRw h a w).aon = s.aon := rfl
@[simp] theorem State.putRw_keys (h : Half) (a : Nat) (w : Word) (s : State) : (s.putRw h a w).keys = s.keys := rfl
@[simp] theorem State.putRw_afe (h : Half) (a : Nat) (w : Word) (s : State) : (s.putRw h a w).afe = s.afe := rfl
@[simp] theorem State.putRw_tbl (h : Half) (a : Nat) (w : Word) (s : State) : (s.putRw h a w).tbl = s.tbl := rfl
@[simp] theorem State.putRw_ing (h : Half) (a : Nat) (w : Word) (s : State) : (s.putRw h a w).ing = s.ing := rfl
@[simp] theorem State.putRw_aln (h : Half) (a : Nat) (w : Word) (s : State) : (s.putRw h a w).aln = s.aln := rfl
@[simp] theorem State.putRw_phx (h : Half) (a : Nat) (w : Word) (s : State) : (s.putRw h a w).phx = s.phx := rfl
@[simp] theorem State.putRw_isl (h : Half) (a : Nat) (w : Word) (s : State) : (s.putRw h a w).isl = s.isl := rfl
@[simp] theorem State.putRw_lbe (h : Half) (a : Nat) (w : Word) (s : State) : (s.putRw h a w).lbe = s.lbe := rfl
@[simp] theorem State.putRw_alm (h : Half) (a : Nat) (w : Word) (s : State) : (s.putRw h a w).alm = s.alm := rfl
@[simp] theorem State.putRw_egr (h : Half) (a : Nat) (w : Word) (s : State) : (s.putRw h a w).egr = s.egr := rfl
@[simp] theorem State.putRw_ory (h : Half) (a : Nat) (w : Word) (s : State) : (s.putRw h a w).ory = s.ory := rfl
@[simp] theorem State.putRw_nrg (h : Half) (a : Nat) (w : Word) (s : State) : (s.putRw h a w).nrg = s.nrg := rfl
@[simp] theorem State.putRw_pul (h : Half) (a : Nat) (w : Word) (s : State) : (s.putRw h a w).pul = s.pul := rfl
@[simp] theorem State.putRw_rcd (h : Half) (a : Nat) (w : Word) (s : State) : (s.putRw h a w).rcd = s.rcd := rfl
@[simp] theorem State.putRw_upd (h : Half) (a : Nat) (w : Word) (s : State) : (s.putRw h a w).upd = s.upd := rfl
@[simp] theorem State.putRw_free (h : Half) (a : Nat) (w : Word) (s : State) : (s.putRw h a w).free = s.free := rfl

/-! ### State.putCor -/

@[simp] theorem State.putCor_pending (h : Half) (a : Nat) (w : Word) (s : State) : (s.putCor h a w).pending = s.pending := rfl
@[simp] theorem State.putCor_pwr (h : Half) (a : Nat) (w : Word) (s : State) : (s.putCor h a w).pwr = s.pwr := rfl
@[simp] theorem State.putCor_attn (h : Half) (a : Nat) (w : Word) (s : State) : (s.putCor h a w).attn = s.attn := rfl
@[simp] theorem State.putCor_flt (h : Half) (a : Nat) (w : Word) (s : State) : (s.putCor h a w).flt = s.flt := rfl
@[simp] theorem State.putCor_core (h : Half) (a : Nat) (w : Word) (s : State) : (s.putCor h a w).core = s.core := rfl
@[simp] theorem State.putCor_tlkC (h : Half) (a : Nat) (w : Word) (s : State) : (s.putCor h a w).tlkC = s.tlkC := rfl
@[simp] theorem State.putCor_tlkN (h : Half) (a : Nat) (w : Word) (s : State) : (s.putCor h a w).tlkN = s.tlkN := rfl
@[simp] theorem State.putCor_sys (h : Half) (a : Nat) (w : Word) (s : State) : (s.putCor h a w).sys = s.sys := rfl
@[simp] theorem State.putCor_prt (h : Half) (a : Nat) (w : Word) (s : State) : (s.putCor h a w).prt = s.prt := rfl
@[simp] theorem State.putCor_xcv (h : Half) (a : Nat) (w : Word) (s : State) : (s.putCor h a w).xcv = s.xcv := rfl
@[simp] theorem State.putCor_tim (h : Half) (a : Nat) (w : Word) (s : State) : (s.putCor h a w).tim = s.tim := rfl
@[simp] theorem State.putCor_aon (h : Half) (a : Nat) (w : Word) (s : State) : (s.putCor h a w).aon = s.aon := rfl
@[simp] theorem State.putCor_keys (h : Half) (a : Nat) (w : Word) (s : State) : (s.putCor h a w).keys = s.keys := rfl
@[simp] theorem State.putCor_afe (h : Half) (a : Nat) (w : Word) (s : State) : (s.putCor h a w).afe = s.afe := rfl
@[simp] theorem State.putCor_tbl (h : Half) (a : Nat) (w : Word) (s : State) : (s.putCor h a w).tbl = s.tbl := rfl
@[simp] theorem State.putCor_ing (h : Half) (a : Nat) (w : Word) (s : State) : (s.putCor h a w).ing = s.ing := rfl
@[simp] theorem State.putCor_aln (h : Half) (a : Nat) (w : Word) (s : State) : (s.putCor h a w).aln = s.aln := rfl
@[simp] theorem State.putCor_phx (h : Half) (a : Nat) (w : Word) (s : State) : (s.putCor h a w).phx = s.phx := rfl
@[simp] theorem State.putCor_isl (h : Half) (a : Nat) (w : Word) (s : State) : (s.putCor h a w).isl = s.isl := rfl
@[simp] theorem State.putCor_lbe (h : Half) (a : Nat) (w : Word) (s : State) : (s.putCor h a w).lbe = s.lbe := rfl
@[simp] theorem State.putCor_alm (h : Half) (a : Nat) (w : Word) (s : State) : (s.putCor h a w).alm = s.alm := rfl
@[simp] theorem State.putCor_egr (h : Half) (a : Nat) (w : Word) (s : State) : (s.putCor h a w).egr = s.egr := rfl
@[simp] theorem State.putCor_ory (h : Half) (a : Nat) (w : Word) (s : State) : (s.putCor h a w).ory = s.ory := rfl
@[simp] theorem State.putCor_nrg (h : Half) (a : Nat) (w : Word) (s : State) : (s.putCor h a w).nrg = s.nrg := rfl
@[simp] theorem State.putCor_pul (h : Half) (a : Nat) (w : Word) (s : State) : (s.putCor h a w).pul = s.pul := rfl
@[simp] theorem State.putCor_rcd (h : Half) (a : Nat) (w : Word) (s : State) : (s.putCor h a w).rcd = s.rcd := rfl
@[simp] theorem State.putCor_upd (h : Half) (a : Nat) (w : Word) (s : State) : (s.putCor h a w).upd = s.upd := rfl
@[simp] theorem State.putCor_free (h : Half) (a : Nat) (w : Word) (s : State) : (s.putCor h a w).free = s.free := rfl

/-! ### State.bump -/

@[simp] theorem State.bump_pending (h : Half) (a n : Nat) (s : State) : (s.bump h a n).pending = s.pending := rfl
@[simp] theorem State.bump_pwr (h : Half) (a n : Nat) (s : State) : (s.bump h a n).pwr = s.pwr := rfl
@[simp] theorem State.bump_attn (h : Half) (a n : Nat) (s : State) : (s.bump h a n).attn = s.attn := rfl
@[simp] theorem State.bump_flt (h : Half) (a n : Nat) (s : State) : (s.bump h a n).flt = s.flt := rfl
@[simp] theorem State.bump_core (h : Half) (a n : Nat) (s : State) : (s.bump h a n).core = s.core := rfl
@[simp] theorem State.bump_tlkC (h : Half) (a n : Nat) (s : State) : (s.bump h a n).tlkC = s.tlkC := rfl
@[simp] theorem State.bump_tlkN (h : Half) (a n : Nat) (s : State) : (s.bump h a n).tlkN = s.tlkN := rfl
@[simp] theorem State.bump_sys (h : Half) (a n : Nat) (s : State) : (s.bump h a n).sys = s.sys := rfl
@[simp] theorem State.bump_prt (h : Half) (a n : Nat) (s : State) : (s.bump h a n).prt = s.prt := rfl
@[simp] theorem State.bump_xcv (h : Half) (a n : Nat) (s : State) : (s.bump h a n).xcv = s.xcv := rfl
@[simp] theorem State.bump_tim (h : Half) (a n : Nat) (s : State) : (s.bump h a n).tim = s.tim := rfl
@[simp] theorem State.bump_aon (h : Half) (a n : Nat) (s : State) : (s.bump h a n).aon = s.aon := rfl
@[simp] theorem State.bump_keys (h : Half) (a n : Nat) (s : State) : (s.bump h a n).keys = s.keys := rfl
@[simp] theorem State.bump_afe (h : Half) (a n : Nat) (s : State) : (s.bump h a n).afe = s.afe := rfl
@[simp] theorem State.bump_tbl (h : Half) (a n : Nat) (s : State) : (s.bump h a n).tbl = s.tbl := rfl
@[simp] theorem State.bump_ing (h : Half) (a n : Nat) (s : State) : (s.bump h a n).ing = s.ing := rfl
@[simp] theorem State.bump_aln (h : Half) (a n : Nat) (s : State) : (s.bump h a n).aln = s.aln := rfl
@[simp] theorem State.bump_phx (h : Half) (a n : Nat) (s : State) : (s.bump h a n).phx = s.phx := rfl
@[simp] theorem State.bump_isl (h : Half) (a n : Nat) (s : State) : (s.bump h a n).isl = s.isl := rfl
@[simp] theorem State.bump_lbe (h : Half) (a n : Nat) (s : State) : (s.bump h a n).lbe = s.lbe := rfl
@[simp] theorem State.bump_alm (h : Half) (a n : Nat) (s : State) : (s.bump h a n).alm = s.alm := rfl
@[simp] theorem State.bump_egr (h : Half) (a n : Nat) (s : State) : (s.bump h a n).egr = s.egr := rfl
@[simp] theorem State.bump_ory (h : Half) (a n : Nat) (s : State) : (s.bump h a n).ory = s.ory := rfl
@[simp] theorem State.bump_nrg (h : Half) (a n : Nat) (s : State) : (s.bump h a n).nrg = s.nrg := rfl
@[simp] theorem State.bump_pul (h : Half) (a n : Nat) (s : State) : (s.bump h a n).pul = s.pul := rfl
@[simp] theorem State.bump_rcd (h : Half) (a n : Nat) (s : State) : (s.bump h a n).rcd = s.rcd := rfl
@[simp] theorem State.bump_upd (h : Half) (a n : Nat) (s : State) : (s.bump h a n).upd = s.upd := rfl
@[simp] theorem State.bump_free (h : Half) (a n : Nat) (s : State) : (s.bump h a n).free = s.free := rfl

/-! ### State.latch -/

@[simp] theorem State.latch_pending (h : Half) (a b : Nat) (s : State) : (s.latch h a b).pending = s.pending := rfl
@[simp] theorem State.latch_pwr (h : Half) (a b : Nat) (s : State) : (s.latch h a b).pwr = s.pwr := rfl
@[simp] theorem State.latch_attn (h : Half) (a b : Nat) (s : State) : (s.latch h a b).attn = s.attn := rfl
@[simp] theorem State.latch_flt (h : Half) (a b : Nat) (s : State) : (s.latch h a b).flt = s.flt := rfl
@[simp] theorem State.latch_core (h : Half) (a b : Nat) (s : State) : (s.latch h a b).core = s.core := rfl
@[simp] theorem State.latch_tlkC (h : Half) (a b : Nat) (s : State) : (s.latch h a b).tlkC = s.tlkC := rfl
@[simp] theorem State.latch_tlkN (h : Half) (a b : Nat) (s : State) : (s.latch h a b).tlkN = s.tlkN := rfl
@[simp] theorem State.latch_sys (h : Half) (a b : Nat) (s : State) : (s.latch h a b).sys = s.sys := rfl
@[simp] theorem State.latch_prt (h : Half) (a b : Nat) (s : State) : (s.latch h a b).prt = s.prt := rfl
@[simp] theorem State.latch_xcv (h : Half) (a b : Nat) (s : State) : (s.latch h a b).xcv = s.xcv := rfl
@[simp] theorem State.latch_tim (h : Half) (a b : Nat) (s : State) : (s.latch h a b).tim = s.tim := rfl
@[simp] theorem State.latch_aon (h : Half) (a b : Nat) (s : State) : (s.latch h a b).aon = s.aon := rfl
@[simp] theorem State.latch_keys (h : Half) (a b : Nat) (s : State) : (s.latch h a b).keys = s.keys := rfl
@[simp] theorem State.latch_afe (h : Half) (a b : Nat) (s : State) : (s.latch h a b).afe = s.afe := rfl
@[simp] theorem State.latch_tbl (h : Half) (a b : Nat) (s : State) : (s.latch h a b).tbl = s.tbl := rfl
@[simp] theorem State.latch_ing (h : Half) (a b : Nat) (s : State) : (s.latch h a b).ing = s.ing := rfl
@[simp] theorem State.latch_aln (h : Half) (a b : Nat) (s : State) : (s.latch h a b).aln = s.aln := rfl
@[simp] theorem State.latch_phx (h : Half) (a b : Nat) (s : State) : (s.latch h a b).phx = s.phx := rfl
@[simp] theorem State.latch_isl (h : Half) (a b : Nat) (s : State) : (s.latch h a b).isl = s.isl := rfl
@[simp] theorem State.latch_lbe (h : Half) (a b : Nat) (s : State) : (s.latch h a b).lbe = s.lbe := rfl
@[simp] theorem State.latch_alm (h : Half) (a b : Nat) (s : State) : (s.latch h a b).alm = s.alm := rfl
@[simp] theorem State.latch_egr (h : Half) (a b : Nat) (s : State) : (s.latch h a b).egr = s.egr := rfl
@[simp] theorem State.latch_ory (h : Half) (a b : Nat) (s : State) : (s.latch h a b).ory = s.ory := rfl
@[simp] theorem State.latch_nrg (h : Half) (a b : Nat) (s : State) : (s.latch h a b).nrg = s.nrg := rfl
@[simp] theorem State.latch_pul (h : Half) (a b : Nat) (s : State) : (s.latch h a b).pul = s.pul := rfl
@[simp] theorem State.latch_rcd (h : Half) (a b : Nat) (s : State) : (s.latch h a b).rcd = s.rcd := rfl
@[simp] theorem State.latch_upd (h : Half) (a b : Nat) (s : State) : (s.latch h a b).upd = s.upd := rfl
@[simp] theorem State.latch_free (h : Half) (a b : Nat) (s : State) : (s.latch h a b).free = s.free := rfl

/-! ### State.clearCtr -/

@[simp] theorem State.clearCtr_pending (h : Half) (a b : Nat) (s : State) : (s.clearCtr h a b).pending = s.pending := rfl
@[simp] theorem State.clearCtr_pwr (h : Half) (a b : Nat) (s : State) : (s.clearCtr h a b).pwr = s.pwr := rfl
@[simp] theorem State.clearCtr_attn (h : Half) (a b : Nat) (s : State) : (s.clearCtr h a b).attn = s.attn := rfl
@[simp] theorem State.clearCtr_flt (h : Half) (a b : Nat) (s : State) : (s.clearCtr h a b).flt = s.flt := rfl
@[simp] theorem State.clearCtr_core (h : Half) (a b : Nat) (s : State) : (s.clearCtr h a b).core = s.core := rfl
@[simp] theorem State.clearCtr_tlkC (h : Half) (a b : Nat) (s : State) : (s.clearCtr h a b).tlkC = s.tlkC := rfl
@[simp] theorem State.clearCtr_tlkN (h : Half) (a b : Nat) (s : State) : (s.clearCtr h a b).tlkN = s.tlkN := rfl
@[simp] theorem State.clearCtr_sys (h : Half) (a b : Nat) (s : State) : (s.clearCtr h a b).sys = s.sys := rfl
@[simp] theorem State.clearCtr_prt (h : Half) (a b : Nat) (s : State) : (s.clearCtr h a b).prt = s.prt := rfl
@[simp] theorem State.clearCtr_xcv (h : Half) (a b : Nat) (s : State) : (s.clearCtr h a b).xcv = s.xcv := rfl
@[simp] theorem State.clearCtr_tim (h : Half) (a b : Nat) (s : State) : (s.clearCtr h a b).tim = s.tim := rfl
@[simp] theorem State.clearCtr_aon (h : Half) (a b : Nat) (s : State) : (s.clearCtr h a b).aon = s.aon := rfl
@[simp] theorem State.clearCtr_keys (h : Half) (a b : Nat) (s : State) : (s.clearCtr h a b).keys = s.keys := rfl
@[simp] theorem State.clearCtr_afe (h : Half) (a b : Nat) (s : State) : (s.clearCtr h a b).afe = s.afe := rfl
@[simp] theorem State.clearCtr_tbl (h : Half) (a b : Nat) (s : State) : (s.clearCtr h a b).tbl = s.tbl := rfl
@[simp] theorem State.clearCtr_ing (h : Half) (a b : Nat) (s : State) : (s.clearCtr h a b).ing = s.ing := rfl
@[simp] theorem State.clearCtr_aln (h : Half) (a b : Nat) (s : State) : (s.clearCtr h a b).aln = s.aln := rfl
@[simp] theorem State.clearCtr_phx (h : Half) (a b : Nat) (s : State) : (s.clearCtr h a b).phx = s.phx := rfl
@[simp] theorem State.clearCtr_isl (h : Half) (a b : Nat) (s : State) : (s.clearCtr h a b).isl = s.isl := rfl
@[simp] theorem State.clearCtr_lbe (h : Half) (a b : Nat) (s : State) : (s.clearCtr h a b).lbe = s.lbe := rfl
@[simp] theorem State.clearCtr_alm (h : Half) (a b : Nat) (s : State) : (s.clearCtr h a b).alm = s.alm := rfl
@[simp] theorem State.clearCtr_egr (h : Half) (a b : Nat) (s : State) : (s.clearCtr h a b).egr = s.egr := rfl
@[simp] theorem State.clearCtr_ory (h : Half) (a b : Nat) (s : State) : (s.clearCtr h a b).ory = s.ory := rfl
@[simp] theorem State.clearCtr_nrg (h : Half) (a b : Nat) (s : State) : (s.clearCtr h a b).nrg = s.nrg := rfl
@[simp] theorem State.clearCtr_pul (h : Half) (a b : Nat) (s : State) : (s.clearCtr h a b).pul = s.pul := rfl
@[simp] theorem State.clearCtr_rcd (h : Half) (a b : Nat) (s : State) : (s.clearCtr h a b).rcd = s.rcd := rfl
@[simp] theorem State.clearCtr_upd (h : Half) (a b : Nat) (s : State) : (s.clearCtr h a b).upd = s.upd := rfl
@[simp] theorem State.clearCtr_free (h : Half) (a b : Nat) (s : State) : (s.clearCtr h a b).free = s.free := rfl

/-! ### State.mapPort -/

@[simp] theorem State.mapPort_pending (p : Nat) (f : CmdPort → CmdPort) (s : State) : (s.mapPort p f).pending = s.pending := rfl
@[simp] theorem State.mapPort_pwr (p : Nat) (f : CmdPort → CmdPort) (s : State) : (s.mapPort p f).pwr = s.pwr := rfl
@[simp] theorem State.mapPort_attn (p : Nat) (f : CmdPort → CmdPort) (s : State) : (s.mapPort p f).attn = s.attn := rfl
@[simp] theorem State.mapPort_regC (p : Nat) (f : CmdPort → CmdPort) (s : State) : (s.mapPort p f).regC = s.regC := rfl
@[simp] theorem State.mapPort_regN (p : Nat) (f : CmdPort → CmdPort) (s : State) : (s.mapPort p f).regN = s.regN := rfl
@[simp] theorem State.mapPort_flt (p : Nat) (f : CmdPort → CmdPort) (s : State) : (s.mapPort p f).flt = s.flt := rfl
@[simp] theorem State.mapPort_core (p : Nat) (f : CmdPort → CmdPort) (s : State) : (s.mapPort p f).core = s.core := rfl
@[simp] theorem State.mapPort_tlkC (p : Nat) (f : CmdPort → CmdPort) (s : State) : (s.mapPort p f).tlkC = s.tlkC := rfl
@[simp] theorem State.mapPort_tlkN (p : Nat) (f : CmdPort → CmdPort) (s : State) : (s.mapPort p f).tlkN = s.tlkN := rfl
@[simp] theorem State.mapPort_sys (p : Nat) (f : CmdPort → CmdPort) (s : State) : (s.mapPort p f).sys = s.sys := rfl
@[simp] theorem State.mapPort_prt (p : Nat) (f : CmdPort → CmdPort) (s : State) : (s.mapPort p f).prt = s.prt := rfl
@[simp] theorem State.mapPort_xcv (p : Nat) (f : CmdPort → CmdPort) (s : State) : (s.mapPort p f).xcv = s.xcv := rfl
@[simp] theorem State.mapPort_tim (p : Nat) (f : CmdPort → CmdPort) (s : State) : (s.mapPort p f).tim = s.tim := rfl
@[simp] theorem State.mapPort_aon (p : Nat) (f : CmdPort → CmdPort) (s : State) : (s.mapPort p f).aon = s.aon := rfl
@[simp] theorem State.mapPort_keys (p : Nat) (f : CmdPort → CmdPort) (s : State) : (s.mapPort p f).keys = s.keys := rfl
@[simp] theorem State.mapPort_afe (p : Nat) (f : CmdPort → CmdPort) (s : State) : (s.mapPort p f).afe = s.afe := rfl
@[simp] theorem State.mapPort_tbl (p : Nat) (f : CmdPort → CmdPort) (s : State) : (s.mapPort p f).tbl = s.tbl := rfl
@[simp] theorem State.mapPort_ing (p : Nat) (f : CmdPort → CmdPort) (s : State) : (s.mapPort p f).ing = s.ing := rfl
@[simp] theorem State.mapPort_aln (p : Nat) (f : CmdPort → CmdPort) (s : State) : (s.mapPort p f).aln = s.aln := rfl
@[simp] theorem State.mapPort_phx (p : Nat) (f : CmdPort → CmdPort) (s : State) : (s.mapPort p f).phx = s.phx := rfl
@[simp] theorem State.mapPort_isl (p : Nat) (f : CmdPort → CmdPort) (s : State) : (s.mapPort p f).isl = s.isl := rfl
@[simp] theorem State.mapPort_lbe (p : Nat) (f : CmdPort → CmdPort) (s : State) : (s.mapPort p f).lbe = s.lbe := rfl
@[simp] theorem State.mapPort_alm (p : Nat) (f : CmdPort → CmdPort) (s : State) : (s.mapPort p f).alm = s.alm := rfl
@[simp] theorem State.mapPort_egr (p : Nat) (f : CmdPort → CmdPort) (s : State) : (s.mapPort p f).egr = s.egr := rfl
@[simp] theorem State.mapPort_ory (p : Nat) (f : CmdPort → CmdPort) (s : State) : (s.mapPort p f).ory = s.ory := rfl
@[simp] theorem State.mapPort_nrg (p : Nat) (f : CmdPort → CmdPort) (s : State) : (s.mapPort p f).nrg = s.nrg := rfl
@[simp] theorem State.mapPort_pul (p : Nat) (f : CmdPort → CmdPort) (s : State) : (s.mapPort p f).pul = s.pul := rfl
@[simp] theorem State.mapPort_rcd (p : Nat) (f : CmdPort → CmdPort) (s : State) : (s.mapPort p f).rcd = s.rcd := rfl
@[simp] theorem State.mapPort_upd (p : Nat) (f : CmdPort → CmdPort) (s : State) : (s.mapPort p f).upd = s.upd := rfl
@[simp] theorem State.mapPort_free (p : Nat) (f : CmdPort → CmdPort) (s : State) : (s.mapPort p f).free = s.free := rfl

/-! ### State.mapSrc -/

@[simp] theorem State.mapSrc_pending (h : Half) (n : Nat) (f : FltSrc → FltSrc) (s : State) : (s.mapSrc h n f).pending = s.pending := rfl
@[simp] theorem State.mapSrc_pwr (h : Half) (n : Nat) (f : FltSrc → FltSrc) (s : State) : (s.mapSrc h n f).pwr = s.pwr := rfl
@[simp] theorem State.mapSrc_attn (h : Half) (n : Nat) (f : FltSrc → FltSrc) (s : State) : (s.mapSrc h n f).attn = s.attn := rfl
@[simp] theorem State.mapSrc_regC (h : Half) (n : Nat) (f : FltSrc → FltSrc) (s : State) : (s.mapSrc h n f).regC = s.regC := rfl
@[simp] theorem State.mapSrc_regN (h : Half) (n : Nat) (f : FltSrc → FltSrc) (s : State) : (s.mapSrc h n f).regN = s.regN := rfl
@[simp] theorem State.mapSrc_core (h : Half) (n : Nat) (f : FltSrc → FltSrc) (s : State) : (s.mapSrc h n f).core = s.core := rfl
@[simp] theorem State.mapSrc_tlkC (h : Half) (n : Nat) (f : FltSrc → FltSrc) (s : State) : (s.mapSrc h n f).tlkC = s.tlkC := rfl
@[simp] theorem State.mapSrc_tlkN (h : Half) (n : Nat) (f : FltSrc → FltSrc) (s : State) : (s.mapSrc h n f).tlkN = s.tlkN := rfl
@[simp] theorem State.mapSrc_sys (h : Half) (n : Nat) (f : FltSrc → FltSrc) (s : State) : (s.mapSrc h n f).sys = s.sys := rfl
@[simp] theorem State.mapSrc_prt (h : Half) (n : Nat) (f : FltSrc → FltSrc) (s : State) : (s.mapSrc h n f).prt = s.prt := rfl
@[simp] theorem State.mapSrc_xcv (h : Half) (n : Nat) (f : FltSrc → FltSrc) (s : State) : (s.mapSrc h n f).xcv = s.xcv := rfl
@[simp] theorem State.mapSrc_tim (h : Half) (n : Nat) (f : FltSrc → FltSrc) (s : State) : (s.mapSrc h n f).tim = s.tim := rfl
@[simp] theorem State.mapSrc_aon (h : Half) (n : Nat) (f : FltSrc → FltSrc) (s : State) : (s.mapSrc h n f).aon = s.aon := rfl
@[simp] theorem State.mapSrc_keys (h : Half) (n : Nat) (f : FltSrc → FltSrc) (s : State) : (s.mapSrc h n f).keys = s.keys := rfl
@[simp] theorem State.mapSrc_afe (h : Half) (n : Nat) (f : FltSrc → FltSrc) (s : State) : (s.mapSrc h n f).afe = s.afe := rfl
@[simp] theorem State.mapSrc_tbl (h : Half) (n : Nat) (f : FltSrc → FltSrc) (s : State) : (s.mapSrc h n f).tbl = s.tbl := rfl
@[simp] theorem State.mapSrc_ing (h : Half) (n : Nat) (f : FltSrc → FltSrc) (s : State) : (s.mapSrc h n f).ing = s.ing := rfl
@[simp] theorem State.mapSrc_aln (h : Half) (n : Nat) (f : FltSrc → FltSrc) (s : State) : (s.mapSrc h n f).aln = s.aln := rfl
@[simp] theorem State.mapSrc_phx (h : Half) (n : Nat) (f : FltSrc → FltSrc) (s : State) : (s.mapSrc h n f).phx = s.phx := rfl
@[simp] theorem State.mapSrc_isl (h : Half) (n : Nat) (f : FltSrc → FltSrc) (s : State) : (s.mapSrc h n f).isl = s.isl := rfl
@[simp] theorem State.mapSrc_lbe (h : Half) (n : Nat) (f : FltSrc → FltSrc) (s : State) : (s.mapSrc h n f).lbe = s.lbe := rfl
@[simp] theorem State.mapSrc_alm (h : Half) (n : Nat) (f : FltSrc → FltSrc) (s : State) : (s.mapSrc h n f).alm = s.alm := rfl
@[simp] theorem State.mapSrc_egr (h : Half) (n : Nat) (f : FltSrc → FltSrc) (s : State) : (s.mapSrc h n f).egr = s.egr := rfl
@[simp] theorem State.mapSrc_ory (h : Half) (n : Nat) (f : FltSrc → FltSrc) (s : State) : (s.mapSrc h n f).ory = s.ory := rfl
@[simp] theorem State.mapSrc_nrg (h : Half) (n : Nat) (f : FltSrc → FltSrc) (s : State) : (s.mapSrc h n f).nrg = s.nrg := rfl
@[simp] theorem State.mapSrc_pul (h : Half) (n : Nat) (f : FltSrc → FltSrc) (s : State) : (s.mapSrc h n f).pul = s.pul := rfl
@[simp] theorem State.mapSrc_rcd (h : Half) (n : Nat) (f : FltSrc → FltSrc) (s : State) : (s.mapSrc h n f).rcd = s.rcd := rfl
@[simp] theorem State.mapSrc_upd (h : Half) (n : Nat) (f : FltSrc → FltSrc) (s : State) : (s.mapSrc h n f).upd = s.upd := rfl
@[simp] theorem State.mapSrc_free (h : Half) (n : Nat) (f : FltSrc → FltSrc) (s : State) : (s.mapSrc h n f).free = s.free := rfl

/-! ### State.mapDom -/

@[simp] theorem State.mapDom_pending (d : Dom) (f : Domain → Domain) (s : State) : (s.mapDom d f).pending = s.pending := rfl
@[simp] theorem State.mapDom_pwr (d : Dom) (f : Domain → Domain) (s : State) : (s.mapDom d f).pwr = s.pwr := rfl
@[simp] theorem State.mapDom_attn (d : Dom) (f : Domain → Domain) (s : State) : (s.mapDom d f).attn = s.attn := rfl
@[simp] theorem State.mapDom_regC (d : Dom) (f : Domain → Domain) (s : State) : (s.mapDom d f).regC = s.regC := rfl
@[simp] theorem State.mapDom_regN (d : Dom) (f : Domain → Domain) (s : State) : (s.mapDom d f).regN = s.regN := rfl
@[simp] theorem State.mapDom_flt (d : Dom) (f : Domain → Domain) (s : State) : (s.mapDom d f).flt = s.flt := rfl
@[simp] theorem State.mapDom_core (d : Dom) (f : Domain → Domain) (s : State) : (s.mapDom d f).core = s.core := rfl
@[simp] theorem State.mapDom_tlkC (d : Dom) (f : Domain → Domain) (s : State) : (s.mapDom d f).tlkC = s.tlkC := rfl
@[simp] theorem State.mapDom_tlkN (d : Dom) (f : Domain → Domain) (s : State) : (s.mapDom d f).tlkN = s.tlkN := rfl
@[simp] theorem State.mapDom_sys (d : Dom) (f : Domain → Domain) (s : State) : (s.mapDom d f).sys = s.sys := rfl
@[simp] theorem State.mapDom_prt (d : Dom) (f : Domain → Domain) (s : State) : (s.mapDom d f).prt = s.prt := rfl
@[simp] theorem State.mapDom_xcv (d : Dom) (f : Domain → Domain) (s : State) : (s.mapDom d f).xcv = s.xcv := rfl
@[simp] theorem State.mapDom_aon (d : Dom) (f : Domain → Domain) (s : State) : (s.mapDom d f).aon = s.aon := rfl
@[simp] theorem State.mapDom_keys (d : Dom) (f : Domain → Domain) (s : State) : (s.mapDom d f).keys = s.keys := rfl
@[simp] theorem State.mapDom_afe (d : Dom) (f : Domain → Domain) (s : State) : (s.mapDom d f).afe = s.afe := rfl
@[simp] theorem State.mapDom_tbl (d : Dom) (f : Domain → Domain) (s : State) : (s.mapDom d f).tbl = s.tbl := rfl
@[simp] theorem State.mapDom_ing (d : Dom) (f : Domain → Domain) (s : State) : (s.mapDom d f).ing = s.ing := rfl
@[simp] theorem State.mapDom_aln (d : Dom) (f : Domain → Domain) (s : State) : (s.mapDom d f).aln = s.aln := rfl
@[simp] theorem State.mapDom_phx (d : Dom) (f : Domain → Domain) (s : State) : (s.mapDom d f).phx = s.phx := rfl
@[simp] theorem State.mapDom_isl (d : Dom) (f : Domain → Domain) (s : State) : (s.mapDom d f).isl = s.isl := rfl
@[simp] theorem State.mapDom_lbe (d : Dom) (f : Domain → Domain) (s : State) : (s.mapDom d f).lbe = s.lbe := rfl
@[simp] theorem State.mapDom_alm (d : Dom) (f : Domain → Domain) (s : State) : (s.mapDom d f).alm = s.alm := rfl
@[simp] theorem State.mapDom_egr (d : Dom) (f : Domain → Domain) (s : State) : (s.mapDom d f).egr = s.egr := rfl
@[simp] theorem State.mapDom_ory (d : Dom) (f : Domain → Domain) (s : State) : (s.mapDom d f).ory = s.ory := rfl
@[simp] theorem State.mapDom_nrg (d : Dom) (f : Domain → Domain) (s : State) : (s.mapDom d f).nrg = s.nrg := rfl
@[simp] theorem State.mapDom_pul (d : Dom) (f : Domain → Domain) (s : State) : (s.mapDom d f).pul = s.pul := rfl
@[simp] theorem State.mapDom_rcd (d : Dom) (f : Domain → Domain) (s : State) : (s.mapDom d f).rcd = s.rcd := rfl
@[simp] theorem State.mapDom_upd (d : Dom) (f : Domain → Domain) (s : State) : (s.mapDom d f).upd = s.upd := rfl
@[simp] theorem State.mapDom_free (d : Dom) (f : Domain → Domain) (s : State) : (s.mapDom d f).free = s.free := rfl

/-! ### State.mapPrt -/

@[simp] theorem State.mapPrt_pending (p : Nat) (f : Port → Port) (s : State) : (s.mapPrt p f).pending = s.pending := rfl
@[simp] theorem State.mapPrt_pwr (p : Nat) (f : Port → Port) (s : State) : (s.mapPrt p f).pwr = s.pwr := rfl
@[simp] theorem State.mapPrt_attn (p : Nat) (f : Port → Port) (s : State) : (s.mapPrt p f).attn = s.attn := rfl
@[simp] theorem State.mapPrt_regC (p : Nat) (f : Port → Port) (s : State) : (s.mapPrt p f).regC = s.regC := rfl
@[simp] theorem State.mapPrt_regN (p : Nat) (f : Port → Port) (s : State) : (s.mapPrt p f).regN = s.regN := rfl
@[simp] theorem State.mapPrt_flt (p : Nat) (f : Port → Port) (s : State) : (s.mapPrt p f).flt = s.flt := rfl
@[simp] theorem State.mapPrt_core (p : Nat) (f : Port → Port) (s : State) : (s.mapPrt p f).core = s.core := rfl
@[simp] theorem State.mapPrt_tlkC (p : Nat) (f : Port → Port) (s : State) : (s.mapPrt p f).tlkC = s.tlkC := rfl
@[simp] theorem State.mapPrt_tlkN (p : Nat) (f : Port → Port) (s : State) : (s.mapPrt p f).tlkN = s.tlkN := rfl
@[simp] theorem State.mapPrt_sys (p : Nat) (f : Port → Port) (s : State) : (s.mapPrt p f).sys = s.sys := rfl
@[simp] theorem State.mapPrt_xcv (p : Nat) (f : Port → Port) (s : State) : (s.mapPrt p f).xcv = s.xcv := rfl
@[simp] theorem State.mapPrt_tim (p : Nat) (f : Port → Port) (s : State) : (s.mapPrt p f).tim = s.tim := rfl
@[simp] theorem State.mapPrt_aon (p : Nat) (f : Port → Port) (s : State) : (s.mapPrt p f).aon = s.aon := rfl
@[simp] theorem State.mapPrt_keys (p : Nat) (f : Port → Port) (s : State) : (s.mapPrt p f).keys = s.keys := rfl
@[simp] theorem State.mapPrt_afe (p : Nat) (f : Port → Port) (s : State) : (s.mapPrt p f).afe = s.afe := rfl
@[simp] theorem State.mapPrt_tbl (p : Nat) (f : Port → Port) (s : State) : (s.mapPrt p f).tbl = s.tbl := rfl
@[simp] theorem State.mapPrt_ing (p : Nat) (f : Port → Port) (s : State) : (s.mapPrt p f).ing = s.ing := rfl
@[simp] theorem State.mapPrt_aln (p : Nat) (f : Port → Port) (s : State) : (s.mapPrt p f).aln = s.aln := rfl
@[simp] theorem State.mapPrt_phx (p : Nat) (f : Port → Port) (s : State) : (s.mapPrt p f).phx = s.phx := rfl
@[simp] theorem State.mapPrt_isl (p : Nat) (f : Port → Port) (s : State) : (s.mapPrt p f).isl = s.isl := rfl
@[simp] theorem State.mapPrt_lbe (p : Nat) (f : Port → Port) (s : State) : (s.mapPrt p f).lbe = s.lbe := rfl
@[simp] theorem State.mapPrt_alm (p : Nat) (f : Port → Port) (s : State) : (s.mapPrt p f).alm = s.alm := rfl
@[simp] theorem State.mapPrt_egr (p : Nat) (f : Port → Port) (s : State) : (s.mapPrt p f).egr = s.egr := rfl
@[simp] theorem State.mapPrt_ory (p : Nat) (f : Port → Port) (s : State) : (s.mapPrt p f).ory = s.ory := rfl
@[simp] theorem State.mapPrt_nrg (p : Nat) (f : Port → Port) (s : State) : (s.mapPrt p f).nrg = s.nrg := rfl
@[simp] theorem State.mapPrt_pul (p : Nat) (f : Port → Port) (s : State) : (s.mapPrt p f).pul = s.pul := rfl
@[simp] theorem State.mapPrt_rcd (p : Nat) (f : Port → Port) (s : State) : (s.mapPrt p f).rcd = s.rcd := rfl
@[simp] theorem State.mapPrt_upd (p : Nat) (f : Port → Port) (s : State) : (s.mapPrt p f).upd = s.upd := rfl
@[simp] theorem State.mapPrt_free (p : Nat) (f : Port → Port) (s : State) : (s.mapPrt p f).free = s.free := rfl

/-! ### State.mapXcv -/

@[simp] theorem State.mapXcv_pending (n : Nat) (f : Xcv → Xcv) (s : State) : (s.mapXcv n f).pending = s.pending := rfl
@[simp] theorem State.mapXcv_pwr (n : Nat) (f : Xcv → Xcv) (s : State) : (s.mapXcv n f).pwr = s.pwr := rfl
@[simp] theorem State.mapXcv_cmd (n : Nat) (f : Xcv → Xcv) (s : State) : (s.mapXcv n f).cmd = s.cmd := rfl
@[simp] theorem State.mapXcv_attn (n : Nat) (f : Xcv → Xcv) (s : State) : (s.mapXcv n f).attn = s.attn := rfl
@[simp] theorem State.mapXcv_regC (n : Nat) (f : Xcv → Xcv) (s : State) : (s.mapXcv n f).regC = s.regC := rfl
@[simp] theorem State.mapXcv_regN (n : Nat) (f : Xcv → Xcv) (s : State) : (s.mapXcv n f).regN = s.regN := rfl
@[simp] theorem State.mapXcv_flt (n : Nat) (f : Xcv → Xcv) (s : State) : (s.mapXcv n f).flt = s.flt := rfl
@[simp] theorem State.mapXcv_core (n : Nat) (f : Xcv → Xcv) (s : State) : (s.mapXcv n f).core = s.core := rfl
@[simp] theorem State.mapXcv_tlkC (n : Nat) (f : Xcv → Xcv) (s : State) : (s.mapXcv n f).tlkC = s.tlkC := rfl
@[simp] theorem State.mapXcv_tlkN (n : Nat) (f : Xcv → Xcv) (s : State) : (s.mapXcv n f).tlkN = s.tlkN := rfl
@[simp] theorem State.mapXcv_sys (n : Nat) (f : Xcv → Xcv) (s : State) : (s.mapXcv n f).sys = s.sys := rfl
@[simp] theorem State.mapXcv_prt (n : Nat) (f : Xcv → Xcv) (s : State) : (s.mapXcv n f).prt = s.prt := rfl
@[simp] theorem State.mapXcv_tim (n : Nat) (f : Xcv → Xcv) (s : State) : (s.mapXcv n f).tim = s.tim := rfl
@[simp] theorem State.mapXcv_aon (n : Nat) (f : Xcv → Xcv) (s : State) : (s.mapXcv n f).aon = s.aon := rfl
@[simp] theorem State.mapXcv_keys (n : Nat) (f : Xcv → Xcv) (s : State) : (s.mapXcv n f).keys = s.keys := rfl
@[simp] theorem State.mapXcv_afe (n : Nat) (f : Xcv → Xcv) (s : State) : (s.mapXcv n f).afe = s.afe := rfl
@[simp] theorem State.mapXcv_tbl (n : Nat) (f : Xcv → Xcv) (s : State) : (s.mapXcv n f).tbl = s.tbl := rfl
@[simp] theorem State.mapXcv_ing (n : Nat) (f : Xcv → Xcv) (s : State) : (s.mapXcv n f).ing = s.ing := rfl
@[simp] theorem State.mapXcv_aln (n : Nat) (f : Xcv → Xcv) (s : State) : (s.mapXcv n f).aln = s.aln := rfl
@[simp] theorem State.mapXcv_phx (n : Nat) (f : Xcv → Xcv) (s : State) : (s.mapXcv n f).phx = s.phx := rfl
@[simp] theorem State.mapXcv_isl (n : Nat) (f : Xcv → Xcv) (s : State) : (s.mapXcv n f).isl = s.isl := rfl
@[simp] theorem State.mapXcv_lbe (n : Nat) (f : Xcv → Xcv) (s : State) : (s.mapXcv n f).lbe = s.lbe := rfl
@[simp] theorem State.mapXcv_alm (n : Nat) (f : Xcv → Xcv) (s : State) : (s.mapXcv n f).alm = s.alm := rfl
@[simp] theorem State.mapXcv_egr (n : Nat) (f : Xcv → Xcv) (s : State) : (s.mapXcv n f).egr = s.egr := rfl
@[simp] theorem State.mapXcv_ory (n : Nat) (f : Xcv → Xcv) (s : State) : (s.mapXcv n f).ory = s.ory := rfl
@[simp] theorem State.mapXcv_nrg (n : Nat) (f : Xcv → Xcv) (s : State) : (s.mapXcv n f).nrg = s.nrg := rfl
@[simp] theorem State.mapXcv_pul (n : Nat) (f : Xcv → Xcv) (s : State) : (s.mapXcv n f).pul = s.pul := rfl
@[simp] theorem State.mapXcv_rcd (n : Nat) (f : Xcv → Xcv) (s : State) : (s.mapXcv n f).rcd = s.rcd := rfl
@[simp] theorem State.mapXcv_upd (n : Nat) (f : Xcv → Xcv) (s : State) : (s.mapXcv n f).upd = s.upd := rfl
@[simp] theorem State.mapXcv_free (n : Nat) (f : Xcv → Xcv) (s : State) : (s.mapXcv n f).free = s.free := rfl

/-! ### State.mapChain -/

@[simp] theorem State.mapChain_pending (p : Nat) (f : Chain → Chain) (s : State) : (s.mapChain p f).pending = s.pending := rfl
@[simp] theorem State.mapChain_pwr (p : Nat) (f : Chain → Chain) (s : State) : (s.mapChain p f).pwr = s.pwr := rfl
@[simp] theorem State.mapChain_cmd (p : Nat) (f : Chain → Chain) (s : State) : (s.mapChain p f).cmd = s.cmd := rfl
@[simp] theorem State.mapChain_attn (p : Nat) (f : Chain → Chain) (s : State) : (s.mapChain p f).attn = s.attn := rfl
@[simp] theorem State.mapChain_regC (p : Nat) (f : Chain → Chain) (s : State) : (s.mapChain p f).regC = s.regC := rfl
@[simp] theorem State.mapChain_regN (p : Nat) (f : Chain → Chain) (s : State) : (s.mapChain p f).regN = s.regN := rfl
@[simp] theorem State.mapChain_flt (p : Nat) (f : Chain → Chain) (s : State) : (s.mapChain p f).flt = s.flt := rfl
@[simp] theorem State.mapChain_core (p : Nat) (f : Chain → Chain) (s : State) : (s.mapChain p f).core = s.core := rfl
@[simp] theorem State.mapChain_tlkC (p : Nat) (f : Chain → Chain) (s : State) : (s.mapChain p f).tlkC = s.tlkC := rfl
@[simp] theorem State.mapChain_tlkN (p : Nat) (f : Chain → Chain) (s : State) : (s.mapChain p f).tlkN = s.tlkN := rfl
@[simp] theorem State.mapChain_sys (p : Nat) (f : Chain → Chain) (s : State) : (s.mapChain p f).sys = s.sys := rfl
@[simp] theorem State.mapChain_prt (p : Nat) (f : Chain → Chain) (s : State) : (s.mapChain p f).prt = s.prt := rfl
@[simp] theorem State.mapChain_xcv (p : Nat) (f : Chain → Chain) (s : State) : (s.mapChain p f).xcv = s.xcv := rfl
@[simp] theorem State.mapChain_tim (p : Nat) (f : Chain → Chain) (s : State) : (s.mapChain p f).tim = s.tim := rfl
@[simp] theorem State.mapChain_aon (p : Nat) (f : Chain → Chain) (s : State) : (s.mapChain p f).aon = s.aon := rfl
@[simp] theorem State.mapChain_keys (p : Nat) (f : Chain → Chain) (s : State) : (s.mapChain p f).keys = s.keys := rfl
@[simp] theorem State.mapChain_tbl (p : Nat) (f : Chain → Chain) (s : State) : (s.mapChain p f).tbl = s.tbl := rfl
@[simp] theorem State.mapChain_ing (p : Nat) (f : Chain → Chain) (s : State) : (s.mapChain p f).ing = s.ing := rfl
@[simp] theorem State.mapChain_aln (p : Nat) (f : Chain → Chain) (s : State) : (s.mapChain p f).aln = s.aln := rfl
@[simp] theorem State.mapChain_phx (p : Nat) (f : Chain → Chain) (s : State) : (s.mapChain p f).phx = s.phx := rfl
@[simp] theorem State.mapChain_isl (p : Nat) (f : Chain → Chain) (s : State) : (s.mapChain p f).isl = s.isl := rfl
@[simp] theorem State.mapChain_lbe (p : Nat) (f : Chain → Chain) (s : State) : (s.mapChain p f).lbe = s.lbe := rfl
@[simp] theorem State.mapChain_alm (p : Nat) (f : Chain → Chain) (s : State) : (s.mapChain p f).alm = s.alm := rfl
@[simp] theorem State.mapChain_egr (p : Nat) (f : Chain → Chain) (s : State) : (s.mapChain p f).egr = s.egr := rfl
@[simp] theorem State.mapChain_ory (p : Nat) (f : Chain → Chain) (s : State) : (s.mapChain p f).ory = s.ory := rfl
@[simp] theorem State.mapChain_nrg (p : Nat) (f : Chain → Chain) (s : State) : (s.mapChain p f).nrg = s.nrg := rfl
@[simp] theorem State.mapChain_pul (p : Nat) (f : Chain → Chain) (s : State) : (s.mapChain p f).pul = s.pul := rfl
@[simp] theorem State.mapChain_rcd (p : Nat) (f : Chain → Chain) (s : State) : (s.mapChain p f).rcd = s.rcd := rfl
@[simp] theorem State.mapChain_upd (p : Nat) (f : Chain → Chain) (s : State) : (s.mapChain p f).upd = s.upd := rfl
@[simp] theorem State.mapChain_free (p : Nat) (f : Chain → Chain) (s : State) : (s.mapChain p f).free = s.free := rfl

/-! ### State.mapChan -/

@[simp] theorem State.mapChan_pending (c : Nat) (f : Chan → Chan) (s : State) : (s.mapChan c f).pending = s.pending := rfl
@[simp] theorem State.mapChan_pwr (c : Nat) (f : Chan → Chan) (s : State) : (s.mapChan c f).pwr = s.pwr := rfl
@[simp] theorem State.mapChan_cmd (c : Nat) (f : Chan → Chan) (s : State) : (s.mapChan c f).cmd = s.cmd := rfl
@[simp] theorem State.mapChan_attn (c : Nat) (f : Chan → Chan) (s : State) : (s.mapChan c f).attn = s.attn := rfl
@[simp] theorem State.mapChan_regC (c : Nat) (f : Chan → Chan) (s : State) : (s.mapChan c f).regC = s.regC := rfl
@[simp] theorem State.mapChan_regN (c : Nat) (f : Chan → Chan) (s : State) : (s.mapChan c f).regN = s.regN := rfl
@[simp] theorem State.mapChan_flt (c : Nat) (f : Chan → Chan) (s : State) : (s.mapChan c f).flt = s.flt := rfl
@[simp] theorem State.mapChan_core (c : Nat) (f : Chan → Chan) (s : State) : (s.mapChan c f).core = s.core := rfl
@[simp] theorem State.mapChan_tlkC (c : Nat) (f : Chan → Chan) (s : State) : (s.mapChan c f).tlkC = s.tlkC := rfl
@[simp] theorem State.mapChan_tlkN (c : Nat) (f : Chan → Chan) (s : State) : (s.mapChan c f).tlkN = s.tlkN := rfl
@[simp] theorem State.mapChan_sys (c : Nat) (f : Chan → Chan) (s : State) : (s.mapChan c f).sys = s.sys := rfl
@[simp] theorem State.mapChan_prt (c : Nat) (f : Chan → Chan) (s : State) : (s.mapChan c f).prt = s.prt := rfl
@[simp] theorem State.mapChan_xcv (c : Nat) (f : Chan → Chan) (s : State) : (s.mapChan c f).xcv = s.xcv := rfl
@[simp] theorem State.mapChan_tim (c : Nat) (f : Chan → Chan) (s : State) : (s.mapChan c f).tim = s.tim := rfl
@[simp] theorem State.mapChan_aon (c : Nat) (f : Chan → Chan) (s : State) : (s.mapChan c f).aon = s.aon := rfl
@[simp] theorem State.mapChan_keys (c : Nat) (f : Chan → Chan) (s : State) : (s.mapChan c f).keys = s.keys := rfl
@[simp] theorem State.mapChan_tbl (c : Nat) (f : Chan → Chan) (s : State) : (s.mapChan c f).tbl = s.tbl := rfl
@[simp] theorem State.mapChan_ing (c : Nat) (f : Chan → Chan) (s : State) : (s.mapChan c f).ing = s.ing := rfl
@[simp] theorem State.mapChan_aln (c : Nat) (f : Chan → Chan) (s : State) : (s.mapChan c f).aln = s.aln := rfl
@[simp] theorem State.mapChan_phx (c : Nat) (f : Chan → Chan) (s : State) : (s.mapChan c f).phx = s.phx := rfl
@[simp] theorem State.mapChan_isl (c : Nat) (f : Chan → Chan) (s : State) : (s.mapChan c f).isl = s.isl := rfl
@[simp] theorem State.mapChan_lbe (c : Nat) (f : Chan → Chan) (s : State) : (s.mapChan c f).lbe = s.lbe := rfl
@[simp] theorem State.mapChan_alm (c : Nat) (f : Chan → Chan) (s : State) : (s.mapChan c f).alm = s.alm := rfl
@[simp] theorem State.mapChan_egr (c : Nat) (f : Chan → Chan) (s : State) : (s.mapChan c f).egr = s.egr := rfl
@[simp] theorem State.mapChan_ory (c : Nat) (f : Chan → Chan) (s : State) : (s.mapChan c f).ory = s.ory := rfl
@[simp] theorem State.mapChan_nrg (c : Nat) (f : Chan → Chan) (s : State) : (s.mapChan c f).nrg = s.nrg := rfl
@[simp] theorem State.mapChan_pul (c : Nat) (f : Chan → Chan) (s : State) : (s.mapChan c f).pul = s.pul := rfl
@[simp] theorem State.mapChan_rcd (c : Nat) (f : Chan → Chan) (s : State) : (s.mapChan c f).rcd = s.rcd := rfl
@[simp] theorem State.mapChan_upd (c : Nat) (f : Chan → Chan) (s : State) : (s.mapChan c f).upd = s.upd := rfl
@[simp] theorem State.mapChan_free (c : Nat) (f : Chan → Chan) (s : State) : (s.mapChan c f).free = s.free := rfl

/-! ### State.mapGrp -/

@[simp] theorem State.mapGrp_pending (g : Nat) (f : Grp → Grp) (s : State) : (s.mapGrp g f).pending = s.pending := rfl
@[simp] theorem State.mapGrp_pwr (g : Nat) (f : Grp → Grp) (s : State) : (s.mapGrp g f).pwr = s.pwr := rfl
@[simp] theorem State.mapGrp_cmd (g : Nat) (f : Grp → Grp) (s : State) : (s.mapGrp g f).cmd = s.cmd := rfl
@[simp] theorem State.mapGrp_attn (g : Nat) (f : Grp → Grp) (s : State) : (s.mapGrp g f).attn = s.attn := rfl
@[simp] theorem State.mapGrp_regC (g : Nat) (f : Grp → Grp) (s : State) : (s.mapGrp g f).regC = s.regC := rfl
@[simp] theorem State.mapGrp_regN (g : Nat) (f : Grp → Grp) (s : State) : (s.mapGrp g f).regN = s.regN := rfl
@[simp] theorem State.mapGrp_flt (g : Nat) (f : Grp → Grp) (s : State) : (s.mapGrp g f).flt = s.flt := rfl
@[simp] theorem State.mapGrp_core (g : Nat) (f : Grp → Grp) (s : State) : (s.mapGrp g f).core = s.core := rfl
@[simp] theorem State.mapGrp_tlkC (g : Nat) (f : Grp → Grp) (s : State) : (s.mapGrp g f).tlkC = s.tlkC := rfl
@[simp] theorem State.mapGrp_tlkN (g : Nat) (f : Grp → Grp) (s : State) : (s.mapGrp g f).tlkN = s.tlkN := rfl
@[simp] theorem State.mapGrp_sys (g : Nat) (f : Grp → Grp) (s : State) : (s.mapGrp g f).sys = s.sys := rfl
@[simp] theorem State.mapGrp_prt (g : Nat) (f : Grp → Grp) (s : State) : (s.mapGrp g f).prt = s.prt := rfl
@[simp] theorem State.mapGrp_xcv (g : Nat) (f : Grp → Grp) (s : State) : (s.mapGrp g f).xcv = s.xcv := rfl
@[simp] theorem State.mapGrp_tim (g : Nat) (f : Grp → Grp) (s : State) : (s.mapGrp g f).tim = s.tim := rfl
@[simp] theorem State.mapGrp_aon (g : Nat) (f : Grp → Grp) (s : State) : (s.mapGrp g f).aon = s.aon := rfl
@[simp] theorem State.mapGrp_keys (g : Nat) (f : Grp → Grp) (s : State) : (s.mapGrp g f).keys = s.keys := rfl
@[simp] theorem State.mapGrp_afe (g : Nat) (f : Grp → Grp) (s : State) : (s.mapGrp g f).afe = s.afe := rfl
@[simp] theorem State.mapGrp_tbl (g : Nat) (f : Grp → Grp) (s : State) : (s.mapGrp g f).tbl = s.tbl := rfl
@[simp] theorem State.mapGrp_ing (g : Nat) (f : Grp → Grp) (s : State) : (s.mapGrp g f).ing = s.ing := rfl
@[simp] theorem State.mapGrp_phx (g : Nat) (f : Grp → Grp) (s : State) : (s.mapGrp g f).phx = s.phx := rfl
@[simp] theorem State.mapGrp_isl (g : Nat) (f : Grp → Grp) (s : State) : (s.mapGrp g f).isl = s.isl := rfl
@[simp] theorem State.mapGrp_lbe (g : Nat) (f : Grp → Grp) (s : State) : (s.mapGrp g f).lbe = s.lbe := rfl
@[simp] theorem State.mapGrp_alm (g : Nat) (f : Grp → Grp) (s : State) : (s.mapGrp g f).alm = s.alm := rfl
@[simp] theorem State.mapGrp_egr (g : Nat) (f : Grp → Grp) (s : State) : (s.mapGrp g f).egr = s.egr := rfl
@[simp] theorem State.mapGrp_ory (g : Nat) (f : Grp → Grp) (s : State) : (s.mapGrp g f).ory = s.ory := rfl
@[simp] theorem State.mapGrp_nrg (g : Nat) (f : Grp → Grp) (s : State) : (s.mapGrp g f).nrg = s.nrg := rfl
@[simp] theorem State.mapGrp_pul (g : Nat) (f : Grp → Grp) (s : State) : (s.mapGrp g f).pul = s.pul := rfl
@[simp] theorem State.mapGrp_rcd (g : Nat) (f : Grp → Grp) (s : State) : (s.mapGrp g f).rcd = s.rcd := rfl
@[simp] theorem State.mapGrp_upd (g : Nat) (f : Grp → Grp) (s : State) : (s.mapGrp g f).upd = s.upd := rfl
@[simp] theorem State.mapGrp_free (g : Nat) (f : Grp → Grp) (s : State) : (s.mapGrp g f).free = s.free := rfl

/-! ### State.mapSlot -/

@[simp] theorem State.mapSlot_pending (k : Nat) (f : KeySlot → KeySlot) (s : State) : (s.mapSlot k f).pending = s.pending := rfl
@[simp] theorem State.mapSlot_pwr (k : Nat) (f : KeySlot → KeySlot) (s : State) : (s.mapSlot k f).pwr = s.pwr := rfl
@[simp] theorem State.mapSlot_cmd (k : Nat) (f : KeySlot → KeySlot) (s : State) : (s.mapSlot k f).cmd = s.cmd := rfl
@[simp] theorem State.mapSlot_attn (k : Nat) (f : KeySlot → KeySlot) (s : State) : (s.mapSlot k f).attn = s.attn := rfl
@[simp] theorem State.mapSlot_regC (k : Nat) (f : KeySlot → KeySlot) (s : State) : (s.mapSlot k f).regC = s.regC := rfl
@[simp] theorem State.mapSlot_regN (k : Nat) (f : KeySlot → KeySlot) (s : State) : (s.mapSlot k f).regN = s.regN := rfl
@[simp] theorem State.mapSlot_flt (k : Nat) (f : KeySlot → KeySlot) (s : State) : (s.mapSlot k f).flt = s.flt := rfl
@[simp] theorem State.mapSlot_core (k : Nat) (f : KeySlot → KeySlot) (s : State) : (s.mapSlot k f).core = s.core := rfl
@[simp] theorem State.mapSlot_tlkC (k : Nat) (f : KeySlot → KeySlot) (s : State) : (s.mapSlot k f).tlkC = s.tlkC := rfl
@[simp] theorem State.mapSlot_tlkN (k : Nat) (f : KeySlot → KeySlot) (s : State) : (s.mapSlot k f).tlkN = s.tlkN := rfl
@[simp] theorem State.mapSlot_sys (k : Nat) (f : KeySlot → KeySlot) (s : State) : (s.mapSlot k f).sys = s.sys := rfl
@[simp] theorem State.mapSlot_prt (k : Nat) (f : KeySlot → KeySlot) (s : State) : (s.mapSlot k f).prt = s.prt := rfl
@[simp] theorem State.mapSlot_xcv (k : Nat) (f : KeySlot → KeySlot) (s : State) : (s.mapSlot k f).xcv = s.xcv := rfl
@[simp] theorem State.mapSlot_tim (k : Nat) (f : KeySlot → KeySlot) (s : State) : (s.mapSlot k f).tim = s.tim := rfl
@[simp] theorem State.mapSlot_aon (k : Nat) (f : KeySlot → KeySlot) (s : State) : (s.mapSlot k f).aon = s.aon := rfl
@[simp] theorem State.mapSlot_afe (k : Nat) (f : KeySlot → KeySlot) (s : State) : (s.mapSlot k f).afe = s.afe := rfl
@[simp] theorem State.mapSlot_tbl (k : Nat) (f : KeySlot → KeySlot) (s : State) : (s.mapSlot k f).tbl = s.tbl := rfl
@[simp] theorem State.mapSlot_ing (k : Nat) (f : KeySlot → KeySlot) (s : State) : (s.mapSlot k f).ing = s.ing := rfl
@[simp] theorem State.mapSlot_aln (k : Nat) (f : KeySlot → KeySlot) (s : State) : (s.mapSlot k f).aln = s.aln := rfl
@[simp] theorem State.mapSlot_phx (k : Nat) (f : KeySlot → KeySlot) (s : State) : (s.mapSlot k f).phx = s.phx := rfl
@[simp] theorem State.mapSlot_isl (k : Nat) (f : KeySlot → KeySlot) (s : State) : (s.mapSlot k f).isl = s.isl := rfl
@[simp] theorem State.mapSlot_lbe (k : Nat) (f : KeySlot → KeySlot) (s : State) : (s.mapSlot k f).lbe = s.lbe := rfl
@[simp] theorem State.mapSlot_alm (k : Nat) (f : KeySlot → KeySlot) (s : State) : (s.mapSlot k f).alm = s.alm := rfl
@[simp] theorem State.mapSlot_egr (k : Nat) (f : KeySlot → KeySlot) (s : State) : (s.mapSlot k f).egr = s.egr := rfl
@[simp] theorem State.mapSlot_ory (k : Nat) (f : KeySlot → KeySlot) (s : State) : (s.mapSlot k f).ory = s.ory := rfl
@[simp] theorem State.mapSlot_nrg (k : Nat) (f : KeySlot → KeySlot) (s : State) : (s.mapSlot k f).nrg = s.nrg := rfl
@[simp] theorem State.mapSlot_pul (k : Nat) (f : KeySlot → KeySlot) (s : State) : (s.mapSlot k f).pul = s.pul := rfl
@[simp] theorem State.mapSlot_rcd (k : Nat) (f : KeySlot → KeySlot) (s : State) : (s.mapSlot k f).rcd = s.rcd := rfl
@[simp] theorem State.mapSlot_upd (k : Nat) (f : KeySlot → KeySlot) (s : State) : (s.mapSlot k f).upd = s.upd := rfl
@[simp] theorem State.mapSlot_free (k : Nat) (f : KeySlot → KeySlot) (s : State) : (s.mapSlot k f).free = s.free := rfl

/-! ### State.mapPul -/

@[simp] theorem State.mapPul_pending (p : Nat) (f : Pul → Pul) (s : State) : (s.mapPul p f).pending = s.pending := rfl
@[simp] theorem State.mapPul_pwr (p : Nat) (f : Pul → Pul) (s : State) : (s.mapPul p f).pwr = s.pwr := rfl
@[simp] theorem State.mapPul_attn (p : Nat) (f : Pul → Pul) (s : State) : (s.mapPul p f).attn = s.attn := rfl
@[simp] theorem State.mapPul_regC (p : Nat) (f : Pul → Pul) (s : State) : (s.mapPul p f).regC = s.regC := rfl
@[simp] theorem State.mapPul_regN (p : Nat) (f : Pul → Pul) (s : State) : (s.mapPul p f).regN = s.regN := rfl
@[simp] theorem State.mapPul_flt (p : Nat) (f : Pul → Pul) (s : State) : (s.mapPul p f).flt = s.flt := rfl
@[simp] theorem State.mapPul_core (p : Nat) (f : Pul → Pul) (s : State) : (s.mapPul p f).core = s.core := rfl
@[simp] theorem State.mapPul_tlkC (p : Nat) (f : Pul → Pul) (s : State) : (s.mapPul p f).tlkC = s.tlkC := rfl
@[simp] theorem State.mapPul_tlkN (p : Nat) (f : Pul → Pul) (s : State) : (s.mapPul p f).tlkN = s.tlkN := rfl
@[simp] theorem State.mapPul_sys (p : Nat) (f : Pul → Pul) (s : State) : (s.mapPul p f).sys = s.sys := rfl
@[simp] theorem State.mapPul_prt (p : Nat) (f : Pul → Pul) (s : State) : (s.mapPul p f).prt = s.prt := rfl
@[simp] theorem State.mapPul_xcv (p : Nat) (f : Pul → Pul) (s : State) : (s.mapPul p f).xcv = s.xcv := rfl
@[simp] theorem State.mapPul_tim (p : Nat) (f : Pul → Pul) (s : State) : (s.mapPul p f).tim = s.tim := rfl
@[simp] theorem State.mapPul_aon (p : Nat) (f : Pul → Pul) (s : State) : (s.mapPul p f).aon = s.aon := rfl
@[simp] theorem State.mapPul_keys (p : Nat) (f : Pul → Pul) (s : State) : (s.mapPul p f).keys = s.keys := rfl
@[simp] theorem State.mapPul_afe (p : Nat) (f : Pul → Pul) (s : State) : (s.mapPul p f).afe = s.afe := rfl
@[simp] theorem State.mapPul_tbl (p : Nat) (f : Pul → Pul) (s : State) : (s.mapPul p f).tbl = s.tbl := rfl
@[simp] theorem State.mapPul_ing (p : Nat) (f : Pul → Pul) (s : State) : (s.mapPul p f).ing = s.ing := rfl
@[simp] theorem State.mapPul_aln (p : Nat) (f : Pul → Pul) (s : State) : (s.mapPul p f).aln = s.aln := rfl
@[simp] theorem State.mapPul_phx (p : Nat) (f : Pul → Pul) (s : State) : (s.mapPul p f).phx = s.phx := rfl
@[simp] theorem State.mapPul_isl (p : Nat) (f : Pul → Pul) (s : State) : (s.mapPul p f).isl = s.isl := rfl
@[simp] theorem State.mapPul_lbe (p : Nat) (f : Pul → Pul) (s : State) : (s.mapPul p f).lbe = s.lbe := rfl
@[simp] theorem State.mapPul_alm (p : Nat) (f : Pul → Pul) (s : State) : (s.mapPul p f).alm = s.alm := rfl
@[simp] theorem State.mapPul_egr (p : Nat) (f : Pul → Pul) (s : State) : (s.mapPul p f).egr = s.egr := rfl
@[simp] theorem State.mapPul_ory (p : Nat) (f : Pul → Pul) (s : State) : (s.mapPul p f).ory = s.ory := rfl
@[simp] theorem State.mapPul_nrg (p : Nat) (f : Pul → Pul) (s : State) : (s.mapPul p f).nrg = s.nrg := rfl
@[simp] theorem State.mapPul_rcd (p : Nat) (f : Pul → Pul) (s : State) : (s.mapPul p f).rcd = s.rcd := rfl
@[simp] theorem State.mapPul_upd (p : Nat) (f : Pul → Pul) (s : State) : (s.mapPul p f).upd = s.upd := rfl
@[simp] theorem State.mapPul_free (p : Nat) (f : Pul → Pul) (s : State) : (s.mapPul p f).free = s.free := rfl

/-! ### State.putPoint -/

@[simp] theorem State.putPoint_pending (x : Point) (s : State) : (s.putPoint x).pending = s.pending := rfl
@[simp] theorem State.putPoint_pwr (x : Point) (s : State) : (s.putPoint x).pwr = s.pwr := rfl
@[simp] theorem State.putPoint_cmd (x : Point) (s : State) : (s.putPoint x).cmd = s.cmd := rfl
@[simp] theorem State.putPoint_attn (x : Point) (s : State) : (s.putPoint x).attn = s.attn := rfl
@[simp] theorem State.putPoint_regC (x : Point) (s : State) : (s.putPoint x).regC = s.regC := rfl
@[simp] theorem State.putPoint_regN (x : Point) (s : State) : (s.putPoint x).regN = s.regN := rfl
@[simp] theorem State.putPoint_flt (x : Point) (s : State) : (s.putPoint x).flt = s.flt := rfl
@[simp] theorem State.putPoint_core (x : Point) (s : State) : (s.putPoint x).core = s.core := rfl
@[simp] theorem State.putPoint_tlkC (x : Point) (s : State) : (s.putPoint x).tlkC = s.tlkC := rfl
@[simp] theorem State.putPoint_tlkN (x : Point) (s : State) : (s.putPoint x).tlkN = s.tlkN := rfl
@[simp] theorem State.putPoint_sys (x : Point) (s : State) : (s.putPoint x).sys = s.sys := rfl
@[simp] theorem State.putPoint_prt (x : Point) (s : State) : (s.putPoint x).prt = s.prt := rfl
@[simp] theorem State.putPoint_xcv (x : Point) (s : State) : (s.putPoint x).xcv = s.xcv := rfl
@[simp] theorem State.putPoint_tim (x : Point) (s : State) : (s.putPoint x).tim = s.tim := rfl
@[simp] theorem State.putPoint_aon (x : Point) (s : State) : (s.putPoint x).aon = s.aon := rfl
@[simp] theorem State.putPoint_keys (x : Point) (s : State) : (s.putPoint x).keys = s.keys := rfl
@[simp] theorem State.putPoint_afe (x : Point) (s : State) : (s.putPoint x).afe = s.afe := rfl
@[simp] theorem State.putPoint_tbl (x : Point) (s : State) : (s.putPoint x).tbl = s.tbl := rfl
@[simp] theorem State.putPoint_ing (x : Point) (s : State) : (s.putPoint x).ing = s.ing := rfl
@[simp] theorem State.putPoint_aln (x : Point) (s : State) : (s.putPoint x).aln = s.aln := rfl
@[simp] theorem State.putPoint_phx (x : Point) (s : State) : (s.putPoint x).phx = s.phx := rfl
@[simp] theorem State.putPoint_isl (x : Point) (s : State) : (s.putPoint x).isl = s.isl := rfl
@[simp] theorem State.putPoint_lbe (x : Point) (s : State) : (s.putPoint x).lbe = s.lbe := rfl
@[simp] theorem State.putPoint_alm (x : Point) (s : State) : (s.putPoint x).alm = s.alm := rfl
@[simp] theorem State.putPoint_egr (x : Point) (s : State) : (s.putPoint x).egr = s.egr := rfl
@[simp] theorem State.putPoint_ory (x : Point) (s : State) : (s.putPoint x).ory = s.ory := rfl
@[simp] theorem State.putPoint_pul (x : Point) (s : State) : (s.putPoint x).pul = s.pul := rfl
@[simp] theorem State.putPoint_rcd (x : Point) (s : State) : (s.putPoint x).rcd = s.rcd := rfl
@[simp] theorem State.putPoint_upd (x : Point) (s : State) : (s.putPoint x).upd = s.upd := rfl
@[simp] theorem State.putPoint_free (x : Point) (s : State) : (s.putPoint x).free = s.free := rfl

/-! ### State.putSrc -/

@[simp] theorem State.putSrc_pending (x : Src) (s : State) : (s.putSrc x).pending = s.pending := rfl
@[simp] theorem State.putSrc_pwr (x : Src) (s : State) : (s.putSrc x).pwr = s.pwr := rfl
@[simp] theorem State.putSrc_cmd (x : Src) (s : State) : (s.putSrc x).cmd = s.cmd := rfl
@[simp] theorem State.putSrc_attn (x : Src) (s : State) : (s.putSrc x).attn = s.attn := rfl
@[simp] theorem State.putSrc_regC (x : Src) (s : State) : (s.putSrc x).regC = s.regC := rfl
@[simp] theorem State.putSrc_regN (x : Src) (s : State) : (s.putSrc x).regN = s.regN := rfl
@[simp] theorem State.putSrc_flt (x : Src) (s : State) : (s.putSrc x).flt = s.flt := rfl
@[simp] theorem State.putSrc_core (x : Src) (s : State) : (s.putSrc x).core = s.core := rfl
@[simp] theorem State.putSrc_tlkC (x : Src) (s : State) : (s.putSrc x).tlkC = s.tlkC := rfl
@[simp] theorem State.putSrc_tlkN (x : Src) (s : State) : (s.putSrc x).tlkN = s.tlkN := rfl
@[simp] theorem State.putSrc_sys (x : Src) (s : State) : (s.putSrc x).sys = s.sys := rfl
@[simp] theorem State.putSrc_prt (x : Src) (s : State) : (s.putSrc x).prt = s.prt := rfl
@[simp] theorem State.putSrc_xcv (x : Src) (s : State) : (s.putSrc x).xcv = s.xcv := rfl
@[simp] theorem State.putSrc_tim (x : Src) (s : State) : (s.putSrc x).tim = s.tim := rfl
@[simp] theorem State.putSrc_aon (x : Src) (s : State) : (s.putSrc x).aon = s.aon := rfl
@[simp] theorem State.putSrc_keys (x : Src) (s : State) : (s.putSrc x).keys = s.keys := rfl
@[simp] theorem State.putSrc_afe (x : Src) (s : State) : (s.putSrc x).afe = s.afe := rfl
@[simp] theorem State.putSrc_tbl (x : Src) (s : State) : (s.putSrc x).tbl = s.tbl := rfl
@[simp] theorem State.putSrc_aln (x : Src) (s : State) : (s.putSrc x).aln = s.aln := rfl
@[simp] theorem State.putSrc_phx (x : Src) (s : State) : (s.putSrc x).phx = s.phx := rfl
@[simp] theorem State.putSrc_isl (x : Src) (s : State) : (s.putSrc x).isl = s.isl := rfl
@[simp] theorem State.putSrc_lbe (x : Src) (s : State) : (s.putSrc x).lbe = s.lbe := rfl
@[simp] theorem State.putSrc_alm (x : Src) (s : State) : (s.putSrc x).alm = s.alm := rfl
@[simp] theorem State.putSrc_egr (x : Src) (s : State) : (s.putSrc x).egr = s.egr := rfl
@[simp] theorem State.putSrc_ory (x : Src) (s : State) : (s.putSrc x).ory = s.ory := rfl
@[simp] theorem State.putSrc_nrg (x : Src) (s : State) : (s.putSrc x).nrg = s.nrg := rfl
@[simp] theorem State.putSrc_pul (x : Src) (s : State) : (s.putSrc x).pul = s.pul := rfl
@[simp] theorem State.putSrc_rcd (x : Src) (s : State) : (s.putSrc x).rcd = s.rcd := rfl
@[simp] theorem State.putSrc_upd (x : Src) (s : State) : (s.putSrc x).upd = s.upd := rfl
@[simp] theorem State.putSrc_free (x : Src) (s : State) : (s.putSrc x).free = s.free := rfl

/-! ### State.putEst -/

@[simp] theorem State.putEst_pending (e : Est) (s : State) : (s.putEst e).pending = s.pending := rfl
@[simp] theorem State.putEst_pwr (e : Est) (s : State) : (s.putEst e).pwr = s.pwr := rfl
@[simp] theorem State.putEst_cmd (e : Est) (s : State) : (s.putEst e).cmd = s.cmd := rfl
@[simp] theorem State.putEst_attn (e : Est) (s : State) : (s.putEst e).attn = s.attn := rfl
@[simp] theorem State.putEst_regC (e : Est) (s : State) : (s.putEst e).regC = s.regC := rfl
@[simp] theorem State.putEst_regN (e : Est) (s : State) : (s.putEst e).regN = s.regN := rfl
@[simp] theorem State.putEst_flt (e : Est) (s : State) : (s.putEst e).flt = s.flt := rfl
@[simp] theorem State.putEst_core (e : Est) (s : State) : (s.putEst e).core = s.core := rfl
@[simp] theorem State.putEst_tlkC (e : Est) (s : State) : (s.putEst e).tlkC = s.tlkC := rfl
@[simp] theorem State.putEst_tlkN (e : Est) (s : State) : (s.putEst e).tlkN = s.tlkN := rfl
@[simp] theorem State.putEst_sys (e : Est) (s : State) : (s.putEst e).sys = s.sys := rfl
@[simp] theorem State.putEst_prt (e : Est) (s : State) : (s.putEst e).prt = s.prt := rfl
@[simp] theorem State.putEst_xcv (e : Est) (s : State) : (s.putEst e).xcv = s.xcv := rfl
@[simp] theorem State.putEst_tim (e : Est) (s : State) : (s.putEst e).tim = s.tim := rfl
@[simp] theorem State.putEst_aon (e : Est) (s : State) : (s.putEst e).aon = s.aon := rfl
@[simp] theorem State.putEst_keys (e : Est) (s : State) : (s.putEst e).keys = s.keys := rfl
@[simp] theorem State.putEst_afe (e : Est) (s : State) : (s.putEst e).afe = s.afe := rfl
@[simp] theorem State.putEst_tbl (e : Est) (s : State) : (s.putEst e).tbl = s.tbl := rfl
@[simp] theorem State.putEst_ing (e : Est) (s : State) : (s.putEst e).ing = s.ing := rfl
@[simp] theorem State.putEst_aln (e : Est) (s : State) : (s.putEst e).aln = s.aln := rfl
@[simp] theorem State.putEst_isl (e : Est) (s : State) : (s.putEst e).isl = s.isl := rfl
@[simp] theorem State.putEst_lbe (e : Est) (s : State) : (s.putEst e).lbe = s.lbe := rfl
@[simp] theorem State.putEst_alm (e : Est) (s : State) : (s.putEst e).alm = s.alm := rfl
@[simp] theorem State.putEst_egr (e : Est) (s : State) : (s.putEst e).egr = s.egr := rfl
@[simp] theorem State.putEst_ory (e : Est) (s : State) : (s.putEst e).ory = s.ory := rfl
@[simp] theorem State.putEst_nrg (e : Est) (s : State) : (s.putEst e).nrg = s.nrg := rfl
@[simp] theorem State.putEst_pul (e : Est) (s : State) : (s.putEst e).pul = s.pul := rfl
@[simp] theorem State.putEst_rcd (e : Est) (s : State) : (s.putEst e).rcd = s.rcd := rfl
@[simp] theorem State.putEst_upd (e : Est) (s : State) : (s.putEst e).upd = s.upd := rfl
@[simp] theorem State.putEst_free (e : Est) (s : State) : (s.putEst e).free = s.free := rfl

/-! ### State.putPair -/

@[simp] theorem State.putPair_pending (x : Pair) (s : State) : (s.putPair x).pending = s.pending := rfl
@[simp] theorem State.putPair_pwr (x : Pair) (s : State) : (s.putPair x).pwr = s.pwr := rfl
@[simp] theorem State.putPair_cmd (x : Pair) (s : State) : (s.putPair x).cmd = s.cmd := rfl
@[simp] theorem State.putPair_attn (x : Pair) (s : State) : (s.putPair x).attn = s.attn := rfl
@[simp] theorem State.putPair_regC (x : Pair) (s : State) : (s.putPair x).regC = s.regC := rfl
@[simp] theorem State.putPair_regN (x : Pair) (s : State) : (s.putPair x).regN = s.regN := rfl
@[simp] theorem State.putPair_flt (x : Pair) (s : State) : (s.putPair x).flt = s.flt := rfl
@[simp] theorem State.putPair_core (x : Pair) (s : State) : (s.putPair x).core = s.core := rfl
@[simp] theorem State.putPair_tlkC (x : Pair) (s : State) : (s.putPair x).tlkC = s.tlkC := rfl
@[simp] theorem State.putPair_tlkN (x : Pair) (s : State) : (s.putPair x).tlkN = s.tlkN := rfl
@[simp] theorem State.putPair_sys (x : Pair) (s : State) : (s.putPair x).sys = s.sys := rfl
@[simp] theorem State.putPair_prt (x : Pair) (s : State) : (s.putPair x).prt = s.prt := rfl
@[simp] theorem State.putPair_xcv (x : Pair) (s : State) : (s.putPair x).xcv = s.xcv := rfl
@[simp] theorem State.putPair_tim (x : Pair) (s : State) : (s.putPair x).tim = s.tim := rfl
@[simp] theorem State.putPair_aon (x : Pair) (s : State) : (s.putPair x).aon = s.aon := rfl
@[simp] theorem State.putPair_keys (x : Pair) (s : State) : (s.putPair x).keys = s.keys := rfl
@[simp] theorem State.putPair_afe (x : Pair) (s : State) : (s.putPair x).afe = s.afe := rfl
@[simp] theorem State.putPair_tbl (x : Pair) (s : State) : (s.putPair x).tbl = s.tbl := rfl
@[simp] theorem State.putPair_ing (x : Pair) (s : State) : (s.putPair x).ing = s.ing := rfl
@[simp] theorem State.putPair_aln (x : Pair) (s : State) : (s.putPair x).aln = s.aln := rfl
@[simp] theorem State.putPair_isl (x : Pair) (s : State) : (s.putPair x).isl = s.isl := rfl
@[simp] theorem State.putPair_lbe (x : Pair) (s : State) : (s.putPair x).lbe = s.lbe := rfl
@[simp] theorem State.putPair_alm (x : Pair) (s : State) : (s.putPair x).alm = s.alm := rfl
@[simp] theorem State.putPair_egr (x : Pair) (s : State) : (s.putPair x).egr = s.egr := rfl
@[simp] theorem State.putPair_ory (x : Pair) (s : State) : (s.putPair x).ory = s.ory := rfl
@[simp] theorem State.putPair_nrg (x : Pair) (s : State) : (s.putPair x).nrg = s.nrg := rfl
@[simp] theorem State.putPair_pul (x : Pair) (s : State) : (s.putPair x).pul = s.pul := rfl
@[simp] theorem State.putPair_rcd (x : Pair) (s : State) : (s.putPair x).rcd = s.rcd := rfl
@[simp] theorem State.putPair_upd (x : Pair) (s : State) : (s.putPair x).upd = s.upd := rfl
@[simp] theorem State.putPair_free (x : Pair) (s : State) : (s.putPair x).free = s.free := rfl

/-! ### State.putRule -/

@[simp] theorem State.putRule_pending (r : RuleSt) (s : State) : (s.putRule r).pending = s.pending := rfl
@[simp] theorem State.putRule_pwr (r : RuleSt) (s : State) : (s.putRule r).pwr = s.pwr := rfl
@[simp] theorem State.putRule_attn (r : RuleSt) (s : State) : (s.putRule r).attn = s.attn := rfl
@[simp] theorem State.putRule_regC (r : RuleSt) (s : State) : (s.putRule r).regC = s.regC := rfl
@[simp] theorem State.putRule_regN (r : RuleSt) (s : State) : (s.putRule r).regN = s.regN := rfl
@[simp] theorem State.putRule_flt (r : RuleSt) (s : State) : (s.putRule r).flt = s.flt := rfl
@[simp] theorem State.putRule_core (r : RuleSt) (s : State) : (s.putRule r).core = s.core := rfl
@[simp] theorem State.putRule_tlkC (r : RuleSt) (s : State) : (s.putRule r).tlkC = s.tlkC := rfl
@[simp] theorem State.putRule_tlkN (r : RuleSt) (s : State) : (s.putRule r).tlkN = s.tlkN := rfl
@[simp] theorem State.putRule_sys (r : RuleSt) (s : State) : (s.putRule r).sys = s.sys := rfl
@[simp] theorem State.putRule_prt (r : RuleSt) (s : State) : (s.putRule r).prt = s.prt := rfl
@[simp] theorem State.putRule_xcv (r : RuleSt) (s : State) : (s.putRule r).xcv = s.xcv := rfl
@[simp] theorem State.putRule_tim (r : RuleSt) (s : State) : (s.putRule r).tim = s.tim := rfl
@[simp] theorem State.putRule_aon (r : RuleSt) (s : State) : (s.putRule r).aon = s.aon := rfl
@[simp] theorem State.putRule_keys (r : RuleSt) (s : State) : (s.putRule r).keys = s.keys := rfl
@[simp] theorem State.putRule_afe (r : RuleSt) (s : State) : (s.putRule r).afe = s.afe := rfl
@[simp] theorem State.putRule_tbl (r : RuleSt) (s : State) : (s.putRule r).tbl = s.tbl := rfl
@[simp] theorem State.putRule_ing (r : RuleSt) (s : State) : (s.putRule r).ing = s.ing := rfl
@[simp] theorem State.putRule_aln (r : RuleSt) (s : State) : (s.putRule r).aln = s.aln := rfl
@[simp] theorem State.putRule_phx (r : RuleSt) (s : State) : (s.putRule r).phx = s.phx := rfl
@[simp] theorem State.putRule_isl (r : RuleSt) (s : State) : (s.putRule r).isl = s.isl := rfl
@[simp] theorem State.putRule_lbe (r : RuleSt) (s : State) : (s.putRule r).lbe = s.lbe := rfl
@[simp] theorem State.putRule_egr (r : RuleSt) (s : State) : (s.putRule r).egr = s.egr := rfl
@[simp] theorem State.putRule_ory (r : RuleSt) (s : State) : (s.putRule r).ory = s.ory := rfl
@[simp] theorem State.putRule_nrg (r : RuleSt) (s : State) : (s.putRule r).nrg = s.nrg := rfl
@[simp] theorem State.putRule_pul (r : RuleSt) (s : State) : (s.putRule r).pul = s.pul := rfl
@[simp] theorem State.putRule_rcd (r : RuleSt) (s : State) : (s.putRule r).rcd = s.rcd := rfl
@[simp] theorem State.putRule_upd (r : RuleSt) (s : State) : (s.putRule r).upd = s.upd := rfl
@[simp] theorem State.putRule_free (r : RuleSt) (s : State) : (s.putRule r).free = s.free := rfl

/-! ### State.putWatch -/

@[simp] theorem State.putWatch_pending (w : WatchSt) (s : State) : (s.putWatch w).pending = s.pending := rfl
@[simp] theorem State.putWatch_pwr (w : WatchSt) (s : State) : (s.putWatch w).pwr = s.pwr := rfl
@[simp] theorem State.putWatch_cmd (w : WatchSt) (s : State) : (s.putWatch w).cmd = s.cmd := rfl
@[simp] theorem State.putWatch_attn (w : WatchSt) (s : State) : (s.putWatch w).attn = s.attn := rfl
@[simp] theorem State.putWatch_regC (w : WatchSt) (s : State) : (s.putWatch w).regC = s.regC := rfl
@[simp] theorem State.putWatch_regN (w : WatchSt) (s : State) : (s.putWatch w).regN = s.regN := rfl
@[simp] theorem State.putWatch_flt (w : WatchSt) (s : State) : (s.putWatch w).flt = s.flt := rfl
@[simp] theorem State.putWatch_core (w : WatchSt) (s : State) : (s.putWatch w).core = s.core := rfl
@[simp] theorem State.putWatch_tlkC (w : WatchSt) (s : State) : (s.putWatch w).tlkC = s.tlkC := rfl
@[simp] theorem State.putWatch_tlkN (w : WatchSt) (s : State) : (s.putWatch w).tlkN = s.tlkN := rfl
@[simp] theorem State.putWatch_sys (w : WatchSt) (s : State) : (s.putWatch w).sys = s.sys := rfl
@[simp] theorem State.putWatch_prt (w : WatchSt) (s : State) : (s.putWatch w).prt = s.prt := rfl
@[simp] theorem State.putWatch_xcv (w : WatchSt) (s : State) : (s.putWatch w).xcv = s.xcv := rfl
@[simp] theorem State.putWatch_tim (w : WatchSt) (s : State) : (s.putWatch w).tim = s.tim := rfl
@[simp] theorem State.putWatch_aon (w : WatchSt) (s : State) : (s.putWatch w).aon = s.aon := rfl
@[simp] theorem State.putWatch_keys (w : WatchSt) (s : State) : (s.putWatch w).keys = s.keys := rfl
@[simp] theorem State.putWatch_afe (w : WatchSt) (s : State) : (s.putWatch w).afe = s.afe := rfl
@[simp] theorem State.putWatch_tbl (w : WatchSt) (s : State) : (s.putWatch w).tbl = s.tbl := rfl
@[simp] theorem State.putWatch_ing (w : WatchSt) (s : State) : (s.putWatch w).ing = s.ing := rfl
@[simp] theorem State.putWatch_aln (w : WatchSt) (s : State) : (s.putWatch w).aln = s.aln := rfl
@[simp] theorem State.putWatch_phx (w : WatchSt) (s : State) : (s.putWatch w).phx = s.phx := rfl
@[simp] theorem State.putWatch_isl (w : WatchSt) (s : State) : (s.putWatch w).isl = s.isl := rfl
@[simp] theorem State.putWatch_lbe (w : WatchSt) (s : State) : (s.putWatch w).lbe = s.lbe := rfl
@[simp] theorem State.putWatch_egr (w : WatchSt) (s : State) : (s.putWatch w).egr = s.egr := rfl
@[simp] theorem State.putWatch_ory (w : WatchSt) (s : State) : (s.putWatch w).ory = s.ory := rfl
@[simp] theorem State.putWatch_nrg (w : WatchSt) (s : State) : (s.putWatch w).nrg = s.nrg := rfl
@[simp] theorem State.putWatch_pul (w : WatchSt) (s : State) : (s.putWatch w).pul = s.pul := rfl
@[simp] theorem State.putWatch_rcd (w : WatchSt) (s : State) : (s.putWatch w).rcd = s.rcd := rfl
@[simp] theorem State.putWatch_upd (w : WatchSt) (s : State) : (s.putWatch w).upd = s.upd := rfl
@[simp] theorem State.putWatch_free (w : WatchSt) (s : State) : (s.putWatch w).free = s.free := rfl

/-! ### State.mapPin -/

@[simp] theorem State.mapPin_pending (p : Nat) (f : Pin → Pin) (s : State) : (s.mapPin p f).pending = s.pending := rfl
@[simp] theorem State.mapPin_pwr (p : Nat) (f : Pin → Pin) (s : State) : (s.mapPin p f).pwr = s.pwr := rfl
@[simp] theorem State.mapPin_attn (p : Nat) (f : Pin → Pin) (s : State) : (s.mapPin p f).attn = s.attn := rfl
@[simp] theorem State.mapPin_regC (p : Nat) (f : Pin → Pin) (s : State) : (s.mapPin p f).regC = s.regC := rfl
@[simp] theorem State.mapPin_regN (p : Nat) (f : Pin → Pin) (s : State) : (s.mapPin p f).regN = s.regN := rfl
@[simp] theorem State.mapPin_flt (p : Nat) (f : Pin → Pin) (s : State) : (s.mapPin p f).flt = s.flt := rfl
@[simp] theorem State.mapPin_core (p : Nat) (f : Pin → Pin) (s : State) : (s.mapPin p f).core = s.core := rfl
@[simp] theorem State.mapPin_tlkC (p : Nat) (f : Pin → Pin) (s : State) : (s.mapPin p f).tlkC = s.tlkC := rfl
@[simp] theorem State.mapPin_tlkN (p : Nat) (f : Pin → Pin) (s : State) : (s.mapPin p f).tlkN = s.tlkN := rfl
@[simp] theorem State.mapPin_sys (p : Nat) (f : Pin → Pin) (s : State) : (s.mapPin p f).sys = s.sys := rfl
@[simp] theorem State.mapPin_prt (p : Nat) (f : Pin → Pin) (s : State) : (s.mapPin p f).prt = s.prt := rfl
@[simp] theorem State.mapPin_xcv (p : Nat) (f : Pin → Pin) (s : State) : (s.mapPin p f).xcv = s.xcv := rfl
@[simp] theorem State.mapPin_tim (p : Nat) (f : Pin → Pin) (s : State) : (s.mapPin p f).tim = s.tim := rfl
@[simp] theorem State.mapPin_aon (p : Nat) (f : Pin → Pin) (s : State) : (s.mapPin p f).aon = s.aon := rfl
@[simp] theorem State.mapPin_keys (p : Nat) (f : Pin → Pin) (s : State) : (s.mapPin p f).keys = s.keys := rfl
@[simp] theorem State.mapPin_afe (p : Nat) (f : Pin → Pin) (s : State) : (s.mapPin p f).afe = s.afe := rfl
@[simp] theorem State.mapPin_tbl (p : Nat) (f : Pin → Pin) (s : State) : (s.mapPin p f).tbl = s.tbl := rfl
@[simp] theorem State.mapPin_ing (p : Nat) (f : Pin → Pin) (s : State) : (s.mapPin p f).ing = s.ing := rfl
@[simp] theorem State.mapPin_aln (p : Nat) (f : Pin → Pin) (s : State) : (s.mapPin p f).aln = s.aln := rfl
@[simp] theorem State.mapPin_phx (p : Nat) (f : Pin → Pin) (s : State) : (s.mapPin p f).phx = s.phx := rfl
@[simp] theorem State.mapPin_isl (p : Nat) (f : Pin → Pin) (s : State) : (s.mapPin p f).isl = s.isl := rfl
@[simp] theorem State.mapPin_lbe (p : Nat) (f : Pin → Pin) (s : State) : (s.mapPin p f).lbe = s.lbe := rfl
@[simp] theorem State.mapPin_egr (p : Nat) (f : Pin → Pin) (s : State) : (s.mapPin p f).egr = s.egr := rfl
@[simp] theorem State.mapPin_ory (p : Nat) (f : Pin → Pin) (s : State) : (s.mapPin p f).ory = s.ory := rfl
@[simp] theorem State.mapPin_nrg (p : Nat) (f : Pin → Pin) (s : State) : (s.mapPin p f).nrg = s.nrg := rfl
@[simp] theorem State.mapPin_pul (p : Nat) (f : Pin → Pin) (s : State) : (s.mapPin p f).pul = s.pul := rfl
@[simp] theorem State.mapPin_rcd (p : Nat) (f : Pin → Pin) (s : State) : (s.mapPin p f).rcd = s.rcd := rfl
@[simp] theorem State.mapPin_upd (p : Nat) (f : Pin → Pin) (s : State) : (s.mapPin p f).upd = s.upd := rfl
@[simp] theorem State.mapPin_free (p : Nat) (f : Pin → Pin) (s : State) : (s.mapPin p f).free = s.free := rfl

/-! ### State.mapGse -/

@[simp] theorem State.mapGse_pending (c : Nat) (f : Goose → Goose) (s : State) : (s.mapGse c f).pending = s.pending := rfl
@[simp] theorem State.mapGse_pwr (c : Nat) (f : Goose → Goose) (s : State) : (s.mapGse c f).pwr = s.pwr := rfl
@[simp] theorem State.mapGse_attn (c : Nat) (f : Goose → Goose) (s : State) : (s.mapGse c f).attn = s.attn := rfl
@[simp] theorem State.mapGse_regC (c : Nat) (f : Goose → Goose) (s : State) : (s.mapGse c f).regC = s.regC := rfl
@[simp] theorem State.mapGse_regN (c : Nat) (f : Goose → Goose) (s : State) : (s.mapGse c f).regN = s.regN := rfl
@[simp] theorem State.mapGse_flt (c : Nat) (f : Goose → Goose) (s : State) : (s.mapGse c f).flt = s.flt := rfl
@[simp] theorem State.mapGse_core (c : Nat) (f : Goose → Goose) (s : State) : (s.mapGse c f).core = s.core := rfl
@[simp] theorem State.mapGse_tlkC (c : Nat) (f : Goose → Goose) (s : State) : (s.mapGse c f).tlkC = s.tlkC := rfl
@[simp] theorem State.mapGse_tlkN (c : Nat) (f : Goose → Goose) (s : State) : (s.mapGse c f).tlkN = s.tlkN := rfl
@[simp] theorem State.mapGse_sys (c : Nat) (f : Goose → Goose) (s : State) : (s.mapGse c f).sys = s.sys := rfl
@[simp] theorem State.mapGse_prt (c : Nat) (f : Goose → Goose) (s : State) : (s.mapGse c f).prt = s.prt := rfl
@[simp] theorem State.mapGse_xcv (c : Nat) (f : Goose → Goose) (s : State) : (s.mapGse c f).xcv = s.xcv := rfl
@[simp] theorem State.mapGse_tim (c : Nat) (f : Goose → Goose) (s : State) : (s.mapGse c f).tim = s.tim := rfl
@[simp] theorem State.mapGse_aon (c : Nat) (f : Goose → Goose) (s : State) : (s.mapGse c f).aon = s.aon := rfl
@[simp] theorem State.mapGse_keys (c : Nat) (f : Goose → Goose) (s : State) : (s.mapGse c f).keys = s.keys := rfl
@[simp] theorem State.mapGse_afe (c : Nat) (f : Goose → Goose) (s : State) : (s.mapGse c f).afe = s.afe := rfl
@[simp] theorem State.mapGse_tbl (c : Nat) (f : Goose → Goose) (s : State) : (s.mapGse c f).tbl = s.tbl := rfl
@[simp] theorem State.mapGse_ing (c : Nat) (f : Goose → Goose) (s : State) : (s.mapGse c f).ing = s.ing := rfl
@[simp] theorem State.mapGse_aln (c : Nat) (f : Goose → Goose) (s : State) : (s.mapGse c f).aln = s.aln := rfl
@[simp] theorem State.mapGse_phx (c : Nat) (f : Goose → Goose) (s : State) : (s.mapGse c f).phx = s.phx := rfl
@[simp] theorem State.mapGse_isl (c : Nat) (f : Goose → Goose) (s : State) : (s.mapGse c f).isl = s.isl := rfl
@[simp] theorem State.mapGse_lbe (c : Nat) (f : Goose → Goose) (s : State) : (s.mapGse c f).lbe = s.lbe := rfl
@[simp] theorem State.mapGse_egr (c : Nat) (f : Goose → Goose) (s : State) : (s.mapGse c f).egr = s.egr := rfl
@[simp] theorem State.mapGse_ory (c : Nat) (f : Goose → Goose) (s : State) : (s.mapGse c f).ory = s.ory := rfl
@[simp] theorem State.mapGse_nrg (c : Nat) (f : Goose → Goose) (s : State) : (s.mapGse c f).nrg = s.nrg := rfl
@[simp] theorem State.mapGse_pul (c : Nat) (f : Goose → Goose) (s : State) : (s.mapGse c f).pul = s.pul := rfl
@[simp] theorem State.mapGse_rcd (c : Nat) (f : Goose → Goose) (s : State) : (s.mapGse c f).rcd = s.rcd := rfl
@[simp] theorem State.mapGse_upd (c : Nat) (f : Goose → Goose) (s : State) : (s.mapGse c f).upd = s.upd := rfl
@[simp] theorem State.mapGse_free (c : Nat) (f : Goose → Goose) (s : State) : (s.mapGse c f).free = s.free := rfl

/-! ### State.mapStream -/

@[simp] theorem State.mapStream_pending (i : Nat) (f : Stream → Stream) (s : State) : (s.mapStream i f).pending = s.pending := rfl
@[simp] theorem State.mapStream_pwr (i : Nat) (f : Stream → Stream) (s : State) : (s.mapStream i f).pwr = s.pwr := rfl
@[simp] theorem State.mapStream_attn (i : Nat) (f : Stream → Stream) (s : State) : (s.mapStream i f).attn = s.attn := rfl
@[simp] theorem State.mapStream_regC (i : Nat) (f : Stream → Stream) (s : State) : (s.mapStream i f).regC = s.regC := rfl
@[simp] theorem State.mapStream_regN (i : Nat) (f : Stream → Stream) (s : State) : (s.mapStream i f).regN = s.regN := rfl
@[simp] theorem State.mapStream_flt (i : Nat) (f : Stream → Stream) (s : State) : (s.mapStream i f).flt = s.flt := rfl
@[simp] theorem State.mapStream_core (i : Nat) (f : Stream → Stream) (s : State) : (s.mapStream i f).core = s.core := rfl
@[simp] theorem State.mapStream_tlkC (i : Nat) (f : Stream → Stream) (s : State) : (s.mapStream i f).tlkC = s.tlkC := rfl
@[simp] theorem State.mapStream_tlkN (i : Nat) (f : Stream → Stream) (s : State) : (s.mapStream i f).tlkN = s.tlkN := rfl
@[simp] theorem State.mapStream_sys (i : Nat) (f : Stream → Stream) (s : State) : (s.mapStream i f).sys = s.sys := rfl
@[simp] theorem State.mapStream_prt (i : Nat) (f : Stream → Stream) (s : State) : (s.mapStream i f).prt = s.prt := rfl
@[simp] theorem State.mapStream_xcv (i : Nat) (f : Stream → Stream) (s : State) : (s.mapStream i f).xcv = s.xcv := rfl
@[simp] theorem State.mapStream_tim (i : Nat) (f : Stream → Stream) (s : State) : (s.mapStream i f).tim = s.tim := rfl
@[simp] theorem State.mapStream_aon (i : Nat) (f : Stream → Stream) (s : State) : (s.mapStream i f).aon = s.aon := rfl
@[simp] theorem State.mapStream_keys (i : Nat) (f : Stream → Stream) (s : State) : (s.mapStream i f).keys = s.keys := rfl
@[simp] theorem State.mapStream_afe (i : Nat) (f : Stream → Stream) (s : State) : (s.mapStream i f).afe = s.afe := rfl
@[simp] theorem State.mapStream_tbl (i : Nat) (f : Stream → Stream) (s : State) : (s.mapStream i f).tbl = s.tbl := rfl
@[simp] theorem State.mapStream_ing (i : Nat) (f : Stream → Stream) (s : State) : (s.mapStream i f).ing = s.ing := rfl
@[simp] theorem State.mapStream_aln (i : Nat) (f : Stream → Stream) (s : State) : (s.mapStream i f).aln = s.aln := rfl
@[simp] theorem State.mapStream_phx (i : Nat) (f : Stream → Stream) (s : State) : (s.mapStream i f).phx = s.phx := rfl
@[simp] theorem State.mapStream_isl (i : Nat) (f : Stream → Stream) (s : State) : (s.mapStream i f).isl = s.isl := rfl
@[simp] theorem State.mapStream_lbe (i : Nat) (f : Stream → Stream) (s : State) : (s.mapStream i f).lbe = s.lbe := rfl
@[simp] theorem State.mapStream_alm (i : Nat) (f : Stream → Stream) (s : State) : (s.mapStream i f).alm = s.alm := rfl
@[simp] theorem State.mapStream_ory (i : Nat) (f : Stream → Stream) (s : State) : (s.mapStream i f).ory = s.ory := rfl
@[simp] theorem State.mapStream_nrg (i : Nat) (f : Stream → Stream) (s : State) : (s.mapStream i f).nrg = s.nrg := rfl
@[simp] theorem State.mapStream_pul (i : Nat) (f : Stream → Stream) (s : State) : (s.mapStream i f).pul = s.pul := rfl
@[simp] theorem State.mapStream_rcd (i : Nat) (f : Stream → Stream) (s : State) : (s.mapStream i f).rcd = s.rcd := rfl
@[simp] theorem State.mapStream_upd (i : Nat) (f : Stream → Stream) (s : State) : (s.mapStream i f).upd = s.upd := rfl
@[simp] theorem State.mapStream_free (i : Nat) (f : Stream → Stream) (s : State) : (s.mapStream i f).free = s.free := rfl

/-! ### State.mapNb -/

@[simp] theorem State.mapNb_pending (k : Nat) (f : Nb → Nb) (s : State) : (s.mapNb k f).pending = s.pending := rfl
@[simp] theorem State.mapNb_pwr (k : Nat) (f : Nb → Nb) (s : State) : (s.mapNb k f).pwr = s.pwr := rfl
@[simp] theorem State.mapNb_attn (k : Nat) (f : Nb → Nb) (s : State) : (s.mapNb k f).attn = s.attn := rfl
@[simp] theorem State.mapNb_regC (k : Nat) (f : Nb → Nb) (s : State) : (s.mapNb k f).regC = s.regC := rfl
@[simp] theorem State.mapNb_regN (k : Nat) (f : Nb → Nb) (s : State) : (s.mapNb k f).regN = s.regN := rfl
@[simp] theorem State.mapNb_flt (k : Nat) (f : Nb → Nb) (s : State) : (s.mapNb k f).flt = s.flt := rfl
@[simp] theorem State.mapNb_core (k : Nat) (f : Nb → Nb) (s : State) : (s.mapNb k f).core = s.core := rfl
@[simp] theorem State.mapNb_tlkC (k : Nat) (f : Nb → Nb) (s : State) : (s.mapNb k f).tlkC = s.tlkC := rfl
@[simp] theorem State.mapNb_tlkN (k : Nat) (f : Nb → Nb) (s : State) : (s.mapNb k f).tlkN = s.tlkN := rfl
@[simp] theorem State.mapNb_sys (k : Nat) (f : Nb → Nb) (s : State) : (s.mapNb k f).sys = s.sys := rfl
@[simp] theorem State.mapNb_prt (k : Nat) (f : Nb → Nb) (s : State) : (s.mapNb k f).prt = s.prt := rfl
@[simp] theorem State.mapNb_xcv (k : Nat) (f : Nb → Nb) (s : State) : (s.mapNb k f).xcv = s.xcv := rfl
@[simp] theorem State.mapNb_tim (k : Nat) (f : Nb → Nb) (s : State) : (s.mapNb k f).tim = s.tim := rfl
@[simp] theorem State.mapNb_aon (k : Nat) (f : Nb → Nb) (s : State) : (s.mapNb k f).aon = s.aon := rfl
@[simp] theorem State.mapNb_keys (k : Nat) (f : Nb → Nb) (s : State) : (s.mapNb k f).keys = s.keys := rfl
@[simp] theorem State.mapNb_afe (k : Nat) (f : Nb → Nb) (s : State) : (s.mapNb k f).afe = s.afe := rfl
@[simp] theorem State.mapNb_tbl (k : Nat) (f : Nb → Nb) (s : State) : (s.mapNb k f).tbl = s.tbl := rfl
@[simp] theorem State.mapNb_ing (k : Nat) (f : Nb → Nb) (s : State) : (s.mapNb k f).ing = s.ing := rfl
@[simp] theorem State.mapNb_aln (k : Nat) (f : Nb → Nb) (s : State) : (s.mapNb k f).aln = s.aln := rfl
@[simp] theorem State.mapNb_phx (k : Nat) (f : Nb → Nb) (s : State) : (s.mapNb k f).phx = s.phx := rfl
@[simp] theorem State.mapNb_isl (k : Nat) (f : Nb → Nb) (s : State) : (s.mapNb k f).isl = s.isl := rfl
@[simp] theorem State.mapNb_lbe (k : Nat) (f : Nb → Nb) (s : State) : (s.mapNb k f).lbe = s.lbe := rfl
@[simp] theorem State.mapNb_alm (k : Nat) (f : Nb → Nb) (s : State) : (s.mapNb k f).alm = s.alm := rfl
@[simp] theorem State.mapNb_egr (k : Nat) (f : Nb → Nb) (s : State) : (s.mapNb k f).egr = s.egr := rfl
@[simp] theorem State.mapNb_nrg (k : Nat) (f : Nb → Nb) (s : State) : (s.mapNb k f).nrg = s.nrg := rfl
@[simp] theorem State.mapNb_pul (k : Nat) (f : Nb → Nb) (s : State) : (s.mapNb k f).pul = s.pul := rfl
@[simp] theorem State.mapNb_rcd (k : Nat) (f : Nb → Nb) (s : State) : (s.mapNb k f).rcd = s.rcd := rfl
@[simp] theorem State.mapNb_upd (k : Nat) (f : Nb → Nb) (s : State) : (s.mapNb k f).upd = s.upd := rfl
@[simp] theorem State.mapNb_free (k : Nat) (f : Nb → Nb) (s : State) : (s.mapNb k f).free = s.free := rfl

/-! ### State.mapLbe -/

@[simp] theorem State.mapLbe_pending (e : Nat) (f : Lbe → Lbe) (s : State) : (s.mapLbe e f).pending = s.pending := rfl
@[simp] theorem State.mapLbe_pwr (e : Nat) (f : Lbe → Lbe) (s : State) : (s.mapLbe e f).pwr = s.pwr := rfl
@[simp] theorem State.mapLbe_attn (e : Nat) (f : Lbe → Lbe) (s : State) : (s.mapLbe e f).attn = s.attn := rfl
@[simp] theorem State.mapLbe_regC (e : Nat) (f : Lbe → Lbe) (s : State) : (s.mapLbe e f).regC = s.regC := rfl
@[simp] theorem State.mapLbe_regN (e : Nat) (f : Lbe → Lbe) (s : State) : (s.mapLbe e f).regN = s.regN := rfl
@[simp] theorem State.mapLbe_flt (e : Nat) (f : Lbe → Lbe) (s : State) : (s.mapLbe e f).flt = s.flt := rfl
@[simp] theorem State.mapLbe_core (e : Nat) (f : Lbe → Lbe) (s : State) : (s.mapLbe e f).core = s.core := rfl
@[simp] theorem State.mapLbe_tlkC (e : Nat) (f : Lbe → Lbe) (s : State) : (s.mapLbe e f).tlkC = s.tlkC := rfl
@[simp] theorem State.mapLbe_tlkN (e : Nat) (f : Lbe → Lbe) (s : State) : (s.mapLbe e f).tlkN = s.tlkN := rfl
@[simp] theorem State.mapLbe_sys (e : Nat) (f : Lbe → Lbe) (s : State) : (s.mapLbe e f).sys = s.sys := rfl
@[simp] theorem State.mapLbe_prt (e : Nat) (f : Lbe → Lbe) (s : State) : (s.mapLbe e f).prt = s.prt := rfl
@[simp] theorem State.mapLbe_xcv (e : Nat) (f : Lbe → Lbe) (s : State) : (s.mapLbe e f).xcv = s.xcv := rfl
@[simp] theorem State.mapLbe_tim (e : Nat) (f : Lbe → Lbe) (s : State) : (s.mapLbe e f).tim = s.tim := rfl
@[simp] theorem State.mapLbe_aon (e : Nat) (f : Lbe → Lbe) (s : State) : (s.mapLbe e f).aon = s.aon := rfl
@[simp] theorem State.mapLbe_keys (e : Nat) (f : Lbe → Lbe) (s : State) : (s.mapLbe e f).keys = s.keys := rfl
@[simp] theorem State.mapLbe_afe (e : Nat) (f : Lbe → Lbe) (s : State) : (s.mapLbe e f).afe = s.afe := rfl
@[simp] theorem State.mapLbe_tbl (e : Nat) (f : Lbe → Lbe) (s : State) : (s.mapLbe e f).tbl = s.tbl := rfl
@[simp] theorem State.mapLbe_ing (e : Nat) (f : Lbe → Lbe) (s : State) : (s.mapLbe e f).ing = s.ing := rfl
@[simp] theorem State.mapLbe_aln (e : Nat) (f : Lbe → Lbe) (s : State) : (s.mapLbe e f).aln = s.aln := rfl
@[simp] theorem State.mapLbe_phx (e : Nat) (f : Lbe → Lbe) (s : State) : (s.mapLbe e f).phx = s.phx := rfl
@[simp] theorem State.mapLbe_isl (e : Nat) (f : Lbe → Lbe) (s : State) : (s.mapLbe e f).isl = s.isl := rfl
@[simp] theorem State.mapLbe_alm (e : Nat) (f : Lbe → Lbe) (s : State) : (s.mapLbe e f).alm = s.alm := rfl
@[simp] theorem State.mapLbe_egr (e : Nat) (f : Lbe → Lbe) (s : State) : (s.mapLbe e f).egr = s.egr := rfl
@[simp] theorem State.mapLbe_ory (e : Nat) (f : Lbe → Lbe) (s : State) : (s.mapLbe e f).ory = s.ory := rfl
@[simp] theorem State.mapLbe_nrg (e : Nat) (f : Lbe → Lbe) (s : State) : (s.mapLbe e f).nrg = s.nrg := rfl
@[simp] theorem State.mapLbe_pul (e : Nat) (f : Lbe → Lbe) (s : State) : (s.mapLbe e f).pul = s.pul := rfl
@[simp] theorem State.mapLbe_rcd (e : Nat) (f : Lbe → Lbe) (s : State) : (s.mapLbe e f).rcd = s.rcd := rfl
@[simp] theorem State.mapLbe_upd (e : Nat) (f : Lbe → Lbe) (s : State) : (s.mapLbe e f).upd = s.upd := rfl
@[simp] theorem State.mapLbe_free (e : Nat) (f : Lbe → Lbe) (s : State) : (s.mapLbe e f).free = s.free := rfl

/-! ### State.mapBank -/

@[simp] theorem State.mapBank_pending (id : Nat) (f : Tbl → Tbl) (s : State) : (s.mapBank id f).pending = s.pending := rfl
@[simp] theorem State.mapBank_pwr (id : Nat) (f : Tbl → Tbl) (s : State) : (s.mapBank id f).pwr = s.pwr := rfl
@[simp] theorem State.mapBank_cmd (id : Nat) (f : Tbl → Tbl) (s : State) : (s.mapBank id f).cmd = s.cmd := rfl
@[simp] theorem State.mapBank_attn (id : Nat) (f : Tbl → Tbl) (s : State) : (s.mapBank id f).attn = s.attn := rfl
@[simp] theorem State.mapBank_regC (id : Nat) (f : Tbl → Tbl) (s : State) : (s.mapBank id f).regC = s.regC := rfl
@[simp] theorem State.mapBank_regN (id : Nat) (f : Tbl → Tbl) (s : State) : (s.mapBank id f).regN = s.regN := rfl
@[simp] theorem State.mapBank_flt (id : Nat) (f : Tbl → Tbl) (s : State) : (s.mapBank id f).flt = s.flt := rfl
@[simp] theorem State.mapBank_core (id : Nat) (f : Tbl → Tbl) (s : State) : (s.mapBank id f).core = s.core := rfl
@[simp] theorem State.mapBank_tlkC (id : Nat) (f : Tbl → Tbl) (s : State) : (s.mapBank id f).tlkC = s.tlkC := rfl
@[simp] theorem State.mapBank_tlkN (id : Nat) (f : Tbl → Tbl) (s : State) : (s.mapBank id f).tlkN = s.tlkN := rfl
@[simp] theorem State.mapBank_sys (id : Nat) (f : Tbl → Tbl) (s : State) : (s.mapBank id f).sys = s.sys := rfl
@[simp] theorem State.mapBank_prt (id : Nat) (f : Tbl → Tbl) (s : State) : (s.mapBank id f).prt = s.prt := rfl
@[simp] theorem State.mapBank_xcv (id : Nat) (f : Tbl → Tbl) (s : State) : (s.mapBank id f).xcv = s.xcv := rfl
@[simp] theorem State.mapBank_tim (id : Nat) (f : Tbl → Tbl) (s : State) : (s.mapBank id f).tim = s.tim := rfl
@[simp] theorem State.mapBank_aon (id : Nat) (f : Tbl → Tbl) (s : State) : (s.mapBank id f).aon = s.aon := rfl
@[simp] theorem State.mapBank_keys (id : Nat) (f : Tbl → Tbl) (s : State) : (s.mapBank id f).keys = s.keys := rfl
@[simp] theorem State.mapBank_afe (id : Nat) (f : Tbl → Tbl) (s : State) : (s.mapBank id f).afe = s.afe := rfl
@[simp] theorem State.mapBank_ing (id : Nat) (f : Tbl → Tbl) (s : State) : (s.mapBank id f).ing = s.ing := rfl
@[simp] theorem State.mapBank_aln (id : Nat) (f : Tbl → Tbl) (s : State) : (s.mapBank id f).aln = s.aln := rfl
@[simp] theorem State.mapBank_phx (id : Nat) (f : Tbl → Tbl) (s : State) : (s.mapBank id f).phx = s.phx := rfl
@[simp] theorem State.mapBank_isl (id : Nat) (f : Tbl → Tbl) (s : State) : (s.mapBank id f).isl = s.isl := rfl
@[simp] theorem State.mapBank_lbe (id : Nat) (f : Tbl → Tbl) (s : State) : (s.mapBank id f).lbe = s.lbe := rfl
@[simp] theorem State.mapBank_alm (id : Nat) (f : Tbl → Tbl) (s : State) : (s.mapBank id f).alm = s.alm := rfl
@[simp] theorem State.mapBank_egr (id : Nat) (f : Tbl → Tbl) (s : State) : (s.mapBank id f).egr = s.egr := rfl
@[simp] theorem State.mapBank_ory (id : Nat) (f : Tbl → Tbl) (s : State) : (s.mapBank id f).ory = s.ory := rfl
@[simp] theorem State.mapBank_nrg (id : Nat) (f : Tbl → Tbl) (s : State) : (s.mapBank id f).nrg = s.nrg := rfl
@[simp] theorem State.mapBank_pul (id : Nat) (f : Tbl → Tbl) (s : State) : (s.mapBank id f).pul = s.pul := rfl
@[simp] theorem State.mapBank_rcd (id : Nat) (f : Tbl → Tbl) (s : State) : (s.mapBank id f).rcd = s.rcd := rfl
@[simp] theorem State.mapBank_upd (id : Nat) (f : Tbl → Tbl) (s : State) : (s.mapBank id f).upd = s.upd := rfl
@[simp] theorem State.mapBank_free (id : Nat) (f : Tbl → Tbl) (s : State) : (s.mapBank id f).free = s.free := rfl

/-! ### State.mapTlk -/

@[simp] theorem State.mapTlk_pending (h : Half) (f : TlkEnd → TlkEnd) (s : State) : (s.mapTlk h f).pending = s.pending := rfl
@[simp] theorem State.mapTlk_pwr (h : Half) (f : TlkEnd → TlkEnd) (s : State) : (s.mapTlk h f).pwr = s.pwr := rfl
@[simp] theorem State.mapTlk_cmd (h : Half) (f : TlkEnd → TlkEnd) (s : State) : (s.mapTlk h f).cmd = s.cmd := rfl
@[simp] theorem State.mapTlk_attn (h : Half) (f : TlkEnd → TlkEnd) (s : State) : (s.mapTlk h f).attn = s.attn := rfl
@[simp] theorem State.mapTlk_regC (h : Half) (f : TlkEnd → TlkEnd) (s : State) : (s.mapTlk h f).regC = s.regC := rfl
@[simp] theorem State.mapTlk_regN (h : Half) (f : TlkEnd → TlkEnd) (s : State) : (s.mapTlk h f).regN = s.regN := rfl
@[simp] theorem State.mapTlk_flt (h : Half) (f : TlkEnd → TlkEnd) (s : State) : (s.mapTlk h f).flt = s.flt := rfl
@[simp] theorem State.mapTlk_core (h : Half) (f : TlkEnd → TlkEnd) (s : State) : (s.mapTlk h f).core = s.core := rfl
@[simp] theorem State.mapTlk_sys (h : Half) (f : TlkEnd → TlkEnd) (s : State) : (s.mapTlk h f).sys = s.sys := rfl
@[simp] theorem State.mapTlk_prt (h : Half) (f : TlkEnd → TlkEnd) (s : State) : (s.mapTlk h f).prt = s.prt := rfl
@[simp] theorem State.mapTlk_xcv (h : Half) (f : TlkEnd → TlkEnd) (s : State) : (s.mapTlk h f).xcv = s.xcv := rfl
@[simp] theorem State.mapTlk_tim (h : Half) (f : TlkEnd → TlkEnd) (s : State) : (s.mapTlk h f).tim = s.tim := rfl
@[simp] theorem State.mapTlk_aon (h : Half) (f : TlkEnd → TlkEnd) (s : State) : (s.mapTlk h f).aon = s.aon := rfl
@[simp] theorem State.mapTlk_keys (h : Half) (f : TlkEnd → TlkEnd) (s : State) : (s.mapTlk h f).keys = s.keys := rfl
@[simp] theorem State.mapTlk_afe (h : Half) (f : TlkEnd → TlkEnd) (s : State) : (s.mapTlk h f).afe = s.afe := rfl
@[simp] theorem State.mapTlk_tbl (h : Half) (f : TlkEnd → TlkEnd) (s : State) : (s.mapTlk h f).tbl = s.tbl := rfl
@[simp] theorem State.mapTlk_ing (h : Half) (f : TlkEnd → TlkEnd) (s : State) : (s.mapTlk h f).ing = s.ing := rfl
@[simp] theorem State.mapTlk_aln (h : Half) (f : TlkEnd → TlkEnd) (s : State) : (s.mapTlk h f).aln = s.aln := rfl
@[simp] theorem State.mapTlk_phx (h : Half) (f : TlkEnd → TlkEnd) (s : State) : (s.mapTlk h f).phx = s.phx := rfl
@[simp] theorem State.mapTlk_isl (h : Half) (f : TlkEnd → TlkEnd) (s : State) : (s.mapTlk h f).isl = s.isl := rfl
@[simp] theorem State.mapTlk_lbe (h : Half) (f : TlkEnd → TlkEnd) (s : State) : (s.mapTlk h f).lbe = s.lbe := rfl
@[simp] theorem State.mapTlk_alm (h : Half) (f : TlkEnd → TlkEnd) (s : State) : (s.mapTlk h f).alm = s.alm := rfl
@[simp] theorem State.mapTlk_egr (h : Half) (f : TlkEnd → TlkEnd) (s : State) : (s.mapTlk h f).egr = s.egr := rfl
@[simp] theorem State.mapTlk_ory (h : Half) (f : TlkEnd → TlkEnd) (s : State) : (s.mapTlk h f).ory = s.ory := rfl
@[simp] theorem State.mapTlk_nrg (h : Half) (f : TlkEnd → TlkEnd) (s : State) : (s.mapTlk h f).nrg = s.nrg := rfl
@[simp] theorem State.mapTlk_pul (h : Half) (f : TlkEnd → TlkEnd) (s : State) : (s.mapTlk h f).pul = s.pul := rfl
@[simp] theorem State.mapTlk_rcd (h : Half) (f : TlkEnd → TlkEnd) (s : State) : (s.mapTlk h f).rcd = s.rcd := rfl
@[simp] theorem State.mapTlk_upd (h : Half) (f : TlkEnd → TlkEnd) (s : State) : (s.mapTlk h f).upd = s.upd := rfl
@[simp] theorem State.mapTlk_free (h : Half) (f : TlkEnd → TlkEnd) (s : State) : (s.mapTlk h f).free = s.free := rfl

/-! ### State.mapUpd -/

@[simp] theorem State.mapUpd_pending (h : Half) (f : Upd → Upd) (s : State) : (s.mapUpd h f).pending = s.pending := rfl
@[simp] theorem State.mapUpd_pwr (h : Half) (f : Upd → Upd) (s : State) : (s.mapUpd h f).pwr = s.pwr := rfl
@[simp] theorem State.mapUpd_cmd (h : Half) (f : Upd → Upd) (s : State) : (s.mapUpd h f).cmd = s.cmd := rfl
@[simp] theorem State.mapUpd_attn (h : Half) (f : Upd → Upd) (s : State) : (s.mapUpd h f).attn = s.attn := rfl
@[simp] theorem State.mapUpd_regC (h : Half) (f : Upd → Upd) (s : State) : (s.mapUpd h f).regC = s.regC := rfl
@[simp] theorem State.mapUpd_regN (h : Half) (f : Upd → Upd) (s : State) : (s.mapUpd h f).regN = s.regN := rfl
@[simp] theorem State.mapUpd_flt (h : Half) (f : Upd → Upd) (s : State) : (s.mapUpd h f).flt = s.flt := rfl
@[simp] theorem State.mapUpd_core (h : Half) (f : Upd → Upd) (s : State) : (s.mapUpd h f).core = s.core := rfl
@[simp] theorem State.mapUpd_tlkC (h : Half) (f : Upd → Upd) (s : State) : (s.mapUpd h f).tlkC = s.tlkC := rfl
@[simp] theorem State.mapUpd_tlkN (h : Half) (f : Upd → Upd) (s : State) : (s.mapUpd h f).tlkN = s.tlkN := rfl
@[simp] theorem State.mapUpd_sys (h : Half) (f : Upd → Upd) (s : State) : (s.mapUpd h f).sys = s.sys := rfl
@[simp] theorem State.mapUpd_prt (h : Half) (f : Upd → Upd) (s : State) : (s.mapUpd h f).prt = s.prt := rfl
@[simp] theorem State.mapUpd_xcv (h : Half) (f : Upd → Upd) (s : State) : (s.mapUpd h f).xcv = s.xcv := rfl
@[simp] theorem State.mapUpd_tim (h : Half) (f : Upd → Upd) (s : State) : (s.mapUpd h f).tim = s.tim := rfl
@[simp] theorem State.mapUpd_aon (h : Half) (f : Upd → Upd) (s : State) : (s.mapUpd h f).aon = s.aon := rfl
@[simp] theorem State.mapUpd_keys (h : Half) (f : Upd → Upd) (s : State) : (s.mapUpd h f).keys = s.keys := rfl
@[simp] theorem State.mapUpd_afe (h : Half) (f : Upd → Upd) (s : State) : (s.mapUpd h f).afe = s.afe := rfl
@[simp] theorem State.mapUpd_tbl (h : Half) (f : Upd → Upd) (s : State) : (s.mapUpd h f).tbl = s.tbl := rfl
@[simp] theorem State.mapUpd_ing (h : Half) (f : Upd → Upd) (s : State) : (s.mapUpd h f).ing = s.ing := rfl
@[simp] theorem State.mapUpd_aln (h : Half) (f : Upd → Upd) (s : State) : (s.mapUpd h f).aln = s.aln := rfl
@[simp] theorem State.mapUpd_phx (h : Half) (f : Upd → Upd) (s : State) : (s.mapUpd h f).phx = s.phx := rfl
@[simp] theorem State.mapUpd_isl (h : Half) (f : Upd → Upd) (s : State) : (s.mapUpd h f).isl = s.isl := rfl
@[simp] theorem State.mapUpd_lbe (h : Half) (f : Upd → Upd) (s : State) : (s.mapUpd h f).lbe = s.lbe := rfl
@[simp] theorem State.mapUpd_alm (h : Half) (f : Upd → Upd) (s : State) : (s.mapUpd h f).alm = s.alm := rfl
@[simp] theorem State.mapUpd_egr (h : Half) (f : Upd → Upd) (s : State) : (s.mapUpd h f).egr = s.egr := rfl
@[simp] theorem State.mapUpd_ory (h : Half) (f : Upd → Upd) (s : State) : (s.mapUpd h f).ory = s.ory := rfl
@[simp] theorem State.mapUpd_nrg (h : Half) (f : Upd → Upd) (s : State) : (s.mapUpd h f).nrg = s.nrg := rfl
@[simp] theorem State.mapUpd_pul (h : Half) (f : Upd → Upd) (s : State) : (s.mapUpd h f).pul = s.pul := rfl
@[simp] theorem State.mapUpd_rcd (h : Half) (f : Upd → Upd) (s : State) : (s.mapUpd h f).rcd = s.rcd := rfl
@[simp] theorem State.mapUpd_free (h : Half) (f : Upd → Upd) (s : State) : (s.mapUpd h f).free = s.free := rfl

/-! ### State.reach -/

@[simp] theorem State.reach_pending (t : Nat) (s : State) : (s.reach t).pending = s.pending := rfl
@[simp] theorem State.reach_pwr (t : Nat) (s : State) : (s.reach t).pwr = s.pwr := rfl
@[simp] theorem State.reach_cmd (t : Nat) (s : State) : (s.reach t).cmd = s.cmd := rfl
@[simp] theorem State.reach_attn (t : Nat) (s : State) : (s.reach t).attn = s.attn := rfl
@[simp] theorem State.reach_regC (t : Nat) (s : State) : (s.reach t).regC = s.regC := rfl
@[simp] theorem State.reach_regN (t : Nat) (s : State) : (s.reach t).regN = s.regN := rfl
@[simp] theorem State.reach_flt (t : Nat) (s : State) : (s.reach t).flt = s.flt := rfl
@[simp] theorem State.reach_core (t : Nat) (s : State) : (s.reach t).core = s.core := rfl
@[simp] theorem State.reach_tlkC (t : Nat) (s : State) : (s.reach t).tlkC = s.tlkC := rfl
@[simp] theorem State.reach_tlkN (t : Nat) (s : State) : (s.reach t).tlkN = s.tlkN := rfl
@[simp] theorem State.reach_sys (t : Nat) (s : State) : (s.reach t).sys = s.sys := rfl
@[simp] theorem State.reach_prt (t : Nat) (s : State) : (s.reach t).prt = s.prt := rfl
@[simp] theorem State.reach_xcv (t : Nat) (s : State) : (s.reach t).xcv = s.xcv := rfl
@[simp] theorem State.reach_aon (t : Nat) (s : State) : (s.reach t).aon = s.aon := rfl
@[simp] theorem State.reach_keys (t : Nat) (s : State) : (s.reach t).keys = s.keys := rfl
@[simp] theorem State.reach_afe (t : Nat) (s : State) : (s.reach t).afe = s.afe := rfl
@[simp] theorem State.reach_tbl (t : Nat) (s : State) : (s.reach t).tbl = s.tbl := rfl
@[simp] theorem State.reach_ing (t : Nat) (s : State) : (s.reach t).ing = s.ing := rfl
@[simp] theorem State.reach_aln (t : Nat) (s : State) : (s.reach t).aln = s.aln := rfl
@[simp] theorem State.reach_phx (t : Nat) (s : State) : (s.reach t).phx = s.phx := rfl
@[simp] theorem State.reach_isl (t : Nat) (s : State) : (s.reach t).isl = s.isl := rfl
@[simp] theorem State.reach_lbe (t : Nat) (s : State) : (s.reach t).lbe = s.lbe := rfl
@[simp] theorem State.reach_alm (t : Nat) (s : State) : (s.reach t).alm = s.alm := rfl
@[simp] theorem State.reach_egr (t : Nat) (s : State) : (s.reach t).egr = s.egr := rfl
@[simp] theorem State.reach_ory (t : Nat) (s : State) : (s.reach t).ory = s.ory := rfl
@[simp] theorem State.reach_nrg (t : Nat) (s : State) : (s.reach t).nrg = s.nrg := rfl
@[simp] theorem State.reach_pul (t : Nat) (s : State) : (s.reach t).pul = s.pul := rfl
@[simp] theorem State.reach_rcd (t : Nat) (s : State) : (s.reach t).rcd = s.rcd := rfl
@[simp] theorem State.reach_upd (t : Nat) (s : State) : (s.reach t).upd = s.upd := rfl
@[simp] theorem State.reach_free (t : Nat) (s : State) : (s.reach t).free = s.free := rfl

/-! ### The component itself -/

theorem State.mapPrt_prt (p : Nat) (f : Port → Port) (s : State) : (s.mapPrt p f).prt = at' s.prt p f := rfl
theorem State.mapXcv_xcv (n : Nat) (f : Xcv → Xcv) (s : State) : (s.mapXcv n f).xcv = at' s.xcv n f := rfl
theorem State.mapPul_pul (p : Nat) (f : Pul → Pul) (s : State) : (s.mapPul p f).pul = at' s.pul p f := rfl
theorem State.mapLbe_lbe (e : Nat) (f : Lbe → Lbe) (s : State) : (s.mapLbe e f).lbe = at' s.lbe e f := rfl
theorem State.mapChain_afe (p : Nat) (f : Chain → Chain) (s : State) : (s.mapChain p f).afe = { s.afe with chains := at' s.afe.chains p f } := rfl
theorem State.mapChan_afe (c : Nat) (f : Chan → Chan) (s : State) : (s.mapChan c f).afe = { s.afe with chans := at' s.afe.chans c f } := rfl
theorem State.mapGrp_aln (g : Nat) (f : Grp → Grp) (s : State) : (s.mapGrp g f).aln = { s.aln with grps := at' s.aln.grps g f } := rfl
theorem State.mapPin_alm (p : Nat) (f : Pin → Pin) (s : State) : (s.mapPin p f).alm = { s.alm with pins := at' s.alm.pins p f } := rfl
theorem State.mapGse_alm (c : Nat) (f : Goose → Goose) (s : State) : (s.mapGse c f).alm = { s.alm with goose := at' s.alm.goose c f } := rfl
theorem State.mapNb_ory (k : Nat) (f : Nb → Nb) (s : State) : (s.mapNb k f).ory = { s.ory with nbs := at' s.ory.nbs k f } := rfl
theorem State.putPoint_nrg (x : Point) (s : State) : (s.putPoint x).nrg = { s.nrg with points := insertBy Point.id x s.nrg.points } := rfl
theorem State.putSrc_ing (x : Src) (s : State) : (s.putSrc x).ing = { s.ing with srcs := insertBy Src.id x s.ing.srcs } := rfl
theorem State.reach_tim (t : Nat) (s : State) : (s.reach t).tim = { s.tim with now := Nat.max s.tim.now t, count := countAt s.tim.rate s.tim.count (Nat.max s.tim.now t) } := rfl

/-! ### The canonical form of the sparse maps that an operation writes whole -/

/-- Writing words at rising addresses keeps it: a window's words (R406). -/
theorem putWords_wf (ws : List Word) : ∀ (m : WMap) (a : Nat), WMap.wf zeroW m = true → WMap.wf zeroW (putWords m a ws) = true := by
  induction ws with
  | nil => intro m a hm; exact hm
  | cons w ws ih => intro m a hm; exact ih _ _ (WMap.wf_put m a w hm)

/-- Writing a table bank keeps it (R46). -/
theorem bankWrite_wf (ws : List Word) (m : WMap) (o : Nat) (hm : WMap.wf zeroW m = true) : WMap.wf zeroW (bankWrite m o ws) = true := by
  unfold bankWrite
  suffices h : ∀ (a : WMap × Nat), WMap.wf zeroW a.1 = true →
      WMap.wf zeroW (ws.foldl (fun (a : WMap × Nat) w => (WMap.put zeroW a.1 a.2 w, a.2 + 1)) a).1 = true from h (m, o) hm
  induction ws with
  | nil => intro a ha; exact ha
  | cons w ws ih => intro a ha; exact ih _ (WMap.wf_put a.1 a.2 w ha)

end Sys2Proof.Machine
end

