-- ==== Sys2Proof/Tests/Slice0.lean ====
section
/-! SUPPORT. Tests: witnesses of the statements' hypotheses, the WellFormed smoke, and the spec's worked examples as single steps. -/

namespace Sys2Proof.Tests

open Sys2Proof Sys2Proof.Machine

set_option Elab.async false

/-! ## Small states -/

/-- The device in service: phase P5, the firmware running, everything else as after reset. -/
def up : State := { State.reset with pwr := { Power.reset with mode := .service, phase := 5, fw := true } }
/-- Headers of command port 0 for the two halves. -/
def hc : Hdr := { port := 0, half := .coma, tag := 7, seq := 1, resync := false }
def hn : Hdr := { hc with half := .nucleus }
/-- In service with the time base LOCKED at second 100. -/
def timed : State := { up with tim := { up.tim with state := .locked, now := 100000000000 } }
/-- A source of group 0 at the group's rate. -/
def sourced : State := timed.mapBank 1 (fun t => { t with active := [(0, 0x80010007), (6, w32 (256 * State.reset.grpCode 0))] })
/-- Group g runs since TAI 0. -/
def runs (g : Nat) : State := sourced.mapGrp g (fun x => { x with run := .running })
/-- A conjunction of key k that has opened. -/
def conj (k : Nat) : Conj :=
  { key := k, st := .opened, expected := [], displaced := [], fQuorum := false, fComplete := false, fEph := false, fWin := false,
    heldP := false, heldF := false, provAt := none, cfg := 0, win := 0, qrule := 0, qarea := 0, esm := 0, late := 0, under := false }
/-- Port 0 of the command ports holds the staging bank of table id. -/
def holds (id : Nat) : State := (runs 0).mapBank id (fun t => { t with staging := some [], holder := some 0 })

def roving : Rover := { path := 3, step := 1, commanded := false, ofs := 0, gain := 0, mism := 0 }
def island : Island := { handle := 1, label := 0, members := [], live := 0, fmean := 0, fspread := 0, parent := 0, formKey := 0 }
/-- Rule 2 is valid, active and latched; its clear condition as said. -/
def ruled (ok : Bool) : State := (up.mapBank 4 (fun t => { t with active := [(16, 0x80000000)] })).putRule
  { up.ruleSt 2 with active := true, latched := true, clearOk := ok }
/-- The unselected domain is healthy. -/
def healthyB (s : State) : State := s.mapDom .b (fun x => { x with healthy := true })
/-- Slots 0 and 1 hold keys; slot 1 may answer challenges. -/
def keyed : State :=
  ((up.mapSlot 0 (fun x => { x with st := 1 })).mapSlot 1 (fun x => { x with st := 1 })).putRw .coma 0x058088 0x10000
/-- An update session of port 0 on a half, with the data written so far. -/
def writing (h : Half) (d : List Byte) : State := up.mapUpd h (fun u => { u with port := some 0, len := 8, data := d })
def joined : State := { up with ory := { up.ory with joined := true } }
/-- A module is present and identified in cage n, managed. -/
def plugged : State := up.mapXcv 0 (fun x => { x with present := true, idDone := true })
/-- An in-band source as command port 1, on network port 3. -/
def inband : State := { up with cmd := { up.cmd with ports := up.cmd.ports ++ [{ CmdPort.fresh 1 with net := 3 }] } }
def hc1 : Hdr := { hc with port := 1 }
def resting : State := { up with pwr := { up.pwr with mode := .standby } }
/-- A NOP packet of command port 0 with sequence number 0. -/
def nopPacket : List Byte :=
  let b : List Byte := [0x0D, 0x1E, 0x10, 0x07, 0, 0, 0, 0, 0, 0, 0, 0]
  b ++ beBytes 4 (crc32c b).toNat
def nopReply : Reply :=
  { half := .coma, resync := false, tag := 0, opcode := 0, seq := 0, code := 0, level := 0, summary := 0, gen := 0, detail := 0,
    results := [], path := RetPath.none }
/-- An ARP frame to all stations, 64 bytes with its FCS. -/
def arp : List Byte := List.replicate 6 0xFF ++ [2, 0, 0, 0, 0, 1, 8, 6] ++ List.replicate 46 0
/-- Port 0 has link. -/
def linked : State := (up.mapPrt 0 (fun x => { x with link := true })).putRw .coma (aPrt 0 0) 0x5
/-- Port 0's priority 3 is in XOFF with a given occupancy. -/
def xoff (o : Nat) : State := up.mapPrt 0 (fun x => { x with xoff := 8, occ := at' x.occ 3 (fun _ => o) })
def waitingFw : State := linked.mapPrt 0 (fun x => { x with fw := [{ pri := 7, bytes := [1], kind := .plain }] })
def waitingPfc (s : State) : State := s.mapPrt 0 (fun x => { x with pfc := at' x.pfc 3 (fun _ => some 5) })
def zeros96 : List Byte := List.replicate 96 0
/-- Cage 0 holds a module whose identity is not read yet. -/
def unread : State := up.mapXcv 0 (fun x => { x with present := true })
def life0 : Life :=
  { oui := 0, serial := [], minutes := 0, biasBase := 0, biasHour := 0, biasSum := 0, biasCnt := 0, baseSum := 0, baseCnt := 0,
    baseMin := 59, temp := none, rx := none, inserts := 1, seen := 0, wearRaised := false, dueRaised := false }
def lived : State :=
  let s : State := plugged.mapXcv 0 (fun x => { x with life := some 2 })
  { s with rcd := { s.rcd with lives := [(2, life0)] } }
def vrun (lost : Bool) : Valid := { dom := .a, samples := [5, 9], edges := [0, 100], lost := lost }
/-- A C37.118 data frame of IDCODE 7: SYNC, size, IDCODE, SOC, FRACSEC, a status word and the CRC. -/
def c37 : List Byte :=
  let b : List Byte := [0xAA, 0x01, 0, 18, 0, 7] ++ List.replicate 10 0
  b ++ beBytes 2 (crcCcitt b)
def cand : Cand :=
  { port := 0, pri := 0, arrival := 0, trunc := false, v6 := false, srcIp := 0, sport := 4713, dport := 4713, mac := 0, srcMac := 0,
    len := 100, payload := c37 }
/-- A valid source of IDCODE 7 over UDP on port 0. -/
def fed (en : Word) : State :=
  let s : State := (up.mapBank 1 (fun t => { t with active := [(0, 0x91010007)] })).putRw .nucleus 0x020000 en
  { s with ing := { s.ing with cands := [cand] } }
def item : Item := { port := 0, key := 5, sample := 0, arrival := 0, blocks := [] }
def delivery (fin : Bool) : Delivery := { group := 0, rate := 50, key := 5, final := fin, reason := 0, srcs := [], under := false }
def rounds0 : Rounds := { key := 5, round := 1, want := [1], got := [], labels := [], comps := [], inc := false, far := [], ends := [], isles := [] }
/-- Libration engine 31 runs with a delivery waiting. -/
def rocking : State := up.mapLbe 31 (fun l => { l with running := true, started := true, prevKey := some 4, rate := 2, q := [delivery true] })

/-- An orrery message of origin 9, session 1, count 3. -/
def beat : OryMsg :=
  { port := 0, pri := 0, arrival := 0, len := 64, srcMac := 0,
    bytes := [0xD1, 0, 0, 0, 0, 9, 0, 0, 0, 0, 0, 0, 0, 0, 0, 1, 0, 0, 0, 3] }
def heard (r : List Replay) : State := { up with ory := { up.ory with rx := [beat], replay := r } }
/-- A metering point on the wave feed, and on an arithmetic feed. -/
def metered (cfg : Word) : State := (timed.putRw .coma (aNrg 255 0) cfg).mapPoint 255 (fun x => { x with on := true })
/-- Pulse output 3 with an instant due, in a pulse or not, with pending pulses. -/
def pulsing (p : Bool) (n : Nat) : State := up.mapPul 3 (fun x => { x with due := [5], inPulse := p, pend := n, inGap := false })
def dir0 : Directory :=
  { gen := 1, comaB := false, nucB := false, tsetValid := false, autoload := false, verCA := 1, verCB := 0, verNA := 1, verNB := 0,
    tsetLen := 0 }
/-- A Coma image of 256 bytes signed under the key whose public point is the generator, that key, and one that is not signed. -/
def signedHead : List Byte := [0x55, 0x4C, 0x56, 0x49, 1, 0xB0] ++ List.replicate 186 0
def comaImage : List Byte :=
  signedHead ++ (beBytes 32 0x6B17D1F2E12C4247F8BCE6E563A440F277037D812DEB33A0F4A13945D898C296 ++
    beBytes 32 0x2180389F7C934D5B2D37199220595AB7C05887950AC3A6D72523E01802A38BCC)
def fused (s : State) : State := { s with keys := { s.keys with vendor := p256g } }
/-- A directory copy of generation 1, and a usable flash that holds it. -/
def dirBytes : List Byte := [0x55, 0x44, 0x49, 0x52, 0, 0, 0, 1] ++ List.replicate 52 0 ++ beBytes 4 0x0958B411
def flash0 : FlashScan := { density := some (16 * 2 ^ 20), copy0 := dirBytes, copy1 := [] }
/-- P1 to P3 of the start-up. -/
def phase (n : Nat) (fw : Bool) : State :=
  { up with pwr := { State.reset.pwr with phase := n, fw := fw, hspBoot := true }, upd := { up.upd with dir := some dir0 } }
/-- No image of the Nucleus half passes its checks. -/
def nuc0 : NucleusStart := { trained := true, active := [], other := [], badTiles := 4, cores := [true, true, true, true, true], tset := [] }
def noRecord : Summ := { metric := 1, kind := 1, inst := 0, ivl := 0, opmin := 0, payload := [], reps := 0 }
/-- A Coma image is being switched to; dispatch stopped or not. -/
def switching (paused : Bool) : State := (up.mapUpd .coma (fun u => { u with switching := true, data := [0, 0, 0, 0, 1] })).setPaused .coma paused

/-- The calendar's last second. -/
def last : State := { up with aon := { up.aon with year := 2399, month := 12, day := 31, hour := 23, minute := 59, second := 59, calValid := true } }
/-- A suppression window is open over a domain that holds source 4 of the Coma half. -/
def windowed (d : ResetDomain) : State := { up with flt := { up.flt with windows := [d], held := [d] } }

/-- A snapshot is pending, commanded or not. -/
def snap0 (c : Bool) : Snap := { num := 1, inst := up.snapInstant, cmd := c, copies := [] }
def snapping (c : Bool) : State := { up with nrg := { up.nrg with snaps := [snap0 c] } }

/-- The state at TAI second 1,000, and the instant at which a sync then applies. -/
def late : State := { up with tim := { up.tim with now := 1000000000000 } }

/-! ## Witnesses: for every clause of every statement with hypotheses, a state and operands that meet them -/

theorem wit_StepRunsFrontCommand :
    ((({ up with pending := [.nop hc [], .nop hn []] } : State).pending = (.nop hc []) :: [.nop hn []])) ∧
    ((up.pending = [])) := by decide +kernel

theorem wit_SessionCommandsComplete :
    ((up.takes 0x0000 hc [] = true)) ∧
    ((up.takes 0x0001 hc [] = true)) ∧
    ((up.takes 0x0002 hn [] = true)) ∧
    ((up.takes 0x0003 hc [0] = true) ∧ (up.attn.gen = BitVec.ofNat 8 (bits 0 7 0)) ∧ (up.marksGap hc.port 5 = false)) ∧
    ((up.takes 0x0003 hc [9] = true) ∧ (up.attn.gen ≠ BitVec.ofNat 8 (bits 9 7 0)) ∧ (up.marksGap hc.port 5 = false)) := by decide +kernel

theorem wit_RegisterReadCompletes :
    (up.takes 0x0100 hc [0, 1] = true ∧ isReg hc.half (0 + 4 * 0) = true) ∧
    ((up.takes 0x0100 hc [0xFFFFFFFC, 1] = true) ∧ (isReg hc.half (0xFFFFFFFC : Word).toNat = false)) ∧
    ((up.takes 0x0100 hc [0x080350, 4] = true) ∧ (isReg hc.half (0x080350 : Word).toNat = true) ∧ (3 < (4 : Word).toNat) ∧ (isReg hc.half ((0x080350 : Word).toNat + 4 * 3) = false)) := by decide +kernel

theorem wit_RegisterWritesComplete :
    (up.takes 0x0101 hc [0x0A000C, 7] = true ∧ (isReg hc.half 0x0A000C = true ∧ rwMask hc.half 0x0A000C ≠ 0) ∧ up.refuses hc.half 0x0A000C 7 = none) ∧
    (up.takes 0x0102 hc [0x0A000C, 0, 1] = true ∧ up.refuses hc.half 0x0A000C ((up.regValue hc.half 0x0A000C &&& ~~~0) ||| (1 &&& 0)) = none) := by decide +kernel

theorem wit_TableCommandsComplete :
    ((up.takes 0x0200 hn [0x01000000, 0x181F00, 256] = true) ∧ (tblCap (bits 0x01000000 31 24) ≠ 0) ∧ (bits 0x01000000 31 24 ≠ 5) ∧ (bit 0x01000000 16 = false) ∧ (0 < (256 : Word).toNat) ∧ ((256 : Word).toNat ≤ 256) ∧ ((0x181F00 : Word).toNat + (256 : Word).toNat ≤ tblCap (bits 0x01000000 31 24))) ∧
    (((holds 2).takes 0x0200 hn [0x02010000, 0, 256] = true) ∧ (tblCap (bits 0x02010000 31 24) ≠ 0) ∧ (bits 0x02010000 31 24 ≠ 5) ∧ (bit 0x02010000 16 = true) ∧ (0 < (256 : Word).toNat) ∧ ((256 : Word).toNat ≤ 256) ∧ ((0 : Word).toNat + (256 : Word).toNat ≤ tblCap (bits 0x02010000 31 24)) ∧ (((holds 2).bank (bits 0x02010000 31 24)).staging = some []) ∧ (((holds 2).bank (bits 0x02010000 31 24)).holder = some hn.port)) ∧
    ((up.takes 0x0200 hn [0x05000000, 0, 1] = true) ∧ (bits 0x05000000 31 24 = 5) ∧ (bit 0x05000000 16 = false) ∧ (0 < (1 : Word).toNat) ∧ ((1 : Word).toNat ≤ 256) ∧ ((0 : Word).toNat + (1 : Word).toNat ≤ tblCap 5)) ∧
    ((up.takes 0x0201 hn (0x02000000 :: 0 :: [1, 2]) = true) ∧ ([1, 2] ≠ []) ∧ (tblCap (bits 0x02000000 31 24) ≠ 0) ∧ (bits 0x02000000 31 24 ≠ 5) ∧ ((0 : Word).toNat + [1, 2].length ≤ tblCap (bits 0x02000000 31 24)) ∧ (((up.bank (bits 0x02000000 31 24)).holder = none ∨ (up.bank (bits 0x02000000 31 24)).holder = some hn.port)) ∧ ((up.bank (bits 0x02000000 31 24)).pendingCommit = false) ∧ ((bits 0x02000000 31 24 = 2 → up.tbl.oldTopo = none))) ∧
    (((holds 3).takes 0x0203 hn [0x03000000] = true) ∧ (bits 0x03000000 31 24 ≠ 0xFF) ∧ (tblCap (bits 0x03000000 31 24) ≠ 0) ∧ (bits 0x03000000 31 24 ≠ 5) ∧ (((holds 3).bank (bits 0x03000000 31 24)).holder = some hn.port) ∧ (((holds 3).bank (bits 0x03000000 31 24)).pendingCommit = false)) ∧
    ((up.takes 0x0204 hn [0x09000000] = true) ∧ (tblCap (bits 0x09000000 31 24) ≠ 0) ∧ (bits 0x09000000 31 24 ≠ 5)) := by decide +kernel

theorem wit_TableCommandsComplete_2 :
    (((holds 4).takes 0x0202 hn [0x04000000] = true) ∧ (bits 0x04000000 31 24 ≠ 0xFF) ∧ (tblCap (bits 0x04000000 31 24) ≠ 0) ∧ (bits 0x04000000 31 24 ≠ 5) ∧ (((holds 4).bank (bits 0x04000000 31 24)).holder = some hn.port) ∧ (((holds 4).bank (bits 0x04000000 31 24)).pendingCommit = false) ∧ ((holds 4).opBusy hn 0x0202 (bits 0x04000000 31 24) = false) ∧ (0 < 8) ∧ ((holds 4).runsAt 0 (holds 4).follower = true)) := by decide +kernel

theorem wit_GroupCommandsComplete :
    ((sourced.takes 0x0300 hn [0] = true) ∧ (sourced.tim.state ≠ .unset) ∧ (sourced.tim.state ≠ .coarse) ∧ (sourced.pwr.phase ≠ 4) ∧ ((sourced.grp (bits 0 2 0)).run = .stopped) ∧ (groupMembers sourced.srcT (bits 0 2 0) ≠ []) ∧ ((∀ i, i ∈ groupMembers sourced.srcT (bits 0 2 0) → bits (srcW sourced.srcT i 6) 11 8 = sourced.grpCode (bits 0 2 0))) ∧ (bits (sourced.rwN (aGrp (bits 0 2 0) 4)) 31 8 * sourced.grpRate (bits 0 2 0) < 1000000)) ∧
    ((up.takes 0x0301 hn [7] = true) ∧ ((up.grp (bits 7 2 0)).run = .stopped)) ∧
    ((((runs 0).mapGrp 1 (fun x => { x with run := .running, conjs := [conj 5] })).takes 0x0301 hn [1] = true) ∧ ((((runs 0).mapGrp 1 (fun x => { x with run := .running, conjs := [conj 5] })).grp (bits 1 2 0)).run = .running) ∧ (((runs 0).mapGrp 1 (fun x => { x with run := .running, conjs := [conj 5] })).opBusy hn 0x0301 (bits 1 2 0) = false) ∧ ((conj 5) ∈ (((runs 0).mapGrp 1 (fun x => { x with run := .running, conjs := [conj 5] })).grp (bits 1 2 0)).conjs) ∧ ((conj 5).st ≠ .final) ∧ (bits 1 2 0 < ((runs 0).mapGrp 1 (fun x => { x with run := .running, conjs := [conj 5] })).aln.grps.length) ∧ (0 < 8) ∧ (0 ≠ bits 1 2 0) ∧ (((runs 0).mapGrp 1 (fun x => { x with run := .running, conjs := [conj 5] })).runsAt 0 ((runs 0).mapGrp 1 (fun x => { x with run := .running, conjs := [conj 5] })).follower = true)) ∧
    ((up.takes 0x0302 hn [3] = true)) := by decide +kernel

theorem wit_ClearedCountersReadZero :
    (((16 : Nat) ≤ (16 : Nat)) ∧ ((16 : Nat) < (24 : Nat))) ∧
    (((24 : Nat) < (16 : Nat) ∨ (24 : Nat) ≤ (24 : Nat))) ∧
    ((Half.coma ≠ Half.nucleus)) := by decide +kernel

theorem wit_NucleusClearRowsComplete :
    ((up.takesWrite hc .nucleus 0x020018 1 = true)) ∧
    ((up.takesWrite hc .nucleus 0x028080 1 = true)) ∧
    ((up.takesWrite hc .nucleus 0x028080 2 = true)) ∧
    ((up.takesWrite hc .nucleus 0x03001C 1 = true)) ∧
    ((up.takesWrite hc .nucleus 0x040018 1 = true)) ∧
    ((up.takesWrite hc .nucleus 0x050040 1 = true)) := by decide +kernel

theorem wit_NucleusClearRowsComplete_2 :
    ((up.takesWrite hc .nucleus 0x060014 1 = true)) ∧
    ((up.takesWrite hc .nucleus 0x07001C 1 = true)) ∧
    ((up.takesWrite hc .nucleus 0x078010 1 = true)) ∧
    ((up.takesWrite hc .nucleus 0x080030 1 = true)) := by decide +kernel

theorem wit_ComaClearRowsComplete :
    ((up.takesWrite hc .coma 0x07001C 1 = true)) ∧
    ((up.takesWrite hc .coma 0x090020 1 = true)) ∧
    ((up.takesWrite hc .coma 0x058010 1 = true)) ∧
    ((up.takesWrite hc .coma 0x0B0010 1 = true)) ∧
    ((up.takesWrite hc hc.half 0x34 1 = true)) ∧
    ((up.takesWrite hc hc.half 0x010010 1 = true)) := by decide +kernel

theorem wit_ComaClearRowsComplete_2 :
    ((hc.half = .coma) ∧ (up.takesWrite hc .coma 0x08001C 1 = true)) ∧
    ((hn.half = .nucleus) ∧ (up.takesWrite hn .nucleus 0x09001C 1 = true)) ∧
    ((up.takesWrite hc .coma 0x08001C 2 = true)) ∧
    ((up.takesWrite hc .coma 0x050048 1 = true)) ∧
    ((up.takesWrite hc .coma 0x050048 4 = true) ∧ (up.comaUp = true)) ∧
    ((up.takesWrite hc .coma 0x050048 2 = true)) := by decide +kernel

theorem wit_ComaClearRowsComplete_3 :
    ((hc.half = .coma) ∧ (up.takesWrite hc .coma 0xC0 1 = true) ∧ (up.upd.coma.switching = false) ∧ (up.cmd.ops.all (fun o => !(o.half == .coma && o.opcode == 0x0D02)) = true)) ∧
    ((hn.half = .nucleus) ∧ (up.takesWrite hn .nucleus 0x0B0000 (up.rwN 0x0B0000 ||| 1) = true) ∧ (up.upd.nuc.switching = false) ∧ (up.cmd.ops.all (fun o => !(o.half == .nucleus && o.opcode == 0x0D02)) = true)) := by decide +kernel

theorem wit_SelectRowsComplete :
    ((up.takesWrite hc .nucleus 0x028000 3 = true)) ∧
    ((up.takesWrite hc .nucleus 0x040010 3 = true)) ∧
    ((up.takesWrite hc .nucleus 0x040014 3 = true)) ∧
    ((up.takesWrite hc .nucleus 0x050034 3 = true)) ∧
    ((up.takesWrite hc .nucleus 0x050038 3 = true)) ∧
    ((up.takesWrite hc .nucleus 0x070018 3 = true)) := by decide +kernel

theorem wit_SelectRowsComplete_2 :
    ((up.takesWrite hc .nucleus 0x080020 3 = true)) ∧
    ((up.takesWrite hc .coma 0x070018 3 = true)) ∧
    ((up.takesWrite hc .coma 0x090014 3 = true)) ∧
    ((up.takesWrite hc .coma 0x090024 3 = true)) ∧
    (((fun (_ : State) => ([5, 6] : List Word)) (up.putRw .coma 0x070018 3))[1]? = some (6 : Word)) ∧
    (((8 : Nat) ≠ (4 : Nat))) := by decide +kernel

theorem wit_ClearOnReadRowsComplete :
    ((up.takesRead hc .nucleus 0x02000C = true)) ∧
    ((up.takesRead hc .nucleus 0x050028 = true)) ∧
    ((up.takesRead hc .nucleus 0x05003C = true)) ∧
    ((31 < 32) ∧ (up.takesRead hc .nucleus (aLbe 31 0x34) = true)) ∧
    ((up.takesRead hc .nucleus 0x040214 = true)) ∧
    ((hc.half = .coma) ∧ (up.takesRead hc .coma 0x28 = true)) := by decide +kernel

theorem wit_ClearOnReadRowsComplete_2 :
    ((hn.half = .nucleus) ∧ (up.takesRead hn .nucleus 0x28 = true)) ∧
    ((up.takesRead hc .coma 0x0B000C = true)) ∧
    ((up.takesRead hc .coma 0x070070 = true)) ∧
    ((7 < 8) ∧ (up.takesRead hc .coma (aAfeC 7 0) = true)) := by decide +kernel

theorem wit_NucleusConfigRowsComplete :
    ((up.takesWrite hc .nucleus 0x050000 1 = true)) ∧
    (((runs 0).takesWrite hc .nucleus 0x070000 2 = true) ∧ (bit 2 1 = bit ((runs 0).rwN 0x070000) 1) ∧ (bit 2 0 ≠ bit ((runs 0).rwN 0x070000) 0) ∧ (0 < 8) ∧ ((runs 0).runsAt 0 (runs 0).follower = true)) ∧
    ((up.takesWrite hc .nucleus 0x070000 3 = true) ∧ (bit 3 1 = bit (up.rwN 0x070000) 1) ∧ (bit 3 0 = bit (up.rwN 0x070000) 0)) ∧
    ((15 < 16) ∧ (up.takesWrite hc .nucleus (aGse 15 0) 1 = true)) ∧
    ((63 < 64) ∧ (up.takesWrite hc .nucleus (aEgr 63 0) 0x00401000 = true)) ∧
    ((up.takesWrite hc .nucleus 0x070014 0 = true)) := by decide +kernel

theorem wit_NucleusConfigRowsComplete_2 :
    ((7 < 8) ∧ (up.takesWrite hc .nucleus (aPin 7 0) 2 = true)) := by decide +kernel

theorem wit_ComaConfigRowsComplete :
    ((up.takesWrite hc .coma (aDom .b (domOffset .cfg)) 1 = true)) ∧
    ((255 < 256) ∧ ((up.putRw .coma (aNrg 255 8) 0x3F800000).takesWrite hc .coma (aNrg 255 0) 3 = true) ∧ (bit (3 &&& 0xFFFF00FF) 0 = true) ∧ (((up.putRw .coma (aNrg 255 8) 0x3F800000).point 255).on = false)) ∧
    ((0 < 256) ∧ (up.takesWrite hc .coma (aNrg 0 0) 0 = true) ∧ ((bit (0 &&& 0xFFFF00FF) 0 = false ∨ (up.point 0).on = true))) ∧
    ((255 < 256) ∧ ((up.putRw .coma (aNrg 255 0) 1).takes 0x0101 (hdrOn .coma hc) [w32 (aNrg 255 0), 0] = true) ∧ (bit ((up.putRw .coma (aNrg 255 0) 1).nrgCfg 255) 0 = true)) ∧
    ((3 < 4) ∧ (up.takesWrite hc .coma (aPul 3 0) 0x2000 = true)) ∧
    ((up.takesWrite hc .coma 0x060000 1 = true)) := by decide +kernel

theorem wit_ComaConfigRowsComplete_2 :
    (((up.mapChain 12 (fun c => { c with running := true })).takes 0x0101 (hdrOn .coma hc) [w32 0x060000, 0] = true) ∧ (bits 0 1 0 ≠ 3) ∧ ((up.mapChain 12 (fun c => { c with running := true })).afe.chains.any Chain.running = true)) ∧
    ((up.takesWrite hc .coma 0x090000 0x3C03 = true)) := by decide +kernel

theorem wit_FrontEndCommandsComplete :
    ((up.takes 0x0400 hc [0xFF] = true)) ∧
    ((up.takes 0x0401 hc [1] = true)) ∧
    ((up.takes 0x0402 hc [] = true) ∧ (up.afe.rover = none)) ∧
    ((({ up with afe := { up.afe with rover := some roving } } : State).takes 0x0402 hc [] = true) ∧ (({ up with afe := { up.afe with rover := some roving } } : State).afe.rover = some roving) ∧ (roving.step ≠ 0) ∧ (({ up with afe := { up.afe with rover := some roving } } : State).afe.sync = none)) ∧
    (up.takes 0x0403 hc (1 :: List.replicate 64 0) = true ∧ (List.replicate 64 (0 : Word)).length = 64 ∧ (up.chan 0).running = false) ∧
    ((up.takes 0x0404 hc [12] = true) ∧ (bits 12 3 0 ≤ 12) ∧ (up.opLocked hc 0x0404 (bits 12 3 0) = false) ∧ (up.opBusy hc 0x0404 (bits 12 3 0) = false) ∧ (up.afe.calQ.elem (bits 12 3 0) = false) ∧ (up.afe.rover = none) ∧ (up.calReady (bits 12 3 0) = true)) := by decide +kernel

theorem wit_FrontEndCommandsComplete_2 :
    ((({ up with afe := { up.afe with rover := some roving } } : State).takes 0x0404 hc [12] = true) ∧ (bits 12 3 0 ≤ 12) ∧ (({ up with afe := { up.afe with rover := some roving } } : State).opLocked hc 0x0404 (bits 12 3 0) = false) ∧ (({ up with afe := { up.afe with rover := some roving } } : State).opBusy hc 0x0404 (bits 12 3 0) = false) ∧ (({ up with afe := { up.afe with rover := some roving } } : State).afe.calQ.elem (bits 12 3 0) = false) ∧ (({ up with afe := { up.afe with rover := some roving } } : State).afe.rover = some roving) ∧ (roving.path ≠ bits 12 3 0) ∧ (({ up with afe := { up.afe with rover := some roving } } : State).calReady (bits 12 3 0) = true)) := by decide +kernel

theorem wit_AnalysisCommandsComplete :
    ((up.takes 0x0500 hn [0xFFFFFFFF] = true)) ∧
    ((({ up with isl := { up.isl with islands := [island] } } : State).takes 0x0500 hn [1] = true) ∧ (1 ≠ 0xFFFFFFFF) ∧ (({ up with isl := { up.isl with islands := [island] } } : State).islHeld (1 : Word).toNat = some island)) ∧
    (((up.mapBank 8 (fun t => { t with active := [(0, 0x80000000)] })).takes 0x0600 hn [0] = true) ∧ (((up.mapBank 8 (fun t => { t with active := [(0, 0x80000000)] })).lb (bits 0 4 0)).running = false) ∧ (bit (lbeW (up.mapBank 8 (fun t => { t with active := [(0, 0x80000000)] })).lbeT (bits 0 4 0) 0) 31 = true) ∧ (lbeFmax (up.mapBank 8 (fun t => { t with active := [(0, 0x80000000)] })).lbeT (bits 0 4 0) * lbeStride (up.mapBank 8 (fun t => { t with active := [(0, 0x80000000)] })).lbeT (bits 0 4 0) ≤ 450 * (up.mapBank 8 (fun t => { t with active := [(0, 0x80000000)] })).grpRate (lbeGroup (up.mapBank 8 (fun t => { t with active := [(0, 0x80000000)] })).lbeT (bits 0 4 0))) ∧ ((up.mapBank 8 (fun t => { t with active := [(0, 0x80000000)] })).lbePool + lbeNeed (up.mapBank 8 (fun t => { t with active := [(0, 0x80000000)] })).lbeT (bits 0 4 0) ≤ 33554432)) ∧
    ((up.takes 0x0601 hn [31] = true)) ∧
    ((up.takes 0x0602 hn [31, 31] = true) ∧ (bits 31 31 5 = 0)) ∧
    ((up.takes 0x0700 hn [4095] = true) ∧ (bits 4095 31 30 = 0) ∧ (bits 4095 15 0 ≤ 4095)) := by decide +kernel

theorem wit_AnalysisCommandsComplete_2 :
    ((up.takes 0x0700 hn [0x40003FFF] = true) ∧ (bits 0x40003FFF 31 30 = 1) ∧ (bits 0x40003FFF 15 0 ≤ 16383)) ∧
    ((up.takes 0x0700 hn [0x80000007] = true) ∧ (bits 0x80000007 31 30 = 2) ∧ (bits 0x80000007 15 0 ≤ 7)) ∧
    ((up.takes 0x0700 hn [0x8000FFFF] = true) ∧ (bits 0x8000FFFF 31 30 = 2) ∧ (bits 0x8000FFFF 15 0 = 0xFFFF)) ∧
    ((up.takes 0x0700 hn [0xFFFF] = true) ∧ (bits 0xFFFF 31 30 = 0) ∧ (bits 0xFFFF 15 0 = 0xFFFF)) ∧
    ((up.takes 0x0700 hn [0x4000FFFF] = true) ∧ (bits 0x4000FFFF 31 30 = 1) ∧ (bits 0x4000FFFF 15 0 = 0xFFFF)) ∧
    (((ruled true).takes 0x0701 hn [2] = true) ∧ (bit ((ruled true).ruleW (bits 2 11 0) 0) 31 = true) ∧ (((ruled true).ruleSt (bits 2 11 0)).active = true) ∧ (((ruled true).ruleSt (bits 2 11 0)).latched = true) ∧ (((ruled true).ruleSt (bits 2 11 0)).clearOk = true)) := by decide +kernel

theorem wit_AnalysisCommandsComplete_3 :
    (((ruled false).takes 0x0701 hn [2] = true) ∧ (bit ((ruled false).ruleW (bits 2 11 0) 0) 31 = true) ∧ (((ruled false).ruleSt (bits 2 11 0)).active = true) ∧ (((ruled false).ruleSt (bits 2 11 0)).latched = true) ∧ (((ruled false).ruleSt (bits 2 11 0)).clearOk = false)) := by decide +kernel

theorem wit_MeteringCommandsComplete :
    ((up.takes 0x0800 hc [] = true) ∧ (up.nrg.snaps = [])) ∧
    (((snapping false).takes 0x0800 hc [] = true) ∧ ((snapping false).nrg.snaps.find? (fun x => x.inst == (snapping false).snapInstant && !x.cmd) = some (snap0 false))) ∧
    (((snapping true).takes 0x0800 hc [] = true) ∧ ((snapping true).nrg.snaps ≠ []) ∧ ((∀ x ∈ (snapping true).nrg.snaps, x.cmd = true))) ∧
    ((up.takes 0x0801 hc [0x1FF] = true)) ∧
    ((up.takes 0x0802 hc [0, 0, 0, 0] = true)) := by decide +kernel

theorem wit_TimeCommandsComplete :
    ((up.takes 0x0900 hc [] = true)) ∧
    (((healthyB timed).takes 0x0901 hc [1] = true) ∧ (let d : Dom := if bit 1 0 then .b else .a; (d ≠ (healthyB timed).tim.sel) ∧ (((healthyB timed).tim.dom d).healthy = true) ∧ ((healthyB timed).tim.disagree = false))) ∧
    (((healthyB ({ timed with tim := { timed.tim with disagree := true } } : State)).takes 0x0901 hc [1] = true) ∧ (let d : Dom := if bit 1 0 then .b else .a; (d ≠ (healthyB ({ timed with tim := { timed.tim with disagree := true } } : State)).tim.sel) ∧ (((healthyB ({ timed with tim := { timed.tim with disagree := true } } : State)).tim.dom d).healthy = true))) ∧
    ((up.takes 0x0901 hc [0] = true) ∧ ((if bit 0 0 then Dom.b else Dom.a) = up.tim.sel)) ∧
    ((up.takes 0x0902 hc [] = true) ∧ (up.opLocked hc 0x0902 0 = false) ∧ (up.opBusy hc 0x0902 0 = false) ∧ (up.anyRunning = false)) ∧
    ((up.takes 0x0903 hc [1, 0] = true) ∧ (bits 1 9 8 = 0)) := by decide +kernel

theorem wit_TimeCommandsComplete_2 :
    ((({ timed with tim := { timed.tim with ppsValid := true } } : State).takes 0x0903 hc [0x100, 0] = true) ∧ (bits 0x100 9 8 = 1) ∧ (let d : Dom := if bit 0x100 0 then .b else .a; (({ timed with tim := { timed.tim with ppsValid := true } } : State).opLocked hc 0x0903 d.idx = false) ∧ (({ timed with tim := { timed.tim with ppsValid := true } } : State).opBusy hc 0x0903 d.idx = false) ∧ (({ timed with tim := { timed.tim with ppsValid := true } } : State).tim.ppsValid = true))) ∧
    (up.takes 0x0904 hc [0x07D00101, 0] = true ∧ up.calFollows = false ∧ up.pwr.lockout = false ∧ bits 0 31 24 = 0) ∧
    ((up.takes 0x0905 hc [] = true)) := by decide +kernel

theorem wit_KeyCommandsComplete :
    ((up.takes 0x0A00 hc (63 :: (List.replicate 8 (1 : Word))) = true) ∧ ((List.replicate 8 (1 : Word)).length = 8) ∧ (bits 63 31 6 = 0) ∧ (up.tamperOn = false) ∧ (up.pwr.lockout = false)) ∧
    ((keyed.takes 0x0A01 hc (0x00000100 :: ([] : List Word)) = true) ∧ (bits 0x00000100 22 16 ≤ 64) ∧ (bits 0x00000100 31 24 ≤ 128) ∧ (([] : List Word).length = (bits 0x00000100 22 16 + 3) / 4 + (bits 0x00000100 31 24 + 3) / 4) ∧ (bits 0x00000100 13 8 ≠ 0) ∧ (bits 0x00000100 13 8 ≠ bits 0x00000100 5 0) ∧ (keyed.descends (bits 0x00000100 13 8) 64 (bits 0x00000100 5 0) = false) ∧ (keyed.tamperOn = false) ∧ (keyed.keyValid (bits 0x00000100 5 0) = true) ∧ (keyed.pwr.lockout = false)) ∧
    ((keyed.takes 0x0A02 hc [0] = true) ∧ (keyed.pwr.lockout = false) ∧ (keyed.keyValid (bits 0 5 0) = true)) ∧
    ((keyed.takes 0x0A02 hc [63] = true) ∧ (keyed.pwr.lockout = false) ∧ (keyed.keyValid (bits 63 5 0) = false)) ∧
    ((keyed.takes 0x0A03 hc [1, 0, 0, 0, 0] = true) ∧ (bits 1 5 0 ≠ 0) ∧ (keyed.keyValid (bits 1 5 0) = true) ∧ (bit (keyed.keyCfg (bits 1 5 0)) 16 = true) ∧ (keyed.keys.rsp ≠ 0xFFFFFFFF)) ∧
    ((up.takes 0x0A04 hc [63] = true) ∧ (bits 63 7 0 ≤ 63)) := by decide +kernel

theorem wit_KeyCommandsComplete_2 :
    ((up.takes 0x0A04 hc [0xFF] = true) ∧ (bits 0xFF 7 0 = 0xFF)) ∧
    ((63 < up.keys.slots.length)) := by decide +kernel

theorem wit_RecorderCommandsComplete :
    ((up.takes 0x0B00 hc [] = true) ∧ (up.rcd.clearing = false) ∧ ((up.hasCursor hc.port = true ∨ up.cursors < 4))) ∧
    ((({ up with rcd := { up.rcd with clearing := true } } : State).takes 0x0B00 hc [] = true) ∧ ((({ up with rcd := { up.rcd with clearing := true } } : State).rcd.clearing = true ∨ ({ up with rcd := { up.rcd with clearing := true } } : State).hasCursor hc.port = false ∧ 4 ≤ ({ up with rcd := { up.rcd with clearing := true } } : State).cursors))) ∧
    (up.takes 0x0B01 hc [0, 8] = true ∧ 1 ≤ (8 : Word).toNat ∧ (8 : Word).toNat ≤ 8 ∧ (up.setCursor 0 true).takes 0x0B01 hc [0, 8] = true ∧ (up.setCursor 0 true).hasCursor hc.port = true ∧ (up.setCursor 0 true).rcd.clearing = false) ∧
    ((({ up with rcd := { up.rcd with clearing := true } } : State).takes 0x0B01 hc [0, 8] = true) ∧ (1 ≤ (8 : Word).toNat) ∧ ((8 : Word).toNat ≤ 8) ∧ (({ up with rcd := { up.rcd with clearing := true } } : State).rcd.clearing = true)) ∧
    (up.takes 0x0B01 hc [0, 1] = true ∧ up.rcd.clearing = false ∧ up.hasCursor hc.port = false) ∧
    ((up.takes 0x0B02 hc [] = true)) := by decide +kernel

theorem wit_RecorderCommandsComplete_2 :
    ((up.takes 0x0B03 hc [] = true)) ∧
    ((up.takes 0x0B04 hc [] = true)) ∧
    ((up.takes 0x0B05 hc [0x0B050B05] = true) ∧ (up.rcd.frozen = false) ∧ (up.rcd.clearing = false) ∧ (up.opBusy hc 0x0B05 0 = false)) ∧
    ((({ up with rcd := { up.rcd with frozen := true } } : State).takes 0x0B05 hc [0x0B050B05] = true) ∧ (({ up with rcd := { up.rcd with frozen := true } } : State).rcd.frozen = true) ∧ (({ up with rcd := { up.rcd with frozen := true } } : State).rcd.clearing = false) ∧ (({ up with rcd := { up.rcd with frozen := true } } : State).opBusy hc 0x0B05 0 = false)) := by decide +kernel

theorem wit_FaultCommandsComplete :
    ((up.takes 0x0C00 hc [95] = true) ∧ (bits 95 7 0 < fltCount hc.half)) ∧
    ((up.takes 0x0C00 hn [0xFF] = true) ∧ (bits 0xFF 7 0 = 0xFF)) ∧
    (((up.mapSrc .coma 95 (fun x => { x with handling := true })).takes 0x0C01 hc [95] = true) ∧ (bits 95 7 0 < fltCount hc.half) ∧ (((up.mapSrc .coma 95 (fun x => { x with handling := true })).src hc.half (bits 95 7 0)).handling = true)) ∧
    ((up.takes 0x0C02 hn [63] = true) ∧ (bits 63 7 0 < fltCount hn.half)) ∧
    ((up.takes 0x0C03 hc [0] = true)) ∧
    ((95 < fltCount hc.half) ∧ (up.takesWrite hc hc.half (aFlt hc.half 95 0) (0 ||| 0x20) = true)) := by decide +kernel

theorem wit_UpdateCommandsComplete :
    ((up.takes 0x0D00 hc [786432] = true) ∧ ((786432 : Word).toNat ≤ up.updLimit hc.half) ∧ (((up.updS hc.half).port = none ∨ (up.updS hc.half).port = some hc.port)) ∧ ((up.updS hc.half).switching = false) ∧ ((up.updS hc.half).verifying = false)) ∧
    (((writing .coma [1, 2, 3, 4]).takes 0x0D01 hc (4 :: [0]) = true ∧ ((writing .coma [1, 2, 3, 4]).updS hc.half).port = some hc.port ∧ ((writing .coma [1, 2, 3, 4]).updS hc.half).switching = false ∧ ((writing .coma [1, 2, 3, 4]).updS hc.half).verifying = false ∧ (4 : Word).toNat = ((writing .coma [1, 2, 3, 4]).updS hc.half).data.length ∧ (4 : Word).toNat + 4 * ([0] : List Word).length ≤ ((writing .coma [1, 2, 3, 4]).updS hc.half).len ∧ ((writing .coma [1, 2, 3, 4]).updS hc.half).data ≠ []) ∧ ((writing .nucleus []).takes 0x0D01 hn (0 :: [0, 0x03000000]) = true ∧ ((writing .nucleus []).updS hn.half).port = some hn.port ∧ ((writing .nucleus []).updS hn.half).switching = false ∧ ((writing .nucleus []).updS hn.half).verifying = false ∧ (0 : Word).toNat = ((writing .nucleus []).updS hn.half).data.length ∧ (0 : Word).toNat + 4 * ([0, 0x03000000] : List Word).length ≤ ((writing .nucleus []).updS hn.half).len ∧ 2 ≤ ([0, 0x03000000] : List Word).length ∧ fieldAt 4 1 (bytesOf [0, 0x03000000]) = 3)) ∧
    (((writing .coma []).takes 0x0D02 hc [] = true) ∧ (((writing .coma []).updS hc.half).port = some hc.port) ∧ (((writing .coma []).updS hc.half).switching = false) ∧ (((writing .coma []).updS hc.half).verifying = false) ∧ ((writing .coma []).opBusy hc 0x0D02 0 = false)) ∧
    ((((writing .coma []).mapUpd .coma (fun u => { u with verified := true })).takes 0x0D03 hc [] = true) ∧ ((((writing .coma []).mapUpd .coma (fun u => { u with verified := true })).updS hc.half).port = some hc.port) ∧ ((((writing .coma []).mapUpd .coma (fun u => { u with verified := true })).updS hc.half).switching = false) ∧ ((((writing .coma []).mapUpd .coma (fun u => { u with verified := true })).updS (otherHalf hc.half)).switching = false) ∧ (((writing .coma []).mapUpd .coma (fun u => { u with verified := true })).opBusy hc 0x0D03 0 = false) ∧ ((((writing .coma []).mapUpd .coma (fun u => { u with verified := true })).updS hc.half).verified = true)) := by decide +kernel

theorem wit_RepairCommandsComplete :
    ((hn.half = .nucleus) ∧ ((up.mapSrc .nucleus 21 (fun x => { x with handling := true })).takes 0x0D04 hn (withAction 1 [0]) = true) ∧ ((up.mapSrc .nucleus 21 (fun x => { x with handling := true })).aln.repair = false) ∧ ((up.mapSrc .nucleus 21 (fun x => { x with handling := true })).opBusy hn 0x0D04 1 = false) ∧ (((up.mapSrc .nucleus 21 (fun x => { x with handling := true })).src .nucleus 21).handling = true) ∧ (0 < (up.mapSrc .nucleus 21 (fun x => { x with handling := true })).aln.spares)) ∧
    ((((up.mapTlk .coma (fun e => { e with up := true })).bumpC (aLane 7 8) 1).takes 0x0D04 hc (withAction 2 [0]) = true) ∧ ((((up.mapTlk .coma (fun e => { e with up := true })).bumpC (aLane 7 8) 1).tlk hc.half).rt = none) ∧ ((((up.mapTlk .coma (fun e => { e with up := true })).bumpC (aLane 7 8) 1).tlk hc.half).up = true) ∧ ((((up.mapTlk .coma (fun e => { e with up := true })).bumpC (aLane 7 8) 1).tlk hc.half).rxSub = none) ∧ (((up.mapTlk .coma (fun e => { e with up := true })).bumpC (aLane 7 8) 1).worstLane hc.half (((up.mapTlk .coma (fun e => { e with up := true })).bumpC (aLane 7 8) 1).tlk hc.half).rxLanes = some 7)) ∧
    ((up.takes 0x0D04 hc (withAction 3 [0]) = true) ∧ (up.opLocked hc 0x0D04 3 = false) ∧ (up.opBusy hc 0x0D04 3 = false) ∧ (up.retiredCore hc.half = some 0)) ∧
    ((hc.half = .coma) ∧ (up.takes 0x0D04 { hc with half := .nucleus } (withAction 4 [0]) = true) ∧ (up.opLocked hc 0x0D04 4 = false) ∧ (up.opBusy hc 0x0D04 4 = false) ∧ (up.upd.nuc.switching = false)) ∧
    ((hc.half = .coma) ∧ (up.takes 0x0D04 hc (withAction 4 [0]) = true) ∧ (up.opLocked hc 0x0D04 4 = false) ∧ (up.opBusy hc 0x0D04 4 = false)) := by decide +kernel

theorem wit_OrreryCommandsComplete :
    ((keyed.takes 0x0E00 hn [5, 1, 1] = true) ∧ (keyed.ory.joined = false) ∧ (keyed.ory.pendJoin = false) ∧ (keyed.ory.pendLeave = false) ∧ (bits 1 31 1 = 0) ∧ ((keyed.nbsWhere (fun k => nbRole (keyed.nbCfg k) == 1)).length = (if bit 1 0 then 0 else 1)) ∧ (bits 1 5 0 ≠ 0) ∧ (keyed.keyValid (bits 1 5 0) = true) ∧ (keyed.opsOf hn.port < 32)) ∧
    ((joined.takes 0x0E01 hn [] = true) ∧ (joined.opLocked hn 0x0E01 0 = false) ∧ (joined.ory.joined = true) ∧ (joined.opBusy hn 0x0E01 0 = false)) ∧
    ((up.takes 0x0E02 hn [] = true)) := by decide +kernel

theorem wit_TransceiverCommandsComplete :
    ((plugged.takes 0x0F00 hc [0] = true) ∧ ((plugged.xc (bits 0 1 0)).present = true) ∧ (plugged.managed (bits 0 1 0) = true) ∧ ((plugged.xc (bits 0 1 0)).idDone = true) ∧ (plugged.flt.held.elem .xcv = false)) ∧
    ((plugged.takes 0x0F01 hc [0] = true) ∧ ((plugged.xc (bits 0 1 0)).present = true) ∧ (plugged.managed (bits 0 1 0) = true) ∧ ((plugged.xc (bits 0 1 0)).idDone = true) ∧ (plugged.flt.held.elem .xcv = false)) ∧
    ((inband.takes 0x0F02 hc1 [3] = true) ∧ (inband.cameOn hc1 (bits 3 1 0) = true)) ∧
    ((up.takes 0x0F02 hc [3] = true) ∧ (up.cameOn hc (bits 3 1 0) = false)) ∧
    ((up.takes 0x0F02 hc [0] = true) ∧ ((up.xc (bits 0 1 0)).present = false)) := by decide +kernel

theorem wit_PowerRequestsComplete :
    ((up.takesWrite hc .coma 0x14 1 = true) ∧ (up.pwr.mode = .service) ∧ (up.pwr.trans = .none) ∧ (up.measuring = false)) ∧
    ((resting.takesWrite hc .coma 0x14 2 = true) ∧ (resting.pwr.mode = .standby) ∧ (resting.pwr.trans = .none) ∧ (4 ≤ resting.pwr.phase) ∧ (resting.pwr.nrst = false)) ∧
    ((({ up with pwr := { up.pwr with trans := .toStandby } } : State).takesWrite hc .coma 0x14 2 = true) ∧ (({ up with pwr := { up.pwr with trans := .toStandby } } : State).pwr.trans = .toStandby)) := by decide +kernel

theorem wit_HspTransactionsComplete :
    (up.hspRdy = true ∧ pktCheck 1020 nopPacket = none ∧ (nth 0 nopPacket 2).getLsbD 2 = false ∧ (nth 0 nopPacket 2).getLsbD 1 = false ∧ up.port? 0 = some (CmdPort.fresh 0) ∧ (pktHdr 0 nopPacket).seq = up.expectedSeq (CmdPort.fresh 0)) ∧
    ((({ up with pwr := { up.pwr with fw := false } } : State).comaUp = true) ∧ (({ up with pwr := { up.pwr with fw := false } } : State).hspRdy = false) ∧ (({ up with pwr := { up.pwr with fw := false } } : State).cmd.discards ≠ 16)) ∧
    ((let s : State := up.mapPort 0 (fun c => { c with q := { c.q with entries := [.item nopReply 8] } }); let c := (s.port? 0).getD (CmdPort.fresh 0); s.comaUp = true ∧ s.port? 0 = some c ∧ c.q.head = some (.item nopReply 8) ∧ (nopReply.bytes false).length < 40)) ∧
    (up.comaUp = true ∧ up.port? 0 = some (CmdPort.fresh 0) ∧ (CmdPort.fresh 0).q.head = none) ∧
    ((up.comaUp = true) ∧ (3 ≠ 1) ∧ (3 ≠ 2) ∧ (up.cmd.discards ≠ 16)) ∧
    ((up.comaUp = true) ∧ (16 ≠ 0)) := by decide +kernel

theorem wit_HspTransactionsComplete_2 :
    ((up.comaUp = true) ∧ (0 ≠ 1)) := by decide +kernel

theorem wit_FrameReceptionCompletes :
    ((let r := rxOf arp; let x := (linked.reach 5).bumpC (aPrt 0 0x13C) 0; linked.comaUp = true ∧ 64 ≤ (arp ++ fcs arp).length ∧ bit (linked.prtCtl 0) 1 = false ∧ (x.port 0).link = true ∧ x.prtOn 0 = true ∧ fcs ((arp ++ fcs arp).take 60) = (arp ++ fcs arp).drop 60 ∧ x.dstOk 0 r = true ∧ x.vlanOk 0 r = .yes ∧ (arp ++ fcs arp).length ≤ x.maxlen 0 ∧ x.quiet 0 = false)) ∧
    ((linked.comaUp = true) ∧ (0 < 4) ∧ (4 ≤ arp.length) ∧ (bit (linked.prtCtl 0) 1 = false) ∧ (let x := (linked.reach 5).bumpC (aPrt 0 0x13C) 0; ((x.port 0).link = true) ∧ (x.quiet 0 = false) ∧ (fcs (arp.take (arp.length - 4)) ≠ arp.drop (arp.length - 4)))) ∧
    (((up.putRw .coma (aPrt 3 0) 2).comaUp = true) ∧ (bit ((up.putRw .coma (aPrt 3 0) 2).prtCtl 3) 1 = true)) := by decide +kernel

theorem wit_LinkEventsComplete :
    ((up.comaUp = true)) ∧
    ((up.comaUp = true) ∧ ((up.port 3).hiBer = false) ∧ ((up.port 3).bers < 10)) ∧
    ((up.comaUp = true) ∧ ((up.port 3).link = false)) ∧
    ((up.comaUp = true) ∧ ((up.port 3).rfault = false)) ∧
    ((up.comaUp = true)) ∧
    ((up.comaUp = true)) := by decide +kernel

theorem wit_LinkEventsComplete_2 :
    (up.prt.length = 4 ∧ ((xoff 16777215).port 0).pfc.length = 8 ∧ ((xoff 16777215).port 0).xoff.getLsbD 3 = true ∧ bits ((xoff 16777215).rwC (aPrt 0 0x48)) 31 16 * 256 ≤ nth 0 ((xoff 16777215).port 0).occ 3) ∧
    (((xoff 0).port 0).pfc.length = 8 ∧ ((xoff 0).port 0).xoff.getLsbD 3 = true ∧ nth 0 ((xoff 0).port 0).occ 3 < bits ((xoff 0).rwC (aPrt 0 0x48)) 31 16 * 256 ∧ (xoff 0).consumerPressed 0 3 = false) := by decide +kernel

theorem wit_TransmissionCompletes :
    (((waitingPfc linked).comaUp = true) ∧ (((waitingPfc linked).port 0).offAfter = none) ∧ ((waitingPfc linked).txOn 0 = true) ∧ (((waitingPfc linked).port 0).rfault = false) ∧ (bit ((waitingPfc linked).prtCtl 0) 1 = false) ∧ (((waitingPfc linked).port 0).pfc.any Option.isSome = true)) ∧
    (((waitingPfc up).comaUp = true) ∧ (((waitingPfc up).port 0).offAfter = none) ∧ ((waitingPfc up).txOn 0 = false) ∧ (((waitingPfc up).port 0).pfc.any Option.isSome = true)) := by decide +kernel

theorem wit_ModuleEventsComplete :
    ((up.comaUp = true)) ∧
    ((up.comaUp = true) ∧ ((up.xc 3).present = false) ∧ ((up.xc 3).debounce ≠ some true)) ∧
    ((plugged.comaUp = true) ∧ (0 < 4) ∧ (plugged.xcv.length = 4) ∧ ((plugged.xc 0).present = true) ∧ ((plugged.xc 0).debounce ≠ some false)) ∧
    ((up.comaUp = true) ∧ ((up.xc 0).los ≠ true)) ∧
    ((unread.comaUp = true) ∧ (0 < 4) ∧ (unread.xcv.length = 4) ∧ ((unread.xc 0).present = true) ∧ (unread.managed 0 = true) ∧ ((unread.xc 0).idDone = false) ∧ (([zeros96].take 3).find? identityOk = some zeros96)) ∧
    ((unread.comaUp = true) ∧ ((unread.xc 0).present = true) ∧ (unread.managed 0 = true) ∧ ((unread.xc 0).idDone = false) ∧ ((unread.xc 0).txflt = false) ∧ (([1 :: zeros96].take 3).find? identityOk = none)) := by decide +kernel

theorem wit_ModuleEventsComplete_2 :
    ((up.comaUp = true) ∧ (up.managed 0 = true) ∧ (up.flt.held.elem .xcv = false)) ∧
    ((up.comaUp = true) ∧ (up.managed 0 = true)) ∧
    ((up.comaUp = true) ∧ (up.managed 0 = true)) ∧
    (((plugged.mapXcv 0 (fun x => { x with ddm := true })).comaUp = true) ∧ (((plugged.mapXcv 0 (fun x => { x with ddm := true })).xc 0).present = true) ∧ (((plugged.mapXcv 0 (fun x => { x with ddm := true })).xc 0).ddm = true) ∧ ((plugged.mapXcv 0 (fun x => { x with ddm := true })).managed 0 = true) ∧ (bit ((plugged.mapXcv 0 (fun x => { x with ddm := true })).rwC (aXcv 0 0)) 0 = true) ∧ (((plugged.mapXcv 0 (fun x => { x with ddm := true })).xc 0).life = none)) ∧
    ((unread.comaUp = true) ∧ ((unread.xc 0).present = true) ∧ ((unread.xc 0).txHold = false) ∧ (unread.managed 0 = true) ∧ ((unread.xc 0).idDone = false)) ∧
    (((unread.mapXcv 0 (fun x => { x with txHold := true })).comaUp = true) ∧ (((unread.mapXcv 0 (fun x => { x with txHold := true })).xc 0).txHold = true) ∧ (((unread.mapXcv 0 (fun x => { x with txHold := true })).xc 0).txFail = false)) := by decide +kernel

theorem wit_ModuleEventsComplete_3 :
    (((unread.mapXcv 0 (fun x => { x with txHold := true, tries := 2 })).comaUp = true) ∧ (((unread.mapXcv 0 (fun x => { x with txHold := true, tries := 2 })).xc 0).txHold = true) ∧ (((unread.mapXcv 0 (fun x => { x with txHold := true, tries := 2 })).xc 0).tries < 3)) ∧
    (((unread.mapXcv 0 (fun x => { x with txHold := true, tries := 3 })).comaUp = true) ∧ (((unread.mapXcv 0 (fun x => { x with txHold := true, tries := 3 })).xc 0).txHold = true) ∧ (¬ ((unread.mapXcv 0 (fun x => { x with txHold := true, tries := 3 })).xc 0).tries < 3)) ∧
    ((up.comaUp = true)) ∧
    ((lived.comaUp = true) ∧ (lived.lifeOf 0 = some (2, life0)) ∧ (life0.baseMin < 60) ∧ (bits (lived.rwC (aXcv 0 0xC)) 31 16 = 0)) := by decide +kernel

theorem wit_PrecisionTimeEventsComplete :
    ((up.comaUp = true)) ∧
    ((((up.putRw .coma (aDom .a 0) 5).mapDom .a (fun x => { x with pstate := 2 })).comaUp = true) ∧ (domEn (((up.putRw .coma (aDom .a 0) 5).mapDom .a (fun x => { x with pstate := 2 })).domCfg Dom.a) = true) ∧ (domP2p (((up.putRw .coma (aDom .a 0) 5).mapDom .a (fun x => { x with pstate := 2 })).domCfg Dom.a) = false) ∧ ((((up.putRw .coma (aDom .a 0) 5).mapDom .a (fun x => { x with pstate := 2 })).tim.dom Dom.a).pstate ≠ 0)) ∧
    ((((up.putRw .coma (aDom .a 0) 3).putRw .coma (aDom .a 4) 0xF).comaUp = true) ∧ (((up.putRw .coma (aDom .a 0) 3).putRw .coma (aDom .a 4) 0xF).pdelayDom 0 = some Dom.a)) ∧
    ((((healthyB up).mapDom .a (fun x => { x with check := true, ref := 1 })).comaUp = true) ∧ ((((healthyB up).mapDom .a (fun x => { x with check := true, ref := 1 })).tim.dom Dom.a).check = true) ∧ ((((healthyB up).mapDom .a (fun x => { x with check := true, ref := 1 })).tim.dom Dom.a).suspect = false) ∧ ((((healthyB up).mapDom .a (fun x => { x with check := true, ref := 1 })).tim.dom Dom.a).ref = 1) ∧ ((((healthyB up).mapDom .a (fun x => { x with check := true, ref := 1 })).tim.dom Dom.a.other).healthy = true) ∧ ((((healthyB up).mapDom .a (fun x => { x with check := true, ref := 1 })).tim.dom Dom.a).refLost = false) ∧ (((((healthyB up).mapDom .a (fun x => { x with check := true, ref := 1 })).tim.dom Dom.a).ofs - (((healthyB up).mapDom .a (fun x => { x with check := true, ref := 1 })).tim.dom Dom.a.other).ofs - (((healthyB up).mapDom .a (fun x => { x with check := true, ref := 1 })).tim.dom Dom.a).ref0).natAbs ≤ bits (((healthyB up).mapDom .a (fun x => { x with check := true, ref := 1 })).rwC 0x04000C) 27 16)) ∧
    (((up.mapDom .a (fun x => { x with check := true })).comaUp = true) ∧ (((up.mapDom .a (fun x => { x with check := true })).tim.dom Dom.a).check = true) ∧ (((up.mapDom .a (fun x => { x with check := true })).tim.dom Dom.a).suspect = false) ∧ (((up.mapDom .a (fun x => { x with check := true })).tim.dom Dom.a).ref = 0)) ∧
    ((({ up with tim := { up.tim with valid := [vrun true] } } : State).comaUp = true) ∧ (({ up with tim := { up.tim with valid := [vrun true] } } : State).tim.valid = [vrun true]) ∧ ((vrun true).lost = true)) := by decide +kernel

theorem wit_PrecisionTimeEventsComplete_2 :
    ((({ up with tim := { up.tim with valid := [vrun false] } } : State).comaUp = true) ∧ (({ up with tim := { up.tim with valid := [vrun false] } } : State).tim.valid = [vrun false]) ∧ ((vrun false).lost = false) ∧ ((vrun false).samples ≠ []) ∧ ((sortI (vrun false).edges).getLast?.getD 0 - (sortI (vrun false).edges).head?.getD 0 ≤ 100)) := by decide +kernel

theorem wit_TimeBaseEventsComplete :
    ((({ up with pwr := { up.pwr with phase := 4 } } : State).comaUp = true) ∧ (({ up with pwr := { up.pwr with phase := 4 } } : State).pwr.phase = 4)) ∧
    ((({ up with tim := { up.tim with restep := true } } : State).comaUp = true) ∧ (({ up with tim := { up.tim with restep := true } } : State).tim.restep = true)) ∧
    (((up.putRw .coma 0x040024 0).comaUp = true) ∧ (bit ((up.putRw .coma 0x040024 0).rwC 0x040024) 0 = false)) ∧
    (((up.putRw .coma 0x040024 1).comaUp = true) ∧ (bit ((up.putRw .coma 0x040024 1).rwC 0x040024) 0 = true) ∧ (((up.putRw .coma 0x040024 1).tim.state = .unset ∨ (up.putRw .coma 0x040024 1).tim.state = .coarse))) ∧
    (((let u := timed.putRw .coma 0x040024 1; { u with tim := { u.tim with ppsSec := 100, ppsRun := 2 } } : State).comaUp = true) ∧ (bits ((let u := timed.putRw .coma 0x040024 1; { u with tim := { u.tim with ppsSec := 100, ppsRun := 2 } } : State).rwC 0x040024) 31 8 = 0) ∧ (bit ((let u := timed.putRw .coma 0x040024 1; { u with tim := { u.tim with ppsSec := 100, ppsRun := 2 } } : State).rwC 0x040024) 0 = true) ∧ ((let u := timed.putRw .coma 0x040024 1; { u with tim := { u.tim with ppsSec := 100, ppsRun := 2 } } : State).tim.state = .locked) ∧ (101000000000 % 1000000000 = 0) ∧ ((let u := timed.putRw .coma 0x040024 1; { u with tim := { u.tim with ppsSec := 100, ppsRun := 2 } } : State).tim.ppsSec + 1 = 101000000000 / 1000000000) ∧ (2 ≤ (let u := timed.putRw .coma 0x040024 1; { u with tim := { u.tim with ppsSec := 100, ppsRun := 2 } } : State).tim.ppsRun) ∧ ((let u := timed.putRw .coma 0x040024 1; { u with tim := { u.tim with ppsSec := 100, ppsRun := 2 } } : State).tim.ppsValid = false)) ∧
    ((({ up with tim := { up.tim with ppsValid := true } } : State).comaUp = true) ∧ (({ up with tim := { up.tim with ppsValid := true } } : State).tim.ppsValid = true) ∧ (({ up with tim := { up.tim with ppsValid := true } } : State).tim.valid = [])) := by decide +kernel

theorem wit_TimeBaseEventsComplete_2 :
    ((({ up with tim := { up.tim with ppsValid := true, valid := [vrun false] } } : State).comaUp = true) ∧ (({ up with tim := { up.tim with ppsValid := true, valid := [vrun false] } } : State).tim.ppsValid = true) ∧ (({ up with tim := { up.tim with ppsValid := true, valid := [vrun false] } } : State).tim.valid = [vrun false])) ∧
    ((up.comaUp = true) ∧ (up.afe.autoWait = false)) ∧
    ((up.comaUp = true)) ∧
    (((up.putRw .coma 0x040000 0).comaUp = true) ∧ (bit ((up.putRw .coma 0x040000 0).rwC 0x040000) 1 = false)) ∧
    ((bit ((up.putRw .coma 0x040000 2).rwC 0x040000) 1 = true) ∧ ((up.putRw .coma 0x040000 2).tim.tref = false)) ∧
    ((bit ((let u := up.putRw .coma 0x040000 2; { u with tim := { u.tim with tref := true } } : State).rwC 0x040000) 1 = true) ∧ ((let u := up.putRw .coma 0x040000 2; { u with tim := { u.tim with tref := true } } : State).tim.tref = true)) := by decide +kernel

theorem wit_TimeBaseEventsComplete_3 :
    ((up.nucUp = true) ∧ ((-1024 : Int).natAbs ≤ 1024)) ∧
    ((1024 < (1025 : Int).natAbs)) ∧
    ((({ up with tim := { up.tim with leap61 := true } } : State).comaUp = true) ∧ (({ up with tim := { up.tim with leap61 := true } } : State).tim.leap61 = true) ∧ (({ up with tim := { up.tim with leap61 := true } } : State).tim.leap59 = false)) ∧
    ((({ up with tim := { up.tim with leap59 := true } } : State).comaUp = true) ∧ (({ up with tim := { up.tim with leap59 := true } } : State).tim.leap61 = false) ∧ (({ up with tim := { up.tim with leap59 := true } } : State).tim.leap59 = true)) := by decide +kernel

theorem wit_TailLinkEventsComplete :
    (((up.mapTlk .coma (fun e => { e with up := true })).nucUp = true) ∧ (((up.mapTlk .coma (fun e => { e with up := true })).tlk .coma).up = true) ∧ (((up.mapTlk .coma (fun e => { e with up := true })).tlk .coma).rt = none) ∧ (([1, 2] : List Byte).length ≤ 256)) ∧
    (((up.mapTlk .nucleus (fun e => { e with up := true })).nucUp = true) ∧ (((up.mapTlk .nucleus (fun e => { e with up := true })).tlk .nucleus).up = true) ∧ (((up.mapTlk .nucleus (fun e => { e with up := true })).tlk .nucleus).replay = false) ∧ (4 ≤ ([0, 0, 0, 0, 0] : List Byte).length) ∧ (([0, 0, 0, 0, 0] : List Byte).length ≤ 260) ∧ (tlkCrcOk ([0, 0, 0, 0, 0] : List Byte) = false)) ∧
    (((up.mapTlk .coma (fun e => { e with rt := some 3 })).comaUp = true) ∧ (((up.mapTlk .coma (fun e => { e with rt := some 3 })).tlk .coma).rt.isSome = true)) := by decide +kernel

theorem wit_IngestEventsComplete :
    (((fed 1).nucUp = true ∧ (fed 1).ing.cands = [cand] ∧ bit ((fed 1).rwN 0x020000) 0 = true ∧ nth 0 c37 0 = 0xAA ∧ nth 0 c37 1 = 0x01 ∧ 16 ≤ c37.length ∧ fieldAt 2 2 c37 = c37.length ∧ crcCcitt (c37.take (c37.length - 2)) = fieldAt (c37.length - 2) 2 c37 ∧ (State.unstage 0 0 100 ({ fed 1 with ing := { (fed 1).ing with cands := [] } } : State)).lookup cand (fieldAt 4 2 c37) = some 0)) ∧
    (((fed 0).nucUp = true) ∧ ((fed 0).ing.cands = cand :: []) ∧ (bit ((fed 0).rwN 0x020000) 0 = false)) ∧
    ((({ up with ing := { up.ing with svs := [cand] } } : State).nucUp = true) ∧ (({ up with ing := { up.ing with svs := [cand] } } : State).ing.svs = cand :: [])) ∧
    (((({ up with ing := { up.ing with q := { up.ing.q with entries := [.item item 3] } } } : State).reach 5).release.ing.q.head = some (.item item 3))) := by decide +kernel

theorem wit_AlignmentEventsComplete :
    ((up.nucUp = true)) ∧
    ((({ up with aln := { up.aln with repair := true } } : State).nucUp = true) ∧ (({ up with aln := { up.aln with repair := true } } : State).aln.repair = true) ∧ (2 ≤ ({ up with aln := { up.aln with repair := true } } : State).aln.spares)) := by decide +kernel

theorem wit_AnalysisEventsComplete :
    ((({ up with isl := { up.isl with q := [delivery true] } } : State).nucUp = true) ∧ (({ up with isl := { up.isl with q := [delivery true] } } : State).isl.q = (delivery true) :: []) ∧ ((delivery true).final = true)) ∧
    ((({ up with isl := { up.isl with q := [delivery false], init := false } } : State).nucUp = true) ∧ ((delivery false).final = false) ∧ (({ up with isl := { up.isl with q := [delivery false], init := false } } : State).isl.init = false)) ∧
    ((({ up with isl := { up.isl with q := [delivery false] } } : State).nucUp = true) ∧ ((delivery false).final = false) ∧ (({ up with isl := { up.isl with q := [delivery false] } } : State).isl.init = true)) ∧
    ((({ up with isl := { up.isl with rounds := [rounds0] } } : State).nucUp = true) ∧ (({ up with isl := { up.isl with rounds := [rounds0] } } : State).isl.rounds = [rounds0])) ∧
    ((31 < rocking.lbe.length) ∧ (rocking.nucUp = true) ∧ ((rocking.lb 31).q = (delivery true) :: []) ∧ ((rocking.lb 31).running = true) ∧ ((rocking.lb 31).started = true) ∧ (rateFps (rocking.lb 31).rate ≠ (delivery true).rate) ∧ ((rocking.lb 31).stopping = false)) ∧
    (((rocking.mapLbe 31 (fun l => { l with rate := 6 })).nucUp = true) ∧ (((rocking.mapLbe 31 (fun l => { l with rate := 6 })).lb 31).q = (delivery true) :: []) ∧ (((rocking.mapLbe 31 (fun l => { l with rate := 6 })).lb 31).running = true) ∧ ((((rocking.mapLbe 31 (fun l => { l with rate := 6 })).lb 31).started = true → rateFps ((rocking.mapLbe 31 (fun l => { l with rate := 6 })).lb 31).rate = (delivery true).rate))) := by decide +kernel

theorem wit_FrontEndEventsComplete :
    ((let s : State := up.mapChain 12 (fun c => { c with running := true }); let t : State := { s with afe := { s.afe with rover := some { roving with path := 12 } } }; t.comaUp = true ∧ (t.chain 12).running = true ∧ t.inputPath 12 = 12)) ∧
    ((let s : State := up.mapChain 11 (fun c => { c with running := true }); s.comaUp = true ∧ (s.chain 11).running = true ∧ s.inputPath 11 = 11 ∧ (s.chan (pathChan 11)).running = false)) ∧
    ((((up.mapChain 3 (fun c => { c with running := true })).mapChan 3 (fun c => { c with running := true })).comaUp = true) ∧ (3 < 4) ∧ (3 < ((up.mapChain 3 (fun c => { c with running := true })).mapChan 3 (fun c => { c with running := true })).afe.chains.length) ∧ ((((up.mapChain 3 (fun c => { c with running := true })).mapChan 3 (fun c => { c with running := true })).chain 3).running = true) ∧ ((List.replicate (2 * presetD up.afePreset) false).length = 2 * presetD ((up.mapChain 3 (fun c => { c with running := true })).mapChan 3 (fun c => { c with running := true })).afePreset) ∧ (((up.mapChain 3 (fun c => { c with running := true })).mapChan 3 (fun c => { c with running := true })).inputPath 3 = 3) ∧ (((up.mapChain 3 (fun c => { c with running := true })).mapChan 3 (fun c => { c with running := true })).supplier 3 = 3) ∧ ((((up.mapChain 3 (fun c => { c with running := true })).mapChan 3 (fun c => { c with running := true })).chan 3).running = true)) ∧
    ((({ up with afe := { up.afe with sync := some 1 } } : State).comaUp = true) ∧ (({ up with afe := { up.afe with sync := some 1 } } : State).afe.sync = some 1) ∧ (syncG ({ up with afe := { up.afe with sync := some 1 } } : State).afePreset 51880 = some ({ up with afe := { up.afe with sync := some 1 } } : State).syncDue)) ∧
    (((up.putRw .coma 0x060000 0x40).comaUp = true) ∧ (bit ((up.putRw .coma 0x060000 0x40).rwC 0x060000) 6 = true) ∧ (100 ≤ 100) ∧ (100 < 10000000) ∧ ((up.putRw .coma 0x060000 0x40).afe.syncEdge = none) ∧ ((up.putRw .coma 0x060000 0x40).afe.rover = none) ∧ ((up.putRw .coma 0x060000 0x40).afe.sync = none)) ∧
    (((up.putRw .coma 0x060000 0x40).comaUp = true) ∧ (bit ((up.putRw .coma 0x060000 0x40).rwC 0x060000) 6 = true) ∧ (99 < 100)) := by decide +kernel

theorem wit_FrontEndEventsComplete_2 :
    ((({ up with afe := { up.afe with syncLow := true } } : State).comaUp = true) ∧ (({ up with afe := { up.afe with syncLow := true } } : State).afe.syncLow = true)) ∧
    ((up.comaUp = true) ∧ (up.lastCycle ≤ up.afe.cycDone)) ∧
    ((late.comaUp = true ∧ late.afe.cycDone < late.lastCycle ∧ (late.chan 0).running = false ∧ late.afe.neutAlarm = false ∧ { late with pwr := { late.pwr with mode := .standby } }.nucUp = false)) ∧
    (((up.putRw .coma 0x060000 0x10).comaUp = true) ∧ (bit ((up.putRw .coma 0x060000 0x10).rwC 0x060000) 4 = true) ∧ ((up.putRw .coma 0x060000 0x10).afe.rover = none) ∧ (State.bgPick 13 (up.putRw .coma 0x060000 0x10).afe.bgNext (up.putRw .coma 0x060000 0x10) = some 12)) ∧
    ((let s : State := { up.putRw .coma 0x060000 0x10 with afe := { up.afe with rover := some roving } }; s.comaUp = true ∧ bit (s.rwC 0x060000) 4 = true ∧ s.afe.rover.isSome = true)) ∧
    (((let u := up.mapChain 3 (fun c => { c with outs := 300 }); { u with afe := { u.afe with rover := some { roving with step := 4 } } } : State).comaUp = true) ∧ ((let u := up.mapChain 3 (fun c => { c with outs := 300 }); { u with afe := { u.afe with rover := some { roving with step := 4 } } } : State).afe.rover = some { roving with step := 4 }) ∧ ({ roving with step := 4 }.path < 12) ∧ ({ roving with step := 4 }.step = 4) ∧ (presetUnsettled (let u := up.mapChain 3 (fun c => { c with outs := 300 }); { u with afe := { u.afe with rover := some { roving with step := 4 } } } : State).afePreset + 256 ≤ ((let u := up.mapChain 3 (fun c => { c with outs := 300 }); { u with afe := { u.afe with rover := some { roving with step := 4 } } } : State).chain { roving with step := 4 }.path).outs)) := by decide +kernel

theorem wit_MeteringEventsComplete :
    (((metered 3).comaUp = true) ∧ ((metered 3).nrgLive 255 = true) ∧ (nrgFeed ((metered 3).nrgCfg 255) = 1) ∧ (let hz := (metered 3).nrgHz 255; let a := ((metered 3).point 255).cycAt; let b := cycNs hz (cycIdx hz a + 1); ((metered 3).waveReady b = true))) ∧
    (((metered 5).comaUp = true) ∧ ((metered 5).nrgLive 255 = true) ∧ (2 ≤ nrgFeed ((metered 5).nrgCfg 255)) ∧ (let hz := (metered 5).nrgHz 255; let a := ((metered 5).point 255).cycAt; let b := cycNs hz (cycIdx hz a + 1); ((metered 5).phasorReady 255 a b = true))) ∧
    ((let s : State := { metered 5 with pwr := { up.pwr with mode := .standby } }; s.comaUp = true ∧ s.nrgLive 255 = true ∧ 2 ≤ nrgFeed (s.nrgCfg 255) ∧ cycNs (s.nrgHz 255) (cycIdx (s.nrgHz 255) (s.point 255).cycAt + 1) ≤ s.tim.now ∧ s.nucUp = false ∧ (s.point 255).parts = [])) ∧
    (((up.putRw .coma 0x070000 15).comaUp = true) ∧ (bits ((up.putRw .coma 0x070000 15).rwC 0x070000) 5 0 ≠ 0) ∧ ((up.putRw .coma 0x070000 15).pwr.grave = false) ∧ (bit ((up.putRw .coma 0x070000 15).rwC 0x070000) 6 = false)) ∧
    (((pulsing false 0).comaUp = true) ∧ ((pulsing false 0).pwr.grave = false) ∧ (((pulsing false 0).pulSt 3).due = 5 :: []) ∧ (((pulsing false 0).pulSt 3).inPulse = false) ∧ (((pulsing false 0).pulSt 3).inGap = false)) ∧
    (((pulsing true 65534).comaUp = true) ∧ ((pulsing true 65534).pwr.grave = false) ∧ (((pulsing true 65534).pulSt 3).inPulse = true) ∧ (((pulsing true 65534).pulSt 3).pend < 65535)) := by decide +kernel

theorem wit_MeteringEventsComplete_2 :
    (((pulsing true 65535).comaUp = true) ∧ ((pulsing true 65535).pwr.grave = false) ∧ (((pulsing true 65535).pulSt 3).inPulse = true) ∧ (¬ ((pulsing true 65535).pulSt 3).pend < 65535)) ∧
    ((((pulsing true 0).mapPul 3 (fun x => { x with widthEnd := 5, gapEnd := 6 })).comaUp = true) ∧ ((((pulsing true 0).mapPul 3 (fun x => { x with widthEnd := 5, gapEnd := 6 })).pulSt 3).inPulse = true) ∧ ((((pulsing true 0).mapPul 3 (fun x => { x with widthEnd := 5, gapEnd := 6 })).pulSt 3).widthEnd < (((pulsing true 0).mapPul 3 (fun x => { x with widthEnd := 5, gapEnd := 6 })).pulSt 3).gapEnd)) ∧
    ((let s := pulsing true 0; s.comaUp = true ∧ (s.pulSt 3).inPulse = true ∧ (s.pulSt 3).gapEnd ≤ (s.pulSt 3).widthEnd)) ∧
    (((up.mapPul 3 (fun x => { x with inGap := true })).comaUp = true) ∧ (((up.mapPul 3 (fun x => { x with inGap := true })).pulSt 3).inGap = true)) ∧
    ((up.comaUp = true)) ∧
    ((3 < 4) ∧ (((up.mapPul 3 (fun x => { x with misses := 1 })).pulSt 3).misses = 1)) := by decide +kernel

theorem wit_OrreryEventsComplete :
    (((heard [{ origin := 9, session := 2, high := 0, win := 0 }]).nucUp = true) ∧ ((heard [{ origin := 9, session := 2, high := 0, win := 0 }]).ory.rx = beat :: []) ∧ (replayStep (ndSrc beat.bytes) (fieldAt 12 4 beat.bytes) (fieldAt 16 4 beat.bytes) (findBy Replay.origin (ndSrc beat.bytes) (heard [{ origin := 9, session := 2, high := 0, win := 0 }]).ory.replay) = none)) ∧
    (((heard []).nucUp = true) ∧ (replayStep (ndSrc beat.bytes) (fieldAt 12 4 beat.bytes) (fieldAt 16 4 beat.bytes) (findBy Replay.origin (ndSrc beat.bytes) (heard []).ory.replay) = some { origin := 9, session := 1, high := 3, win := 0 })) ∧
    ((({ up with ory := { up.ory with beating := true } } : State).nucUp = true) ∧ (({ up with ory := { up.ory with beating := true } } : State).ory.beating = true)) ∧
    ((up.nucUp = true ∧ (up.nb 31).missed < bits (up.rwN 0x080014) 11 8)) ∧
    ((let s := up.mapNb 31 (fun x => { x with up := true, missed := 255 }); s.nucUp = true ∧ bits (s.rwN 0x080014) 11 8 ≤ (s.nb 31).missed ∧ (s.nb 31).up = true ∧ nbRole (s.nbCfg 31) ≠ 1)) ∧
    ((let s := (up.mapNb 31 (fun x => { x with up := true, missed := 255 })).putRw .nucleus (aNb 31 0) 0xA0000009; s.nucUp = true ∧ bits (s.rwN 0x080014) 11 8 ≤ (s.nb 31).missed ∧ (s.nb 31).up = true ∧ nbRole (s.nbCfg 31) = 1)) := by decide +kernel

theorem wit_OrreryEventsComplete_2 :
    ((({ up with ory := { up.ory with pendJoin := true } } : State).nucUp = true) ∧ (({ up with ory := { up.ory with pendJoin := true } } : State).ory.pendJoin = true)) ∧
    (((State.putRw .nucleus 0x08001C 0x40 { joined with ory := { joined.ory with root := true } }).nucUp = true) ∧ ((State.putRw .nucleus 0x08001C 0x40 { joined with ory := { joined.ory with root := true } }).ory.joined = true) ∧ (bit ((State.putRw .nucleus 0x08001C 0x40 { joined with ory := { joined.ory with root := true } }).rwN 0x08001C) 6 = true) ∧ ((State.putRw .nucleus 0x08001C 0x40 { joined with ory := { joined.ory with root := true } }).ory.root = true)) ∧
    (((joined.putRw .nucleus 0x080000 2).nucUp = true) ∧ ((joined.putRw .nucleus 0x080000 2).ory.joined = true) ∧ (bit ((joined.putRw .nucleus 0x080000 2).rwN 0x080000) 1 = true)) ∧
    ((up.nucUp = true)) ∧
    ((({ up with ory := { up.ory with pendLeave := true } } : State).nucUp = true) ∧ (({ up with ory := { up.ory with pendLeave := true } } : State).ory.pendLeave = true)) := by decide +kernel

theorem wit_OutputEventsComplete :
    ((((up.putRw .nucleus (aGse 15 0) 1).mapGse 15 (fun x => { x with st := 1 })).nucUp = true) ∧ (((up.putRw .nucleus (aGse 15 0) 1).mapGse 15 (fun x => { x with st := 1 })).gooseEn 15 = true) ∧ (0 < (((up.putRw .nucleus (aGse 15 0) 1).mapGse 15 (fun x => { x with st := 1 })).gse 15).st)) ∧
    (((up.mapPin 7 (fun x => { x with width := true })).nucUp = true) ∧ (((up.mapPin 7 (fun x => { x with width := true })).pin 7).width = true)) ∧
    ((up.comaUp = true)) ∧
    ((((up.mapPin 7 (fun x => { x with misses := 1 })).pin 7).misses = 1)) ∧
    ((up.comaUp = true)) ∧
    ((({ up with flt := { up.flt with errnMiss := 1 } } : State).flt.errnMiss = 1)) := by decide +kernel

theorem wit_KeyEventsComplete :
    ((((up.mapSlot 63 (fun x => { x with window := true })).slot 63).window = true)) ∧
    ((up.pwr.mode ≠ .off)) ∧
    ((up.keys.slots.length = 64) ∧ (63 < 64)) ∧
    ((up.pwr.mode ≠ .off) ∧ (up.comaUp = true)) ∧
    ((up.comaUp = true)) := by decide +kernel

theorem wit_AlwaysOnEventsComplete :
    ((let s : State := { up with aon := { up.aon with prescAt := some up.tim.now, batAge := up.aon.batAge + 1, batUse := up.aon.batUse + (if up.pwr.mode = .backup then bits (up.rwC 0x05002C) 31 16 else 0) } }; up.pwr.mode ≠ .off ∧ up.aon.stopped = false ∧ up.aon.atEnd = false ∧ up.tim.calSet = false ∧ (s.cellWorn && !s.aon.batDue) = false)) ∧
    ((let s : State := { timed with tim := { timed.tim with now := 1700000000000000000 } }; let u := s.soc s.sec; let c := civil (u / 86400); s.comaUp = true ∧ s.calFollows = true ∧ s.pwr.lockout = false ∧ s.aon.stopped = false ∧ s.nsec = 0 ∧ s.tim.utcAt ≠ some s.tim.now ∧ (s.aon.write s.tim.now c.1 c.2.1 c.2.2 (u % 86400 / 3600) (u % 3600 / 60) (u % 60)).dateOk = true)) ∧
    ((let s : State := { timed with tim := { timed.tim with now := 1700000000000000000, utcAt := some 1700000000000000000 } }; let x := s.reach ((s.sec + 1) * 1000000000); let v := x.soc x.sec; let d := civil (v / 86400); s.comaUp = true ∧ s.calFollows = true ∧ s.pwr.lockout = false ∧ s.aon.stopped = false ∧ s.tim.utcAt = some s.tim.now ∧ (x.aon.write x.tim.now d.1 d.2.1 d.2.2 (v % 86400 / 3600) (v % 3600 / 60) (v % 60)).dateOk = true)) ∧
    ((({ up with pwr := { up.pwr with inReset := true } } : State).pwr.main = true) ∧ (({ up with pwr := { up.pwr with inReset := true } } : State).comaUp = false)) ∧
    ((up.pwr.main = true)) ∧
    ((up.pwr.mode ≠ .off) ∧ (bit (up.rwC 0x050000) 2 = true) ∧ (up.aon.t0 = false)) := by decide +kernel

theorem wit_AlwaysOnEventsComplete_2 :
    ((bit (up.rwC 0x050000) 3 = true) ∧ (up.aon.t1 = false)) ∧
    (((up.putRw .coma 0x050000 2).pwr.mode ≠ .off) ∧ (bit ((up.putRw .coma 0x050000 2).rwC 0x050000) 1 = true) ∧ (up.aon.lfsr.getLsbD 14 = (up.putRw .coma 0x050000 2).aon.lfsr.getLsbD 14) ∧ ((up.putRw .coma 0x050000 2).aon.mesh = false)) ∧
    (((let u := up.putRw .coma 0x050000 2; { u with aon := { u.aon with meshMiss := 1 } } : State).pwr.mode ≠ .off) ∧ (bit ((let u := up.putRw .coma 0x050000 2; { u with aon := { u.aon with meshMiss := 1 } } : State).rwC 0x050000) 1 = true) ∧ ((!up.aon.lfsr.getLsbD 14) ≠ (let u := up.putRw .coma 0x050000 2; { u with aon := { u.aon with meshMiss := 1 } } : State).aon.lfsr.getLsbD 14) ∧ ((let u := up.putRw .coma 0x050000 2; { u with aon := { u.aon with meshMiss := 1 } } : State).aon.mesh = false) ∧ (1 ≤ (let u := up.putRw .coma 0x050000 2; { u with aon := { u.aon with meshMiss := 1 } } : State).aon.meshMiss)) := by decide +kernel

theorem wit_SupplyEventsComplete :
    ((up.pwr.main = true)) ∧
    ((up.pwr.main = true)) ∧
    ((({ up with pwr := { up.pwr with vddioLow := true } } : State).pwr.vddioLow = true)) ∧
    ((({ up with pwr := { up.pwr with timer := true } } : State).pwr.timer = true) ∧ (({ up with pwr := { up.pwr with timer := true } } : State).aon.retLatch = false)) ∧
    ((({ up with pwr := { up.pwr with timer := true }, aon := { up.aon with retLatch := true } } : State).pwr.timer = true) ∧ (({ up with pwr := { up.pwr with timer := true }, aon := { up.aon with retLatch := true } } : State).aon.retLatch = true)) ∧
    ((({ up with pwr := { up.pwr with mode := .off } } : State).pwr.mode = .off)) := by decide +kernel

theorem wit_SupplyEventsComplete_2 :
    ((up.pwr.mode ≠ .off)) ∧
    ((({ up with pwr := { up.pwr with mode := .backup } } : State).pwr.mode = .backup)) ∧
    ((up.pwr.main = true)) ∧
    ((1000 ≤ 1000) ∧ (up.pwr.main = true)) ∧
    ((999 < 1000)) ∧
    ((({ up with pwr := { up.pwr with resetDue := true } } : State).pwr.resetDue = true) ∧ (({ up with pwr := { up.pwr with resetDue := true } } : State).pwr.grave = false)) := by decide +kernel

theorem wit_SupplyEventsComplete_3 :
    ((({ up with pwr := { up.pwr with inReset := true } } : State).mayRelease = true) ∧ ((5 : BitVec 3).toNat % 4 ≠ 3) ∧ (({ up with pwr := { up.pwr with inReset := true } } : State).aon.calPend = false) ∧ (({ up with pwr := { up.pwr with inReset := true } } : State).aon.tampPend = false) ∧ (({ up with pwr := { up.pwr with inReset := true } } : State).aon.retPend = false) ∧ (({ up with pwr := { up.pwr with inReset := true } } : State).aon.batPend = false)) := by decide +kernel

theorem wit_StartupEventsComplete :
    ((let s : State := phase 1 false; s.comaUp = true ∧ s.pwr.phase = 1 ∧ s.pwr.stopped = false ∧ s.pwr.straps.toNat % 4 ≠ 2 ∧ flashUsable flash0 = true ∧ (flashNewest flash0).isSome = true)) ∧
    ((let s : State := phase 1 false; s.comaUp = true ∧ s.pwr.phase = 1 ∧ s.pwr.stopped = false ∧ s.pwr.straps.toNat % 4 = 0 ∧ flashUsable { flash0 with density := none } = false)) ∧
    ((let s := phase 1 false; let t : State := { s with pwr := { s.pwr with straps := 2 } }; t.comaUp = true ∧ t.pwr.phase = 1 ∧ t.pwr.stopped = false ∧ t.pwr.straps.toNat % 4 = 2)) ∧
    ((let s := fused (phase 2 false); s.comaUp = true ∧ s.upd.dir = some dir0 ∧ s.pwr.phase = 2 ∧ s.pwr.rom = false ∧ s.pwr.stopped = false ∧ s.pwr.fw = false ∧ imageOk s.keys.vendor .coma comaImage = true)) ∧
    ((let s := fused (phase 2 false); imageOk s.keys.vendor .coma [] = false ∧ imageOk s.keys.vendor .coma comaImage = true)) ∧
    ((let s := fused (phase 2 false); imageOk s.keys.vendor .coma [] = false ∧ s.pwr.straps.toNat % 4 = 0)) := by decide +kernel

theorem wit_StartupEventsComplete_2 :
    (((phase 3 true).comaUp = true) ∧ ((phase 3 true).pwr.phase = 3) ∧ ((phase 3 true).pwr.fw = true) ∧ ((phase 3 true).pwr.grave = false) ∧ ((phase 3 true).pwr.held = false) ∧ ((phase 3 true).nucFailure nuc0 = 0) ∧ ((phase 3 true).pwr.fail ≠ 5) ∧ ((phase 3 true).pwr.fail ≠ 7) ∧ ((phase 3 true).pwr.hspBoot = true) ∧ ((phase 3 true).tim.stepped = false)) ∧
    (((let u := phase 3 true; { u with pwr := { u.pwr with hspBoot := false } } : State).comaUp = true) ∧ ((let u := phase 3 true; { u with pwr := { u.pwr with hspBoot := false } } : State).pwr.phase = 3) ∧ ((let u := phase 3 true; { u with pwr := { u.pwr with hspBoot := false } } : State).pwr.fw = true) ∧ ((let u := phase 3 true; { u with pwr := { u.pwr with hspBoot := false } } : State).pwr.grave = false) ∧ ((let u := phase 3 true; { u with pwr := { u.pwr with hspBoot := false } } : State).pwr.held = false) ∧ ((let u := phase 3 true; { u with pwr := { u.pwr with hspBoot := false } } : State).nucFailure nuc0 = 6) ∧ ((let u := phase 3 true; { u with pwr := { u.pwr with hspBoot := false } } : State).pwr.fail ≠ 5) ∧ ((let u := phase 3 true; { u with pwr := { u.pwr with hspBoot := false } } : State).pwr.fail ≠ 7)) ∧
    ((({ up with pwr := { up.pwr with trans := .toStandby } } : State).comaUp = true) ∧ (({ up with pwr := { up.pwr with trans := .toStandby } } : State).pwr.grave = false) ∧ (({ up with pwr := { up.pwr with trans := .toStandby } } : State).pwr.trans = .toStandby)) ∧
    ((({ up with pwr := { up.pwr with nrst := true, hspBoot := true } } : State).comaUp = true) ∧ (({ up with pwr := { up.pwr with nrst := true, hspBoot := true } } : State).pwr.nrst = true) ∧ (({ up with pwr := { up.pwr with nrst := true, hspBoot := true } } : State).pwr.grave = false) ∧ (({ up with pwr := { up.pwr with nrst := true, hspBoot := true } } : State).pwr.held = false) ∧ (4 ≤ ({ up with pwr := { up.pwr with nrst := true, hspBoot := true } } : State).pwr.phase) ∧ (({ up with pwr := { up.pwr with nrst := true, hspBoot := true } } : State).nucFailure nuc0 = 0)) ∧
    ((({ up with pwr := { up.pwr with nrst := true } } : State).comaUp = true) ∧ (({ up with pwr := { up.pwr with nrst := true } } : State).pwr.nrst = true) ∧ (({ up with pwr := { up.pwr with nrst := true } } : State).pwr.grave = false) ∧ (({ up with pwr := { up.pwr with nrst := true } } : State).pwr.held = false) ∧ (4 ≤ ({ up with pwr := { up.pwr with nrst := true } } : State).pwr.phase) ∧ (({ up with pwr := { up.pwr with nrst := true } } : State).nucFailure nuc0 = 6)) := by decide +kernel

theorem wit_FaultEventsComplete :
    ((up.halfUp Half.nucleus = true) ∧ (4 < fltCount Half.nucleus) ∧ ((Half.nucleus, 4) ≠ (.nucleus, 21)) ∧ (up.suppressed Half.nucleus 4 = false) ∧ ((up.src Half.nucleus 4).handling = false) ∧ (bit (up.reacts Half.nucleus 4 true) 2 = false) ∧ ((bit (up.reacts Half.nucleus 4 true) 3 = false ∨ Half.nucleus = .coma ∨ up.tlkN.up = true))) ∧
    (((up.mapSrc .coma 95 (fun x => { x with handling := true })).halfUp Half.coma = true) ∧ (95 < fltCount Half.coma) ∧ ((Half.coma, 95) ≠ (.nucleus, 21)) ∧ ((up.mapSrc .coma 95 (fun x => { x with handling := true })).suppressed Half.coma 95 = false) ∧ (((up.mapSrc .coma 95 (fun x => { x with handling := true })).src Half.coma 95).handling = true)) ∧
    (((windowed (.prt 0)).halfUp Half.coma = true) ∧ (47 < fltCount Half.coma) ∧ ((Half.coma, 47) ≠ (.nucleus, 21)) ∧ ((windowed (.prt 0)).suppressed Half.coma 47 = true)) ∧
    (((windowed (.prt 0)).halfUp Half.coma = true) ∧ (47 < fltCount Half.coma) ∧ ((Half.coma, 47) ≠ (.nucleus, 21)) ∧ ((windowed (.prt 0)).suppressed Half.coma 47 = true)) ∧
    ((let s := up.putRw .nucleus 0x030000 0; s.halfUp .nucleus = true ∧ bit (s.rwN 0x030000) 0 = false)) ∧
    ((up.halfUp .nucleus = true ∧ bit (up.rwN 0x030000) 0 = true)) := by decide +kernel

theorem wit_FaultEventsComplete_2 :
    ((let s := up.putRw .nucleus 0x030020 0; s.halfUp .nucleus = true ∧ bits (s.rwN 0x030020) 15 0 = 0)) ∧
    ((let s : State := { up.putRw .nucleus 0x030000 0 with aln := { up.aln with repair := true } }; s.halfUp .nucleus = true ∧ s.aln.repair = true ∧ bit (s.rwN 0x030000) 0 = false)) ∧
    ((63 < fltCount .nucleus)) := by decide +kernel

theorem wit_MonitorEventsComplete :
    ((({ up with core := { up.core with coma := [.active, .active, .active] } } : State).comaUp = true) ∧ (nth .retired ({ up with core := { up.core with coma := [.active, .active, .active] } } : State).core.coma 2 = .active)) ∧
    ((({ up with core := { up.core with nuc := List.replicate 5 .active } } : State).nucUp = true) ∧ (nth .retired ({ up with core := { up.core with nuc := List.replicate 5 .active } } : State).core.nuc 4 = .active)) ∧
    ((up.comaUp = true)) ∧
    ((up.nucUp = true)) ∧
    ((up.comaUp = true) ∧ ((1760 : Int) ≤ 1760)) ∧
    ((up.nucUp = true) ∧ ((-100 : Int) ≤ 1760)) := by decide +kernel

theorem wit_MonitorEventsComplete_2 :
    ((up.comaUp = true) ∧ (9 < 10)) ∧
    ((({ up with core := { up.core with repairing := [(.nucleus, 4)] } } : State).halfUp .nucleus = true) ∧ (({ up with core := { up.core with repairing := [(.nucleus, 4)] } } : State).core.repairing.find? (fun x => x.1 == .nucleus) = some (.nucleus, 4))) := by decide +kernel

theorem wit_RecorderEventsComplete :
    ((({ up with aon := { up.aon with opMin := 60 }, rcd := { up.rcd with lastClose := 60 } } : State).comaUp = true) ∧ (5 ≤ ({ up with aon := { up.aon with opMin := 60 }, rcd := { up.rcd with lastClose := 60 } } : State).pwr.phase) ∧ (({ up with aon := { up.aon with opMin := 60 }, rcd := { up.rcd with lastClose := 60 } } : State).aon.opMin % 60 = 0) ∧ (({ up with aon := { up.aon with opMin := 60 }, rcd := { up.rcd with lastClose := 60 } } : State).aon.opMin ≠ ({ up with aon := { up.aon with opMin := 60 }, rcd := { up.rcd with lastClose := 60 } } : State).rcd.lastHour) ∧ (({ up with aon := { up.aon with opMin := 60 }, rcd := { up.rcd with lastClose := 60 } } : State).aon.opMin = ({ up with aon := { up.aon with opMin := 60 }, rcd := { up.rcd with lastClose := 60 } } : State).rcd.lastClose)) ∧
    ((({ up with rcd := { up.rcd with q := { up.rcd.q with entries := [.item noRecord 1] } } } : State).comaUp = true) ∧ (({ up with rcd := { up.rcd with q := { up.rcd.q with entries := [.item noRecord 1] } } } : State).rcd.idle = false) ∧ (({ up with rcd := { up.rcd with q := { up.rcd.q with entries := [.item noRecord 1] } } } : State).headSumm = some noRecord) ∧ (nextGood ({ up with rcd := { up.rcd with q := { up.rcd.q with entries := [.item noRecord 1] } } } : State).rcd.bad recSlots ({ up with rcd := { up.rcd with q := { up.rcd.q with entries := [.item noRecord 1] } } } : State).rcd.nextSeq ≤ 0xFFFFFFFF)) ∧
    ((({ up with rcd := { up.rcd with rewrites := [1], log := [(1 % recSlots, [0, 0, 0, 1] ++ List.replicate 124 0)] } } : State).comaUp = true) ∧ (({ up with rcd := { up.rcd with rewrites := [1], log := [(1 % recSlots, [0, 0, 0, 1] ++ List.replicate 124 0)] } } : State).rcd.idle = false) ∧ (({ up with rcd := { up.rcd with rewrites := [1], log := [(1 % recSlots, [0, 0, 0, 1] ++ List.replicate 124 0)] } } : State).rcd.rewrites = 1 :: []) ∧ (({ up with rcd := { up.rcd with rewrites := [1], log := [(1 % recSlots, [0, 0, 0, 1] ++ List.replicate 124 0)] } } : State).rcd.log.find? (fun e => e.1 == 1 % recSlots) = some (1 % recSlots, ([0, 0, 0, 1] ++ List.replicate 124 0))) ∧ (recSeq ([0, 0, 0, 1] ++ List.replicate 124 0) = 1)) ∧
    ((({ up with rcd := { up.rcd with frozen := true } } : State).comaUp = true) ∧ (({ up with rcd := { up.rcd with frozen := true } } : State).rcd.frozen = true)) ∧
    ((({ up with rcd := { up.rcd with clearing := true } } : State).comaUp = true) ∧ (({ up with rcd := { up.rcd with clearing := true } } : State).rcd.clearing = true)) := by decide +kernel

theorem wit_UpdateEventsComplete :
    ((let s := up.mapUpd .nucleus (fun u => { u with verifying := true }); s.comaUp = true ∧ (s.updS .nucleus).verifying = true ∧ (s.updS .nucleus).good s.keys.vendor .nucleus = false)) ∧
    (((switching false).comaUp = true) ∧ (((switching false).updS .coma).switching = true) ∧ (((switching false).updS .coma).ready = false) ∧ ((switching false).swapsImage .coma = true) ∧ ((switching false).paused .coma = false)) ∧
    (((switching true).comaUp = true) ∧ (((switching true).updS .coma).switching = true) ∧ (((switching true).updS .coma).ready = false) ∧ ((switching true).paused .coma = true) ∧ ((switching true).pwr.rom = false) ∧ ((switching true).cmd.waiting = [])) ∧
    (((switching true).comaUp = true) ∧ (((switching true).updS .coma).switching = true) ∧ (((switching true).updS .coma).ready = false) ∧ ((switching true).paused .coma = true) ∧ ((switching true).cmd.waiting = [])) ∧
    (((up.mapUpd .nucleus (fun u => { u with switching := true, data := [0, 0, 0, 0, 3] })).comaUp = true) ∧ (((up.mapUpd .nucleus (fun u => { u with switching := true, data := [0, 0, 0, 0, 3] })).updS .nucleus).switching = true) ∧ (((up.mapUpd .nucleus (fun u => { u with switching := true, data := [0, 0, 0, 0, 3] })).updS .nucleus).kind = 3)) := by decide +kernel

theorem wit_TestPortCommandsComplete :
    ((up.tapUp = true)) := by decide +kernel

theorem wit_PacketsThatFailTheGateChangeNothing :
    ((up.accepts hc.port = true) ∧ (up.mustWait 0x0300 hc [0] = false) ∧ (up.gate 0x0300 hc = some eHalf)) ∧
    ((({ up with pwr := { up.pwr with grave := true } } : State).accepts hc.port = true) ∧ (({ up with pwr := { up.pwr with grave := true } } : State).mustWait 0x0100 hc [0, 1] = false) ∧ (({ up with pwr := { up.pwr with grave := true } } : State).pwr.grave = true ∧ 0x0100 ≠ 0x0001 ∧ 0x0100 ≠ 0x0002 ∧ 0x0100 ≠ 0x0C00)) := by decide +kernel

theorem wit_RefusedCommandsChangeNothing :
    ((let r := bodyOf 0x0200 hn [0x0F000000, 0, 1] up; up.takes 0x0200 hn [0x0F000000, 0, 1] = true ∧ r.code ≠ codeOk ∧ r.code ≠ codePending)) := by decide +kernel

theorem wit_StandbyIsRefusedWhileMeasuring :
    (((∃ g ∈ (runs 7).aln.grps, g.run ≠ .stopped) ∧ (runs 7).takes 0x0101 (hdrOn .coma hc) [0x14, 1] = true) ∧ ((∃ e ∈ rocking.lbe, e.running = true) ∧ rocking.takes 0x0101 hc [0x14, 1] = true)) ∧
    (hc.half = .coma ∧ bits 0xFFFFFFFD 1 0 = 1 ∧ rocking.takes 0x0101 hc [0x14, 0xFFFFFFFD] = true) := by decide +kernel

theorem wit_NeighbourRegistersAreFixedWhileJoined :
    (hn.half = .nucleus ∧ joined.takes 0x0101 hn [0x0802FC, 0] = true ∧ joined.ory.joined = true ∧ (0x0802FC : Word).toNat = 0x080100 + 16 * 31 + 4 * 3 ∧ bits 0 30 29 ≠ 3) ∧
    (joined.takes 0x0101 hn [0x080014, 0x264] = true ∧ 1 ≤ bits 0x264 7 0 ∧ bits 0x264 7 0 ≤ 100 ∧ 2 ≤ bits 0x264 11 8) := by decide +kernel

theorem wit_KeyStatusReadsTheSlots :
    ((up.takes 0x0A04 hc [63] = true) ∧ (bits 63 7 0 ≤ 63)) ∧
    ((bits 255 7 0 = 0xFF)) ∧
    ((63 < bits 64 7 0) ∧ (bits 64 7 0 ≠ 0xFF)) := by decide +kernel

theorem wit_CalendarStopsAtItsEnd :
    (last.pwr.mode ≠ .off ∧ last.aon.stopped = false ∧ last.aon.atEnd = true ∧ last.comaUp = true) ∧
    ((let s : State := { last with pwr := { up.pwr with main := false, mode := .backup } }; s.pwr.mode ≠ .off ∧ s.aon.stopped = false ∧ s.aon.atEnd = true ∧ s.comaUp = false)) ∧
    ((let s : State := { up with aon := { up.aon with stopped := true } }; s.pwr.mode ≠ .off ∧ s.aon.stopped = true)) := by decide +kernel

theorem wit_CalendarCountsGregorianSeconds :
    ((up.pwr.mode ≠ .off) ∧ (up.aon.stopped = false) ∧ (up.aon.atEnd = false) ∧ (up.aon.dateOk = true) ∧ (up.tim.calSet = false)) := by decide +kernel

theorem wit_QueuesReportEveryDrop :
    ((({ entries := [], pend := 0, cap := 4 } : Queue Nat).fits 3 = true)) ∧
    ((({ entries := [], pend := 0, cap := 4 } : Queue Nat).fits 4 = false) ∧ ({ entries := [], pend := 0, cap := 4 } : Queue Nat).used ≤ 4) := by decide +kernel

/-! ## A table-set image whose CRC checks (R386, R393) -/

def zeros31 : List Byte := List.replicate 31 0
def tsetHead : List Byte := [0x55, 0x4C, 0x56, 0x49, 3, 0xB0]
def tsetBody : List Byte := tsetHead ++ (zeros31 ++ (zeros31 ++ (zeros31 ++ (zeros31 ++ (zeros31 ++ zeros31)))))
/-- A type 3 image of 256 bytes with its CRC. -/
def tset0 : List Byte := tsetBody ++ ([3, 0xBF, 0x9C, 0x65] ++ List.replicate 60 0)

theorem tset_signed : signedBytes tset0 = tsetBody := by decide +kernel
theorem tset_crc_head : tsetHead.foldl (crcByte 0x82F63B78) 0xFFFFFFFF = 0x736B61DB := by decide +kernel
theorem tset_crc_a : zeros31.foldl (crcByte 0x82F63B78) 0x736B61DB = 0x363EEC9E := by decide +kernel
theorem tset_crc_b : zeros31.foldl (crcByte 0x82F63B78) 0x363EEC9E = 0x89219369 := by decide +kernel
theorem tset_crc_c : zeros31.foldl (crcByte 0x82F63B78) 0x89219369 = 0xA2ADD8AD := by decide +kernel
theorem tset_crc_d : zeros31.foldl (crcByte 0x82F63B78) 0xA2ADD8AD = 0xAB96F8C2 := by decide +kernel
theorem tset_crc_e : zeros31.foldl (crcByte 0x82F63B78) 0xAB96F8C2 = 0x137F57F9 := by decide +kernel
theorem tset_crc_f : zeros31.foldl (crcByte 0x82F63B78) 0x137F57F9 = 0xFC40639A := by decide +kernel
theorem tset_crc : crc32c (signedBytes tset0) = 0x03BF9C65 := by
  rw [tset_signed]
  unfold crc32c crc32With tsetBody
  simp only [List.foldl_append, tset_crc_head, tset_crc_a, tset_crc_b, tset_crc_c, tset_crc_d, tset_crc_e, tset_crc_f]
  decide

def verifying (d : List Byte) (n : Nat) : State := up.mapUpd .nucleus (fun u => { u with port := some 0, len := n, data := d, verifying := true })

theorem wit_verify_good : (verifying tset0 256).comaUp = true ∧ ((verifying tset0 256).updS .nucleus).verifying = true ∧
    ((verifying tset0 256).updS .nucleus).good (verifying tset0 256).keys.vendor .nucleus = true := by
  refine ⟨by decide +kernel, by decide +kernel, ?_⟩
  show Upd.good _ .nucleus _ = true
  unfold Upd.good
  have hk : ((verifying tset0 256).updS .nucleus).kind ≠ fwType .nucleus := by decide +kernel
  have hd : ((verifying tset0 256).updS .nucleus).data = tset0 := rfl
  rw [if_neg hk, hd, tset_crc]
  decide +kernel

/-! ## Witnesses with a clause over all instances -/

theorem stream_entries (k : Nat) : (waitingFw.stream k).q.entries = [] := by
  show (nth Stream.reset (List.replicate 64 Stream.reset) k).q.entries = []
  unfold nth
  rw [List.getD_eq_getElem?_getD, List.getElem?_replicate]
  split <;> rfl

theorem wit_transmission_one :
    (waitingFw.comaUp = true ∧ (waitingFw.port 0).offAfter = none ∧ waitingFw.txOn 0 = true ∧ (waitingFw.port 0).rfault = false ∧ bit (waitingFw.prtCtl 0) 1 = false ∧
      (waitingFw.port 0).pfc.any Option.isSome = false ∧ (waitingFw.port 0).fw.findIdx? (fun f => f.pri == 7) = some 0 ∧
      (waitingFw.port 0).fw[0]? = some { pri := 7, bytes := [1], kind := .plain } ∧ (waitingFw.port 0).paused 7 = false ∧
      waitingFw.ory.tx.entries = [] ∧ (padFrame [1]).length + 4 ≤ waitingFw.maxlen 0) ∧ ∀ k, (waitingFw.stream k).q.entries = [] :=
  ⟨by decide +kernel, stream_entries⟩

/-- Joined under a parent at neighbour 31, MODES on. -/
def relaying : State := (joined.putRw .nucleus 0x08001C 0x40).putRw .nucleus (aNb 31 0) 0xA0000009

theorem wit_modes : (relaying.nucUp = true ∧ relaying.ory.joined = true ∧ bit (relaying.rwN 0x08001C) 6 = true ∧
      bit (relaying.rwN 0x08001C) 7 = false ∧ relaying.parentNb = some 31) ∧
    ∀ e j, (nth Mode.free (relaying.lb e).modes j).held = false := by
  refine ⟨by decide +kernel, fun e j => ?_⟩
  show (nth Mode.free (nth Lbe.reset (List.replicate 32 Lbe.reset) e).modes j).held = false
  have h : nth Lbe.reset (List.replicate 32 Lbe.reset) e = Lbe.reset := by
    unfold nth
    rw [List.getD_eq_getElem?_getD, List.getElem?_replicate]
    split <;> rfl
  rw [h]
  show (nth Mode.free (List.replicate 16 Mode.free) j).held = false
  unfold nth
  rw [List.getD_eq_getElem?_getD, List.getElem?_replicate]
  split <;> rfl

theorem wit_block_reset : ((windowed (.prt 3)).comaUp = true ∧ ResetDomain.prt 3 ∈ (windowed (.prt 3)).flt.held ∧
    (windowed (.prt 3)).cmd.waiting = []) ∧ ∀ h n, ResetDomain.prt 3 ≠ .core h n :=
  ⟨by decide +kernel, fun _ _ h => nomatch h⟩

/-- Estimator source 0xFE00 runs, with the given samples of VA. -/
def phasing (v : List Samp) : State :=
  ((up.mapBank 1 (fun t => { t with active := [(0xFE000, 0xA0010007), (0xFE006, 0x700), (0xFE00D, 1)] })).putRw .nucleus 0x040000 1).mapEst
    0xFE00 (fun e => { e with running := true, waves := [v] })
def sample : Samp := { idx := 48, arr := 0, v := 5, u := false, q := false }

theorem wit_estimate : let x := ((phasing [sample]).reachF 2000000000).release
    x.phxOn = true ∧ (x.est 0xFE00).running = true ∧ srcRate x.srcT 0xFE00 ≠ 0 ∧ (x.est 0xFE00).done = none ∧
      x.estimateDue 0xFE00 1 = true ∧ (x.estimateEpoch 0xFE00 1).1.isSome = true ∧
      (x.estimateEpoch 0xFE00 1).2.repeated 0xFE00 1 = false := by decide +kernel
/-- An estimator that starts again comes to a key that is stored already (R131). -/
theorem wit_estimate_again :
    let x := ((State.mapSrcSt 0xFE00 (fun y => { y with keys := [1] }) (phasing [sample])).reachF 200000000).release
    x.phxOn = true ∧ (x.est 0xFE00).running = true ∧ srcRate x.srcT 0xFE00 ≠ 0 ∧ (x.est 0xFE00).done = none ∧
      x.estimateDue 0xFE00 1 = true ∧ (x.estimateEpoch 0xFE00 1).1.isSome = true ∧
      (x.estimateEpoch 0xFE00 1).2.repeated 0xFE00 1 = true ∧
      (x.estimateEpoch 0xFE00 1).2.isOld 0xFE00 1 (entryWords (x.estimateEpoch 0xFE00 1).2.srcT 0xFE00) = false := by decide +kernel
theorem wit_estimate_gap : let x := ((phasing []).reachF 2000000000).release
    x.phxOn = true ∧ (x.est 0xFE00).running = true ∧ srcRate x.srcT 0xFE00 ≠ 0 ∧ (x.est 0xFE00).done = none ∧
      x.estimateDue 0xFE00 1 = true ∧ (x.windowInputs 0xFE00 1).any (fun l => l.any Option.isSome) = false := by decide +kernel

/-- A bit run of one output's length (the clauses of CIC_OUTPUT). -/
theorem wit_cic_length : (List.replicate (2 * presetD up.afePreset) false).length = 2 * presetD up.afePreset := List.length_replicate

/-- A consistent state from which step answers a next state. -/
theorem wit_consistent : ({ up with pending := [.nop hc []] } : State).Consistent ∧
    ∃ t, step { up with pending := [.nop hc []] } = .next t := by
  refine ⟨?_, _, rfl⟩
  unfold State.Consistent
  decide +kernel

/-- A consistent state with a stale generation (R43). -/
theorem wit_ack_stale_consistent : up.Consistent ∧ up.attn.gen ≠ BitVec.ofNat 8 (bits 9 7 0) := by
  unfold State.Consistent
  decide +kernel

theorem wit_queue_pop : ({ entries := [.gap 2, .item 5 1], pend := 0, cap := 4 } : Queue Nat).entries = .gap 2 :: [.item 5 1] ∧
    ({ entries := [.item 5 1], pend := 0, cap := 4 } : Queue Nat).entries = .item 5 1 :: [] := by decide

/-! ## Witnesses of the further clauses -/

/-- Of the checks of a register's kind (Certificates/Slice0/Obligations.lean). -/
abbrev Plain (h : Half) (a : Nat) : Prop :=
  isReg h a = true ∧ rwMask h a ≠ 0 ∧ ((0x0A0000 ≤ a ∧ a < 0x0B0000) ∨ (h = .coma ∧ 0x030000 ≤ a ∧ a < 0x040000))
abbrev Event (h : Half) (a : Nat) : Prop := isReg h a = true ∧ rwMask h a = 0 ∧ w1cMask h a ≠ 0 ∧ (h, a) ≠ (.coma, 0x070004)

/-- In P4, with group 0's source (R58). -/
def p4 : State := { sourced with pwr := { sourced.pwr with phase := 4 } }
/-- Groups 0 and 1 run. -/
def two : State := (runs 0).mapGrp 1 (fun x => { x with run := .running, since := 3 })
def atNs (n : Nat) (s : State) : State := { s with tim := { s.tim with now := n } }
/-- The tail link is up, and one end of it is as given. -/
def withTlk (h : Half) (f : TlkEnd → TlkEnd) : State :=
  ((up.mapTlk .coma (fun e => { e with up := true })).mapTlk .nucleus (fun e => { e with up := true })).mapTlk h f
/-- Command port 0's reply queue has one entry. -/
def queued (e : QEntry Reply) : CmdPort := { CmdPort.fresh 0 with q := { (CmdPort.fresh 0).q with entries := [e] } }
def queuedS (e : QEntry Reply) : State := up.mapPort 0 (fun _ => queued e)
/-- Command port 0's reply queue is full. -/
def fullPort : State := queuedS (.item nopReply (replyPoolWords - 1))
/-- The table 4 bank is held, and its commit pends or not. -/
def held4 (c : Bool) : State := up.mapBank 4 (fun t => { t with staging := some [], holder := some 0, pendingCommit := c })
/-- A packet of command port 0: the byte of kind and flags, and a sequence number. -/
def packet (kind seq : Byte) : List Byte :=
  let b : List Byte := [0x0D, 0x1E, kind, 0x07, 0, 0, 0, 0, 0, 0, 0, seq]
  b ++ beBytes 4 (crc32c b).toNat
/-- A datagram with a packet, from a source that is command port 1 of inband or none. -/
def dgram (known : Bool) (bs : List Byte) : InBand :=
  { net := 3, v6 := false, ip := if known then 0 else 1, udp := 0, path := RetPath.none, payload := bs }
/-- The calibration queue holds paths 0 and 3. -/
def calQueued (r : Option Rover) : State := { up with afe := { up.afe with rover := r, calQ := [0, 3] } }
/-- PPS_IN is valid, with runs of validation. -/
def validating (l : List Valid) : State := { up with tim := { up.tim with ppsValid := true, valid := l } }

theorem up_stream (k : Nat) : (up.stream k).q.entries = [] ∧ (up.stream k).fill = 0 := by
  show (nth Stream.reset (List.replicate 64 Stream.reset) k).q.entries = [] ∧ (nth Stream.reset (List.replicate 64 Stream.reset) k).fill = 0
  unfold nth
  rw [List.getD_eq_getElem?_getD, List.getElem?_replicate]
  split <;> exact ⟨rfl, rfl⟩

/-- A session goes on in a sector that is erased past its bytes (R392). -/
theorem wit_write_region : ([1] : List Byte).take 1 = [1] ∧ ∀ i, 1 ≤ i → i < (1 + 65535) / 65536 * 65536 → nth 0xFF ([1] : List Byte) i = 0xFF :=
  ⟨rfl, fun i h _ => by obtain ⟨k, rfl⟩ : ∃ k, i = k + 1 := ⟨i - 1, by omega⟩
                        rfl⟩

/-- A Nucleus image signed as comaImage is. -/
def nucleusImage : List Byte :=
  ([0x55, 0x4C, 0x56, 0x49, 2, 0xB0] ++ List.replicate 186 0) ++
    (beBytes 32 0x6B17D1F2E12C4247F8BCE6E563A440F277037D812DEB33A0F4A13945D898C296 ++
      beBytes 32 0x5B759BEF99F33AFEF73BD2335B595E5DB3AC1872C8FED1331648773328507B44)
def p3Flash : State := { phase 3 true with pwr := { (phase 3 true).pwr with hspBoot := false } }
def nucRead : NucleusStart := { nuc0 with active := nucleusImage }
/-- Start-up from the flash: a good slot of the Coma half, a bad one beside a good one, and a good one of the Nucleus half (R389). -/
theorem wit_slot_good : (((fused (phase 2 false)).readRegion (slotAt .coma dir0.comaB) comaImage).readRegion (slotAt .coma (!dir0.comaB)) []).slotOk
    .coma dir0.comaB = true := by decide +kernel
theorem wit_slot_other : let x := ((fused (phase 2 false)).readRegion (slotAt .coma dir0.comaB) []).readRegion (slotAt .coma (!dir0.comaB)) comaImage
    x.slotOk .coma dir0.comaB = false ∧ x.slotOk .coma (!dir0.comaB) = true := by decide +kernel
theorem wit_p3_flash : (fused p3Flash).comaUp = true ∧ (fused p3Flash).pwr.phase = 3 ∧ (fused p3Flash).pwr.fw = true ∧
    (fused p3Flash).pwr.grave = false ∧ (fused p3Flash).pwr.held = false ∧ (fused p3Flash).pwr.fail = 0 ∧ (fused p3Flash).pwr.hspBoot = false ∧
    (fused p3Flash).upd.dir = some dir0 ∧ (dir0.tsetValid && dir0.autoload) = false := by decide +kernel
theorem wit_p3_good : ((fused p3Flash).readNucleus nucRead).nucFailure nucRead = 0 := by decide +kernel
theorem wit_p3_unstepped : (((fused p3Flash).readNucleus nucRead).nucleusUp nucRead).tim.stepped = false := by decide +kernel

/-- Nothing waits on a port (R87). -/
theorem wit_transmission_none : (linked.comaUp = true ∧ (linked.port 0).offAfter = none ∧ (linked.port 0).loop = [] ∧
    (linked.port 0).pfc.any Option.isSome = false ∧ (linked.port 0).fw = [] ∧ (∀ c ∈ linked.cmd.ports, c.id ≠ 0 → c.net = 0 → c.q.entries = []) ∧
    linked.ory.tx.entries = []) ∧ ∀ k, (linked.stream k).q.entries = [] ∧ (linked.stream k).fill = 0 :=
  ⟨by decide +kernel, up_stream⟩

/-- A firmware frame that is longer than the port's limit, and one on a port that is down. -/
def waitingLong : State := linked.mapPrt 0 (fun x => { x with fw := [{ pri := 7, bytes := List.replicate 2000 0, kind := .plain }] })
def waitingDown : State := waitingFw.mapPrt 0 (fun x => { x with link := false })
theorem wit_transmission_long : (waitingLong.comaUp = true ∧ waitingLong.txOn 0 = true ∧ (waitingLong.port 0).rfault = false ∧ (waitingLong.port 0).loop = [] ∧
    (waitingLong.port 0).fw.findIdx? (fun f => f.pri == 7) = some 0 ∧ (waitingLong.port 0).paused 7 = false ∧
    (waitingLong.port 0).pfc.any Option.isSome = false ∧ (waitingLong.port 0).offAfter = none ∧ waitingLong.ory.tx.entries = [] ∧
    waitingLong.maxlen 0 < (padFrame (List.replicate 2000 0)).length + 4) ∧ ∀ k, (waitingLong.stream k).q.entries = [] :=
  ⟨by decide +kernel, fun k => (up_stream k).1⟩
theorem wit_transmission_down : (waitingDown.comaUp = true ∧ waitingDown.txOn 0 = false ∧ (waitingDown.port 0).pfc.any Option.isSome = false ∧
    (waitingDown.port 0).fw.findIdx? (fun f => f.pri == 7) = some 0 ∧ (waitingDown.port 0).offAfter = none ∧ waitingDown.ory.tx.entries = []) ∧
    ∀ k, (waitingDown.stream k).q.entries = [] := ⟨by decide +kernel, fun k => (up_stream k).1⟩

/-- A reply waits for the in-band source on port 0. -/
def waitingReply : State :=
  { linked with cmd := { linked.cmd with ports := [CmdPort.fresh 0, { queued (.item nopReply 8) with id := 1, net := 0 }] } }
theorem wit_transmission_reply : (let s := waitingReply; let c : CmdPort := { queued (.item nopReply 8) with id := 1, net := 0 }
    s.comaUp = true ∧ (s.port 0).offAfter = none ∧ s.txOn 0 = true ∧ (s.port 0).rfault = false ∧ bit (s.prtCtl 0) 1 = false ∧
    (s.port 0).pfc.any Option.isSome = false ∧ (s.port 0).fw = [] ∧ (s.port 0).paused 7 = false ∧ s.ory.tx.entries = [] ∧
    s.cmd.ports.find? (fun c => c.id != 0 && c.net == 0 && !c.q.entries.isEmpty) = some c ∧ s.port? 1 = some c ∧ c.q.head = some (.item nopReply 8) ∧
    (padFrame (s.replyFrame 0 c.ip c.udp c.dropped nopReply)).length + 4 ≤ s.maxlen 0) ∧ ∀ k, (waitingReply.stream k).q.entries = [] :=
  ⟨by decide +kernel, fun k => (up_stream k).1⟩

theorem wit_SessionCommandsComplete_new :
    ((fullPort.takes 0x0003 hc [0] = true) ∧ (fullPort.marksGap hc.port 5 = true)) := by decide +kernel

theorem wit_RegisterWritesComplete_new :
    ((up.takes 0x0101 hc (0x0A000C :: [7,9,1]) = true) ∧ ([7,9,1] ≠ []) ∧ ([7,9,1].length ≤ 256) ∧ (isReg hc.half (0x0A000C : Word).toNat = true) ∧ ((∀ k ∈ List.range [7,9,1].length, (judgedAt hc.half (0x0A000C : Word).toNat [7,9,1] k up).refusesAt hc.half ((0x0A000C : Word).toNat + 4 * k) (nth 0 [7,9,1] k) = none))) ∧
    (((∀ k ∈ List.range [7,9,1].length, Plain Half.coma (0x0A000C + 4 * k))) ∧ (2 < [7,9,1].length)) ∧
    ((up.takes 0x0101 hc [0x050008, 5] = true) ∧ (Event hc.half (0x050008 : Word).toNat) ∧ (up.refuses hc.half (0x050008 : Word).toNat 5 = none)) ∧
    ((up.takes 0x0102 hc [0x050008, 5, 1] = true) ∧ (Event hc.half (0x050008 : Word).toNat) ∧ (up.refuses hc.half (0x050008 : Word).toNat (1 &&& 5) = none)) ∧
    ((woReg Half.coma 0x000034 = true)) ∧
    ((up.takes 0x0101 hn (0x0801FC :: [0,0x60000000]) = true) ∧ ([0,0x60000000].length ≤ 256) ∧ (isReg hn.half (0x0801FC : Word).toNat = true) ∧ (1 < [0,0x60000000].length) ∧ ((∀ j ∈ List.range 1, (judgedAt hn.half (0x0801FC : Word).toNat [0,0x60000000] j up).refusesAt hn.half ((0x0801FC : Word).toNat + 4 * j) (nth 0 [0,0x60000000] j) = none)) ∧ ((judgedAt hn.half (0x0801FC : Word).toNat [0,0x60000000] 1 up).refusesAt hn.half ((0x0801FC : Word).toNat + 4 * 1) (nth 0 [0,0x60000000] 1) = some eParam)) := by decide +kernel

theorem wit_RegisterWritesComplete_new2 :
    ((up.takes 0x0101 hc (0x058000 :: [0]) = true) ∧ ([0].length ≤ 256) ∧ (isReg hc.half (0x058000 : Word).toNat = true) ∧ (0 < [0].length) ∧ ((∀ j ∈ List.range 0, (judgedAt hc.half (0x058000 : Word).toNat [0] j up).refusesAt hc.half ((0x058000 : Word).toNat + 4 * j) (nth 0 [0] j) = none)) ∧ ((judgedAt hc.half (0x058000 : Word).toNat [0] 0 up).refusesAt hc.half ((0x058000 : Word).toNat + 4 * 0) (nth 0 [0] 0) = some eParam)) ∧
    (((up.putRw .coma (aNrg 0 0) 1).takes 0x0101 hc (0x070104 :: [0]) = true) ∧ ([0].length ≤ 256) ∧ (isReg hc.half (0x070104 : Word).toNat = true) ∧ ((judgedAt hc.half (0x070104 : Word).toNat [0] 0 (up.putRw .coma (aNrg 0 0) 1)).refusesAt hc.half ((0x070104 : Word).toNat + 4 * 0) (nth 0 [0] 0) = some eState)) ∧
    ((joined.takes 0x0101 hn [0x0801FC, 0, 0x60000000] = true) ∧ (isReg hn.half (0x0801FC : Word).toNat = true) ∧ (joined.refuses hn.half (0x0801FC : Word).toNat 0 = some eState) ∧ (joined.refusesAt hn.half ((0x0801FC : Word).toNat + 4) 0x60000000 = some eParam)) ∧
    (((up.putRw .coma (aNrg 0 0) 1).takes 0x0101 hc [0x070104, 0] = true) ∧ (isReg hc.half (0x070104 : Word).toNat = true) ∧ ((up.putRw .coma (aNrg 0 0) 1).refuses hc.half (0x070104 : Word).toNat 0 = some eState)) ∧
    ((up.takes 0x0101 hc [0xFFFFFFFC, 0] = true) ∧ (isReg hc.half (0xFFFFFFFC : Word).toNat = false)) ∧
    ((up.takes 0x0102 hc [0xFFFFFFFC, 0, 0] = true) ∧ (isReg hc.half (0xFFFFFFFC : Word).toNat = false)) := by decide +kernel

theorem wit_RegisterWritesComplete_new3 :
    ((isReg hc.half (0x058000 : Word).toNat = true) ∧ (up.refuses hc.half (0x058000 : Word).toNat (up.modified hc.half (0x058000 : Word).toNat 0xFFFFFFFF 0) = some eParam) ∧ (up.takes 0x0102 hc [0x058000, 0xFFFFFFFF, 0] = true)) ∧
    ((isReg hc.half (0x070104 : Word).toNat = true) ∧ ((up.putRw .coma (aNrg 0 0) 1).refuses hc.half (0x070104 : Word).toNat ((up.putRw .coma (aNrg 0 0) 1).modified hc.half (0x070104 : Word).toNat 0 1) = some eState) ∧ ((up.putRw .coma (aNrg 0 0) 1).takes 0x0102 hc [0x070104, 0, 1] = true)) := by decide +kernel

theorem wit_TableCommandsComplete_new :
    (((held4 false).takes 0x0202 hn [0x04000000] = true) ∧ (bits 0x04000000 31 24 ≠ 0xFF) ∧ (tblCap (bits 0x04000000 31 24) ≠ 0) ∧ (bits 0x04000000 31 24 ≠ 5) ∧ (((held4 false).bank (bits 0x04000000 31 24)).holder = some hn.port) ∧ (((held4 false).bank (bits 0x04000000 31 24)).pendingCommit = false) ∧ ((held4 false).opBusy hn 0x0202 (bits 0x04000000 31 24) = false) ∧ ((∀ g ∈ List.range 8, (held4 false).runsAt g (held4 false).follower = false))) ∧
    (((holds 4).takes 0x0202 hn [0xFF000000] = true) ∧ (bits 0xFF000000 31 24 = 0xFF) ∧ ((holds 4).heldTables hn.port = 4 :: []) ∧ ((∀ i ∈ 4 :: [], ((holds 4).bank i).pendingCommit = false)) ∧ ((holds 4).opBusy hn 0x0202 4 = false) ∧ (0 < 8) ∧ ((holds 4).runsAt 0 (holds 4).follower = true)) ∧
    ((up.takes 0x0202 hn [0xFF000000] = true) ∧ (bits 0xFF000000 31 24 = 0xFF) ∧ (up.heldTables hn.port = []) ∧ (up.opsOf hn.port < 32)) ∧
    (((holds 4).takes 0x0203 hn [0xFF000000] = true) ∧ (bits 0xFF000000 31 24 = 0xFF)) ∧
    (((held4 true).takes 0x0203 hn [0xFF000000] = true) ∧ (bits 0xFF000000 31 24 = 0xFF)) := by decide +kernel

theorem wit_GroupCommandsComplete_new :
    ((p4.takes 0x0300 hn [0] = true) ∧ (p4.tim.state ≠ .unset) ∧ (p4.tim.state ≠ .coarse) ∧ (p4.pwr.phase = 4) ∧ ((p4.grp (bits 0 2 0)).run = .stopped) ∧ (groupMembers p4.srcT (bits 0 2 0) ≠ []) ∧ ((∀ i, i ∈ groupMembers p4.srcT (bits 0 2 0) → bits (srcW p4.srcT i 6) 11 8 = p4.grpCode (bits 0 2 0))) ∧ (bits (p4.rwN (aGrp (bits 0 2 0) 4)) 31 8 * p4.grpRate (bits 0 2 0) < 1000000)) ∧
    (((atNs 100000000003 two).takes 0x0301 hn [1] = true) ∧ (((atNs 100000000003 two).grp (bits 1 2 0)).run = .running) ∧ ((atNs 100000000003 two).opBusy hn 0x0301 (bits 1 2 0) = false) ∧ ((∀ c ∈ ((atNs 100000000003 two).grp (bits 1 2 0)).conjs, c.st = .final)) ∧ (isBoundary ((atNs 100000000003 two).grpRate (bits 1 2 0)) (atNs 100000000003 two).follower = false) ∧ (bits 1 2 0 < (atNs 100000000003 two).aln.grps.length) ∧ (0 < 8) ∧ (0 ≠ bits 1 2 0) ∧ ((atNs 100000000003 two).runsAt 0 (atNs 100000000003 two).follower = true)) := by decide +kernel

theorem wit_ComaClearRowsComplete_new :
    ((hc.half = .coma) ∧ ((writing .coma [1]).takesWrite hc .coma 0xC0 1 = true)) ∧
    ((hn.half = .nucleus) ∧ ((writing .nucleus [1]).takesWrite hn .nucleus 0x0B0000 ((writing .nucleus [1]).rwN 0x0B0000 ||| 1) = true)) := by decide +kernel

theorem wit_FrontEndCommandsComplete_new :
    (((calQueued none).afe.rover = none)) := by decide +kernel

theorem wit_TimeCommandsComplete_new :
    (((validating [{ vrun false with dom := .b }]).takes 0x0903 hc [0x100, 0] = true) ∧ (bits 0x100 9 8 = 1) ∧ (let d : Dom := if bit 0x100 0 then .b else .a; ((validating [{ vrun false with dom := .b }]).opLocked hc 0x0903 d.idx = false) ∧ ((validating [{ vrun false with dom := .b }]).opBusy hc 0x0903 d.idx = false) ∧ ((validating [{ vrun false with dom := .b }]).tim.ppsValid = true))) := by decide +kernel

theorem wit_UpdateCommandsComplete_new :
    (((writing .coma [1, 2, 3, 4]).takes 0x0D01 hc (4 :: [0]) = true) ∧ ([0] ≠ []) ∧ (((writing .coma [1, 2, 3, 4]).updS hc.half).port = some hc.port) ∧ (((writing .coma [1, 2, 3, 4]).updS hc.half).switching = false) ∧ (((writing .coma [1, 2, 3, 4]).updS hc.half).verifying = false) ∧ ((4 : Word).toNat = ((writing .coma [1, 2, 3, 4]).updS hc.half).data.length) ∧ ((((writing .coma [1, 2, 3, 4]).updS hc.half).data = [] → 2 ≤ [0].length ∧ (fieldAt 4 1 (bytesOf [0]) = fwType hc.half ∨ fieldAt 4 1 (bytesOf [0]) = 3 ∧ hc.half = .nucleus))) ∧ (let ty := fieldAt 4 1 (((writing .coma [1, 2, 3, 4]).updS hc.half).data ++ bytesOf [0]); ((4 : Word).toNat + 4 * [0].length ≤ (if ty = 3 then ((writing .coma [1, 2, 3, 4]).updS hc.half).len else Nat.min ((writing .coma [1, 2, 3, 4]).updS hc.half).len (maxImage hc.half))))) ∧
    (((writing .nucleus []).takes 0x0D01 hn (0 :: [0, 0x03000000]) = true) ∧ ([0, 0x03000000] ≠ []) ∧ (((writing .nucleus []).updS hn.half).port = some hn.port) ∧ (((writing .nucleus []).updS hn.half).switching = false) ∧ (((writing .nucleus []).updS hn.half).verifying = false) ∧ ((0 : Word).toNat = ((writing .nucleus []).updS hn.half).data.length) ∧ ((((writing .nucleus []).updS hn.half).data = [] → 2 ≤ [0, 0x03000000].length ∧ (fieldAt 4 1 (bytesOf [0, 0x03000000]) = fwType hn.half ∨ fieldAt 4 1 (bytesOf [0, 0x03000000]) = 3 ∧ hn.half = .nucleus))) ∧ (let ty := fieldAt 4 1 (((writing .nucleus []).updS hn.half).data ++ bytesOf [0, 0x03000000]); ((0 : Word).toNat + 4 * [0, 0x03000000].length ≤ (if ty = 3 then ((writing .nucleus []).updS hn.half).len else Nat.min ((writing .nucleus []).updS hn.half).len (maxImage hn.half))))) := by decide +kernel

theorem wit_RepairCommandsComplete_new :
    ((hc.half = .coma) ∧ (up.takes 0x0D04 { hc with half := .nucleus } (withAction 4 [0]) = true) ∧ (up.opLocked hc 0x0D04 4 = false) ∧ (up.opBusy hc 0x0D04 4 = false) ∧ ((∀ k ∈ up.cmd.waiting, k.hdr.half = .coma))) := by decide +kernel

theorem wit_PowerRequestsComplete_new :
    ((resting.takesWrite hc .coma 0x14 2 = true) ∧ (resting.pwr.mode = .standby) ∧ (resting.pwr.trans = .none) ∧ (4 ≤ resting.pwr.phase)) := by decide +kernel

theorem wit_HspTransactionsComplete_new :
    ((up.hspRdy = true) ∧ (3 ≤ nopPacket.length)) ∧
    ((let synced := fieldAt 0 2 ([0x0D, 0x1F, 0x10] : List Byte) = 0x0D1E; up.hspRdy = true ∧ ¬ synced)) ∧
    ((let synced := fieldAt 0 2 ([0x0D, 0x1E, 0x10] : List Byte) = 0x0D1E; let fits := (nth 0 ([0x0D, 0x1E, 0x10] : List Byte) 2).toNat / 16 = 1 ∧ 8 ≤ ([0x0D, 0x1E, 0x10] : List Byte).length ∧ ([0x0D, 0x1E, 0x10] : List Byte).length = 16 + 4 * pktLen ([0x0D, 0x1E, 0x10] : List Byte) ∧ pktLen ([0x0D, 0x1E, 0x10] : List Byte) ≤ 1020; up.hspRdy = true ∧ synced ∧ ¬ fits)) ∧
    ((let synced := fieldAt 0 2 (nopPacket.take 15 ++ [1]) = 0x0D1E; let fits := (nth 0 (nopPacket.take 15 ++ [1]) 2).toNat / 16 = 1 ∧ 8 ≤ (nopPacket.take 15 ++ [1]).length ∧ (nopPacket.take 15 ++ [1]).length = 16 + 4 * pktLen (nopPacket.take 15 ++ [1]) ∧ pktLen (nopPacket.take 15 ++ [1]) ≤ 1020; up.hspRdy = true ∧ synced ∧ fits ∧ fieldAt (16 - 4) 4 (nopPacket.take 15 ++ [1]) ≠ (crc32c ((nopPacket.take 15 ++ [1]).take 12)).toNat)) ∧
    ((up.hspRdy = true) ∧ (pktCheck 1020 (packet 0x14 0) = none) ∧ ((nth 0 (packet 0x14 0) 2).getLsbD 2 = true)) ∧
    (((up.mapPort 0 (fun c => { c with last := some { nopReply with seq := 4 } })).hspRdy = true) ∧ (pktCheck 1020 (packet 0x10 4) = none) ∧ ((nth 0 (packet 0x10 4) 2).getLsbD 2 = false) ∧ ((nth 0 (packet 0x10 4) 2).getLsbD 1 = false) ∧ ((up.mapPort 0 (fun c => { c with last := some { nopReply with seq := 4 } })).port? 0 = some { CmdPort.fresh 0 with last := some { nopReply with seq := 4 } }) ∧ ((∀ k ∈ (up.mapPort 0 (fun c => { c with last := some { nopReply with seq := 4 } })).cmd.waiting, k.hdr.port ≠ 0)) ∧ ((pktHdr 0 (packet 0x10 4)).seq ≠ { CmdPort.fresh 0 with last := some { nopReply with seq := 4 } }.expected) ∧ ({ CmdPort.fresh 0 with last := some { nopReply with seq := 4 } }.last = some { nopReply with seq := 4 }) ∧ ({ nopReply with seq := 4 }.seq = (pktHdr 0 (packet 0x10 4)).seq)) := by decide +kernel

theorem wit_HspTransactionsComplete_new2 :
    ((up.hspRdy = true ∧ pktCheck 1020 (packet 0x10 4) = none ∧ (nth 0 (packet 0x10 4) 2).getLsbD 2 = false ∧ (nth 0 (packet 0x10 4) 2).getLsbD 1 = false ∧ up.port? 0 = some (CmdPort.fresh 0) ∧ up.cmd.waiting = [] ∧ (pktHdr 0 (packet 0x10 4)).seq ≠ (CmdPort.fresh 0).expected ∧ (CmdPort.fresh 0).last = none)) ∧
    ((up.hspRdy = true) ∧ (pktCheck 1020 (packet 0x12 4) = none) ∧ ((nth 0 (packet 0x12 4) 2).getLsbD 2 = false) ∧ ((nth 0 (packet 0x12 4) 2).getLsbD 1 = true) ∧ (up.port? 0 = some (CmdPort.fresh 0))) ∧
    ((let c := queued (.item nopReply 8); let out := 0x5A :: nopReply.bytes false; (queuedS (.item nopReply 8)).comaUp = true ∧ (queuedS (.item nopReply 8)).port? 0 = some c ∧ c.q.head = some (.item nopReply 8) ∧ out.length ≤ 40)) ∧
    ((let c := queued (.item nopReply 8); let out := 0x5A :: nopReply.bytes false; (queuedS (.item nopReply 8)).comaUp = true ∧ (queuedS (.item nopReply 8)).port? 0 = some c ∧ c.q.head = some (.item nopReply 8) ∧ 4 < out.length)) ∧
    (((queuedS (.gap 7)).comaUp = true) ∧ ((queuedS (.gap 7)).port? 0 = some (queued (.gap 7))) ∧ ((queued (.gap 7)).q.head = some (.gap 7)) ∧ (3 ≤ 3)) ∧
    (((queuedS (.gap 7)).comaUp = true ∧ (queuedS (.gap 7)).port? 0 = some (queued (.gap 7)) ∧ (queued (.gap 7)).q.head = some (.gap 7) ∧ 2 < 3)) := by decide +kernel

theorem wit_HspTransactionsComplete_new3 :
    (((queuedS .flush).comaUp = true) ∧ ((queuedS .flush).port? 0 = some (queued .flush)) ∧ ((queued .flush).q.head = some .flush) ∧ (1 ≤ 1)) := by decide +kernel

theorem wit_FrameReceptionCompletes_new :
    ((({ up with pwr := { up.pwr with fw := false } } : State).pwr.fw = false)) ∧
    ((let b := dgram true [0x0D, 0x1F]; let bs := b.payload; let maxL := if inband.maxlen b.net < 4166 then 360 else 1020; inband.pwr.fw = true ∧ pktCheck maxL bs ≠ none ∧ inband.portOf (.udp b) = some ({ CmdPort.fresh 1 with net := 3 } : CmdPort))) ∧
    ((let b := dgram false [0x0D, 0x1F]; let bs := b.payload; let maxL := if inband.maxlen b.net < 4166 then 360 else 1020; inband.pwr.fw = true ∧ pktCheck maxL bs ≠ none ∧ inband.portOf (.udp b) = none)) ∧
    ((let b := dgram true (packet 0x14 0); let bs := b.payload; let maxL := if inband.maxlen b.net < 4166 then 360 else 1020; inband.pwr.fw = true ∧ pktCheck maxL bs = none ∧ (nth 0 bs 2).getLsbD 2 = true)) ∧
    ((let b := dgram true (packet 0x10 0); let bs := b.payload; let maxL := if inband.maxlen b.net < 4166 then 360 else 1020; inband.pwr.fw = true ∧ pktCheck maxL bs = none ∧ (nth 0 bs 2).getLsbD 2 = false ∧ (nth 0 bs 2).getLsbD 1 = false ∧ inband.portOf (.udp b) = some ({ CmdPort.fresh 1 with net := 3 } : CmdPort) ∧ (pktHdr 1 bs).seq = inband.expectedSeq ({ CmdPort.fresh 1 with net := 3 } : CmdPort))) ∧
    ((let b := dgram true (packet 0x12 0); let bs := b.payload; let maxL := if inband.maxlen b.net < 4166 then 360 else 1020; inband.pwr.fw = true ∧ pktCheck maxL bs = none ∧ (nth 0 bs 2).getLsbD 2 = false ∧ (nth 0 bs 2).getLsbD 1 = true ∧ inband.portOf (.udp b) = some ({ CmdPort.fresh 1 with net := 3 } : CmdPort))) := by decide +kernel

theorem wit_FrameReceptionCompletes_new2 :
    ((let b := dgram false (packet 0x10 0); let bs := b.payload; let maxL := if inband.maxlen b.net < 4166 then 360 else 1020; inband.pwr.fw = true ∧ pktCheck maxL bs = none ∧ (nth 0 bs 2).getLsbD 2 = false ∧ (nth 0 bs 2).getLsbD 1 = false ∧ inband.portOf (.udp b) = none)) ∧
    ((let b := dgram false (packet 0x12 0); let bs := b.payload; let maxL := if inband.maxlen b.net < 4166 then 360 else 1020; inband.pwr.fw = true ∧ pktCheck maxL bs = none ∧ (nth 0 bs 2).getLsbD 2 = false ∧ (nth 0 bs 2).getLsbD 1 = true ∧ inband.portOf (.udp b) = none ∧ inband.port? 2 = none ∧ (∀ j ∈ List.range 2, 1 ≤ j → (inband.port? j).isSome = true))) ∧
    ((let s : State := { up with cmd := { up.cmd with ports := (List.range 17).map CmdPort.fresh } }; s.pwr.fw = true ∧ s.portOf (.udp (dgram false [])) = none ∧ (∀ i ∈ List.range 17, 1 ≤ i → (s.port? i).isSome = true))) := by decide +kernel

theorem wit_LinkEventsComplete_new :
    (((xoff 16777215).comaUp = true ∧ 0 < 4 ∧ (xoff 16777215).prt.length = 4 ∧ ((xoff 16777215).port 0).pfc.length = 8 ∧ 3 < 8 ∧ ((xoff 16777215).port 0).xoff.getLsbD 3 = true ∧ (bits ((xoff 16777215).rwC (aPrt 0 0x48)) 31 16 * 256 ≤ (xoff 16777215).occOf 0 3 ∨ (xoff 16777215).consumerPressed 0 3 = true))) ∧
    (((xoff 0).comaUp = true ∧ 0 < 4 ∧ (xoff 0).prt.length = 4 ∧ ((xoff 0).port 0).pfc.length = 8 ∧ 3 < 8 ∧ ((xoff 0).port 0).xoff.getLsbD 3 = true ∧ (xoff 0).occOf 0 3 < bits ((xoff 0).rwC (aPrt 0 0x48)) 31 16 * 256 ∧ (xoff 0).consumerPressed 0 3 = false)) := by decide +kernel

theorem wit_PrecisionTimeEventsComplete_new :
    (((validating [vrun true]).comaUp = true) ∧ ((validating [vrun true]).tim.valid = (vrun true) :: []) ∧ ((vrun true).lost = true)) ∧
    (((validating [vrun false]).comaUp = true) ∧ ((validating [vrun false]).tim.valid = (vrun false) :: []) ∧ ((vrun false).lost = false) ∧ ((vrun false).samples ≠ []) ∧ ((sortI (vrun false).edges).getLast?.getD 0 - (sortI (vrun false).edges).head?.getD 0 ≤ 100)) := by decide +kernel

theorem wit_TimeBaseEventsComplete_new :
    (((validating []).comaUp = true) ∧ ((validating []).tim.ppsValid = true) ∧ ((validating []).tim.valid = [])) ∧
    (((validating [vrun true]).comaUp = true) ∧ ((validating [vrun true]).tim.valid = [(vrun true)]) ∧ ((validating [vrun true]).tim.ppsValid = true)) ∧
    (((validating [vrun true, { vrun false with dom := .b }]).comaUp = true) ∧ ((validating [vrun true, { vrun false with dom := .b }]).tim.valid = [(vrun true), { vrun false with dom := .b }]) ∧ ((validating [vrun true, { vrun false with dom := .b }]).tim.ppsValid = true)) ∧
    ((let s := withTlk .nucleus id; s.nucUp = true ∧ s.tlkN.up = true ∧ ((1000 : Int) - (1000 + ((withTlk .nucleus id).tlkLat .nucleus).toNat)).natAbs ≤ 1024)) ∧
    ((let s := withTlk .nucleus id; s.nucUp = true ∧ s.tlkN.up = true ∧ 1024 < ((5000 : Int) - (1000 + ((withTlk .nucleus id).tlkLat .nucleus).toNat)).natAbs)) := by decide +kernel

theorem wit_TailLinkEventsComplete_new :
    (((withTlk .nucleus id).nucUp = true) ∧ (((withTlk .nucleus id).tlk Half.nucleus).up = true) ∧ ([1,2].length ≤ 256)) ∧
    (((withTlk .coma id).nucUp = true) ∧ (((withTlk .coma id).tlk Half.coma).up = true) ∧ ((List.replicate 256 3).length ≤ 256)) ∧
    ((((withTlk .nucleus id).tlk Half.nucleus).rt = none)) ∧
    ((((withTlk .coma (fun e => { e with rt := some 2 })).tlk Half.coma).rt.isSome = true) ∧ ((List.replicate 255 3).length < 256)) ∧
    (((withTlk .coma id).tlkC.part.length = 4) ∧ ((withTlk .coma id).tlkC.got.length = 4) ∧ (nth [] (withTlk .coma id).tlkC.part (tlkIdx TlkClass.control) = [])) ∧
    (((withTlk .nucleus id).nucUp = true) ∧ (((withTlk .nucleus id).tlk Half.nucleus).up = true) ∧ (((withTlk .nucleus id).tlk Half.nucleus).replay = false) ∧ (4 ≤ [0, 0, 0, 0, 0].length) ∧ ([0, 0, 0, 0, 0].length ≤ 260) ∧ (tlkCrcOk [0, 0, 0, 0, 0] = false)) := by decide +kernel

theorem wit_TailLinkEventsComplete_new2 :
    (((withTlk .nucleus (fun e => { e with replay := true })).nucUp = true ∧ ((withTlk .nucleus (fun e => { e with replay := true })).tlk .nucleus).up = true ∧ ((withTlk .nucleus (fun e => { e with replay := true })).tlk .nucleus).replay = true ∧ 4 ≤ [0, 0, 0, 0, (0 : Byte)].length ∧ [0, 0, 0, 0, (0 : Byte)].length ≤ 260 ∧ tlkCrcOk [0, 0, 0, 0, 0] = false ∧ 0 < 9 ∧ 0 ∈ ((withTlk .nucleus (fun e => { e with replay := true })).tlk .nucleus).rxLanes)) ∧
    (((withTlk .nucleus (fun e => { e with replay := true, rxSub := some 3 })).nucUp = true ∧ ((withTlk .nucleus (fun e => { e with replay := true, rxSub := some 3 })).tlk .nucleus).up = true ∧ ((withTlk .nucleus (fun e => { e with replay := true, rxSub := some 3 })).tlk .nucleus).replay = true ∧ 4 ≤ [0, 0, 0, 0, (0 : Byte)].length ∧ [0, 0, 0, 0, (0 : Byte)].length ≤ 260 ∧ tlkCrcOk [0, 0, 0, 0, 0] = false ∧ 0 < 9 ∧ 0 ∈ ((withTlk .nucleus (fun e => { e with replay := true, rxSub := some 3 })).tlk .nucleus).rxLanes)) ∧
    ((((withTlk .nucleus id).tlk Half.coma).rxSub = none)) ∧
    ((((withTlk .coma (fun e => { e with rxSub := some 3 })).tlk Half.coma).rxSub.isSome = true)) ∧
    (((withTlk .nucleus (fun e => { e with rt := some 3 })).comaUp = true) ∧ (((withTlk .nucleus (fun e => { e with rt := some 3 })).tlk Half.nucleus).rt = some 3)) := by decide +kernel

theorem wit_IngestEventsComplete_new :
    ((let u := atNs 100000000000 sourced; let it : Item := { item with blocks := [{ src := 0, lanes := [], chs := 0, ent := entryWords sourced.srcT 0 }] }; it.blocks ≠ [] ∧ ∀ b ∈ it.blocks, u.repeated b.src it.key = true ∨ u.isOld b.src it.key b.ent = true)) := by decide +kernel

theorem wit_AnalysisEventsComplete_new :
    ((({ up with isl := { up.isl with rounds := [rounds0] } } : State).nucUp = true) ∧ (({ up with isl := { up.isl with rounds := [rounds0] } } : State).isl.rounds = rounds0 :: [])) ∧
    (({ rounds0 with inc := true }.inc = true)) ∧
    ((rounds0.inc = false) ∧ (up.isl.incRun + 1 < bits (up.rwN 0x05002C) 5 0)) ∧
    ((rounds0.inc = false ∧ ¬ (up.putRw .nucleus 0x05002C 1).isl.incRun + 1 < bits ((up.putRw .nucleus 0x05002C 1).rwN 0x05002C) 5 0)) := by decide +kernel

theorem wit_FrontEndEventsComplete_new :
    ((12 < (up.mapChain 12 (fun c => { c with level := true, same := modStuck - 1 })).afe.chains.length) ∧ (((up.mapChain 12 (fun c => { c with level := true, same := modStuck - 1 })).chain 12).level = true) ∧ (((up.mapChain 12 (fun c => { c with level := true, same := modStuck - 1 })).chain 12).same + 1 = modStuck)) := by decide +kernel

theorem wit_OrreryEventsComplete_new :
    ((up.ory.beating = false) ∧ (up.nucUp = true)) ∧
    ((up.nucUp = true) ∧ (let miss := bits (up.rwN 0x080014) 11 8; ((up.nb 31).missed < miss))) ∧
    ((let s := up.mapNb 31 (fun x => { x with up := true, missed := 255 }); let miss := bits (s.rwN 0x080014) 11 8; s.nucUp = true ∧ miss ≤ (s.nb 31).missed ∧ (s.nb 31).up = true ∧ (nbRole (s.nbCfg 31) ≠ 1 ∨ s.ory.joined = false))) ∧
    ((let s := (joined.putRw .nucleus (aNb 31 0) 0xA0000009).mapNb 31 (fun x => { x with up := true, missed := 255 }); let miss := bits (s.rwN 0x080014) 11 8; s.nucUp = true ∧ miss ≤ (s.nb 31).missed ∧ (s.nb 31).up = true ∧ nbRole (s.nbCfg 31) = 1 ∧ s.ory.joined = true)) ∧
    ((let s := up.mapNb 31 (fun x => { x with missed := 255 }); let miss := bits (s.rwN 0x080014) 11 8; s.nucUp = true ∧ miss ≤ (s.nb 31).missed ∧ (s.nb 31).up = false ∧ True)) := by decide +kernel

theorem wit_StartupEventsComplete_new :
    ((let s := fused (phase 2 false); let d := dir0; let x := (s.readRegion (slotAt .coma d.comaB) []).readRegion (slotAt .coma (!d.comaB)) []; s.comaUp = true ∧ s.upd.dir = some d ∧ s.pwr.phase = 2 ∧ s.pwr.rom = false ∧ s.pwr.stopped = false ∧ s.pwr.fw = false ∧ x.slotOk .coma d.comaB = false ∧ x.slotOk .coma (!d.comaB) = false ∧ s.pwr.straps.toNat % 4 = 0)) ∧
    ((up.region (slotAt Half.coma true) = none)) ∧
    (((up.readRegion (slotAt .nucleus false) [2]).region (slotAt Half.nucleus false) = some [2])) ∧
    ((let s := phase 3 true; let x := s.readNucleus { nuc0 with trained := false }; s.comaUp = true ∧ s.pwr.phase = 3 ∧ s.pwr.fw = true ∧ s.pwr.grave = false ∧ s.pwr.held = false ∧ s.pwr.fail ≠ 5 ∧ s.pwr.fail ≠ 7 ∧ x.nucFailure { nuc0 with trained := false } = 5)) ∧
    ((let s := ({ phase 3 true with pwr := { (phase 3 true).pwr with hspBoot := false } } : State); let x := s.readNucleus nuc0; s.comaUp = true ∧ s.pwr.phase = 3 ∧ s.pwr.fw = true ∧ s.pwr.grave = false ∧ s.pwr.held = false ∧ s.pwr.fail ≠ 5 ∧ s.pwr.fail ≠ 7 ∧ x.nucFailure nuc0 = 6)) ∧
    ((let s := ({ phase 3 true with pwr := { (phase 3 true).pwr with hspBoot := true } } : State); let x := s.readNucleus { nuc0 with badTiles := 5 }; s.comaUp = true ∧ s.pwr.phase = 3 ∧ s.pwr.fw = true ∧ s.pwr.grave = false ∧ s.pwr.held = false ∧ s.pwr.fail ≠ 5 ∧ s.pwr.fail ≠ 7 ∧ x.nucFailure { nuc0 with badTiles := 5 } = 7)) := by decide +kernel

theorem wit_StartupEventsComplete_new2 :
    ((let s := ({ up with pwr := { up.pwr with nrst := true, hspBoot := true } } : State); let x := s.readNucleus nuc0; s.comaUp = true ∧ s.pwr.nrst = true ∧ s.pwr.grave = false ∧ s.pwr.held = false ∧ 4 ≤ s.pwr.phase ∧ x.nucFailure nuc0 = 0)) ∧
    ((let s := ({ up with pwr := { up.pwr with nrst := true } } : State); let x := s.readNucleus nuc0; s.comaUp = true ∧ s.pwr.nrst = true ∧ s.pwr.grave = false ∧ s.pwr.held = false ∧ 4 ≤ s.pwr.phase ∧ x.nucFailure nuc0 = 6)) := by decide +kernel

theorem wit_RecorderEventsComplete_new :
    ((({ up with aon := { up.aon with opMin := 60 }, rcd := { up.rcd with lastClose := 60 } } : State).comaUp = true) ∧ (5 ≤ ({ up with aon := { up.aon with opMin := 60 }, rcd := { up.rcd with lastClose := 60 } } : State).pwr.phase) ∧ (({ up with aon := { up.aon with opMin := 60 }, rcd := { up.rcd with lastClose := 60 } } : State).aon.opMin % 60 = 0) ∧ (({ up with aon := { up.aon with opMin := 60 }, rcd := { up.rcd with lastClose := 60 } } : State).aon.opMin ≠ ({ up with aon := { up.aon with opMin := 60 }, rcd := { up.rcd with lastClose := 60 } } : State).rcd.lastHour) ∧ (({ up with aon := { up.aon with opMin := 60 }, rcd := { up.rcd with lastClose := 60 } } : State).aon.opMin = ({ up with aon := { up.aon with opMin := 60 }, rcd := { up.rcd with lastClose := 60 } } : State).rcd.lastClose)) ∧
    ((let s : State := { up with rcd := { up.rcd with q := { up.rcd.q with entries := [.gap 2] } } }; s.comaUp = true ∧ s.rcd.idle = false ∧ s.headSumm.isSome = true ∧ nextGood s.rcd.bad recSlots s.rcd.nextSeq ≤ 0xFFFFFFFF ∧ s.rcd.q.head = some (.gap 2))) ∧
    ((let s : State := { up with rcd := { up.rcd with q := up.rcd.q.push noRecord 1 } }; s.comaUp = true ∧ s.rcd.idle = false ∧ s.headSumm = some noRecord ∧ nextGood s.rcd.bad recSlots s.rcd.nextSeq ≤ 0xFFFFFFFF ∧ s.rcd.q.head = some (.item noRecord 1))) := by decide +kernel

theorem wit_UpdateEventsComplete_new :
    ((let s := up.mapUpd .nucleus (fun u => { u with verifying := true }); (s.updS .nucleus).verifying = true ∧ (s.readBack .nucleus).good s.keys.vendor .nucleus = false)) ∧
    (((switching false).comaUp = true) ∧ (((switching false).updS Half.coma).switching = true) ∧ (((switching false).updS Half.coma).ready = false) ∧ ((switching false).swapsImage Half.coma = true) ∧ ((switching false).paused Half.coma = false) ∧ ((switching false).common (switching false).follower = true)) ∧
    (((atNs 100000000003 ({ switching false with aln := (runs 0).aln } : State)).comaUp = true) ∧ (((atNs 100000000003 ({ switching false with aln := (runs 0).aln } : State)).updS Half.coma).switching = true) ∧ (((atNs 100000000003 ({ switching false with aln := (runs 0).aln } : State)).updS Half.coma).ready = false) ∧ ((atNs 100000000003 ({ switching false with aln := (runs 0).aln } : State)).swapsImage Half.coma = true) ∧ ((atNs 100000000003 ({ switching false with aln := (runs 0).aln } : State)).common (atNs 100000000003 ({ switching false with aln := (runs 0).aln } : State)).follower = false) ∧ ((atNs 100000000003 ({ switching false with aln := (runs 0).aln } : State)).paused .coma = false)) ∧
    (((switching true).comaUp = true) ∧ (((switching true).updS Half.coma).switching = true) ∧ (((switching true).updS Half.coma).ready = false) ∧ ((switching true).paused Half.coma = true) ∧ ((switching true).pwr.rom = false) ∧ ((switching true).cmd.waiting = [])) ∧
    (((switching true).comaUp = true) ∧ (((switching true).updS Half.coma).switching = true) ∧ (((switching true).updS Half.coma).ready = false) ∧ ((switching true).paused Half.coma = true) ∧ (((switching true).updS Half.coma).port = none)) ∧
    ((let s := up.mapUpd .nucleus (fun u => { u with switching := true, data := [0, 0, 0, 0, 3] }); s.comaUp = true ∧ (s.updS .nucleus).switching = true ∧ (s.updS .nucleus).kind = 3)) := by decide +kernel

theorem wit_TestPortCommandsComplete_new :
    ((up.pwr.rstN = true)) ∧
    ((({ up with pwr := { up.pwr with rstN := false } } : State).pwr.rstN = false)) ∧
    ((up.ioGood = true) ∧ (Ball.errN ∈ scanBalls) ∧ ((up.pwr.rstN = true ∨ up.pwr.tap.drives = false))) ∧
    ((({ up with pwr := { up.pwr with rstN := false, tap := .highz } } : State).ioGood = true) ∧ (Ball.errN ∈ scanBalls) ∧ (({ up with pwr := { up.pwr with rstN := false, tap := .highz } } : State).pwr.rstN = false) ∧ (({ up with pwr := { up.pwr with rstN := false, tap := .highz } } : State).pwr.tap = .highz)) ∧
    ((({ up with pwr := { up.pwr with rstN := false, tap := .clamp } } : State).ioGood = true) ∧ ((Ball.alm 3) ∈ scanBalls) ∧ ((({ up with pwr := { up.pwr with rstN := false, tap := .clamp } } : State).pwr.tap = .extest ∨ ({ up with pwr := { up.pwr with rstN := false, tap := .clamp } } : State).pwr.tap = .clamp)) ∧ ((Ball.alm 3).pad = .output) ∧ (({ up with pwr := { up.pwr with rstN := false, tap := .clamp } } : State).ioGood = true ∧ Ball.alm 3 ∈ scanBalls ∧ ({ up with pwr := { up.pwr with rstN := false, tap := .clamp } } : State).pwr.rstN = false)) ∧
    ((({ up with pwr := { up.pwr with vddioLow := true } } : State).ioGood = false) ∧ (Ball.errN ≠ .meshO) ∧ (Ball.errN ≠ .xtalO)) := by decide +kernel

theorem wit_RefusedCommandsChangeNothing_new :
    ((let s := up; let r := bodyOf 0x0901 hc [1] s; s.takes 0x0901 hc [1] = true ∧ r.code ≠ codeOk ∧ r.code ≠ codePending)) ∧
    ((let s := up; let r := bodyOf 0x0E00 hn [0, 0, 1] s; s.takes 0x0E00 hn [0, 0, 1] = true ∧ r.code ≠ codeOk ∧ r.code ≠ codePending)) := by decide +kernel

theorem wit_NeighbourRegistersAreFixedWhileJoined_new :
    ((hn.half = .nucleus) ∧ ((joined.ory.joined = true ∨ joined.ory.pendJoin = true)) ∧ (31 < 32) ∧ (3 < 4) ∧ (0x0802FC = w32 (0x080100 + 16 * 31 + 4 * 3)) ∧ (joined.takes 0x0101 hn [0x0802FC, 0xFFFFFFFF] = true) ∧ ((3 ≠ 0 ∨ bits 0xFFFFFFFF 30 29 ≠ 3))) ∧
    ((hn.half = .nucleus) ∧ ((({ up with ory := { up.ory with pendJoin := true } } : State).ory.joined = true ∨ ({ up with ory := { up.ory with pendJoin := true } } : State).ory.pendJoin = true)) ∧ (0 < 32) ∧ (0 < 4) ∧ (0x080100 = w32 (0x080100 + 16 * 0 + 4 * 0)) ∧ (({ up with ory := { up.ory with pendJoin := true } } : State).takes 0x0101 hn [0x080100, 0] = true) ∧ ((0 ≠ 0 ∨ bits 0 30 29 ≠ 3))) ∧
    ((hn.half = .nucleus) ∧ ((joined.ory.joined = true ∨ joined.ory.pendJoin = true)) ∧ (0 < 32) ∧ (0 < 4) ∧ (0x080100 = w32 (0x080100 + 16 * 0 + 4 * 0)) ∧ (0 = 0) ∧ (bits 0x60000000 30 29 = 3) ∧ (joined.takes 0x0101 hn [0x080100, 0x60000000] = true)) ∧
    ((hn.half = .nucleus) ∧ (joined.takes 0x0101 hn [0x080014, 0x00000264] = true) ∧ (1 ≤ bits 0x00000264 7 0) ∧ (bits 0x00000264 7 0 ≤ 100) ∧ (2 ≤ bits 0x00000264 11 8) ∧ (joined.ory.joined = true)) ∧
    ((hn.half = .nucleus) ∧ ((bits 0x00000265 7 0 = 0 ∨ 100 < bits 0x00000265 7 0 ∨ bits 0x00000265 11 8 < 2)) ∧ (joined.takes 0x0101 hn [0x080014, 0x00000265] = true)) ∧
    ((let s := joined; let w := (s.regValue .nucleus 0x080100 &&& ~~~0xFFFFFFFF) ||| (0 &&& 0xFFFFFFFF); s.takes 0x0102 hn [0x080100, 0xFFFFFFFF, 0] = true ∧ bits w 30 29 ≠ 3)) := by decide +kernel

theorem wit_NeighbourRegistersAreFixedWhileJoined_new2 :
    ((let s := joined; let w := (s.regValue .nucleus 0x080100 &&& ~~~0x60000000) ||| (0x60000000 &&& 0x60000000); s.takes 0x0102 hn [0x080100, 0x60000000, 0x60000000] = true ∧ bits w 30 29 = 3)) ∧
    ((let s := joined; let w := (s.regValue .nucleus 0x080014 &&& ~~~0xFFFFFFFF) ||| (0x00000201 &&& 0xFFFFFFFF); s.takes 0x0102 hn [0x080014, 0xFFFFFFFF, 0x00000201] = true ∧ 1 ≤ bits w 7 0 ∧ bits w 7 0 ≤ 100 ∧ 2 ≤ bits w 11 8)) ∧
    ((let s := joined; let w := (s.regValue .nucleus 0x080014 &&& ~~~0xFFFFFFFF) ||| (0 &&& 0xFFFFFFFF); s.takes 0x0102 hn [0x080014, 0xFFFFFFFF, 0] = true ∧ bits w 7 0 = 0)) ∧
    ((joined.takes 0x0101 hn (0x080010 :: [0, 0]) = true ∧ 1 < [0, (0 : Word)].length ∧ (0x080010 : Word).toNat + 4 * 1 = 0x080014)) := by decide +kernel

/-! ## Ill-formed terms: each check of Instr.wf refuses one -/

theorem test_wf_port : (Instr.nop { hc with port := 17 } []).wf = false ∧ (Instr.nop { hc with port := 16 } []).wf = true := by decide
theorem test_wf_params : (Instr.nop hc (List.replicate 1021 0)).wf = false := by decide +kernel
theorem test_wf_header_alone : (Instr.ingClr { hc with port := 17 }).wf = false ∧ (Instr.srcSel { hc with port := 17 } 0).wf = false ∧
    (Instr.timDomainCfgWrite { hc with port := 17 } .a .cfg 0).wf = false := by decide
theorem test_wf_instances : (Instr.lbeEeTmax hc 32).wf = false ∧ (Instr.afeCcStat hc 8).wf = false ∧ (Instr.nrgPointEnable hc 256 0).wf = false ∧
    (Instr.pulEnable hc 4 0).wf = false ∧ (Instr.almGooseEnable hc 16 0).wf = false ∧ (Instr.egrStreamEnable hc 64 0).wf = false ∧
    (Instr.almPinCfgWrite hc 8 0).wf = false := by decide
theorem test_wf_sources : (Instr.fltSnCfgForce hc 96 0).wf = false ∧ (Instr.fltSnCfgForce hn 64 0).wf = false ∧
    (Instr.faultOccurrence .coma 96 .moment).wf = false ∧ (Instr.faultOccurrence .nucleus 64 .moment).wf = false := by decide
theorem test_wf_events : (Instr.commandPortIdleRelease 0).wf = false ∧ (Instr.linkUp 4).wf = false ∧ (Instr.pfcPauseExpiry 0 8).wf = false ∧
    (Instr.moduleInserted 4).wf = false ∧ (Instr.lbeUpdate 32 0).wf = false ∧ (Instr.cicOutput 13 []).wf = false ∧
    (Instr.nrgCycleEnd 256).wf = false ∧ (Instr.pulseDue 4).wf = false ∧ (Instr.almPinMinpwEnd 8).wf = false ∧
    (Instr.gooseRepeat 16).wf = false ∧ (Instr.oryNeighbourTimeout 32).wf = false ∧ (Instr.keyHoldExpiry 64).wf = false ∧
    (Instr.tamperInputQualify 2).wf = false ∧ (Instr.vmonSample 10 0).wf = false ∧ (Instr.phxEstimateEpoch 5 0 0).wf = false := by decide
theorem test_wf_domains : (Instr.blockResetComplete (.prt 4)).wf = false ∧ (Instr.blockResetComplete (.core .coma 3)).wf = false ∧
    (Instr.fltSuppressionWindowEnd (.lbe 32)).wf = false ∧ (Instr.coreItemWatchdog .nucleus 5).wf = false := by decide
theorem test_wf_startup : (Instr.startupP1Complete [true] { density := none, copy0 := [], copy1 := [] }).wf = false ∧
    (Instr.startupP3Complete { nuc0 with cores := [] }).wf = false ∧ (Instr.halfResetComplete { nuc0 with cores := [] }).wf = false := by decide

/-! ## The spec's worked examples, one step each -/

/-- The state a command leaves, where it leaves one. -/
def after (c : Instr) (s : State) : State := match exec c s with | .next t => t | _ => s

/-- The check value of R34. -/
theorem test_crc32c : crc32c [0x31, 0x32, 0x33, 0x34, 0x35, 0x36, 0x37, 0x38, 0x39] = 0xE3069283 := by decide +kernel

/-- The packet of the example that writes PRT2_MAXLEN (after R52). -/
def maxlenPacket : List Byte :=
  [0x0D, 0x1E, 0x10, 0x5C, 1, 1, 0, 2, 0, 0, 0, 0x2A, 0, 2, 0x10, 4, 0, 0, 0x24, 0, 0xB8, 0x58, 0x0D, 0x91]
def expecting : State := { up.mapPort 0 (fun c => { c with expected := 0x2A }) with attn := { up.attn with gen := 5 } }

theorem test_hsp_write_maxlen : (after (.hspWriteTransaction maxlenPacket) expecting).rwC 0x021004 = 9216 := by decide +kernel
theorem test_hsp_write_reply :
    ((after (.hspWriteTransaction maxlenPacket) expecting).reply? 0).map (fun r => (r.bytes false).take 16) =
      some [0x0D, 0x1E, 0x14, 0x5C, 1, 1, 0, 1, 0, 0, 0, 0x2A, 0, 0, 5, 0] := by decide +kernel
theorem test_hsp_expected_next : ((after (.hspWriteTransaction maxlenPacket) expecting).port? 0).map CmdPort.expected = some 0x2B := by
  decide +kernel

/-- Addresses of R405's example. -/
theorem test_addresses : aGrp 3 4 = 0x030704 ∧ aLbe 5 0xC = 0x06038C ∧ aEgr 9 0 = 0x078110 ∧ aDom .b 0x20 = 0x040820 ∧
    aFlt .coma 45 4 = 0x080354 ∧ aLane 3 8 = 0x0100E8 := by decide
/-- Three words of FLT_C_S45, then padding (R405's example). -/
theorem test_regread_s45 : ((after (.regRead hc [0x080350, 3]) up).reply? 0).map (fun r => (r.code, r.results.length)) = some (0, 3) := by
  decide +kernel
theorem test_regread_padding : ((after (.regRead hc [0x080350, 4]) up).reply? 0).map (fun r => (r.code, r.detail)) = some (0x14, 1) := by
  decide +kernel

/-- IDENT's model word and image word (R44, R47), and a wrong half (R40 step 7). -/
theorem test_ident : ((after (.ident hc []) up).reply? 0).map (fun r => (r.code, r.results.take 2)) = some (0, [0x8820, 0xB0000000]) := by
  decide +kernel
theorem test_half : ((after (.grpStart hc [0]) up).reply? 0).map Reply.code = some 0x15 := by decide +kernel
/-- In STANDBY the Nucleus half answers E_STATE (R30). -/
theorem test_standby : ((after (.grpQuery hn [0]) resting).reply? 0).map Reply.code = some 0x16 := by decide +kernel
/-- In the grave state all but IDENT, STATUS and FLT.READ answer E_GRAVE (R345). -/
theorem test_grave : ((after (.nop hc []) { up with pwr := { up.pwr with grave := true } }).reply? 0).map Reply.code = some 0x1C := by
  decide +kernel
/-- A stale ATTN.ACK changes nothing but the detail (R43). -/
theorem test_ack_stale : ((after (.attnAck hc [4]) up).reply? 0).map Reply.detail = some 1 ∧ (after (.attnAck hc [4]) up).attn.gen = 0 := by
  decide +kernel

/-- The queue of 8 slots of the example after R379: what the reads return at the end. -/
def queue8 : Queue Nat :=
  let q := ((((Queue.new 8).push 1 3).push 2 3).push 3 3).push 4 3
  (q.pop.push 5 3).push 6 3
theorem test_queue_reads : queue8.entries = [.item 2 3, .gap 2, .item 5 3, .gap 1] := by decide

/-- The lane words of the example after R114: a polar phasor, FREQ 37 and DFREQ -12 of a 60 Hz block. -/
theorem test_lane_freq : laneWord 1 0 [0, 37] 0 0 false = 0x9088 ∧ laneWord 2 0 [0xFF, 0xF4] 0 0 false = 0xFFFE2B40 := by
  decide +kernel
/-- sc 9.15527 and nom 230940.1 as binary32: 0x41127BFE and 0x48618706. -/
theorem test_lane_phasor : laneWord 0 1 [0x63, 0xBA, 0xEB, 0x8C] 0x41127BFE 0x48618706 false = 0x818CEAAB := by decide +kernel

/-- The p99 estimate of the example after R119. -/
theorem test_p99 : ({ Src.fresh 1 with hist := List.replicate 6 0 ++ [200, 40, 3] ++ List.replicate 23 0 } : Src).b99 = 8 ∧ binUpper 8 = 256 := by
  decide +kernel
/-- The latency of the example after R178, in ns: 22,770.30 us. -/
theorem test_lat : (50 + (160 / 2 + stepH) * 1000000000 / 4800 + feLatency 1 + 10000) / 100 = 227703 := by decide +kernel

/-- F_PRT_P2 comes, its reset window suppresses F_PRT_PFC2, and it comes again (example after R348). -/
def portFault : State := after (.faultOccurrence .coma 45 .moment) (up.putRw .coma (aFlt .coma 45 0) 0xB)
theorem test_flt_handling : (portFault.src .coma 45).handling = true ∧ (portFault.src .coma 45).real = true := by decide +kernel
theorem test_flt_missed : ((after (.faultOccurrence .coma 45 .moment) portFault).src .coma 45).missed = true := by decide +kernel

/-- The calendar's last day of February in a common century year (R301). -/
theorem test_calendar : let t := after .calendarSecond { up with aon :=
      { up.aon with year := 2100, month := 2, day := 28, hour := 23, minute := 59, second := 59 } }
    (t.aon.month, t.aon.day, t.aon.hour) = (3, 1, 0) := by decide +kernel
/-- VDDIO's return counts a power cycle (example after R310). -/
theorem test_return : (after .vddioReturnTimer { up with pwr := { up.pwr with timer := true } }).aon.pwrCyc = 1 := by decide +kernel
/-- STANDBY stops nothing that runs: the request is refused (R29). -/
theorem test_standby_refused : ((after (.pwrctlStandby hc) (runs 0)).reply? 0).map Reply.code = some 0x16 := by decide +kernel

/-- Of packets held back for ports 1 and 2, the flow after the last one served goes first, and the HSP before both where its class
has the smaller priority number (R370). -/
def heldBack : State := { inband with cmd := { inband.cmd with
  ports := [CmdPort.fresh 0, CmdPort.fresh 1, CmdPort.fresh 2], servedC := at' inband.cmd.servedC (inband.flowPri .coma 1) (fun _ => some 1)
  waiting := [{ hdr := { hc with port := 1 }, opcode := 0, params := [], path := .none }, { hdr := { hc with port := 2 }, opcode := 0, params := [], path := .none },
    { hdr := hc, opcode := 0, params := [], path := .none }] } }
theorem test_dispatch_order : (heldBack.nextReady .coma).map (fun k => k.hdr.port) = some 2 ∧
    ((heldBack.putRw .coma 0x0A0004 0x4210).nextReady .coma).map (fun k => k.hdr.port) = some 0 := by decide +kernel

end Sys2Proof.Tests
end

section
/-! SUPPORT. REG.READ: what a run of reads clears, and its answer by case (R10, R45). -/

namespace Sys2Proof.Machine

/-! ## Answers of a packet that is taken -/

/-- A command whose body refuses and changes nothing. -/
theorem serve_fail (op : Nat) (code : Byte) (detail : Nat) (h : Hdr) (ps : List Word) (body : Hdr → List Word → State → Res) (s : State)
    (ht : s.takes op h ps = true) (hb : body h ps s = Res.fail s code detail) :
    Replied h op code detail [] (s.serve op h ps body).settled ∧ OnlyReplied h.port s (s.serve op h ps body).settled := by
  rw [serve_taken op h ps body s ht, hb]
  exact answer_spec h op code detail [] s (takes_port op h ps s ht)

/-! ## What reading registers clears -/

theorem State.readClear_cmd (h : Half) (a : Nat) (s : State) : (s.readClear h a).cmd = s.cmd := by
  unfold State.readClear
  split
  all_goals
    repeat' split
    all_goals rfl

theorem State.readClear_rw (h hf : Half) (a x : Nat) (s : State) : (s.readClear h a).rw hf x = s.rw hf x := by
  unfold State.readClear
  split
  all_goals
    repeat' split
    all_goals cases hf <;> rfl

theorem readRun_cmd (h : Half) (n : Nat) : ∀ (a : Nat) (s : State), (readRun h n a s).cmd = s.cmd := by
  induction n with
  | zero => intro a s; rfl
  | succ n ih => intro a s; rw [readRun, ih, State.readClear_cmd]

theorem readRun_rw (h hf : Half) (n x : Nat) : ∀ (a : Nat) (s : State), (readRun h n a s).rw hf x = s.rw hf x := by
  induction n with
  | zero => intro a s; rfl
  | succ n ih => intro a s; rw [readRun, ih, State.readClear_rw]

/-! ## REG.READ by case -/

theorem all_addrs_iff (h : Half) (a n : Nat) : (addrs a n).all (isReg h) = true ↔ ∀ k, k < n → isReg h (a + 4 * k) = true := by
  simp [addrs]

/-- A run of registers within the map is read. -/
theorem cmdRegRead_ok (h : Hdr) (a n : Word) (s : State) (h1 : 1 ≤ n.toNat) (h2 : n.toNat ≤ 256)
    (hr : ∀ k, k < n.toNat → isReg h.half (a.toNat + 4 * k) = true) :
    cmdRegRead h [a, n] s = Res.ok (readRun h.half n.toNat a.toNat s)
      ((List.range n.toNat).map (fun k => s.regValue h.half (a.toNat + 4 * k))) := by
  have ha : isReg h.half a.toNat = true := hr 0 h1
  have hall := (all_addrs_iff h.half a.toNat n.toNat).mpr hr
  have ho : outside n.toNat 1 256 = false := by simp [outside]; omega
  unfold cmdRegRead arity
  simp only [par, nth, List.getD_cons_zero, List.getD_cons_succ, ha, ho, hall]
  simp [addrs, Function.comp_def]

theorem cmdRegRead_first_unmapped (h : Hdr) (a n : Word) (s : State) (ha : isReg h.half a.toNat = false) :
    cmdRegRead h [a, n] s = Res.fail s eParam 0 := by
  simp [cmdRegRead, arity, par, nth, ha]

theorem cmdRegRead_later_unmapped (h : Hdr) (a n : Word) (k : Nat) (s : State) (ha : isReg h.half a.toNat = true) (hk : k < n.toNat)
    (hn : isReg h.half (a.toNat + 4 * k) = false) : cmdRegRead h [a, n] s = Res.fail s eParam 1 := by
  have hall : (addrs a.toNat n.toNat).all (isReg h.half) = false := by
    rw [Bool.eq_false_iff, ne_eq, all_addrs_iff]
    intro hr
    simp [hr k hk] at hn
  simp [cmdRegRead, arity, par, nth, ha, hall]

/-- Settles O5: the body answers by the three cases of the run, and what a read clears touches neither the ports nor an RW word. -/
theorem registerReadCompletes : Obligations.RegisterReadCompletes := by
  unfold Obligations.RegisterReadCompletes
  refine ⟨fun h a n s ht h1 h2 hr => ?_, fun h a n s ht ha => ?_, fun h a n k s ht ha hk hn => ?_⟩
  · have hp : ((readRun h.half n.toNat a.toNat s).port? h.port).isSome = true := by
      rw [State.port?_ids h.port s _ (by rw [readRun_cmd])]
      exact takes_port _ h _ s ht
    obtain ⟨hrep, honly⟩ := serve_ok 0x0100 0 h _ _ cmdRegRead s _ ht (cmdRegRead_ok h a n s h1 h2 hr) hp
    exact ⟨_, rfl, hrep, honly, fun hf x => by rw [honly.rw, readRun_rw]⟩
  · exact ⟨_, rfl, serve_fail 0x0100 eParam 0 h _ cmdRegRead s ht (cmdRegRead_first_unmapped h a n s ha)⟩
  · exact ⟨_, rfl, serve_fail 0x0100 eParam 1 h _ cmdRegRead s ht (cmdRegRead_later_unmapped h a n k s ha hk hn)⟩

end Sys2Proof.Machine
end

section
/-! SUPPORT. The registers and KEY.STATUS do not depend on the stored halves of the key slots (R6, R320). -/

namespace Sys2Proof.Machine

/-- Other stored halves in a list of key slots. -/
def recoded (f g : Nat → BitVec 256) (l : List KeySlot) : List KeySlot :=
  l.zipIdx.map (fun x => { x.1 with masked := f x.2, mask := g x.2 })

/-- The state with other stored halves in its key slots. -/
def State.recode (f g : Nat → BitVec 256) (s : State) : State := { s with keys := { s.keys with slots := recoded f g s.keys.slots } }

section
variable (f g : Nat → BitVec 256)

/-! ## The slots -/

/-- A slot of the changed store is the old slot but for its two halves. -/
theorem State.slot_recode (k : Nat) (s : State) :
    (s.recode f g).slot k = { s.slot k with masked := ((s.recode f g).slot k).masked, mask := ((s.recode f g).slot k).mask } := by
  simp only [State.slot, State.recode, recoded, nth, List.getD_eq_getElem?_getD, List.getElem?_map, List.getElem?_zipIdx]
  cases s.keys.slots[k]? <;> rfl

theorem State.keyValid_recode (k : Nat) (s : State) : (s.recode f g).keyValid k = s.keyValid k := by
  unfold State.keyValid; rw [State.slot_recode]

theorem State.holding_recode (k : Nat) (s : State) : (s.recode f g).holding k = s.holding k := by
  unfold State.holding; rw [State.slot_recode]; rfl

theorem State.keyStat_recode (k : Nat) (s : State) : (s.recode f g).keyStat k = s.keyStat k := by
  unfold State.keyStat; rw [State.holding_recode, State.slot_recode]

theorem valid_recoded (l : List KeySlot) :
    ((recoded f g l).filter (fun x => x.st == 1)).length = (l.filter (fun x => x.st == 1)).length := by
  unfold recoded
  rw [List.filter_map, List.length_map]
  conv_rhs => rw [← List.zipIdx_map_fst 0 l, List.filter_map, List.length_map]
  rfl

theorem State.keyStatAll_recode (s : State) : (s.recode f g).keyStatAll = s.keyStatAll := by
  have hv : ((s.recode f g).keys.slots.filter (fun x => x.st == 1)).length = _ := valid_recoded f g s.keys.slots
  unfold State.keyStatAll
  rw [hv, State.keyValid_recode]
  simp only [State.holding_recode]
  rfl

theorem State.keyReg_recode (a : Nat) (s : State) : (s.recode f g).keyReg a = s.keyReg a := by
  unfold State.keyReg
  simp only [State.keyStat_recode, State.keyStatAll_recode]
  rfl

/-! ## The other blocks' registers -/

theorem State.sysReg_recode (h : Half) (a : Nat) (s : State) : (s.recode f g).sysReg h a = s.sysReg h a := rfl
theorem State.tlkReg_recode (h : Half) (a : Nat) (s : State) : (s.recode f g).tlkReg h a = s.tlkReg h a := rfl
theorem State.timReg_recode (o : Nat) (s : State) : (s.recode f g).timReg o = s.timReg o := rfl
theorem State.aonReg_recode (o : Nat) (s : State) : (s.recode f g).aonReg o = s.aonReg o := rfl
theorem State.nrgReg_recode (o : Nat) (s : State) : (s.recode f g).nrgReg o = s.nrgReg o := rfl
theorem State.fltReg_recode (h : Half) (a : Nat) (s : State) : (s.recode f g).fltReg h a = s.fltReg h a := rfl
theorem State.recReg_recode (o : Nat) (s : State) : (s.recode f g).recReg o = s.recReg o := rfl
theorem State.islReg_recode (o : Nat) (s : State) : (s.recode f g).islReg o = s.islReg o := rfl
theorem State.almReg_recode (a : Nat) (s : State) : (s.recode f g).almReg a = s.almReg a := rfl
theorem State.egrReg_recode (o : Nat) (s : State) : (s.recode f g).egrReg o = s.egrReg o := rfl
theorem State.oryReg_recode (o : Nat) (s : State) : (s.recode f g).oryReg o = s.oryReg o := rfl
theorem State.updReg_recode (o : Nat) (s : State) : (s.recode f g).updReg o = s.updReg o := rfl

/-! ## What a register reads as -/

/-- Of the Coma half's blocks, KEY alone looks into the store. -/
theorem State.computedC_recode (a : Nat) (s : State) : (s.recode f g).computedC a = s.computedC a := by
  unfold State.computedC
  rw [State.sysReg_recode, State.tlkReg_recode, State.timReg_recode, State.aonReg_recode, State.keyReg_recode, State.nrgReg_recode,
    State.fltReg_recode, State.recReg_recode]
  rfl

theorem State.computedN_recode (a : Nat) (s : State) : (s.recode f g).computedN a = s.computedN a := by
  unfold State.computedN
  rw [State.sysReg_recode, State.tlkReg_recode, State.islReg_recode, State.almReg_recode, State.egrReg_recode, State.oryReg_recode,
    State.fltReg_recode, State.updReg_recode]
  rfl

theorem State.regValue_recode (h : Half) (a : Nat) (s : State) : (s.recode f g).regValue h a = s.regValue h a := by
  have hc : (s.recode f g).computed h a = s.computed h a := by
    cases h with
    | coma => exact State.computedC_recode f g a s
    | nucleus => exact State.computedN_recode f g a s
  unfold State.regValue
  rw [hc]
  rfl

theorem cmdKeyStatus_recode (h : Hdr) (ps : List Word) (s : State) :
    (cmdKeyStatus h ps (s.recode f g)).code = (cmdKeyStatus h ps s).code ∧
      (cmdKeyStatus h ps (s.recode f g)).results = (cmdKeyStatus h ps s).results := by
  unfold cmdKeyStatus arity
  simp only [State.keyStat_recode]
  repeat' split
  all_goals exact ⟨rfl, rfl⟩

end

/-- Settles O60: the registers and KEY.STATUS read the store through the slots' status alone. -/
theorem keysCannotBeReadBack : Obligations.KeysCannotBeReadBack := by
  unfold Obligations.KeysCannotBeReadBack
  exact fun s f g => ⟨fun hf a => State.regValue_recode f g hf a s, fun h ps => cmdKeyStatus_recode f g h ps s⟩

end Sys2Proof.Machine
end

section
/-! SUPPORT. REG.WRITE of a forcing word on a state whose attention fields are not up to date (R42, R343). -/

namespace Sys2Proof.Machine

/-! ## What a forced occurrence does to the attention fields -/

/-- ATTN is the only reaction of a forced-only occurrence where FLT_CTL asks for no others (R343). -/
theorem State.reacts_forced (h : Half) (n : Nat) (s : State) (hc : bit (s.rw h (aFltR h 0)) 0 = false) : s.reacts h n false = 1 := by
  simp [State.reacts, hc]

/-- ATTN brings no ERRP, no grave entry, no CRST and no TRAP. -/
theorem State.react_attn_only (h : Half) (n : Nat) (s : State) (hd : s.pwr.resetDue = false) : State.react h n false 1 s = s := by
  simp [State.react, bit, hd]

/-- Entry into handling by ATTN alone ends with one generation counted on the attention fields as they stood. -/
theorem State.enterBut_attn_only (h : Half) (n : Nat) (s : State) (hd : s.pwr.resetDue = false)
    (hc : bit (s.rw h (aFltR h 0)) 0 = false) :
    ∃ u : State, u.attn = s.attn ∧ s.enterBut 0 h n false true = u.reattn true := by
  unfold State.enterBut
  rw [State.reacts_forced h n s hc]
  dsimp only
  generalize hu : State.stageAdd _ 0 _ 1 _ = u
  have hud : u.pwr.resetDue = false := by rw [← hu, State.stageAdd_frame]; exact hd
  have hua : u.attn = s.attn := by rw [← hu, attn_stage]; rfl
  refine ⟨u, hua, ?_⟩
  have hr : State.react h n false (1 &&& ~~~0) u = u := State.react_attn_only h n u hud
  rw [hr]
  simp [State.reactAttn, bit]

/-- A forced occurrence of a source out of handling, with no chip reset due, is taken and counts one generation (R42, R343). -/
theorem State.forceFault_attn (h : Half) (n : Nat) (s : State) (hup : s.halfUp h = true) (hs : s.suppressed h n = false)
    (hh : (s.src h n).handling = false) (hc : bit (s.rw h (aFltR h 0)) 0 = false) (hd : s.pwr.resetDue = false) :
    ∃ u : State, u.attn = s.attn ∧ s.forceFault h n = u.reattn true := by
  obtain ⟨u, hua, hu⟩ := State.enterBut_attn_only h n s hd hc
  refine ⟨u, hua, ?_⟩
  have ho : s.occurBut 0 h n false true = (u.reattn true, true) := by simpa [State.occurBut, hup, hs, hh] using hu
  unfold State.forceFault State.occurrence State.occurrenceBut
  rw [ho, State.reacts_forced h n s hc]
  simp [bit]

/-- The fields are up to date after a count, so settling counts no more. -/
theorem State.settled_reattn_gen (s : State) : (s.reattn true).settled.attn.gen = s.attn.gen + 1 := by
  rw [State.settled_attn]
  simp [State.reattn, State.attnLevel, State.attnBits, State.persist]

/-! ## What a reply leaves alone -/

theorem OnlyReplied.pwr {p : Nat} {u t : State} (h : OnlyReplied p u t) : t.pwr = u.pwr := by rw [h.frame]
theorem OnlyReplied.flt {p : Nat} {u t : State} (h : OnlyReplied p u t) : t.flt = u.flt := by rw [h.frame]

/-- A reply that starts no GAP marker, on a state whose level is not up to date, counts one generation of its own. -/
theorem OnlyReplied.gen_of_stale {p : Nat} {u t : State} (h : OnlyReplied p u t) (hg : u.marksGap p (t.replyWords p) = false)
    (hl : u.attnLevel ≠ u.attn.level) : t.attn.gen = u.attn.gen + 1 := by
  rw [h.attn, hg]
  simp [State.reattn, hl]

theorem Replied.words {h : Hdr} {op detail : Nat} {code : Byte} {results : List Word} {t : State}
    (hr : Replied h op code detail results t) : t.replyWords h.port = 5 + results.length := by
  obtain ⟨r, hl, -, -, -, -, -, -, hres⟩ := hr
  simp [State.replyWords, hl, Reply.words, hres]

/-! ## The counterexample -/

/-- The device in service with a level shown that no condition and no event gives, so not a consistent state. -/
def staleLevel : State :=
  { State.reset with pwr := { Power.reset with mode := .service, phase := 5, fw := true }, attn := { Attn.reset with level := 1 } }

/-- The header of a packet of command port 0 for the Coma half. -/
def hostHdr : Hdr := { port := 0, half := .coma, tag := 0, seq := 0, resync := false }

/-- FLT_C_S0_CFG, and the word that forces its source. -/
abbrev cfgS0 : Word := 0x080080
abbrev forceWord : Word := 0x20

/-- What the write of the forcing word leaves before its reply. -/
def staleWritten : State := writeRun .coma cfgS0.toNat [forceWord] (staleLevel.countCfg .coma (blockOf cfgS0.toNat) 0)

theorem staleLevel_takes : staleLevel.takes 0x0101 hostHdr [cfgS0, forceWord] = true := by decide +kernel

theorem staleLevel_accepts_word : staleLevel.refusesAt .coma cfgS0.toNat forceWord = none := by decide +kernel

theorem forcesOf_forceWord (s : State) : forcesOf .coma cfgS0.toNat [forceWord] s = s.forceFault .coma 0 := by
  simp [forcesOf, inst, fltBase, fltCount, bit]

theorem staleWritten_forcible :
    staleWritten.comaUp = true ∧ staleWritten.flt.windows = [] ∧ (staleWritten.src .coma 0).handling = false ∧
      bit (staleWritten.rw .coma (aFltR .coma 0)) 0 = false ∧ staleWritten.pwr.resetDue = false := by decide +kernel

theorem staleWritten_attn :
    staleWritten.marksGap 0 5 = false ∧ staleWritten.attnLevel ≠ staleWritten.attn.level ∧ staleWritten.attn.gen = 0 := by decide +kernel

/-- The generation after the command: one count, of the forced occurrence, which brings the level up to date. -/
theorem staleLevel_write_gen : ((staleLevel.serve 0x0101 hostHdr [cfgS0, forceWord] cmdRegWrite).settled).attn.gen = 1 := by decide +kernel

/-- The generation after any state that is staleWritten but for a reply, followed by the forced occurrence: two counts. -/
theorem gen_forced_after_reply (r : State) (hrep : Replied hostHdr 0x0101 codeOk 0 [] r) (honly : OnlyReplied 0 staleWritten r) :
    (forcesOf .coma cfgS0.toNat [forceWord] r).settled.attn.gen = 2 := by
  obtain ⟨hup, hwin, hhand, hctl, hdue⟩ := staleWritten_forcible
  obtain ⟨hgap, hstale, hgen⟩ := staleWritten_attn
  have hr : r.attn.gen = 1 := by
    have hw : r.replyWords 0 = 5 := hrep.words
    rw [honly.gen_of_stale (by rw [hw]; exact hgap) hstale, hgen]
    rfl
  obtain ⟨u, hua, hu⟩ := State.forceFault_attn .coma 0 r
    (by rw [← hup]; simp only [State.halfUp, State.comaUp, honly.pwr])
    (by simp [State.suppressed, honly.flt, hwin])
    (by rw [← hhand]; simp only [State.src, honly.flt])
    (by rw [honly.rw]; exact hctl)
    (by rw [honly.pwr]; exact hdue)
  rw [forcesOf_forceWord, hu, State.settled_reattn_gen, hua, hr]
  rfl

/-- Refutes O6: its third clause puts the collector's next cycle after a reply whose attention fields have been brought up to date, while the
command answers from the fields as they stand. On staleLevel, whose level is not that of its conditions (the clause does not ask that the state be
consistent), the write that forces source 0 counts one generation where the clause has it count two. -/
theorem not_registerWritesComplete : ¬ Obligations.RegisterWritesComplete := by
  unfold Obligations.RegisterWritesComplete
  rintro ⟨-, -, hruns, -⟩
  have hjudged : ∀ k, k < 1 → (judgedAt .coma cfgS0.toNat [forceWord] k staleLevel).refusesAt .coma (cfgS0.toNat + 4 * k)
      (nth 0 [forceWord] k) = none := by
    intro k hk
    obtain rfl : k = 0 := by omega
    exact staleLevel_accepts_word
  obtain ⟨r, hrep, honly, hexec⟩ :=
    hruns hostHdr cfgS0 [forceWord] staleLevel staleLevel_takes (by simp) (by simp) (by decide) hjudged
  have hnext : (staleLevel.serve 0x0101 hostHdr [cfgS0, forceWord] cmdRegWrite).settled = (forcesOf .coma cfgS0.toNat [forceWord] r).settled :=
    Host.Outcome.next.inj hexec
  have hgen : (1 : Byte) = 2 := by
    rw [← staleLevel_write_gen, hnext]
    exact gen_forced_after_reply r hrep honly
  exact absurd hgen (by decide)

end Sys2Proof.Machine
end

section
/-! SUPPORT. Requests for a power state: what SYS_C_PWRCTL takes and what it refuses (R28, R29, R31). -/

namespace Sys2Proof.Machine

/-! ## A request taken or refused -/

/-- What runs is measuring, in each of the three kinds (R29). -/
theorem State.measuring_of_running (s : State)
    (h : (∃ g ∈ s.aln.grps, g.run ≠ .stopped) ∨ (∃ e ∈ s.lbe, e.running = true) ∨ (∃ x ∈ s.phx.ests, x.running = true)) :
    s.measuring = true := by
  simpa [State.measuring, or_assoc] using h

theorem State.pwrReq_standby_measuring (s : State) (h : s.measuring = true) : s.pwrReq 1 = .error eState := by
  simp [State.pwrReq, h]

theorem State.pwrReq_standby (s : State) (hm : s.measuring = false) (hmode : s.pwr.mode = .service) (ht : s.pwr.trans = .none) :
    s.pwrReq 1 = .ok (State.drivePins { s with pwr := { s.pwr with trans := .toStandby, backToService := false } }) := by
  simp [State.pwrReq, hm, hmode, ht]

theorem State.pwrReq_service (s : State) (hmode : s.pwr.mode = .standby) (ht : s.pwr.trans = .none) (hp : 4 ≤ s.pwr.phase) :
    s.pwrReq 2 = .ok { s with pwr := { s.pwr with trans := .toService } } := by
  simp [State.pwrReq, hmode, ht, hp]

theorem State.pwrReq_service_entering (s : State) (ht : s.pwr.trans = .toStandby) :
    s.pwrReq 2 = .ok { s with pwr := { s.pwr with backToService := true } } := by
  simp [State.pwrReq, ht]

/-! ## SYS_C_PWRCTL -/

/-- PWRCTL stores nothing and fills no window: a write leaves what the request leaves. -/
theorem State.writeReg_pwrctl (w : Word) (s t : State) (h : s.pwrReq (bits w 1 0) = .ok t) : s.writeReg .coma 0x14 w = t := by
  have hs : s.store .coma 0x14 w = s := by
    simp [State.store, show rwMask .coma 0x14 = 0 by decide, show w1cMask .coma 0x14 = 0 by decide]
  simp [State.writeReg, State.writeC, State.writeSys, hs, h, State.fillWindow, State.windowOf]

theorem State.refuses_pwrctl (w : Word) (c : Byte) (s : State) (h : s.pwrReq (bits w 1 0) = .error c) :
    s.refuses .coma 0x14 w = some c := by
  simp [State.refuses, State.refuseC, h]

/-- A request that is taken. -/
theorem pwrctl_writes (c : Instr) (h : Hdr) (w : Word) (s t : State)
    (hx : exec c s = .next (State.settled (s.writeRow .coma 0x14 w h))) (ht : s.takesWrite h .coma 0x14 w = true)
    (hreq : (s.noted h .coma 0x14).pwrReq (bits w 1 0) = .ok t) (hp : t.cmd.portIds = s.cmd.portIds) : Writes c h .coma s t :=
  row_writes c h .coma 0x14 w s t hx ht (by decide) (by decide) (by decide) (State.writeReg_pwrctl w _ t hreq) hp

/-- REG.WRITE of one word that its register refuses with E_STATE. -/
theorem cmdRegWrite_refused (h : Hdr) (a w : Word) (s : State) (hr : isReg h.half a.toNat = true)
    (hw : s.refuses h.half a.toNat w = some eState) : cmdRegWrite h [a, w] s = Res.fail s eState := by
  simp [cmdRegWrite, par, nth, hr, checkRun, State.refusesAt, hw]

theorem cmdRegWrite_standby_measuring (h : Hdr) (w : Word) (s : State) (hh : h.half = .coma) (hw : bits w 1 0 = 1)
    (hm : s.measuring = true) : cmdRegWrite h [0x14, w] s = Res.fail s eState :=
  cmdRegWrite_refused h 0x14 w s (by rw [hh]; decide)
    (by rw [hh]; exact State.refuses_pwrctl w eState s (by rw [hw]; exact State.pwrReq_standby_measuring s hm))

@[simp] theorem State.noted_pwr (h : Hdr) (hf : Half) (a : Nat) (s : State) : (s.noted h hf a).pwr = s.pwr := by rw [State.noted_frame]
@[simp] theorem State.noted_measuring (h : Hdr) (hf : Half) (a : Nat) (s : State) : (s.noted h hf a).measuring = s.measuring := by
  rw [State.noted_frame]; rfl

/-- Settles O27: each clause is one case of the request, on the state whose configuration write has been counted. -/
theorem powerRequestsComplete : Obligations.PowerRequestsComplete := by
  unfold Obligations.PowerRequestsComplete
  refine ⟨fun h s ht hmode htr hm => ?_, fun h s ht hmode htr hp => ?_, fun h s ht htr => ?_⟩
  · exact pwrctl_writes _ h 1 s _ rfl ht (State.pwrReq_standby _ (by simpa using hm) (by simpa using hmode) (by simpa using htr)) (by simp)
  · exact pwrctl_writes _ h 2 s _ rfl ht (State.pwrReq_service _ (by simpa using hmode) (by simpa using htr) (by simpa using hp)) (by simp)
  · exact pwrctl_writes _ h 2 s _ rfl ht (State.pwrReq_service_entering _ (by simpa using htr)) (by simp)

/-- Settles O54: whatever of the three kinds runs, PWRCTL refuses the request, from its own row and from REG.WRITE. -/
theorem standbyIsRefusedWhileMeasuring : Obligations.StandbyIsRefusedWhileMeasuring := by
  unfold Obligations.StandbyIsRefusedWhileMeasuring
  intro h s hrun
  have hm := State.measuring_of_running s hrun
  refine ⟨fun ht => ?_, fun w hh hw ht => ?_⟩
  · exact ⟨_, rfl, serve_fail 0x0101 eState 0 _ _ cmdRegWrite s ht (cmdRegWrite_standby_measuring _ 1 s rfl (by decide) hm)⟩
  · exact ⟨_, rfl, serve_fail 0x0101 eState 0 h _ cmdRegWrite s ht (cmdRegWrite_standby_measuring h w s hh hw hm)⟩

end Sys2Proof.Machine
end

section
/-! SUPPORT. What an event command leaves: its operation's state, settled, of which settling changes the attention fields and pins alone. -/

namespace Sys2Proof.Machine

/-! ## What settling leaves -/

@[simp] theorem State.settled_pwr (s : State) : s.settled.pwr = s.pwr := by rw [State.settled_frame]
@[simp] theorem State.settled_cmd (s : State) : s.settled.cmd = s.cmd := by rw [State.settled_frame]
@[simp] theorem State.settled_aon (s : State) : s.settled.aon = s.aon := by rw [State.settled_frame]
@[simp] theorem State.settled_keys (s : State) : s.settled.keys = s.keys := by rw [State.settled_frame]
@[simp] theorem State.settled_rcd (s : State) : s.settled.rcd = s.rcd := by rw [State.settled_frame]
@[simp] theorem State.settled_tim (s : State) : s.settled.tim = s.tim := by rw [State.settled_frame]
@[simp] theorem State.settled_evt (h : Half) (a : Nat) (s : State) : s.settled.evt h a = s.evt h a := by
  rw [State.settled_frame]; cases h <;> rfl

/-! ## Events whose operation's effect is known -/

/-- An event leaves the state that its operation is shown to leave. -/
theorem does_of_effect (c : Instr) (s v u : State) (hx : exec c s = .next v.settled) (hu : v = u) : Does c s u := hu ▸ hx

theorem whenUp_coma (f : State → State) (s : State) (h : s.comaUp = true) : whenUp .coma f s = f s := by simp [whenUp, State.halfUp, h]
theorem whenUp_nucleus (f : State → State) (s : State) (h : s.nucUp = true) : whenUp .nucleus f s = f s := by
  simp [whenUp, State.halfUp, h]

/-- The same for an operation of the Coma half while that half runs. -/
theorem does_of_coma (c : Instr) (f : State → State) (s u : State) (hx : exec c s = .next (State.settled (whenUp .coma f s)))
    (hup : s.comaUp = true) (hu : f s = u) : Does c s u :=
  does_of_effect c s _ u hx ((whenUp_coma f s hup).trans hu)

/-- Both where the conditions of the time base are judged before settling. -/
theorem doesJudged_of_effect (c : Instr) (s v u : State) (hx : exec c s = .next v.judge.settled) (hu : v = u) : DoesJudged c s u := hu ▸ hx
theorem doesJudged_of_coma (c : Instr) (f : State → State) (s u : State) (hx : exec c s = .next (State.settled (whenUp .coma f s).judge))
    (hup : s.comaUp = true) (hu : f s = u) : DoesJudged c s u :=
  doesJudged_of_effect c s _ u hx ((whenUp_coma f s hup).trans hu)

end Sys2Proof.Machine
end

section
/-! SUPPORT. Supply and reset events: what the always-on domain's clearing, the loss of main power and a chip reset leave
(R28, R300, R308-R311, R344, R345, R348, R389, R423). -/

namespace Sys2Proof.Machine

/-! ## Latched events -/

/-- An event latched at a bit of a word of the Coma half reads as set there. -/
theorem State.getLsbD_evt_latchC (a i : Nat) (s : State) (hi : i < 32) : ((s.latchC a i).evt .coma a).getLsbD i = true := by
  have he : (s.latchC a i).evt .coma a = s.evt .coma a ||| w32 (2 ^ i) := WMap.get_put_self _ _ _
  simp only [he, BitVec.getLsbD_or, w32, BitVec.getLsbD_ofNat, Nat.testBit_two_pow_self, hi, decide_true, Bool.and_self, Bool.or_true]

/-! ## Frames dropped because their slot is blocked (R326) -/

/-- Power, the always-on domain and the key store are those of the state before: so after every drop of a frame that waits on a slot. -/
structure KeepsDomain (s t : State) : Prop where
  pwr : t.pwr = s.pwr
  aon : t.aon = s.aon
  keys : t.keys = s.keys

theorem KeepsDomain.refl (s : State) : KeepsDomain s s := ⟨rfl, rfl, rfl⟩
theorem KeepsDomain.trans {s t u : State} (h1 : KeepsDomain s t) (h2 : KeepsDomain t u) : KeepsDomain s u :=
  ⟨h2.pwr.trans h1.pwr, h2.aon.trans h1.aon, h2.keys.trans h1.keys⟩

theorem State.bump_keepsDomain (h : Half) (a n : Nat) (s : State) : KeepsDomain s (s.bump h a n) := ⟨rfl, rfl, rfl⟩
theorem State.latch_keepsDomain (h : Half) (a : Nat) (w : Word) (s : State) : KeepsDomain s (s.latch h a w) := ⟨rfl, rfl, rfl⟩
theorem State.mapStream_keepsDomain (i : Nat) (f : Stream → Stream) (s : State) : KeepsDomain s (s.mapStream i f) := ⟨rfl, rfl, rfl⟩
theorem State.holdDrop_keepsDomain (s : State) : KeepsDomain s s.holdDrop := (State.bump_keepsDomain _ _ _ s).trans (State.latch_keepsDomain _ _ _ _)

theorem State.dropHeadsN_keepsDomain (i n : Nat) : ∀ s : State, KeepsDomain s (s.dropHeadsN i n) := by
  induction n with
  | zero => exact KeepsDomain.refl
  | succ n ih =>
    intro s
    unfold State.dropHeadsN
    dsimp only
    split
    · split
      · have hpop : KeepsDomain s (s.mapStream i (fun t => { t with q := t.q.pop })).holdDrop :=
          (State.mapStream_keepsDomain i _ s).trans (State.holdDrop_keepsDomain _)
        refine (hpop.trans ?_).trans (ih _)
        split
        · exact (State.bump_keepsDomain _ _ _ _).trans (State.latch_keepsDomain _ _ _ _)
        · split <;> exact State.bump_keepsDomain _ _ _ _
      · exact KeepsDomain.refl s
    · exact KeepsDomain.refl s

theorem State.dropHeads_keepsDomain (l : List Nat) : ∀ s : State, KeepsDomain s (l.foldl (fun s i => s.dropHeads i) s) := by
  induction l with
  | nil => exact KeepsDomain.refl
  | cons i r ih => exact fun s => (State.dropHeadsN_keepsDomain i _ s).trans (ih _)

theorem State.dropOryN_keepsDomain (n : Nat) : ∀ s : State, KeepsDomain s (s.dropOryN n) := by
  induction n with
  | zero => exact KeepsDomain.refl
  | succ n ih =>
    intro s
    unfold State.dropOryN
    split
    · split
      · have hpop : KeepsDomain s { s with ory := { s.ory with tx := s.ory.tx.pop } } := ⟨rfl, rfl, rfl⟩
        exact ((hpop.trans (State.holdDrop_keepsDomain _)).trans (State.bump_keepsDomain _ _ _ _)).trans (ih _)
      · exact KeepsDomain.refl s
    · exact KeepsDomain.refl s

theorem State.dropAllHeads_keepsDomain (s : State) : KeepsDomain s s.dropAllHeads :=
  (State.dropHeads_keepsDomain _ s).trans (State.dropOryN_keepsDomain _ _)

/-! ## The always-on domain cleared (R300, R311) -/

/-- Emptying the slots leaves what dropping frames leaves, on the emptied store. -/
theorem State.emptyKeys_keepsDomain (s : State) :
    KeepsDomain { s with keys := { Keys.reset with rsp := s.keys.rsp, vendor := s.keys.vendor } } s.emptyKeys := by
  unfold State.emptyKeys
  exact State.dropAllHeads_keepsDomain _

theorem State.aonClear_pwr (s : State) : s.aonClear.pwr = s.pwr := by
  unfold State.aonClear
  exact (State.emptyKeys_keepsDomain _).pwr
theorem State.aonClear_aon (s : State) : s.aonClear.aon = { Aon.reset with
    pwrCyc := s.aon.pwrCyc, opMin := s.aon.opMin, retCnt := s.aon.retCnt, calPend := true, retLatch := s.aon.retLatch
    retPend := s.aon.retPend, tampPend := s.aon.tampPend } := by
  unfold State.aonClear
  exact (State.emptyKeys_keepsDomain _).aon
theorem State.aonClear_slots (s : State) : s.aonClear.keys.slots = Keys.reset.slots := by
  unfold State.aonClear
  rw [(State.emptyKeys_keepsDomain _).keys]

theorem State.slot_of_emptied (k : Nat) (s : State) (h : s.keys.slots = Keys.reset.slots) : (s.slot k).st = 0 := by
  have : s.slot k = KeySlot.empty := by
    simp only [State.slot, h, Keys.reset, nth, List.getD_eq_getElem?_getD, List.getElem?_replicate]
    split <;> rfl
  rw [this]; rfl

theorem State.retentionClear_pwr (s : State) : s.retentionClear.pwr = s.pwr := by
  simp only [State.retentionClear, State.latch, State.mapRegs, State.aonClear_pwr]
theorem State.retentionClear_aon (s : State) : s.retentionClear.aon =
    { s.aonClear.aon with retCnt := sat 32 (s.aonClear.aon.retCnt + 1), retLatch := false, retPend := true } := by
  simp only [State.retentionClear, State.latch, State.mapRegs]
theorem State.retentionClear_slots (s : State) : s.retentionClear.keys.slots = Keys.reset.slots := by
  simp only [State.retentionClear, State.latch, State.mapRegs, State.aonClear_slots]

/-- The date and time of a cleared calendar, 2000-01-01 00:00:00 (R308). -/
theorem Aon.dateWord_of_reset (a : Aon) (hy : a.year = 2000) (hm : a.month = 1) (hd : a.day = 1) : a.dateWord = 0x07D00101 := by
  rw [Aon.dateWord, hy, hm, hd]; decide
theorem Aon.timeWord_of_reset (a : Aon) (hh : a.hour = 0) (hm : a.minute = 0) (hs : a.second = 0) : a.timeWord = 0 := by
  rw [Aon.timeWord, hh, hm, hs]; decide

/-! ## Main power lost (R310, R345) -/

@[simp] theorem State.ranBackup_pwr (b : Bool) (s : State) : (s.ranBackup b).pwr = s.pwr := by cases b <;> rfl
@[simp] theorem State.ranBackup_aon (b : Bool) (s : State) : (s.ranBackup b).aon = s.aon := by cases b <;> rfl
@[simp] theorem State.ranBackup_keys (b : Bool) (s : State) : (s.ranBackup b).keys = s.keys := by cases b <;> rfl
@[simp] theorem State.ranBackup_rcd (b : Bool) (s : State) : (s.ranBackup b).rcd = s.rcd := by cases b <;> rfl

/-- With main power present, VDDIO below 1.66 V resets the chip and locks the domain. -/
theorem doBelow166_main (s : State) (hm : s.pwr.main = true) : doBelow166 s =
    { s.assertReset with pwr := { s.assertReset.pwr with lockout := true, vddioLow := true, timer := false } } := by
  simp [doBelow166, hm]

theorem State.mainLost_main (s : State) (hm : s.pwr.main = true) : s.mainLost = State.ranBackup s.pwr.vbat { doBelow166 s with
    pwr := { (doBelow166 s).pwr with main := false, onVbat := true, mode := (if s.pwr.vbat then .backup else .off), tap := .idcode }
    flt := { (doBelow166 s).flt with pulse := false }
    aon := { (doBelow166 s).aon with retLatch := (doBelow166 s).aon.retLatch || !s.pwr.vbat } } := by
  simp [State.mainLost, hm]

theorem State.mainLost_gone (s : State) (hm : s.pwr.main = false) : s.mainLost = s := by simp [State.mainLost, hm]

theorem State.mainLost_pwr_main (s : State) : s.mainLost.pwr.main = false := by
  cases hm : s.pwr.main with
  | false => rw [State.mainLost_gone s hm, hm]
  | true => simp [State.mainLost_main s hm]

theorem State.mainLost_keys (s : State) : s.mainLost.keys = s.keys := by
  cases hm : s.pwr.main with
  | false => rw [State.mainLost_gone s hm]
  | true => simp [State.mainLost_main s hm, doBelow166_main s hm]; rfl

/-! ## Chip reset released (R389) -/

/-- With nothing waiting in the always-on domain, its report leaves the state. -/
theorem State.flushAon_none (s : State) (hc : s.aon.calPend = false) (ht : s.aon.tampPend = false) (hr : s.aon.retPend = false)
    (hb : s.aon.batPend = false) : s.flushAon = s := by
  have ha : ({ s.aon with calPend := false, tampPend := false, retPend := false, batPend := false } : Aon) = s.aon := by
    cases ha : s.aon
    simp_all
  simp [State.flushAon, hc, ht, hr, hb, ha]

/-! ## The events -/

theorem vddioBelow1v60_leaves (s : State) (hm : s.pwr.main = true) :
    ∃ t, exec .vddioBelow1v60 s = .next t ∧ t.pwr.main = false ∧ t.pwr.onVbat = true ∧ t.pwr.mode = (if s.pwr.vbat then .backup else .off) ∧
      t.pwr.inReset = true ∧ t.pwr.lockout = true ∧ t.pwr.tap = .idcode ∧ t.keys = s.keys ∧ t.rcd.log = s.rcd.log ∧
      t.aon.retLatch = (s.aon.retLatch || !s.pwr.vbat) := by
  refine ⟨_, rfl, ?_⟩
  rw [State.settled_pwr, State.settled_keys, State.settled_rcd, State.settled_aon, State.mainLost_main s hm, State.ranBackup_pwr,
    State.ranBackup_keys, State.ranBackup_rcd, State.ranBackup_aon, doBelow166_main s hm]
  exact ⟨rfl, rfl, rfl, rfl, rfl, rfl, rfl, rfl, rfl⟩

/-- The return of VDDIO after a retention loss: the domain cleared but for its counts, every slot EMPTY (R311). -/
theorem vddioReturnTimer_lost (s : State) (ht : s.pwr.timer = true) (hl : s.aon.retLatch = true) :
    ∃ t, exec .vddioReturnTimer s = .next t ∧ t.pwr.main = true ∧ t.aon.retLatch = false ∧ t.aon.opMin = s.aon.opMin ∧
      ∀ k, (t.slot k).st = 0 := by
  refine ⟨_, rfl, ?_⟩
  have hslots : (doReturnTimer s).settled.keys.slots = Keys.reset.slots := by
    simp [doReturnTimer, ht, hl, State.retentionClear_slots]
  refine ⟨?_, ?_, ?_, fun k => State.slot_of_emptied k _ hslots⟩
  all_goals simp [doReturnTimer, ht, hl, State.retentionClear_pwr, State.retentionClear_aon, State.aonClear_aon]

theorem vbatRise_off (s : State) (hoff : s.pwr.mode = .off) :
    ∃ t, exec .vbatRise s = .next t ∧ t.pwr.vbat = true ∧ t.pwr.mode = .backup ∧ t.aon.calValid = false ∧ t.aon.calPend = true ∧
      t.aon.dateWord = 0x07D00101 ∧ t.aon.timeWord = 0 ∧ (t.evt .coma 0x050008).getLsbD 8 = true ∧ ∀ k, (t.slot k).st = 0 := by
  refine ⟨_, rfl, ?_⟩
  have hd : doVbatRise s = State.ranBackup true (State.aonClear { s with pwr := { s.pwr with vbat := true, mode := .backup } }) := by
    simp [doVbatRise, hoff]
  rw [State.settled_pwr, State.settled_aon, State.settled_evt, hd, State.ranBackup_pwr, State.ranBackup_aon, State.aonClear_pwr,
    State.aonClear_aon]
  refine ⟨rfl, rfl, rfl, rfl, Aon.dateWord_of_reset _ rfl rfl rfl, Aon.timeWord_of_reset _ rfl rfl rfl,
    State.getLsbD_evt_latchC 0x050008 8 _ (by decide), fun k => State.slot_of_emptied k _ ?_⟩
  rw [State.settled_keys, State.ranBackup_keys, State.aonClear_slots]

/-- Settles O45: each event's clause is its operation on the states that the clause names. -/
theorem supplyEventsComplete : Obligations.SupplyEventsComplete := by
  unfold Obligations.SupplyEventsComplete
  refine ⟨?below166, vddioBelow1v60_leaves, ?above170, ?returnKept, vddioReturnTimer_lost, ?below100, vbatRise_off, ?vbatOn, ?vbatLow,
    ?railLow, fun r s => rfl, ?rstLong, ?rstShort, fun s => rfl, ?assert, ?release⟩
  case below166 => exact fun s hm => does_of_effect _ s _ _ rfl (doBelow166_main s hm)
  case above170 => exact fun s h => does_of_effect _ s _ _ rfl (by simp [doAbove170, h])
  case returnKept => exact fun s ht hl => does_of_effect _ s _ _ rfl (by simp [doReturnTimer, ht, hl])
  case below100 =>
    intro s
    refine ⟨_, rfl, ?_, ?_, ?_, ?_⟩
    all_goals simp [doBelow100, State.mainLost_pwr_main, State.mainLost_keys]
  case vbatOn => exact fun s h => does_of_effect _ s _ _ rfl (by simp [doVbatRise, h])
  case vbatLow => exact fun s h => does_of_effect _ s _ _ rfl (by simp [doVbatLow, h])
  case railLow =>
    intro r s hm
    refine ⟨_, rfl, ?_⟩
    simp [doRailLow, hm, State.assertReset]
  case rstLong => exact fun ns s hn hm => does_of_effect _ s _ _ rfl (by simp [doRstLow, Nat.not_lt.mpr hn, hm])
  case rstShort => exact fun ns s hn => does_of_effect _ s _ _ rfl (by simp [doRstLow, hn])
  case assert => exact fun s hd hg => does_of_effect _ s _ _ rfl (by simp [doChipReset, hd, hg])
  case release =>
    intro st s hmay hst hc ht hr hb
    refine does_of_effect _ s _ _ rfl (Eq.trans ?_ (State.flushAon_none _ hc ht hr hb))
    simp [doChipRelease, hmay, hst]

end Sys2Proof.Machine
end

section
/-! SUPPORT. Events of the time base: what the operations behind them leave alone, and each event's effect (R18, R54, R58, R61, R67-R69,
R75, R76, R78). -/

namespace Sys2Proof.Machine

/-! ## What recording and completing leave alone -/

@[simp] theorem State.summDropped_pwr (s : State) : s.summDropped.pwr = s.pwr := by
  unfold State.summDropped; dsimp only; rw [State.stageAdd_frame]; rfl
@[simp] theorem State.summDropped_tim (s : State) : s.summDropped.tim = s.tim := by
  unfold State.summDropped; dsimp only; rw [State.stageAdd_frame]; rfl

theorem State.closeSumm_pwr_tim (x : Summ) (s : State) : (s.closeSumm x).pwr = s.pwr ∧ (s.closeSumm x).tim = s.tim := by
  unfold State.closeSumm
  extract_lets queued r0 repeats
  have hr : ∀ t, repeats = some t → t.pwr = s.pwr ∧ t.tim = s.tim := by
    intro t ht
    simp only [repeats] at ht
    split at ht
    · cases ht
    · generalize queued = q at ht
      cases q with
      | some y => dsimp only at ht; split at ht <;> cases ht; exact ⟨rfl, rfl⟩
      | none => dsimp only at ht; (repeat' split at ht) <;> cases ht; exact ⟨rfl, rfl⟩
  cases h : repeats with
  | some t => exact hr t h
  | none =>
    change (if s.rcd.q.fits 1 then s else s.summDropped).pwr = s.pwr ∧ (if s.rcd.q.fits 1 then s else s.summDropped).tim = s.tim
    split <;> simp

@[simp] theorem State.recBegin_pwr (s : State) : s.recBegin.pwr = s.pwr := (State.closeSumm_pwr_tim _ _).1
@[simp] theorem State.recBegin_tim (s : State) : s.recBegin.tim = s.tim := (State.closeSumm_pwr_tim _ _).2

@[simp] theorem State.recordOps_tim (l : List (PendOp × Byte)) (s : State) : (s.recordOps l).tim = s.tim := by
  unfold State.recordOps; split <;> rfl
@[simp] theorem State.completeOp_tim (h : Half) (o r : Nat) (c : Byte) (s : State) : (s.completeOp h o r c).tim = s.tim :=
  State.recordOps_tim _ _

@[simp] theorem State.stageExt_tim (m j i : Nat) (v : Int) (s : State) : (s.stageExt m j i v).tim = s.tim := by
  unfold State.stageExt; split <;> rfl

theorem State.latch_tim_eq (h : Half) (a : Nat) (w : Word) (s : State) : (s.latch h a w).tim = s.tim := rfl

/-! ## Acquisition (R58) -/

theorem State.toP5_pwr (s : State) (h : s.pwr.phase = 4) : s.toP5.pwr = { s.pwr with phase := 5 } := by simp [State.toP5, h]
theorem State.toP5_tim (s : State) : s.toP5.tim = s.tim := by unfold State.toP5; split <;> simp

/-! ## PPS input (R68) -/

theorem doPpsEdge_off (t : Nat) (s : State) (h : bit (s.rwC 0x040024) 0 = false) : doPpsEdge t s = s.reach t := by
  have h' : bit ((s.reach t).rwC 0x040024) 0 = false := h
  simp [doPpsEdge, h']

theorem doPpsEdge_unset (t : Nat) (s : State) (h : bit (s.rwC 0x040024) 0 = true) (hs : s.tim.state = .unset ∨ s.tim.state = .coarse) :
    doPpsEdge t s = (s.reach t).bumpC 0x040064 1 := by
  have h' : bit ((s.reach t).rwC 0x040024) 0 = true := h
  have hs' : ((s.reach t).tim.state != .unset && (s.reach t).tim.state != .coarse) = false := by
    rw [State.reach_tim]; rcases hs with hs | hs <;> simp [hs]
  simp [doPpsEdge, h', hs']

/-- The second that an edge on a boundary marks is that boundary's, with no offset. -/
theorem second_of_boundary (t : Nat) (h : t % 1000000000 = 0) :
    (((t : Int) + 500000000).fdiv 1000000000).toNat = t / 1000000000 := by
  rw [Int.fdiv_eq_ediv_of_nonneg _ (by decide)]; omega

/-- A third edge in a row, on a boundary and with no cable delay, makes the input valid (R68). -/
theorem doPpsEdge_third (t : Nat) (s : State) (hd : bits (s.rwC 0x040024) 31 8 = 0) (hon : bit (s.rwC 0x040024) 0 = true)
    (hl : s.tim.state = .locked) (ht : t % 1000000000 = 0) (hn : s.tim.ppsSec + 1 = t / 1000000000) (hr : 2 ≤ s.tim.ppsRun)
    (hv : s.tim.ppsValid = false) :
    (doPpsEdge t s).tim.ppsValid = true ∧ (doPpsEdge t s).tim.ppsOfs = 0 ∧ (doPpsEdge t s).tim.ppsSec = t / 1000000000 ∧
      (doPpsEdge t s).tim.ppsRun = s.tim.ppsRun + 1 := by
  have hon' : bit ((s.reach t).rwC 0x040024) 0 = true := hon
  have hd' : bits ((s.reach t).rwC 0x040024) 31 8 = 0 := hd
  have hx : (t : Int) - (t : Int) / 1000000000 * 1000000000 = 0 := by omega
  have hrun : 0 < s.tim.ppsRun := by omega
  have h3 : 3 ≤ s.tim.ppsRun + 1 := by omega
  have hsec := second_of_boundary t ht
  unfold doPpsEdge
  simp [hon', hd', State.reach_tim, hl, hv, sext, hsec, hx, hn, hrun, h3, State.latch_tim_eq]

/-! ## PPS lost (R68, R78) -/

/-- A validation that has lost its edges ends with E_STATE. -/
theorem doAsymValidation_lost (v : Valid) (rest : List Valid) (s : State) (hv : s.tim.valid = v :: rest) (hl : v.lost = true) :
    doAsymValidation s = State.completeOp .coma 0x0903 v.dom.idx eState { s with tim := { s.tim with valid := rest } } := by
  simp [doAsymValidation, hv, hl]

/-! ## A second boundary (R69) -/

theorem State.pollSecond_afe (s : State) : s.pollSecond.afe = s.afe := by
  unfold State.pollSecond
  generalize List.range 4 = l
  induction l generalizing s with
  | nil => rfl
  | cons n r ih =>
    rw [List.foldl_cons, ih]
    dsimp only
    split <;> rfl

theorem State.autoSync_none (s : State) (h : s.afe.autoWait = false) : s.autoSync = s := by simp [State.autoSync, h]

/-! ## The follower (R18) -/

theorem State.followRest_natAbs (s : State) : s.followRest.natAbs ≤ 1024 := by
  unfold State.followRest; omega

/-! ## Leap seconds (R75, R76) -/

theorem doLeapSecond_insert (s : State) (h61 : s.tim.leap61 = true) (h59 : s.tim.leap59 = false) :
    (doLeapSecond s).tim.utc = s.tim.utc + 1 ∧ (doLeapSecond s).aon.utcofs = s.tim.utc + 1 ∧ (doLeapSecond s).tim.leap61 = false ∧
      (doLeapSecond s).tim.leapUntil = s.tim.leapInst + 86400 ∧ (doLeapSecond s).tim.leapDir = false := by
  simp [doLeapSecond, h61, h59, State.setUtc, State.reach_tim]

theorem doLeapSecond_delete (s : State) (h61 : s.tim.leap61 = false) (h59 : s.tim.leap59 = true) :
    (doLeapSecond s).tim.utc = s.tim.utc - 1 ∧ (doLeapSecond s).tim.leap59 = false ∧ (doLeapSecond s).tim.leapDir = true := by
  simp [doLeapSecond, h61, h59, State.setUtc, State.reach_tim, Int.sub_eq_add_neg]

/-! ## The events -/

theorem acqwaitExpiry_leaves (s : State) (hup : s.comaUp = true) (hp : s.pwr.phase = 4) :
    ∃ t, exec .acqwaitExpiry s = .next t ∧ t.pwr = { s.pwr with phase := 5 } ∧ t.tim = s.tim := by
  refine ⟨_, rfl, ?_⟩
  rw [whenUp_coma _ s hup, State.settled_pwr, State.settled_tim]
  exact ⟨State.toP5_pwr s hp, State.toP5_tim s⟩

theorem ppsInLost_leaves (s : State) (hup : s.comaUp = true) (hv : s.tim.ppsValid = true) :
    let lose := fun (x : Domain) => { x with ppsLost := x.ppsLost || x.check }
    let lost : State := { s with tim := { s.tim with
      ppsValid := false, ppsRun := 0, domA := lose s.tim.domA, domB := lose s.tim.domB
      valid := s.tim.valid.map (fun v => { v with lost := true }) } }
    let u := (lost.timEvt 9).evTime 2
    let end_ := fun (x : State) (v : Valid) (rest : List Valid) =>
      State.completeOp .coma 0x0903 v.dom.idx eState { x with tim := { x.tim with valid := rest } }
    (s.tim.valid = [] → Does .ppsInLost s u) ∧
    (∀ v, s.tim.valid = [v] → Does .ppsInLost s (end_ u v [])) ∧
    (∀ v w, s.tim.valid = [v, w] → Does .ppsInLost s (end_ (end_ u v [{ w with lost := true }]) w [])) := by
  intro lose lost u end_
  have hdo : doPpsLost s = s.tim.valid.foldl (fun (s : State) _ => doAsymValidation s) u := by simp only [doPpsLost, hv]; rfl
  have hu : u.tim.valid = s.tim.valid.map (fun v => { v with lost := true }) := rfl
  refine ⟨fun h0 => ?_, fun v h1 => ?_, fun v w h2 => ?_⟩
  · exact does_of_coma _ _ s _ rfl hup (by rw [hdo, h0]; rfl)
  · have hend : doAsymValidation u = end_ u v [] := doAsymValidation_lost { v with lost := true } [] u (by rw [hu, h1]; rfl) rfl
    exact does_of_coma _ _ s _ rfl hup (by rw [hdo, h1]; exact hend)
  · have hfst : doAsymValidation u = end_ u v [{ w with lost := true }] :=
      doAsymValidation_lost { v with lost := true } _ u (by rw [hu, h2]; rfl) rfl
    have hsnd : doAsymValidation (end_ u v [{ w with lost := true }]) = end_ (end_ u v [{ w with lost := true }]) w [] :=
      doAsymValidation_lost { w with lost := true } [] _ (by simp only [end_, State.completeOp_tim]) rfl
    refine does_of_coma _ _ s _ rfl hup ?_
    rw [hdo, h2, List.foldl_cons, List.foldl_cons, List.foldl_nil, hfst, hsnd]

theorem trefPresenceChange_leaves (e : Int) (s : State) (hup : s.comaUp = true) :
    let on : State := { s with tim := { s.tim with tref := true, trefErr := e } }
    let off : State := { s with tim := { s.tim with tref := false, trefErr := e } }
    (bit (s.rwC 0x040000) 1 = false → Does (.trefPresenceChange true e) s on ∧ Does (.trefPresenceChange false e) s off) ∧
    (bit (s.rwC 0x040000) 1 = true → s.tim.tref = false →
      Does (.trefPresenceChange true e) s (((on.bumpC 0x04007C 1).evTime 1).over .coma 58)) ∧
    (bit (s.rwC 0x040000) 1 = true → s.tim.tref = true →
      Does (.trefPresenceChange false e) s (((off.bumpC 0x04007C 1).evTime 1).lasting .coma 58)) := by
  intro on off
  refine ⟨fun hb => ⟨?_, ?_⟩, fun hb ht => ?_, fun hb ht => ?_⟩
  · exact does_of_coma _ (doTref true e) s _ rfl hup (by simp [doTref, hb, on])
  · exact does_of_coma _ (doTref false e) s _ rfl hup (by simp [doTref, hb, off])
  · exact does_of_coma _ (doTref true e) s _ rfl hup (by simp [doTref, hb, ht, on])
  · exact does_of_coma _ (doTref false e) s _ rfl hup (by simp [doTref, hb, ht, off])

theorem followerCorrection_leaves (p : TimePkt) (s : State) (hup : s.nucUp = true) (hl : s.tlkN.up = true) :
    let found := (p.reading : Int) - (p.launch + (s.tlkLat .nucleus).toNat)
    let x := s.tlkGood .nucleus .time (beBytes 16 p.launch)
    let u : State := { x with tim := { x.tim with fofs := found, follow := x.followRest }, free := x.free + 1 }
    x.followRest.natAbs ≤ 1024 ∧ (found.natAbs ≤ 1024 → Does (.followerCorrection p) s u) ∧
    (1024 < found.natAbs → Does (.followerCorrection p) s (u.faultN 4)) := by
  intro found x u
  have hdo : doFollower p s = if 1024 < found.natAbs then u.faultN 4 else u := by simp only [doFollower, hl]; rfl
  have hx : exec (.followerCorrection p) s = .next (State.settled (doFollower p s)) := by
    rw [← whenUp_nucleus (doFollower p) s hup]; rfl
  refine ⟨State.followRest_natAbs x, fun hf => ?_, fun hf => ?_⟩
  · rw [Does, hx, hdo, if_neg (Nat.not_lt.mpr hf)]
  · rw [Does, hx, hdo, if_pos hf]

/-- Settles O34: each event runs its operation, the Coma half (the Nucleus half for the follower) being up. -/
theorem timeBaseEventsComplete : Obligations.TimeBaseEventsComplete := by
  unfold Obligations.TimeBaseEventsComplete
  refine ⟨acqwaitExpiry_leaves, ?restep, ?ppsOff, ?ppsUnset, ?ppsThird, ppsInLost_leaves, ?second, ?pulseEnd, trefPresenceChange_leaves,
    followerCorrection_leaves, ?leapInsert, ?leapDelete⟩
  case restep => intro s hup hr; exact does_of_coma _ _ s _ rfl hup (by simp [doRestepTimeout, hr])
  case ppsOff => intro t s hup hb; exact does_of_coma _ _ s _ rfl hup (doPpsEdge_off t s hb)
  case ppsUnset => intro t s hup hb hs; exact does_of_coma _ _ s _ rfl hup (doPpsEdge_unset t s hb hs)
  case ppsThird =>
    intro t s hup hd hb hl ht hn hr hv
    refine ⟨_, rfl, ?_⟩
    rw [State.settled_tim, whenUp_coma _ s hup]
    exact doPpsEdge_third t s hd hb hl ht hn hr hv
  case second =>
    intro s hup ha x
    refine does_of_coma .timeBaseSecond doSecond s (State.judge _) rfl hup ?_
    exact congrArg State.judge (State.autoSync_none _ (by rw [State.pollSecond_afe]; exact ha))
  case pulseEnd => intro s hup; exact does_of_coma _ _ s _ rfl hup (by simp [doPpsOutEnd, State.ppsLevel]; rfl)
  case leapInsert =>
    intro s hup h61 h59
    refine ⟨_, rfl, ?_⟩
    rw [State.settled_tim, State.settled_aon, whenUp_coma _ s hup]
    exact doLeapSecond_insert s h61 h59
  case leapDelete =>
    intro s hup h61 h59
    refine ⟨_, rfl, ?_⟩
    rw [State.settled_tim, whenUp_coma _ s hup]
    exact doLeapSecond_delete s h61 h59

end Sys2Proof.Machine
end

section
/-! SUPPORT. The Tail link: packets and their check, the frames that cross in them, replay, sparing and retraining (R17, R19, R396, R410,
R411). -/

namespace Sys2Proof.Machine

/-! ## Numbers as bytes, most significant first -/

theorem beNat_append_byte (l : List Byte) (b : Byte) : beNat (l ++ [b]) = beNat l * 256 + b.toNat := by simp [beNat]

theorem beBytes_length (n v : Nat) : (beBytes n v).length = n := by
  induction n with
  | zero => rfl
  | succ n ih => simp [beBytes, ih]

/-- The last byte of a number is its lowest. -/
theorem beBytes_succ (n v : Nat) : beBytes (n + 1) v = beBytes n (v / 256) ++ [BitVec.ofNat 8 v] := by
  induction n generalizing v with
  | zero => simp [beBytes]
  | succ n ih =>
    have hshift : v >>> (8 * (n + 1)) = (v / 256) >>> (8 * n) := by
      rw [Nat.shiftRight_eq_div_pow, Nat.shiftRight_eq_div_pow, Nat.div_div_eq_div_mul, show 8 * (n + 1) = 8 + 8 * n by omega, Nat.pow_add]
    rw [beBytes, ih v, hshift]
    rfl

theorem beNat_beBytes (n : Nat) : ∀ v, v < 256 ^ n → beNat (beBytes n v) = v := by
  induction n with
  | zero => intro v h; have : v = 0 := by simpa using h
            subst this; rfl
  | succ n ih =>
    intro v h
    have hv : v / 256 < 256 ^ n := by rw [Nat.div_lt_iff_lt_mul (by decide)]; simpa [Nat.pow_succ] using h
    rw [beBytes_succ, beNat_append_byte, ih _ hv, BitVec.toNat_ofNat]
    omega

/-! ## Packets (R17) -/

theorem tlkPacket_length (p : List Byte) : (tlkPacket p).length = p.length + 4 := by simp [tlkPacket, beBytes_length]

@[simp] theorem tlkPayload_tlkPacket (p : List Byte) : tlkPayload (tlkPacket p) = p := by
  simp [tlkPayload, tlkPacket, beBytes_length]

/-- The CRC of a packet made of a payload is the payload's. -/
theorem tlkCrcOk_tlkPacket (p : List Byte) : tlkCrcOk (tlkPacket p) = true := by
  have hf : fieldAt ((tlkPacket p).length - 4) 4 (tlkPacket p) = (crc32c p).toNat := by
    rw [tlkPacket_length, fieldAt, slice, tlkPacket]
    have ht : (beBytes 4 (crc32c p).toNat).take 4 = beBytes 4 (crc32c p).toNat := List.take_of_length_le (by rw [beBytes_length])
    simp only [Nat.add_sub_cancel, List.drop_left, ht]
    exact beNat_beBytes 4 _ (crc32c p).isLt
  simp [tlkCrcOk, hf]

/-! ## A frame in its packets (R17) -/

/-- The segments of a frame: full ones, which do not end it, then one that does. -/
theorem segments_of_frame (k : Nat) : ∀ f : List Byte, f.length ≤ k → (f = [] → k = 0) →
    ∃ (full : List (List Byte)) (last : List Byte), chunks 256 k f ++ (if f.length % 256 = 0 then [[]] else []) = full ++ [last] ∧
      (∀ p ∈ full, p.length = 256) ∧ last.length < 256 ∧ full.flatten ++ last = f := by
  induction k with
  | zero =>
    intro f hf _
    obtain rfl : f = [] := by simpa using hf
    exact ⟨[], [], rfl, by simp, by simp, rfl⟩
  | succ k ih =>
    intro f hf hne
    have h0 : f ≠ [] := fun h => absurd (hne h) (by omega)
    have hpos : 0 < f.length := List.length_pos_iff.mpr h0
    rcases Nat.lt_trichotomy f.length 256 with hlt | heq | hgt
    · exact ⟨[], f, by simp [chunks, Nat.le_of_lt hlt, Nat.mod_eq_of_lt hlt, h0], by simp, hlt, rfl⟩
    · exact ⟨[f], [], by simp [chunks, heq], by simp [heq], by simp, by simp⟩
    · have hlen : (f.drop 256).length = f.length - 256 := List.length_drop
      obtain ⟨full, last, hs, hfull, hlast, hcat⟩ := ih (f.drop 256) (by omega) (fun h => by simp [h] at hlen; omega)
      have hmod : f.length % 256 = (f.drop 256).length % 256 := by omega
      refine ⟨f.take 256 :: full, last, ?_, ?_, hlast, ?_⟩
      · rw [chunks, if_neg (by omega), hmod, List.cons_append, hs, List.cons_append]
      · intro p hp
        rcases List.mem_cons.mp hp with rfl | hp
        · simp [List.length_take]; omega
        · exact hfull p hp
      · rw [List.flatten_cons, List.append_assoc, hcat, List.take_append_drop]

/-- The packets of a frame carry full segments, then one that ends it. -/
theorem tlkSegments_split (f : List Byte) : ∃ full last, tlkSegments f = (full ++ [last]).map tlkPacket ∧
    (∀ p ∈ full, p.length = 256) ∧ last.length < 256 ∧ full.flatten ++ last = f := by
  obtain ⟨full, last, hs, hrest⟩ := segments_of_frame f.length f (Nat.le_refl _) (fun h => by simp [h])
  exact ⟨full, last, by rw [tlkSegments, hs], hrest⟩

theorem map_tlkPayload_tlkPacket (l : List (List Byte)) : (l.map tlkPacket).map tlkPayload = l := by
  simp [Function.comp_def]

theorem tlkSegments_carry (f : List Byte) :
    (tlkSegments f).flatMap tlkPayload = f ∧ ∀ p ∈ tlkSegments f, p.length ≤ 260 ∧ tlkCrcOk p = true := by
  obtain ⟨full, last, hs, hfull, hlast, hcat⟩ := tlkSegments_split f
  refine ⟨?_, fun p hp => ?_⟩
  · rw [hs, List.flatMap_def, map_tlkPayload_tlkPacket, List.flatten_append, List.flatten_singleton, hcat]
  · rw [hs] at hp
    obtain ⟨q, hq, rfl⟩ := List.mem_map.mp hp
    have hlen : q.length ≤ 256 := by
      rcases List.mem_append.mp hq with hq | hq
      · exact Nat.le_of_eq (hfull q hq)
      · rw [List.mem_singleton.mp hq]; omega
    exact ⟨by rw [tlkPacket_length]; omega, tlkCrcOk_tlkPacket q⟩

/-! ## What an end of the link does with a segment (R17) -/

theorem tlkIdx_lt (cls : TlkClass) : tlkIdx cls < 4 := by cases cls <;> decide

/-- Full segments join those of their class. -/
theorem TlkEnd.deliver_full (cls : TlkClass) (full : List (List Byte)) : ∀ e : TlkEnd, e.part.length = 4 → (∀ p ∈ full, p.length = 256) →
    nth [] (full.foldl (fun x p => x.deliver cls p) e).part (tlkIdx cls) = nth [] e.part (tlkIdx cls) ++ full.flatten ∧
    (full.foldl (fun x p => x.deliver cls p) e).part.length = 4 ∧ (full.foldl (fun x p => x.deliver cls p) e).got = e.got := by
  induction full with
  | nil => intro e hl _; simp [hl]
  | cons p r ih =>
    intro e hl hfull
    have hp : tlkEnds p = false := by simp [tlkEnds, hfull p (by simp)]
    have hlen : (e.deliver cls p).part.length = 4 := by simp [TlkEnd.deliver, at', hl]
    have hpart : nth [] (e.deliver cls p).part (tlkIdx cls) = nth [] e.part (tlkIdx cls) ++ p := by
      simp only [TlkEnd.deliver, hp]
      exact nth_at'_self _ _ _ _ (by rw [hl]; exact tlkIdx_lt cls)
    have hgot : (e.deliver cls p).got = e.got := by simp [TlkEnd.deliver, hp]
    obtain ⟨h1, h2, h3⟩ := ih (e.deliver cls p) hlen (fun q hq => hfull q (List.mem_cons_of_mem p hq))
    rw [List.foldl_cons]
    exact ⟨by rw [h1, hpart, List.flatten_cons, List.append_assoc], h2, h3.trans hgot⟩

/-- A segment that ends its frame gives the consumer all that had come. -/
theorem TlkEnd.deliver_last (cls : TlkClass) (last : List Byte) (e : TlkEnd) (hp : e.part.length = 4) (hg : e.got.length = 4)
    (hlast : last.length < 256) :
    nth [] (e.deliver cls last).got (tlkIdx cls) = nth [] e.part (tlkIdx cls) ++ last ∧ nth [] (e.deliver cls last).part (tlkIdx cls) = [] := by
  have hends : tlkEnds last = true := by simp [tlkEnds, hlast]
  simp only [TlkEnd.deliver, hends, if_true]
  exact ⟨nth_at'_self _ _ _ _ (by rw [hg]; exact tlkIdx_lt cls), nth_at'_self _ _ _ _ (by rw [hp]; exact tlkIdx_lt cls)⟩

theorem TlkEnd.deliver_frame (cls : TlkClass) (f : List Byte) (e : TlkEnd) (hp : e.part.length = 4) (hg : e.got.length = 4)
    (h0 : nth [] e.part (tlkIdx cls) = []) :
    let x := ((tlkSegments f).map tlkPayload).foldl (fun (x : TlkEnd) p => x.deliver cls p) e
    nth [] x.got (tlkIdx cls) = f ∧ nth [] x.part (tlkIdx cls) = [] := by
  intro x
  obtain ⟨full, last, hs, hfull, hlast, hcat⟩ := tlkSegments_split f
  obtain ⟨h1, h2, h3⟩ := TlkEnd.deliver_full cls full e hp hfull
  have hx : x = (full.foldl (fun x p => x.deliver cls p) e).deliver cls last := by
    simp only [x, hs, map_tlkPayload_tlkPacket, List.foldl_append, List.foldl_cons, List.foldl_nil]
  obtain ⟨hgot, hpart⟩ := TlkEnd.deliver_last cls last _ h2 (by rw [h3]; exact hg) hlast
  rw [hx]
  exact ⟨by rw [hgot, h1, h0, List.nil_append, hcat], hpart⟩

/-! ## A packet's check at its end (R19, R411) -/

theorem doTlkPacket_good (h : Half) (cls : TlkClass) (p : List Byte) (lanes : BitVec 9) (s : State) (hn : s.nucUp = true)
    (hup : (s.tlk h).up = true) (hl : p.length ≤ 256) : doTlkPacket h cls (tlkPacket p) lanes s = s.tlkGood h cls p := by
  have h1 : ¬ (tlkPacket p).length < 4 := by rw [tlkPacket_length]; omega
  have h2 : ¬ 260 < (tlkPacket p).length := by rw [tlkPacket_length]; omega
  simp [doTlkPacket, hup, hn, h1, h2, tlkCrcOk_tlkPacket]

theorem doTlkPacket_bad (h : Half) (cls : TlkClass) (bs : List Byte) (lanes : BitVec 9) (s : State) (hn : s.nucUp = true)
    (hup : (s.tlk h).up = true) (h4 : 4 ≤ bs.length) (hl : bs.length ≤ 260) (hc : tlkCrcOk bs = false) :
    doTlkPacket h cls bs lanes s = s.tlkBad h lanes := by
  simp [doTlkPacket, hup, hn, Nat.not_lt.mpr h4, Nat.not_lt.mpr hl, hc]

/-- Lanes whose parity failed, where none did and where one did. -/
theorem lanes_none : (List.range 9).filter (fun l => (0 : BitVec 9).getLsbD l) = [] := by decide

theorem getLsbD_one_lane (k l : Nat) (hk : k < 9) : (BitVec.ofNat 9 (2 ^ k)).getLsbD l = decide (l = k) := by
  rw [BitVec.getLsbD_ofNat, Nat.testBit_two_pow]
  by_cases h : l = k
  · simp [h, hk]
  · simp [h, Ne.symm h]

theorem lanes_one (k : Nat) (hk : k < 9) : (List.range 9).filter (fun l => (BitVec.ofNat 9 (2 ^ k)).getLsbD l) = [k] := by
  simp only [getLsbD_one_lane k _ hk]
  interval_cases k <;> decide

/-- The counts of CRC errors and of replays on a lane are different counters. -/
theorem State.worstLane_bump (h : Half) (ls : List Nat) (s : State) : (s.bump h tlkCrcerr 1).worstLane h ls = s.worstLane h ls := by
  have hc : ∀ l, (s.bump h tlkCrcerr 1).ctr h (aLane l 8) = s.ctr h (aLane l 8) := fun l =>
    State.ctr_bump_ne h h tlkCrcerr (aLane l 8) 1 s (by unfold aLane tlkCrcerr; omega)
  simp only [State.worstLane, hc]

/-- A first failure asks for the replay. -/
theorem State.tlkBad_first (h : Half) (s : State) (hr : (s.tlk h).replay = false) : s.tlkBad h 0 =
    (((s.bump h tlkCrcerr 1).mapTlk h (fun e => { e with replay := true })).bump h tlkReplay 1).latch h 0x010004 4 := by
  simp only [State.tlkBad, hr, lanes_none, List.foldl_nil, Bool.not_false, if_true]

/-- A second failure with no parity error blames the lane of most replays, or the first active one (log 42). -/
theorem State.tlkBad_second (h : Half) (s : State) (hr : (s.tlk h).replay = true) : s.tlkBad h 0 =
    (((s.bump h tlkCrcerr 1).bump h tlkRefail 1).latch h 0x010004 8).laneFails h
      ((s.worstLane h (s.tlk h).rxLanes).getD ((s.tlk h).rxLanes.headD 0)) := by
  have hfind : (s.tlk h).rxLanes.find? (fun k => (0 : BitVec 9).getLsbD k) = none := by simp
  simp only [State.tlkBad, hr, lanes_none, List.foldl_nil, hfind, State.worstLane_bump]
  rfl

/-- A second failure with one lane's parity error blames that lane. -/
theorem State.tlkBad_second_lane (h : Half) (k : Nat) (s : State) (hr : (s.tlk h).replay = true) (hk : k < 9) (hm : k ∈ (s.tlk h).rxLanes) :
    s.tlkBad h (BitVec.ofNat 9 (2 ^ k)) =
      ((((s.bump h tlkCrcerr 1).bump h (aLane k 4) 1).bump h tlkRefail 1).latch h 0x010004 8).laneFails h k := by
  have hfind : (s.tlk h).rxLanes.find? (fun l => (BitVec.ofNat 9 (2 ^ k)).getLsbD l) = some k := by
    simp only [getLsbD_one_lane k _ hk]
    obtain ⟨l, hl⟩ := Option.isSome_iff_exists.mp (List.find?_isSome (p := fun l => decide (l = k)).mpr ⟨k, hm, by simp⟩)
    have hlk : l = k := by simpa using List.find?_some hl
    rw [hl, hlk]
  simp only [State.tlkBad, hr, lanes_one k hk, hfind, List.foldl_cons, List.foldl_nil]
  rfl

/-! ## The end of a retraining (R19, R410) -/

theorem doTlkRetrained_good (h : Half) (l : Nat) (s : State) (hrt : (s.tlk h).rt = some l) :
    let u := s.mapTlk h (fun e => { e with rt := none })
    doTlkRetrained h true s =
      if (s.tlk h).rxSub = some l then (u.laneTrained h l).laneTrained h 8 else u.laneTrained h l := by
  intro u
  have hsub : (u.tlk h).rxSub = (s.tlk h).rxSub := by cases h <;> rfl
  simp only [doTlkRetrained, hrt, if_true, State.retrained]
  rw [← hsub]

theorem doTlkRetrained_failed (h : Half) (l : Nat) (s : State) (hrt : (s.tlk h).rt = some l) :
    doTlkRetrained h false s =
      (((((s.mapTlk .coma (fun e => { e with up := false, rt := none, replay := false })).mapTlk .nucleus
        (fun e => { e with up := false, rt := none, replay := false })).latch .coma 0x010004 32).latch .nucleus 0x010004 32).lasting .coma 11) := by
  simp only [doTlkRetrained, hrt]
  cases h <;> rfl

/-! ## The events -/

theorem State.comaUp_of_nucUp (s : State) (h : s.nucUp = true) : s.comaUp = true := by
  simp only [State.nucUp, Bool.and_eq_true] at h
  exact h.1.1.1.1

theorem tailLinkPacketReceive_bad (h : Half) (cls : TlkClass) (bs : List Byte) (lanes : BitVec 9) (s u : State) (hn : s.nucUp = true)
    (hup : (s.tlk h).up = true) (h4 : 4 ≤ bs.length) (hl : bs.length ≤ 260) (hc : tlkCrcOk bs = false) (hu : s.tlkBad h lanes = u) :
    DoesJudged (.tailLinkPacketReceive h cls bs lanes) s u :=
  doesJudged_of_coma _ (doTlkPacket h cls bs lanes) s u rfl (State.comaUp_of_nucUp s hn)
    ((doTlkPacket_bad h cls bs lanes s hn hup h4 hl hc).trans hu)

/-- Settles O35: a packet's event by its check and the state of its replay, a frame by its segments, a retraining by its end. -/
theorem tailLinkEventsComplete : Obligations.TailLinkEventsComplete := by
  unfold Obligations.TailLinkEventsComplete
  refine ⟨?good, ?measure, ?inflight, ?frame, ?first, ?second, ?fails, tlkSegments_carry, ?retrain⟩
  case good =>
    intro h cls p lanes s hn hup hl
    exact doesJudged_of_coma _ _ s _ rfl (State.comaUp_of_nucUp s hn) (doTlkPacket_good h cls p lanes s hn hup hl)
  case measure => intro h p s hrt; simp [State.tlkGood, hrt]
  case inflight => intro h p s hrt hl; simp [State.tlkGood, hrt, tlkEnds, hl]
  case frame => exact fun cls f e hp hg h0 => TlkEnd.deliver_frame cls f e hp hg h0
  case first =>
    intro h cls bs s hn hup hr h4 hl hc
    exact tailLinkPacketReceive_bad h cls bs 0 s _ hn hup h4 hl hc (State.tlkBad_first h s hr)
  case second =>
    intro h cls bs s hn hup hr h4 hl hc
    exact ⟨tailLinkPacketReceive_bad h cls bs 0 s _ hn hup h4 hl hc (State.tlkBad_second h s hr), fun k hk hm =>
      tailLinkPacketReceive_bad h cls bs _ s _ hn hup h4 hl hc (State.tlkBad_second_lane h k s hr hk hm)⟩
  case fails =>
    intro h l s
    refine ⟨fun hs => by simp [State.laneFails, hs], fun hs => ?_⟩
    obtain ⟨k, hk⟩ := Option.isSome_iff_exists.mp hs
    simp [State.laneFails, hk]
  case retrain =>
    intro h l s hup hrt
    exact ⟨doesJudged_of_coma _ _ s _ rfl hup (doTlkRetrained_good h l s hrt),
      doesJudged_of_coma _ _ s _ rfl hup (doTlkRetrained_failed h l s hrt)⟩

end Sys2Proof.Machine
end

section
/-! SUPPORT. The phases of start-up and the power transitions: the flash as start-up reads it, the Nucleus half's start, and what they leave of
power and time (R28, R30, R386-R391, R397). -/

namespace Sys2Proof.Machine

/-! ## Power and time kept -/

/-- Power and the time base are those of the state before: so after the steps by which the Nucleus half's blocks and the pins start. -/
structure KeepsPowerTime (s t : State) : Prop where
  pwr : t.pwr = s.pwr
  tim : t.tim = s.tim

theorem KeepsPowerTime.refl (s : State) : KeepsPowerTime s s := ⟨rfl, rfl⟩
theorem KeepsPowerTime.trans {s t u : State} (h1 : KeepsPowerTime s t) (h2 : KeepsPowerTime t u) : KeepsPowerTime s u :=
  ⟨h2.pwr.trans h1.pwr, h2.tim.trans h1.tim⟩

theorem KeepsPowerTime.foldl {α : Type} {f : State → α → State} (hf : ∀ s a, KeepsPowerTime s (f s a)) (l : List α) :
    ∀ s, KeepsPowerTime s (l.foldl f s) := by
  induction l with
  | nil => exact KeepsPowerTime.refl
  | cons a r ih => exact fun s => (hf s a).trans (ih _)

theorem State.mapRegs_keepsPowerTime (h : Half) (f : RegFile → RegFile) (s : State) : KeepsPowerTime s (s.mapRegs h f) := ⟨rfl, rfl⟩

theorem State.drivePin_keepsPowerTime (p : Nat) (s : State) : KeepsPowerTime s (s.drivePin p) := by
  unfold State.drivePin
  dsimp only
  split
  · exact KeepsPowerTime.refl s
  · split <;> exact ⟨rfl, rfl⟩

theorem State.drivePins_keepsPowerTime (s : State) : KeepsPowerTime s s.drivePins :=
  KeepsPowerTime.foldl (fun s p => State.drivePin_keepsPowerTime p s) _ s

theorem State.pinsReload_keepsPowerTime (s : State) : KeepsPowerTime s s.pinsReload :=
  KeepsPowerTime.foldl (fun s _ => State.mapRegs_keepsPowerTime .nucleus _ s) _ s

theorem State.tlkTrained_keepsPowerTime (s : State) : KeepsPowerTime s s.tlkTrained := by
  unfold State.tlkTrained
  refine KeepsPowerTime.trans ?_ (KeepsPowerTime.foldl (fun s l => ?_) _ _)
  · exact ⟨rfl, rfl⟩
  · exact (((State.mapRegs_keepsPowerTime .coma _ s).trans (State.mapRegs_keepsPowerTime .nucleus _ _)).trans
      (State.mapRegs_keepsPowerTime .coma _ _)).trans (State.mapRegs_keepsPowerTime .nucleus _ _)

theorem State.phxSync_keepsPowerTime (s : State) : KeepsPowerTime s s.phxSync := by
  unfold State.phxSync
  refine KeepsPowerTime.trans ?_ (KeepsPowerTime.foldl (fun s i => ?_) _ _)
  · exact ⟨rfl, rfl⟩
  · split
    · exact KeepsPowerTime.refl s
    · exact ⟨rfl, rfl⟩

/-! ## The flash as start-up reads it (R385-R387, log 167) -/

theorem State.putRegion_region (a : Nat) (bs : List Byte) (s : State) : (s.putRegion a bs).region a = some bs := by
  have h : findBy Prod.fst a (insertBy Prod.fst (a, bs) s.upd.flash) = some (a, bs) := findBy_insertBy_self Prod.fst (a, bs) s.upd.flash
  simp [State.region, State.putRegion, h]

theorem State.readRegion_known (a : Nat) (bs old : List Byte) (s : State) (h : s.region a = some old) : s.readRegion a bs = s := by
  simp [State.readRegion, h]
theorem State.readRegion_unknown (a : Nat) (bs : List Byte) (s : State) (h : s.region a = none) : s.readRegion a bs = s.putRegion a bs := by
  simp [State.readRegion, h]

theorem State.readRegion_pwr (a : Nat) (bs : List Byte) (s : State) : (s.readRegion a bs).pwr = s.pwr := by
  unfold State.readRegion; split <;> rfl

theorem State.slotOk_of_region (h : Half) (b : Bool) (bs : List Byte) (s : State) (hr : s.region (slotAt h b) = some bs) :
    s.slotOk h b = imageOk s.keys.vendor h (imageIn bs) := by
  simp [State.slotOk, hr]

theorem slotOk_readRegion (h : Half) (b : Bool) (bs : List Byte) (s : State) :
    (s.region (slotAt h b) = none → (s.readRegion (slotAt h b) bs).slotOk h b = imageOk s.keys.vendor h (imageIn bs)) ∧
    (∀ old, s.region (slotAt h b) = some old → (s.readRegion (slotAt h b) bs).slotOk h b = imageOk s.keys.vendor h (imageIn old)) := by
  refine ⟨fun hn => ?_, fun old ho => ?_⟩
  · rw [State.readRegion_unknown _ _ _ hn, State.slotOk_of_region h b bs _ (State.putRegion_region _ _ _)]
    rfl
  · rw [State.readRegion_known _ _ _ _ ho, State.slotOk_of_region h b old s ho]

theorem State.readNucleus_pwr (n : NucleusStart) (s : State) : (s.readNucleus n).pwr = s.pwr := by
  unfold State.readNucleus
  split
  · rfl
  · rw [State.readRegion_pwr, State.readRegion_pwr]

/-! ## Phase P1 (R56, R389, R390) -/

theorem State.timeFromCalendar_pwr (s : State) : s.timeFromCalendar.pwr = s.pwr := by unfold State.timeFromCalendar; split <;> rfl
theorem State.timeFromCalendar_upd (s : State) : s.timeFromCalendar.upd = s.upd := by unfold State.timeFromCalendar; split <;> rfl

/-- A flash that is usable and has a valid copy gives a directory. -/
theorem State.scanFlash_dir (fl : FlashScan) (s : State) (hu : flashUsable fl = true) (hn : (flashNewest fl).isSome = true) :
    ∃ d, (s.scanFlash fl).upd.dir = some d := by
  obtain ⟨x, hx⟩ := Option.isSome_iff_exists.mp hn
  exact ⟨x.1, by simp [State.scanFlash, hu, hx]⟩

/-- With straps 0b00 a part that finds no image stops, ERR_N held low (R390). -/
theorem State.noImage_stops (code : Nat) (s : State) (h : s.pwr.straps.toNat % 4 = 0) : s.noImage code =
    { s with pwr := { s.pwr with phase := 2, stopped := true, fail := code }, flt := { s.flt with errnSw := true } } := by
  simp [State.noImage, h]

theorem startupP1Complete_leaves (cores : List Bool) (fl : FlashScan) (s : State) (hup : s.comaUp = true) (hp : s.pwr.phase = 1)
    (hs : s.pwr.stopped = false) :
    let u := State.timeFromCalendar (State.scanFlash fl { s with
      core := { s.core with coma := coreAssign 2 true ((List.range 3).map (fun i => nth false cores i)) } })
    (s.pwr.straps.toNat % 4 ≠ 2 → flashUsable fl = true → (flashNewest fl).isSome = true →
      Does (.startupP1Complete cores fl) s { u with pwr := { u.pwr with phase := 2 } }) ∧
    (s.pwr.straps.toNat % 4 = 0 → flashUsable fl = false → Does (.startupP1Complete cores fl) s { u with
      pwr := { u.pwr with phase := 2, stopped := true, fail := 2 }, flt := { u.flt with errnSw := true } }) := by
  intro u
  have hpwr : u.pwr = s.pwr := State.timeFromCalendar_pwr _
  refine ⟨fun h2 hu hn => does_of_effect _ s _ _ rfl ?_, fun h0 hu => does_of_effect _ s _ _ rfl ?_⟩
  · obtain ⟨d, hd⟩ := State.scanFlash_dir fl { s with
      core := { s.core with coma := coreAssign 2 true ((List.range 3).map (fun i => nth false cores i)) } } hu hn
    rw [← State.timeFromCalendar_upd] at hd
    simp [doP1, hp, hs, hup, h2, hu, hd, u]
  · have h2 : ¬ s.pwr.straps.toNat % 4 = 2 := by omega
    rw [← State.noImage_stops 2 u (by rw [hpwr]; exact h0)]
    simp [doP1, hp, hs, hup, h2, hu, u]

theorem startupP1Complete_rom (cores : List Bool) (fl : FlashScan) (s : State) (hup : s.comaUp = true) (hp : s.pwr.phase = 1)
    (hs : s.pwr.stopped = false) (h2 : s.pwr.straps.toNat % 4 = 2) :
    ∃ t, exec (.startupP1Complete cores fl) s = .next t ∧ t.pwr = { s.pwr with phase := 2, rom := true } := by
  refine ⟨_, rfl, ?_⟩
  rw [State.settled_pwr]
  simp [doP1, hp, hs, hup, h2, State.timeFromCalendar_pwr, State.scanFlash]

/-! ## Phase P2 (R390) -/

theorem startupP2Complete_leaves (a o : List Byte) (d : Directory) (s : State) (hup : s.comaUp = true) (hd : s.upd.dir = some d)
    (hp : s.pwr.phase = 2) (hrom : s.pwr.rom = false) (hst : s.pwr.stopped = false) (hfw : s.pwr.fw = false) :
    let x := (s.readRegion (slotAt .coma d.comaB) a).readRegion (slotAt .coma (!d.comaB)) o
    let runs := fun (b : Bool) (fail : Nat) =>
      (State.setVer .coma (if b then d.verCB else d.verCA) { x with pwr := { x.pwr with cslot := b, nslot := d.nucB, fail := fail } }).fwStart
    (x.slotOk .coma d.comaB = true → Does (.startupP2Complete a o) s (runs d.comaB 0)) ∧
    (x.slotOk .coma d.comaB = false → x.slotOk .coma (!d.comaB) = true → Does (.startupP2Complete a o) s (runs (!d.comaB) 4)) ∧
    (x.slotOk .coma d.comaB = false → x.slotOk .coma (!d.comaB) = false → s.pwr.straps.toNat % 4 = 0 →
      Does (.startupP2Complete a o) s { x with
        pwr := { x.pwr with phase := 2, stopped := true, fail := 4 }, flt := { x.flt with errnSw := true } }) := by
  intro x runs
  have hdo : doP2 a o s = if x.slotOk .coma d.comaB || x.slotOk .coma (!d.comaB) then
      runs (if x.slotOk .coma d.comaB then d.comaB else !d.comaB) (if x.slotOk .coma d.comaB then 0 else 4) else x.noImage 4 := by
    simp [doP2, hd, hp, hrom, hst, hfw, hup, x, runs]
  have hpwr : x.pwr = s.pwr := by rw [State.readRegion_pwr, State.readRegion_pwr]
  refine ⟨fun ha => ?_, fun ha ho => ?_, fun ha ho h0 => ?_⟩
  · exact does_of_effect _ s _ _ rfl (by simp [hdo, ha])
  · exact does_of_effect _ s _ _ rfl (by simp [hdo, ha, ho])
  · exact does_of_effect _ s _ _ rfl (by rw [hdo, ha, ho, ← State.noImage_stops 4 x (by rw [hpwr]; exact h0)]; rfl)

/-! ## The Nucleus half out of reset (R389, R397) -/

/-- The Nucleus half out of reset: the power state and the transition as they were, and the time. -/
theorem State.nucleusOut_keeps (n : NucleusStart) (s : State) :
    (s.nucleusOut n).pwr.mode = s.pwr.mode ∧ (s.nucleusOut n).pwr.trans = s.pwr.trans ∧ (s.nucleusOut n).tim = s.tim := by
  unfold State.nucleusOut
  dsimp only
  rw [(State.pinsReload_keepsPowerTime _).pwr, (State.pinsReload_keepsPowerTime _).tim]
  split
  · split <;> exact ⟨rfl, rfl, rfl⟩
  · exact ⟨rfl, rfl, rfl⟩

theorem State.nucleusUp_tim (n : NucleusStart) (s : State) : (s.nucleusUp n).tim = s.tim := by
  unfold State.nucleusUp
  rw [(State.phxSync_keepsPowerTime _).tim, (State.tlkTrained_keepsPowerTime _).tim]
  exact (State.nucleusOut_keeps n s).2.2

/-- A reset of the Nucleus half alone changes neither the power state nor a transition (R28). -/
theorem State.nucleusBack_mode_trans (n : NucleusStart) (s : State) :
    (s.nucleusBack n).pwr.mode = s.pwr.mode ∧ (s.nucleusBack n).pwr.trans = s.pwr.trans := by
  obtain ⟨hmode, htrans, -⟩ := State.nucleusOut_keeps n s
  have hk : KeepsPowerTime (s.nucleusOut n) (s.nucleusBack n) := by
    unfold State.nucleusBack
    dsimp only
    split
    · exact ((State.tlkTrained_keepsPowerTime _).trans (State.phxSync_keepsPowerTime _)).trans (State.drivePins_keepsPowerTime _)
    · exact KeepsPowerTime.refl _
  rw [hk.pwr]
  exact ⟨hmode, htrans⟩

/-! ## Phase P3 (R389, R390) -/

/-- P3 may end: the Coma firmware runs and nothing that P3 met holds the Nucleus half (R390). -/
structure P3Due (s : State) : Prop where
  up : s.comaUp = true
  phase : s.pwr.phase = 3
  fw : s.pwr.fw = true
  grave : s.pwr.grave = false
  held : s.pwr.held = false
  fail5 : s.pwr.fail ≠ 5
  fail7 : s.pwr.fail ≠ 7

theorem doP3_fails (n : NucleusStart) (s : State) (h : P3Due s) (hf : (s.readNucleus n).nucFailure n ≠ 0) :
    doP3 n s = (s.readNucleus n).nucleusFails ((s.readNucleus n).nucFailure n) := by
  simp [doP3, h.up, h.phase, h.fw, h.grave, h.held, h.fail5, h.fail7, hf]

/-- P4 as it begins, where the step has not been made. -/
theorem State.p4_begins (u : State) (ht : u.tim.stepped = false) :
    let v := State.drivePins (State.latchC 0x000030 0 { u with pwr := { u.pwr with phase := 4 } })
    (if v.tim.stepped then v.toP5 else v) = v := by
  intro v
  have hv : v.tim.stepped = false := by rw [(State.drivePins_keepsPowerTime _).tim]; exact ht
  simp [hv]

theorem doP3_hsp (n : NucleusStart) (s : State) (h : P3Due s) (hb : s.pwr.hspBoot = true) (hf : s.nucFailure n = 0)
    (ht : s.tim.stepped = false) : doP3 n s =
      State.drivePins (State.latchC 0x000030 0 { s.nucleusUp n with pwr := { (s.nucleusUp n).pwr with phase := 4 } }) := by
  have hx : s.readNucleus n = s := by simp [State.readNucleus, hb]
  have hp4 := State.p4_begins (s.nucleusUp n) (by rw [State.nucleusUp_tim]; exact ht)
  rw [← hp4]
  cases hd : s.upd.dir with
  | none => simp [doP3, h.up, h.phase, h.fw, h.grave, h.held, h.fail5, h.fail7, hx, hf, hd]
  | some d => simp [doP3, h.up, h.phase, h.fw, h.grave, h.held, h.fail5, h.fail7, hx, hf, hd, hb]

theorem doP3_flash (n : NucleusStart) (d : Directory) (s : State) (h : P3Due s) (hb : s.pwr.hspBoot = false) (hd : s.upd.dir = some d) :
    let x := s.readNucleus n
    let u := if d.tsetValid && d.autoload then ((x.nucleusUp n).readRegion tsetAt n.tset).loadTset d.tsetLen else x.nucleusUp n
    x.nucFailure n = 0 → u.tim.stepped = false →
      doP3 n s = State.drivePins (State.latchC 0x000030 0 { u with pwr := { u.pwr with phase := 4 } }) := by
  intro x u hf ht
  rw [← State.p4_begins u ht]
  simp [doP3, h.up, h.phase, h.fw, h.grave, h.held, h.fail5, h.fail7, hf, hd, hb, x, u]

theorem startupP3Complete_fails (n : NucleusStart) (s : State) (h : P3Due s) :
    let x := s.readNucleus n
    let stays := fun (k : Nat) => ({ x with pwr := { x.pwr with nrst := true, fail := k, held := decide (k = 6) } } : State)
    (x.nucFailure n = 5 → DoesJudged (.startupP3Complete n) s ((stays 5).lasting .coma 11)) ∧
    (x.nucFailure n = 6 → DoesJudged (.startupP3Complete n) s (stays 6)) ∧
    (x.nucFailure n = 7 → DoesJudged (.startupP3Complete n) s (stays 7)) := by
  intro x stays
  have hdo : ∀ k, x.nucFailure n = k → k ≠ 0 → doP3 n s = x.nucleusFails k := fun k hk h0 => by
    rw [doP3_fails n s h (by rw [hk]; exact h0), hk]
  refine ⟨fun hk => ?_, fun hk => ?_, fun hk => ?_⟩
  all_goals exact doesJudged_of_effect _ s _ _ rfl (hdo _ hk (by decide))

/-! ## The entry into STANDBY and the end of a half reset (R28, R397) -/

theorem powerTransitionComplete_standby (s : State) (hup : s.comaUp = true) (hg : s.pwr.grave = false) (ht : s.pwr.trans = .toStandby) :
    DoesJudged .powerTransitionComplete s (State.latchC 0x000030 0 { s with
      pwr := { s.pwr with mode := .standby, trans := if s.pwr.backToService then .toService else .none, backToService := false }
      tlkC := { s.tlkC with up := false, rt := none, replay := false }, tlkN := { s.tlkN with up := false, rt := none, replay := false } }) :=
  doesJudged_of_coma _ doPowerDone s _ rfl hup (by simp [doPowerDone, hg, ht])

theorem halfResetComplete_leaves (n : NucleusStart) (s : State) (hup : s.comaUp = true) (hn : s.pwr.nrst = true) (hg : s.pwr.grave = false)
    (hh : s.pwr.held = false) (hp : 4 ≤ s.pwr.phase) :
    let x := s.readNucleus n
    let u := x.nucleusBack n
    (x.nucFailure n = 0 →
      DoesJudged (.halfResetComplete n) s ((((u.bumpN 0x0B0058 1).bumpN 0x0B0054 1).latchN 0x0B0008 4).completeOp .coma 0x0D04 4 codeOk) ∧
        u.pwr.mode = s.pwr.mode ∧ u.pwr.trans = s.pwr.trans) ∧
    (x.nucFailure n = 6 → DoesJudged (.halfResetComplete n) s
      (State.completeOp .coma 0x0D04 4 eState { x with pwr := { x.pwr with nrst := true, fail := 6, held := true } })) := by
  intro x u
  have hp' : ¬ s.pwr.phase < 4 := Nat.not_lt.mpr hp
  refine ⟨fun hf => ⟨doesJudged_of_effect _ s _ _ rfl ?_, ?_⟩, fun hf => doesJudged_of_effect _ s _ _ rfl ?_⟩
  · simp [doHalfReset, hup, hn, hg, hh, hp', hf, x, u]
  · rw [← State.readNucleus_pwr n s]
    exact State.nucleusBack_mode_trans n x
  · simp [doHalfReset, hup, hn, hg, hh, hp', hf, x, State.nucleusFails]

/-- Settles O46: each phase's event by the case that its clause names. -/
theorem startupEventsComplete : Obligations.StartupEventsComplete := by
  unfold Obligations.StartupEventsComplete
  refine ⟨startupP1Complete_leaves, startupP1Complete_rom, startupP2Complete_leaves, slotOk_readRegion, ?p3Hsp, ?p3Flash, ?p3Fails,
    powerTransitionComplete_standby, halfResetComplete_leaves⟩
  case p3Hsp =>
    intro n s hup hp hfw hg hh hf h5 h7 hb ht
    exact doesJudged_of_effect _ s _ _ rfl (doP3_hsp n s ⟨hup, hp, hfw, hg, hh, h5, h7⟩ hb hf ht)
  case p3Flash =>
    intro n d s hup hp hfw hg hh h5 h7 hb hd x u hf ht
    exact doesJudged_of_effect _ s _ _ rfl (doP3_flash n d s ⟨hup, hp, hfw, hg, hh, h5, h7⟩ hb hd hf ht)
  case p3Fails =>
    intro n s hup hp hfw hg hh h5 h7
    exact startupP3Complete_fails n s ⟨hup, hp, hfw, hg, hh, h5, h7⟩

end Sys2Proof.Machine
end

section
/-! SUPPORT. What holds between any two commands (R41, R42, R244). -/

namespace Sys2Proof.Machine

/-- Every command ends by settling: whatever its effect, the attention fields are brought up to date and the balls driven to their safe level
while that applies. -/
theorem exec_settles (c : Instr) (s : State) : ∃ u : State, exec c s = .next u.settled := by
  cases c <;> exact ⟨_, rfl⟩

/-- What a step does: nothing on an empty queue, otherwise some effect, settled. -/
theorem step_idles_or_settles (s t : State) (h : step s = .next t) : t = s ∨ ∃ u : State, t = u.settled := by
  unfold step at h
  cases hq : s.pending with
  | nil => rw [hq] at h; exact .inl (Host.Outcome.next.inj h).symm
  | cons c r =>
    obtain ⟨u, hu⟩ := exec_settles c { s with pending := r }
    rw [hq] at h
    exact .inr ⟨u, (Host.Outcome.next.inj (hu.symm.trans h)).symm⟩

/-- Settles O3: idling changes nothing, and a settled state is consistent whatever it was before. -/
theorem everyStepKeepsConsistent : Obligations.EveryStepKeepsConsistent := by
  unfold Obligations.EveryStepKeepsConsistent
  intro s t hs h
  obtain rfl | ⟨u, rfl⟩ := step_idles_or_settles s t h
  · exact hs
  · exact u.settled_consistent

/-- Settles O2: at reset no condition persists, no event is unacknowledged and every ball stands at its safe level. -/
theorem resetIsConsistent : Obligations.ResetIsConsistent :=
  ⟨by decide, by decide, by decide⟩

end Sys2Proof.Machine
end

section
/-! SUPPORT. The session commands: what each body answers, and the attention fields after ATTN.ACK (R43, R44, R47). -/

namespace Sys2Proof.Machine

/-! ## Answers of the bodies -/

/-- IDENT's words, the half's word written out (R44). -/
theorem cmdIdent_answers (h : Hdr) (s : State) :
    cmdIdent h [] s = Res.ok s
      [0x8820, (match h.half with | .coma => 0xB0000000 | .nucleus => 0xB0010000), hiW Config.serial.toNat, loW Config.serial.toNat,
        (match h.half with | .coma => s.sys.verC | .nucleus => s.sys.verN), (if s.ory.joined then w32 (2 ^ 31 + s.ory.id) else 0),
        w32 h.port, 0] := by
  unfold cmdIdent
  cases h.half <;> rfl

theorem State.ackFresh_iff (g : Nat) (s : State) : s.ackFresh g = true ↔ s.attn.gen = BitVec.ofNat 8 g := by simp [State.ackFresh]

theorem cmdAttnAck_fresh (h : Hdr) (w : Word) (s : State) (hg : s.attn.gen = BitVec.ofNat 8 (bits w 7 0)) (hm : s.marksGap h.port 5 = false) :
    cmdAttnAck h [w] s = Res.ok s.acked := by
  have hf : s.ackFresh (bits w 7 0) = true := (State.ackFresh_iff _ s).mpr hg
  simp [cmdAttnAck, arity, par, nth, hm, hf]

theorem cmdAttnAck_stale (h : Hdr) (w : Word) (s : State) (hg : s.attn.gen ≠ BitVec.ofNat 8 (bits w 7 0)) :
    cmdAttnAck h [w] s = Res.ok s [] 1 := by
  have hf : s.ackFresh (bits w 7 0) = false := by rwa [Bool.eq_false_iff, ne_eq, State.ackFresh_iff]
  simp [cmdAttnAck, arity, par, nth, hf]

theorem cmdAttnAck_dropped (h : Hdr) (w : Word) (s : State) (hm : s.marksGap h.port 5 = true) : cmdAttnAck h [w] s = Res.ok s [] 1 := by
  simp [cmdAttnAck, arity, hm]

/-! ## The attention fields after a reply -/

/-- Fields that are up to date are left alone. -/
theorem State.reattn_of_fresh (s : State) (hl : s.attn.level = s.attnLevel) (hb : s.attn.bits = s.attnBits) : (s.reattn false).attn = s.attn := by
  simp [State.reattn, ← hl, ← hb]

/-- Recomputing once more leaves the fields as they are. -/
theorem State.reattn_reattn (b : Bool) (s : State) : ((s.reattn b).reattn false).attn = (s.reattn b).attn := State.reattn_of_fresh _ rfl rfl

/-- A reply that starts no GAP marker leaves the attention fields of the state it answers from, brought up to date. -/
theorem OnlyReplied.attn_unmarked {p n : Nat} {u t : State} (ho : OnlyReplied p u t) (hn : t.replyWords p = n) (hm : u.marksGap p n = false) :
    t.attn = (u.reattn false).attn := by
  rw [ho.attn, hn, hm]; rfl

/-- A reply that is dropped behind a new GAP marker raises the queue event (R42). -/
theorem OnlyReplied.attn_marked {p n : Nat} {u t : State} (ho : OnlyReplied p u t) (hn : t.replyWords p = n) (hm : u.marksGap p n = true) :
    t.attn = (u.evQueue 1).attn := by
  rw [ho.attn, hn, hm]
  exact State.reattn_reattn true _

/-- An acknowledgement in force: the events are gone, the persisting conditions' level stays and one generation is counted (R43). -/
theorem attnAck_in_force (h : Hdr) (w : Word) (s : State) (ht : s.takes 0x0003 h [w] = true)
    (hg : s.attn.gen = BitVec.ofNat 8 (bits w 7 0)) (hm : s.marksGap h.port 5 = false) :
    ∃ t, exec (.attnAck h [w]) s = .next t ∧ Replied h 0x0003 codeOk 0 [] t ∧ OnlyReplied h.port s.acked t ∧
      t.attn.evLevel = 0 ∧ t.attn.evBits = 0 ∧ t.attn.level = s.persist ∧ t.attn.gen = s.attn.gen + 1 := by
  obtain ⟨hr, ho⟩ := serve_ok 0x0003 0 h _ _ cmdAttnAck s s.acked ht (cmdAttnAck_fresh h w s hg hm) (takes_port _ h _ s ht)
  have ha := ho.attn_unmarked hr.words hm
  rw [State.acked, State.reattn_reattn] at ha
  exact ⟨_, rfl, hr, ho, by simp [ha, State.reattn, State.attnLevel, State.persist]⟩

/-- An acknowledgement of another generation leaves the fields of a consistent state alone (R43). -/
theorem attnAck_of_another (h : Hdr) (w : Word) (s : State) (ht : s.takes 0x0003 h [w] = true)
    (hg : s.attn.gen ≠ BitVec.ofNat 8 (bits w 7 0)) (hm : s.marksGap h.port 5 = false) :
    ∃ t, exec (.attnAck h [w]) s = .next t ∧ Replied h 0x0003 codeOk 1 [] t ∧ OnlyReplied h.port s t ∧
      t.attn.evLevel = s.attn.evLevel ∧ t.attn.evBits = s.attn.evBits ∧ (s.Consistent → t.attn = s.attn) := by
  obtain ⟨hr, ho⟩ := serve_ok 0x0003 1 h _ _ cmdAttnAck s s ht (cmdAttnAck_stale h w s hg) (takes_port _ h _ s ht)
  have ha := ho.attn_unmarked hr.words hm
  exact ⟨_, rfl, hr, ho, by rw [ha]; rfl, by rw [ha]; rfl, fun ⟨hl, hb, _⟩ => ha.trans (State.reattn_of_fresh s hl hb)⟩

/-- An acknowledgement whose own reply starts a GAP marker comes after that event (R42, R43, log 170). -/
theorem attnAck_dropped (h : Hdr) (w : Word) (s : State) (ht : s.takes 0x0003 h [w] = true) (hm : s.marksGap h.port 5 = true) :
    ∃ t, exec (.attnAck h [w]) s = .next t ∧ Replied h 0x0003 codeOk 1 [] t ∧ OnlyReplied h.port s t ∧
      t.attn.evLevel = Nat.max s.attn.evLevel 1 ∧ t.attn.evBits = s.attn.evBits ||| 8 ∧
      t.attn.level = Nat.max s.persist (Nat.max s.attn.evLevel 1) ∧ t.attn.gen = s.attn.gen + 1 := by
  obtain ⟨hr, ho⟩ := serve_ok 0x0003 1 h _ _ cmdAttnAck s s ht (cmdAttnAck_dropped h w s hm) (takes_port _ h _ s ht)
  have ha := ho.attn_marked hr.words hm
  exact ⟨_, rfl, hr, ho, by rw [ha]; rfl, by rw [ha]; rfl, by rw [ha]; rfl, by rw [ha]; rfl⟩

/-- Settles O4: NOP, IDENT and STATUS by their bodies' answers, ATTN.ACK by the generation it quotes and the room for its reply. -/
theorem sessionCommandsComplete : Obligations.SessionCommandsComplete := by
  unfold Obligations.SessionCommandsComplete
  refine ⟨fun h s ht => ?_, fun h s ht => ?_, fun h s ht => ?_, attnAck_in_force, attnAck_of_another, attnAck_dropped⟩
  · exact ⟨_, rfl, serve_ok 0x0000 0 h [] [] cmdNop s s ht rfl (takes_port _ h _ s ht)⟩
  · exact ⟨_, rfl, serve_ok 0x0001 0 h [] _ cmdIdent s s ht (cmdIdent_answers h s) (takes_port _ h _ s ht)⟩
  · exact ⟨_, rfl, serve_ok 0x0002 0 h [] _ cmdStatus s _ ht rfl (takes_port _ h _ s ht)⟩

end Sys2Proof.Machine
end

section
/-! SUPPORT. Packets that fail the gate (R40 steps 5 to 8). -/

namespace Sys2Proof.Machine

/-- A packet whose turn it is and that fails the gate runs no body and is answered with the gate's code. -/
theorem dispatch_gated (op : Nat) (h : Hdr) (ps : List Word) (code : Byte) (s : State) (ha : s.accepts h.port = true)
    (hw : s.mustWait op h ps = false) (hg : s.gate op h = some code) : s.dispatch op h ps = s.answer h op code 0 [] := by
  simp [State.dispatch, State.serve, State.run, ha, hw, hg]

/-- The port of a packet that the scheduler takes is allocated. -/
theorem accepts_port (p : Nat) (s : State) (ha : s.accepts p = true) : (s.port? p).isSome = true := ((Bool.and_eq_true _ _).mp ha).2

/-- In the grave state every opcode but IDENT, STATUS and FLT.READ fails with E_GRAVE, before any other step (R40 step 5). -/
theorem State.gate_grave (op : Nat) (h : Hdr) (s : State) (hg : s.pwr.grave = true) (hop : op ≠ 0x0001 ∧ op ≠ 0x0002 ∧ op ≠ 0x0C00) :
    s.gate op h = some eGrave := by
  simp [State.gate, hg, hop]

/-- Settles O52: the failing step's code is answered on the state as it stood. -/
theorem packetsThatFailTheGateChangeNothing : Obligations.PacketsThatFailTheGateChangeNothing := by
  unfold Obligations.PacketsThatFailTheGateChangeNothing
  intro op h ps code s ha hw hg
  rw [dispatch_gated op h ps code s ha hw hg]
  obtain ⟨hr, ho⟩ := answer_spec h op code 0 [] s (accepts_port h.port s ha)
  refine ⟨_, rfl, hr, ho, fun ⟨hgrave, hop⟩ => ?_⟩
  exact Option.some.inj (hg.symm.trans (s.gate_grave op h hgrave hop))

end Sys2Proof.Machine
end

section
/-! SUPPORT. What a command that its own execution refuses leaves (R40, R329, R333, R392). -/

namespace Sys2Proof.Machine

/-! ## Answers that change nothing unless they are OK -/

/-- A body's answer on s: OK, OK_PENDING, or a refusal of s as it stood, where E_KEY alone is counted (R333). -/
inductive Res.Plain (s : State) : Res → Prop
  | ok {r : Res} (h : r.code = codeOk) : Plain s r
  | pending {r : Res} (h : r.code = codePending) : Plain s r
  | fail {code : Byte} {detail : Nat} {results : List Word} (h : code ≠ eKey) : Plain s (Res.fail s code detail results)
  | keyUse : Plain s (Res.eKeyUse s)

section
variable {s : State}

@[simp] theorem Res.plain_ok (t : State) (ws : List Word) (d : Nat) : (Res.ok t ws d).Plain s := .ok rfl
@[simp] theorem Res.plain_pending (t : State) (ws : List Word) : (Res.pending t ws).Plain s := .pending rfl
@[simp] theorem Res.plain_fail (c : Byte) (d : Nat) (ws : List Word) (h : c ≠ eKey) : (Res.fail s c d ws).Plain s := .fail h
@[simp] theorem Res.plain_keyUse : (Res.eKeyUse s).Plain s := .keyUse

@[simp] theorem Res.plain_ite (p : Prop) [Decidable p] (a b : Res) : (if p then a else b).Plain s ↔ (p → a.Plain s) ∧ (¬ p → b.Plain s) := by
  split <;> simp [*]

theorem Res.Plain.cond {p : Prop} [Decidable p] {a b : Res} (ha : a.Plain s) (hb : b.Plain s) : (if p then a else b).Plain s := by
  split <;> assumption

/-- An effect that follows OK alone is no matter of the refusals. -/
theorem Res.Plain.onOk {r : Res} (hr : r.Plain s) (f : State → State) :
    ({ r with st := if r.code = codeOk then f r.st else r.st } : Res).Plain s := by
  by_cases hc : r.code = codeOk
  · exact .ok hc
  · rw [if_neg hc]; exact hr

/-- A wrong parameter count is refused plainly. -/
@[simp] theorem Res.plain_arity (n : Nat) (ps : List Word) (k : Unit → Res) : (arity n ps s k).Plain s ↔ (ps.length = n → (k ()).Plain s) := by
  simp [arity]

/-- What follows an OK reply is no matter of the refusals. -/
@[simp] theorem Res.plain_after (t : State) (f : State → State) : ({ Res.ok t with after := f } : Res).Plain s := .ok rfl

/-- A body of n parameter words is plain if what it does with them is. -/
theorem arity_plain {n : Nat} {ps : List Word} {k : Unit → Res} (h : (k ()).Plain s) : (arity n ps s k).Plain s := by simp [h]

end

/-! ## What a field of a register refuses (R40 step 9, R406) -/

/-- The refusals of a register's word: E_PARAM and E_STATE. -/
def FieldRefusal (o : Option Byte) : Prop := ∀ c, o = some c → c = eParam ∨ c = eState

@[simp] theorem FieldRefusal.none : FieldRefusal none := by simp [FieldRefusal]
@[simp] theorem FieldRefusal.refuse (p q : Bool) : FieldRefusal (refuse p q) := by
  cases p <;> cases q <;> simp [Machine.refuse, FieldRefusal]
@[simp] theorem FieldRefusal.ite (p : Prop) [Decidable p] (a b : Option Byte) :
    FieldRefusal (if p then a else b) ↔ (p → FieldRefusal a) ∧ (¬ p → FieldRefusal b) := by
  split <;> simp [*]
theorem FieldRefusal.cond {p : Prop} [Decidable p] {a b : Option Byte} (ha : FieldRefusal a) (hb : FieldRefusal b) :
    FieldRefusal (if p then a else b) := by split <;> assumption
theorem FieldRefusal.some {c : Byte} (h : c = eParam ∨ c = eState) : FieldRefusal (some c) := fun _ e => Option.some.inj e ▸ h

section
variable (a p o : Nat) (h : Half) (w : Word) (s : State)

@[simp] theorem State.refusePrt_field : FieldRefusal (s.refusePrt p o w) := by simp [State.refusePrt]
@[simp] theorem State.refusePul_field : FieldRefusal (s.refusePul p o w) := by simp [State.refusePul]
@[simp] theorem State.refuseSch_field : FieldRefusal (s.refuseSch h o w) := by simp [State.refuseSch]
@[simp] theorem State.refuseAln_field : FieldRefusal (s.refuseAln p o w) := by simp [State.refuseAln]
@[simp] theorem State.refuseIsl_field : FieldRefusal (s.refuseIsl a w) := by simp [State.refuseIsl]
@[simp] theorem State.refuseEgr_field : FieldRefusal (s.refuseEgr p w) := by simp [State.refuseEgr]
@[simp] theorem State.refuseTim_field : FieldRefusal (s.refuseTim a w) := by unfold State.refuseTim; split <;> simp
@[simp] theorem State.refuseAon_field : FieldRefusal (s.refuseAon a w) := by unfold State.refuseAon; split <;> simp
@[simp] theorem State.refuseNrg_field : FieldRefusal (s.refuseNrg a w) := by unfold State.refuseNrg; split <;> simp
@[simp] theorem refuseFlt_field : FieldRefusal (refuseFlt h a w) := by unfold refuseFlt; split <;> simp
@[simp] theorem refuseLbe_field : FieldRefusal (refuseLbe a w) := by unfold refuseLbe; split <;> simp
@[simp] theorem State.refuseAlm_field : FieldRefusal (s.refuseAlm a w) := by unfold State.refuseAlm; split <;> simp
@[simp] theorem State.refuseOry_field : FieldRefusal (s.refuseOry a w) := by unfold State.refuseOry; dsimp only; split <;> simp

theorem State.pwrReq_error (req : Nat) (c : Byte) (he : s.pwrReq req = .error c) : c = eParam ∨ c = eState := by
  unfold State.pwrReq at he
  repeat' split at he
  all_goals simp_all

theorem State.refuseC_field : FieldRefusal (s.refuseC a w) := by
  unfold State.refuseC
  repeat' with_reducible refine FieldRefusal.cond ?_ ?_
  · split
    · exact .some (State.pwrReq_error s _ _ ‹_›)
    · exact .none
  all_goals (try split) <;> simp

theorem State.refuseN_field : FieldRefusal (s.refuseN a w) := by
  unfold State.refuseN
  repeat' with_reducible refine FieldRefusal.cond ?_ ?_
  all_goals (try split) <;> simp

/-- Every register refuses a word with E_PARAM or E_STATE. -/
theorem State.refuses_field : FieldRefusal (s.refuses h a w) := by
  cases h
  · exact State.refuseC_field a w s
  · exact State.refuseN_field a w s

end

/-! ## The bodies of the catalogue (R44) -/

section
variable (h : Hdr) (ps : List Word) (s : State)

@[simp] theorem cmdRegWrite_plain : (cmdRegWrite h ps s).Plain s := by
  unfold cmdRegWrite
  repeat' with_reducible refine .cond ?_ ?_
  all_goals (try split) <;> simp

@[simp] theorem cmdRegModify_plain : (cmdRegModify h ps s).Plain s := by
  refine arity_plain (.cond (by simp) ?_)
  split
  · rename_i c hc
    obtain rfl | rfl := State.refuses_field _ _ _ s c hc <;> simp
  · exact .ok rfl

@[simp] theorem cmdTblRead_plain : (cmdTblRead h ps s).Plain s := by
  refine arity_plain ?_
  repeat' with_reducible refine .cond ?_ ?_
  all_goals (try split) <;> simp

@[simp] theorem cmdGrpStop_plain : (cmdGrpStop h ps s).Plain s := by
  refine arity_plain ?_
  dsimp only
  split
  · simp
  · split <;> simp
  · simp

@[simp] theorem cmdIslQuery_plain : (cmdIslQuery h ps s).Plain s := by
  refine arity_plain (.cond (by simp) ?_)
  split <;> simp

@[simp] theorem cmdAlmQuery_plain : (cmdAlmQuery h ps s).Plain s := by
  refine arity_plain ?_
  dsimp only
  split <;> simp

@[simp] theorem cmdNrgSnapshot_plain : (cmdNrgSnapshot h ps s).Plain s := by
  refine arity_plain ?_
  dsimp only
  split <;> simp

@[simp] theorem cmdTimeAsym_plain : (cmdTimeAsym h ps s).Plain s := by
  refine arity_plain ?_
  dsimp only
  split <;> simp

@[simp] theorem cmdRecClear_plain : (cmdRecClear h ps s).Plain s := by
  unfold cmdRecClear
  cases s.opLocked h 0x0B05 0 <;> simp

theorem repairTile_plain : (repairTile h s).Plain s := by
  unfold repairTile
  cases s.opLocked h 0x0D04 1 <;> simp

theorem repairLane_plain : (repairLane h s).Plain s := by
  unfold repairLane
  refine .cond (by simp) (.cond (by simp) ?_)
  split <;> simp

theorem repairCore_plain : (repairCore h s).Plain s := by
  unfold repairCore
  refine .cond (by simp) (.cond (by simp) ?_)
  split <;> simp

theorem repairNucleus_plain : (repairNucleus h s).Plain s := by simp [repairNucleus]

theorem repairComa_plain : (repairComa h s).Plain s := by simp [repairComa]

/-- R40 step 10 refuses with E_LOCKED or E_BUSY. -/
theorem State.claim_ne_key (op res : Nat) (c : Byte) (hc : s.claim h op res = some c) : c ≠ eKey := by
  unfold State.claim at hc
  repeat' split at hc
  all_goals cases hc
  all_goals decide

@[simp] theorem cmdOryLeave_plain : (cmdOryLeave h ps s).Plain s := by
  refine arity_plain ?_
  split
  · exact .fail (State.claim_ne_key h s _ _ _ ‹_›)
  · simp

@[simp] theorem cmdPortCtl_plain : (cmdPortCtl h ps s).Plain s := by
  refine arity_plain ?_
  unfold portCtl
  dsimp only
  split <;> simp

@[simp] theorem cmdUpdRepair_plain : (cmdUpdRepair h ps s).Plain s := by
  refine arity_plain ?_
  split
  · exact repairTile_plain h s
  · exact (repairLane_plain h s).onOk (fun x => (x.updEvt h.half 4).updCnt h.half 0x0B0054)
  · exact repairCore_plain h s
  · exact repairNucleus_plain h s
  · exact repairComa_plain h s
  · simp

end

/-- Every opcode but KEY.CHALLENGE and UPD.DATA answers plainly: those above by their cases, and the rest, which are conditions on top of OK,
OK_PENDING and failures of the state as it was, as they stand. -/
theorem bodyOf_plain (op : Nat) (h : Hdr) (ps : List Word) (s : State) (hc : op ≠ 0x0A03) (hd : op ≠ 0x0D01) : (bodyOf op h ps s).Plain s := by
  unfold bodyOf
  split
  all_goals simp [
    cmdNop, cmdIdent, cmdStatus, cmdAttnAck, cmdRegRead, cmdTblWrite, cmdTblDiscard, cmdTblInfo, cmdGrpStart, cmdGrpQuery, cmdAfeStart,
    cmdAfeStop, cmdCicSync, cmdCicLoadcoef, cmdAfeCal, cmdLbeStart, cmdLbeStop, cmdLbeQuery, cmdAlmRelease, cmdNrgRead, cmdNrgPreset,
    cmdTimeRead, cmdTimeSelect, cmdTimeRestep, cmdRtcSet, cmdRtcRead, cmdKeyInstall, cmdKeyDerive, cmdKeyRevoke, cmdKeyStatus, cmdRecOpen,
    cmdRecRead, cmdRecClose, cmdRecFreeze, cmdRecThaw, cmdFltRead, cmdFltClear, cmdFltForce, cmdFltErrpin, cmdUpdBegin, cmdUpdVerify,
    cmdUpdSwitch, cmdOryJoin, cmdOryStatus, cmdTblCommit, State.startCommit, cmdXcvReadid, cmdXcvDiag, xcvRead] at hc hd ⊢

/-! ## The two bodies whose refusals leave something -/

/-- Putting the table set's slot out of use writes the directory. -/
theorem State.tsetInvalid_frame (s : State) : s.tsetInvalid = { s with upd := s.tsetInvalid.upd } := by
  unfold State.tsetInvalid; split <;> rfl

/-- A plain answer, or E_IMAGE with a change of the update unit alone. -/
def Res.PlainOrImage (s : State) (r : Res) : Prop := r.Plain s ∨ ∃ u n, r = .fail { s with upd := u, free := n } eImage

theorem Res.PlainOrImage.cond {s : State} {p : Prop} [Decidable p] {a b : Res} (ha : p → a.PlainOrImage s) (hb : ¬ p → b.PlainOrImage s) :
    (if p then a else b).PlainOrImage s := by
  split
  · exact ha ‹_›
  · exact hb ‹_›

theorem Res.PlainOrImage.refused {s : State} (d : Nat) (code : Byte) (hc : code ≠ eKey) : (Res.fail s code d).PlainOrImage s :=
  .inl (.fail hc)

/-- Either way E_IMAGE leaves all but the update unit. -/
theorem Res.PlainOrImage.st_of_image {s : State} {r : Res} (hr : r.PlainOrImage s) (hi : r.code = eImage) :
    ∃ u n, r.st = { s with upd := u, free := n } := by
  obtain hp | ⟨u, n, rfl⟩ := hr
  · cases hp with
    | ok h => exact absurd (h.symm.trans hi) (by decide)
    | pending h => exact absurd (h.symm.trans hi) (by decide)
    | fail h => exact ⟨s.upd, s.free, rfl⟩
    | keyUse => exact absurd hi (by simp [Res.eKeyUse, Res.fail])
  · exact ⟨u, n, rfl⟩

/-- UPD.DATA that cannot be programmed answers E_IMAGE and changes the update unit alone (R392). -/
theorem cmdUpdData_plain_or_image (h : Hdr) (ps : List Word) (s : State) : (cmdUpdData h ps s).PlainOrImage s := by
  unfold cmdUpdData
  iterate 8 refine .cond (fun _ => .refused _ _ (by decide)) fun _ => ?_
  refine .cond (fun hf => .inr ?_) fun _ => .inl (.ok rfl)
  simp only [Bool.and_eq_true, Bool.not_eq_true'] at hf
  simp only [hf.1, Bool.false_eq_true, if_false]
  rw [State.tsetInvalid_frame]
  split <;> exact ⟨_, _, rfl⟩

/-- KEY.CHALLENGE of an exhausted response count answers E_STATE and latches its event (R329). -/
theorem cmdKeyChallenge_plain_or_exhausted (h : Hdr) (ps : List Word) (s : State) :
    ((cmdKeyChallenge h ps s).Plain s ∧ (cmdKeyChallenge h ps s).code ≠ eState) ∨
      cmdKeyChallenge h ps s = .fail (s.latchC 0x058008 5) eState := by
  unfold cmdKeyChallenge arity
  dsimp only
  split
  · split
    · exact .inl ⟨.keyUse, by simp [Res.eKeyUse, Res.fail]⟩
    · split
      · exact .inr rfl
      · exact .inl ⟨.ok rfl, by simp [Res.ok]⟩
  · exact .inl ⟨.fail (by decide), by simp [Res.fail]⟩

/-! ## What a refusal leaves -/

/-- The state that a refusal of an opcode leaves, its reply aside (R40): the state as it was but for an E_IMAGE of UPD.DATA (R392), the count of
E_KEY (R333) and the event of an exhausted response count (R329). -/
def Res.left (op : Nat) (s : State) (r : Res) : State :=
  if op = 0x0D01 ∧ r.code = eImage then r.st else if r.code = eKey then s.bumpC 0x058050 1
  else if op = 0x0A03 ∧ r.code = eState then s.latchC 0x058008 5 else s

/-- A plain refusal runs nothing after its reply and leaves the state so. -/
theorem Res.Plain.left_of_refused {op : Nat} {s : State} {r : Res} (hr : r.Plain s) (hok : r.code ≠ codeOk) (hpend : r.code ≠ codePending)
    (hop : ¬ (op = 0x0A03 ∧ r.code = eState)) : r.after = id ∧ r.st = r.left op s := by
  cases hr with
  | ok h => exact absurd h hok
  | pending h => exact absurd h hpend
  | @fail code detail results h =>
    refine ⟨rfl, ?_⟩
    unfold Res.left
    rw [if_neg (show (Res.fail s code detail results).code ≠ eKey from h), if_neg hop]
    exact (ite_self s).symm
  | keyUse => exact ⟨rfl, by simp [Res.left, Res.eKeyUse, Res.fail]⟩

/-- Whatever the opcode, a refusal runs nothing after its reply and leaves that state. -/
theorem bodyOf_left (op : Nat) (h : Hdr) (ps : List Word) (s : State) (hok : (bodyOf op h ps s).code ≠ codeOk)
    (hpend : (bodyOf op h ps s).code ≠ codePending) : (bodyOf op h ps s).after = id ∧ (bodyOf op h ps s).st = (bodyOf op h ps s).left op s := by
  by_cases hc : op = 0x0A03
  · subst hc
    obtain ⟨hp, hs⟩ | he := cmdKeyChallenge_plain_or_exhausted h ps s
    · exact hp.left_of_refused hok hpend (fun hi => hs hi.2)
    · change (cmdKeyChallenge h ps s).after = id ∧ (cmdKeyChallenge h ps s).st = (cmdKeyChallenge h ps s).left 0x0A03 s
      exact he ▸ ⟨rfl, rfl⟩
  · by_cases hd : op = 0x0D01
    · subst hd
      obtain hp | ⟨u, n, he⟩ := cmdUpdData_plain_or_image h ps s
      · exact hp.left_of_refused hok hpend (fun hi => hc hi.1)
      · change (cmdUpdData h ps s).after = id ∧ (cmdUpdData h ps s).st = (cmdUpdData h ps s).left 0x0D01 s
        exact he ▸ ⟨rfl, rfl⟩
    · exact (bodyOf_plain op h ps s hc hd).left_of_refused hok hpend (fun hi => hc hi.1)

/-- Only E_IMAGE of UPD.DATA leaves another update unit, and nothing leaves other keys, always-on state, tables or command ports. -/
theorem bodyOf_left_keeps (op : Nat) (h : Hdr) (ps : List Word) (s : State) :
    let u := (bodyOf op h ps s).left op s
    u.keys = s.keys ∧ u.aon = s.aon ∧ u.tbl = s.tbl ∧ u.cmd = s.cmd ∧
      u.upd = (if op = 0x0D01 ∧ (bodyOf op h ps s).code = eImage then (bodyOf op h ps s).st.upd else s.upd) := by
  unfold Res.left
  split
  case isTrue hi =>
    obtain ⟨rfl, hi⟩ := hi
    obtain ⟨u, n, hst⟩ := (cmdUpdData_plain_or_image h ps s).st_of_image hi
    have hst' : (bodyOf 0x0D01 h ps s).st = { s with upd := u, free := n } := hst
    rw [hst']
    exact ⟨rfl, rfl, rfl, rfl, rfl⟩
  case isFalse =>
    repeat' split
    all_goals exact ⟨rfl, rfl, rfl, rfl, rfl⟩

theorem OnlyReplied.keeps {p : Nat} {u t : State} (h : OnlyReplied p u t) :
    t.keys = u.keys ∧ t.aon = u.aon ∧ t.tbl = u.tbl ∧ t.upd = u.upd := by
  rw [h.frame]
  exact ⟨rfl, rfl, rfl, rfl⟩

/-- Settles O53: what a refusal leaves is known for every opcode, and its reply changes nothing more. -/
theorem refusedCommandsChangeNothing : Obligations.RefusedCommandsChangeNothing := by
  unfold Obligations.RefusedCommandsChangeNothing
  intro op h ps s ht r hok hpend
  obtain ⟨hafter, hst⟩ := bodyOf_left op h ps s hok hpend
  obtain ⟨hkeys, haon, htbl, hcmd, hupd⟩ := bodyOf_left_keeps op h ps s
  have hport : (r.st.port? h.port).isSome = true := by
    rw [hst, State.port?_ids h.port s _ (by rw [hcmd])]
    exact takes_port op h ps s ht
  have hdone : (s.dispatch op h ps).settled = (r.st.answer h op r.code r.detail r.results).settled := by
    rw [State.dispatch, serve_taken op h ps _ s ht, hafter]; rfl
  obtain ⟨hrep, honly⟩ := answer_spec h op r.code r.detail r.results r.st hport
  rw [← hdone] at hrep honly
  rw [hst] at honly
  obtain ⟨ek, ea, et, eu⟩ := honly.keeps
  exact ⟨_, rfl, hrep, ek.trans hkeys, ea.trans haon, et.trans htbl, eu.trans hupd, honly⟩

end Sys2Proof.Machine
end

section
/-! SUPPORT. The table commands: what each body answers (R44, R46), and that a commit's effects leave the command ports alone. -/

namespace Sys2Proof.Machine

/-! ## Reading, staging, discarding, sizes -/

section
variable (h : Hdr) (id o n : Word) (s : State)

/-- A read of the active bank, or of the channel map, of words that lie in the table. -/
theorem cmdTblRead_active (hcap : tblCap (bits id 31 24) ≠ 0) (hb : bit id 16 = false) (h0 : 0 < n.toNat) (h256 : n.toNat ≤ 256)
    (hend : o.toNat + n.toNat ≤ tblCap (bits id 31 24)) :
    cmdTblRead h [id, o, n] s = .ok s ((List.range n.toNat).map (fun k =>
      if bits id 31 24 = 5 then s.chanMap (o.toNat + k) else s.tblW (bits id 31 24) (o.toNat + k))) := by
  have ho : ¬ tblCap (bits id 31 24) ≤ o.toNat := by omega
  have hn : ¬ (n.toNat = 0 ∨ 256 < n.toNat ∨ tblCap (bits id 31 24) < o.toNat + n.toNat) := by omega
  simp [cmdTblRead, arity, par, nth, hcap, hb, ho, hn]

/-- A read of a bank that the port stages, of words that lie in the table. -/
theorem cmdTblRead_staged (m : WMap) (hcap : tblCap (bits id 31 24) ≠ 0) (h5 : bits id 31 24 ≠ 5) (hb : bit id 16 = true) (h0 : 0 < n.toNat)
    (h256 : n.toNat ≤ 256) (hend : o.toNat + n.toNat ≤ tblCap (bits id 31 24)) (hst : (s.bank (bits id 31 24)).staging = some m)
    (hh : (s.bank (bits id 31 24)).holder = some h.port) :
    cmdTblRead h [id, o, n] s = .ok s ((List.range n.toNat).map (fun k => tblBank m (o.toNat + k))) := by
  have ho : ¬ tblCap (bits id 31 24) ≤ o.toNat := by omega
  have hn : ¬ (n.toNat = 0 ∨ 256 < n.toNat ∨ tblCap (bits id 31 24) < o.toNat + n.toNat) := by omega
  simp [cmdTblRead, arity, par, nth, hcap, h5, hb, ho, hn, hst, hh]

/-- A write of words that lie in a table that no other port holds and no commit waits for. -/
theorem cmdTblWrite_free (ws : List Word) (hws : ws ≠ []) (hcap : tblCap (bits id 31 24) ≠ 0) (h5 : bits id 31 24 ≠ 5)
    (hend : o.toNat + ws.length ≤ tblCap (bits id 31 24))
    (hh : (s.bank (bits id 31 24)).holder = none ∨ (s.bank (bits id 31 24)).holder = some h.port)
    (hp : (s.bank (bits id 31 24)).pendingCommit = false) (h2 : bits id 31 24 = 2 → s.tbl.oldTopo = none) :
    cmdTblWrite h (id :: o :: ws) s = .ok (s.mapBank (bits id 31 24) (fun t =>
      { t with staging := some (bankWrite (t.staging.getD t.active) o.toNat ws), holder := some h.port })) := by
  have hlen : 0 < ws.length := List.length_pos_iff.mpr hws
  have ho : ¬ tblCap (bits id 31 24) ≤ o.toNat := by omega
  have hn : ¬ tblCap (bits id 31 24) < o.toNat + ws.length := by omega
  have hlock : ¬ ((s.bank (bits id 31 24)).holder.isSome = true ∧ (s.bank (bits id 31 24)).holder ≠ some h.port) := by
    obtain e | e := hh <;> simp [e]
  have hbusy : ¬ (bits id 31 24 = 2 ∧ s.tbl.oldTopo.isSome = true) := fun ⟨e, ho⟩ => by rw [h2 e] at ho; exact absurd ho (by decide)
  have h3 : ¬ (ws.length + 1 + 1 < 3) := by omega
  simp only [cmdTblWrite, par, nth, List.getD_cons_zero, List.getD_cons_succ, List.length_cons, List.drop_succ_cons, List.drop_zero, if_neg h3,
    hcap, h5, or_self, if_false, if_neg ho, if_neg hn, if_neg hlock, hp, Bool.false_eq_true, false_or, if_neg hbusy]

theorem cmdTblDiscard_held (hff : bits id 31 24 ≠ 0xFF) (hcap : tblCap (bits id 31 24) ≠ 0) (h5 : bits id 31 24 ≠ 5)
    (hh : (s.bank (bits id 31 24)).holder = some h.port) (hp : (s.bank (bits id 31 24)).pendingCommit = false) :
    cmdTblDiscard h [id] s = .ok (s.mapBank (bits id 31 24) (fun t => { t with staging := none, holder := none })) := by
  simp [cmdTblDiscard, arity, par, nth, hff, hcap, h5, hh, hp]

theorem cmdTblInfo_stored (hcap : tblCap (bits id 31 24) ≠ 0) (h5 : bits id 31 24 ≠ 5) :
    cmdTblInfo h [id] s = .ok s [w32 (tblCap (bits id 31 24)), w32 (tblCap (bits id 31 24)),
      w32 (2 ^ 24 * (s.bank (bits id 31 24)).holder.getD 0xFF + b2n (s.bank (bits id 31 24)).pendingCommit)] := by
  simp [cmdTblInfo, arity, par, nth, hcap, h5]

theorem cmdTblDiscard_all (hff : bits id 31 24 = 0xFF) :
    let go := (s.heldTables h.port).filter (fun i => !(s.bank i).pendingCommit)
    cmdTblDiscard h [id] s = .ok (go.foldl (fun (x : State) i => x.mapBank i (fun t => { t with staging := none, holder := none })) s) []
      (if go.length < (s.heldTables h.port).length then 1 else 0) := by
  intro go
  by_cases hg : go.length < (s.heldTables h.port).length <;> simp [cmdTblDiscard, arity, par, nth, hff, hg, go, b2n]
end

/-! ## Commits -/

/-- The state that waits for a boundary with an accepted commit of some tables (R46). -/
def State.withCommit (h : Hdr) (ids : List Nat) (s : State) : State :=
  let v := ids.foldl (fun (x : State) i => x.mapBank i (fun t => { t with pendingCommit := true })) (s.addOp h 0x0202 (nth 0 ids 0))
  { v with tbl := { v.tbl with
      commits := v.tbl.commits ++ [{ port := h.port, tables := ids, res := nth 0 ids 0, released := false, gone := false }] } }

/-- A commit that is not busy is pending, and acts at once where nothing waits for a boundary. -/
theorem State.startCommit_pending (h : Hdr) (ids : List Nat) (s : State) (hb : s.opBusy h 0x0202 (nth 0 ids 0) = false) :
    s.startCommit h ids = .pending (s.withCommit h ids).idleCommits := by
  simp only [State.startCommit, hb, Bool.false_eq_true, if_false]
  rfl

/-- Changing banks changes the banks alone. -/
theorem State.mapBanks_frame (f : Tbl → Tbl) (ids : List Nat) : ∀ s : State,
    ids.foldl (fun (x : State) i => x.mapBank i f) s =
      { s with tbl := { s.tbl with tbl := (ids.foldl (fun (x : State) i => x.mapBank i f) s).tbl.tbl } } := by
  induction ids with
  | nil => intro s; rfl
  | cons i r ih => intro s; rw [List.foldl_cons, ih]; rfl

theorem State.withCommit_frame (h : Hdr) (ids : List Nat) (s : State) :
    s.withCommit h ids = { s with
      cmd := (s.addOp h 0x0202 (nth 0 ids 0)).cmd
      tbl := { s.tbl with
        tbl := (s.withCommit h ids).tbl.tbl
        commits := s.tbl.commits ++ [{ port := h.port, tables := ids, res := nth 0 ids 0, released := false, gone := false }] } } := by
  unfold State.withCommit
  rw [State.mapBanks_frame]
  rfl

/-- A commit changes no group and no time. -/
theorem State.withCommit_runsAt (h : Hdr) (ids : List Nat) (g : Nat) (s : State) :
    (s.withCommit h ids).runsAt g (s.withCommit h ids).follower = s.runsAt g s.follower := by
  rw [State.withCommit_frame]; rfl

/-- While a group runs, what waits for a common boundary goes on waiting. -/
theorem State.idleCommits_running (g : Nat) (s : State) (hg : g < 8) (hr : s.runsAt g s.follower = true) : s.idleCommits = s := by
  have ha : (List.range 8).any (fun g => s.runsAt g s.follower) = true := List.any_eq_true.mpr ⟨g, List.mem_range.mpr hg, hr⟩
  rw [State.idleCommits, ha]; rfl

/-- With no group running every instant is a common boundary. -/
theorem State.idleCommits_idle (s : State) (hr : ∀ g, g < 8 → s.runsAt g s.follower = false) :
    s.idleCommits = State.oneCycle (fun x => (s.tbl.commits.foldl (fun (x : State) k => x.applyCommit k) x).rulesDue)
      { s with tbl := { s.tbl with commits := [] } } := by
  have hn : ∀ g ∈ List.range 8, s.runsAt g s.follower = false := fun g hg => hr g (List.mem_range.mp hg)
  have ha : (List.range 8).any (fun g => s.runsAt g s.follower) = false := by
    rw [Bool.eq_false_iff, ne_eq, List.any_eq_true]
    rintro ⟨g, hg, h⟩
    rw [hn g hg] at h; exact absurd h (by decide)
  have hc : s.common s.follower = true := by
    unfold State.common
    exact List.all_eq_true.mpr fun g hg => by rw [hn g hg]; rfl
  rw [State.idleCommits, ha, State.commitsDue, hc]
  rfl

/-- A port with an operation to spare has fewer than 32 pending. -/
theorem State.opsOf_of_not_busy (h : Hdr) (op res : Nat) (s : State) (hb : s.opBusy h op res = false) : s.opsOf h.port < 32 := by
  simp only [State.opBusy, Bool.or_eq_false_iff, decide_eq_false_iff_not] at hb
  omega

theorem cmdTblCommit_held (h : Hdr) (id : Word) (s : State) (hff : bits id 31 24 ≠ 0xFF) (hcap : tblCap (bits id 31 24) ≠ 0)
    (h5 : bits id 31 24 ≠ 5) (hh : (s.bank (bits id 31 24)).holder = some h.port) (hp : (s.bank (bits id 31 24)).pendingCommit = false)
    (hb : s.opBusy h 0x0202 (bits id 31 24) = false) : cmdTblCommit h [id] s = .pending (s.withCommit h [bits id 31 24]).idleCommits := by
  have ho : ¬ 32 ≤ s.opsOf h.port := Nat.not_le.mpr (State.opsOf_of_not_busy h _ _ s hb)
  rw [← State.startCommit_pending h [bits id 31 24] s hb]
  simp [cmdTblCommit, arity, par, nth, hff, hcap, h5, hh, hp, ho]

theorem cmdTblCommit_all (h : Hdr) (id : Word) (k : Nat) (r : List Nat) (s : State) (hff : bits id 31 24 = 0xFF)
    (hk : s.heldTables h.port = k :: r) (hp : ∀ i ∈ k :: r, (s.bank i).pendingCommit = false) (hb : s.opBusy h 0x0202 k = false) :
    cmdTblCommit h [id] s = .pending (s.withCommit h (k :: r)).idleCommits := by
  have ho : ¬ 32 ≤ s.opsOf h.port := Nat.not_le.mpr (State.opsOf_of_not_busy h _ _ s hb)
  have ha : (k :: r).any (fun i => (s.bank i).pendingCommit) = false := by
    rw [Bool.eq_false_iff, ne_eq, List.any_eq_true]
    rintro ⟨i, hi, h⟩
    rw [hp i hi] at h; exact absurd h (by decide)
  rw [← State.startCommit_pending h (k :: r) s hb]
  simp only [cmdTblCommit, arity, par, nth, List.getD_cons_zero, List.length_cons, List.length_nil, if_true, hff, hk, ha, ho, decide_false,
    Bool.or_self, Bool.false_eq_true, if_false, List.isEmpty_cons]

theorem cmdTblCommit_none (h : Hdr) (id : Word) (s : State) (hff : bits id 31 24 = 0xFF) (hk : s.heldTables h.port = [])
    (ho : s.opsOf h.port < 32) : cmdTblCommit h [id] s = .fail s eState := by
  have ho' : ¬ 32 ≤ s.opsOf h.port := Nat.not_le.mpr ho
  simp [cmdTblCommit, arity, par, nth, hff, hk, ho']

/-! ## What a commit does leaves the command ports alone -/

@[simp] theorem State.countCfg_cmd (h : Half) (b p : Nat) (s : State) : (s.countCfg h b p).cmd = s.cmd := by rw [State.countCfg_frame]
@[simp] theorem State.putConj_cmd (g : Nat) (c : Conj) (s : State) : (s.putConj g c).cmd = s.cmd := rfl

@[simp] theorem State.clearWatches_ports (l : List Nat) (s : State) : (s.clearWatches l).cmd.portIds = s.cmd.portIds := by
  unfold State.clearWatches
  rw [State.changes_ports, ports_foldl _ (by intros; rfl)]

@[simp] theorem State.clearRules_ports (l : List Nat) (s : State) : (s.clearRules l).cmd.portIds = s.cmd.portIds := by
  unfold State.clearRules
  rw [State.changes_ports, ports_foldl _ (by intros; rfl)]

@[simp] theorem State.setSuspect_ports (i : Nat) (on : Bool) (s : State) : (s.setSuspect i on).cmd.portIds = s.cmd.portIds := by
  unfold State.setSuspect
  dsimp only
  split
  · rfl
  · rw [State.offerState_ports]; split <;> rfl

@[simp] theorem State.setBreach_ports (p : Nat) (on tc : Bool) (k : Nat) (s : State) : (s.setBreach p on tc k).cmd.portIds = s.cmd.portIds := by
  unfold State.setBreach
  extract_lets src of x s1 s2 s3 s4
  have e3 : s3.cmd.portIds = s.cmd.portIds := by
    simp only [s3, s2]
    repeat' split
    all_goals rfl
  have e4 : s4.cmd.portIds = s.cmd.portIds := (State.offerState_ports _ _ _ _ _ _ _ _).trans e3
  split
  · rw [State.setSuspect_ports, e4]
  · exact e4

@[simp] theorem State.displace_cmd (g k i : Nat) (s : State) : (s.displace g k i).cmd = s.cmd := by
  unfold State.displace
  repeat' split
  all_goals rfl

@[simp] theorem State.bar_cmd (g k i : Nat) (s : State) : (s.bar g k i).cmd = s.cmd := by
  unfold State.bar
  dsimp only
  repeat' split
  all_goals simp

@[simp] theorem State.removeSource_cmd (old : WMap) (i : Nat) (s : State) : (s.removeSource old i).cmd = s.cmd := by
  unfold State.removeSource; split <;> rfl

/-- A changed source leaves every open conjunction. -/
theorem State.barAll_ports (i : Nat) (l : List Nat) (s : State) :
    (l.foldl (fun (s : State) g => ((s.grp g).conjs.map Conj.key).foldl (fun s k => s.bar g k i) s) s).cmd.portIds = s.cmd.portIds :=
  ports_foldl _ (fun s g => ports_foldl _ (fun s k => congrArg Cmd.portIds (State.bar_cmd g k i s)) _ s) _ s

@[simp] theorem State.changeSource_ports (i : Nat) (s : State) : (s.changeSource i).cmd.portIds = s.cmd.portIds := by
  unfold State.changeSource
  extract_lets s1 drop q x s2
  have e1 : s1.cmd.portIds = s.cmd.portIds := State.barAll_ports i _ s
  clear_value s1
  have e2 : s2.cmd = s1.cmd := rfl
  split
  · rw [State.bump_cmd, e2, e1]
  · rw [e2, e1]

@[simp] theorem State.phxSync_ports (s : State) : s.phxSync.cmd.portIds = s.cmd.portIds := by
  unfold State.phxSync
  exact ports_foldl _ (fun s i => by split <;> rfl) _ _

@[simp] theorem State.commitSources_ports (old new : WMap) (s : State) : (s.commitSources old new).cmd.portIds = s.cmd.portIds := by
  unfold State.commitSources
  dsimp only
  rw [State.phxSync_ports, ports_foldl _ (by intros; rfl), ports_foldl _ (fun s i => State.changeSource_ports i s), ports_foldl _ (by intros; rfl),
    ports_foldl _ (fun s i => by rw [State.removeSource_cmd])]

@[simp] theorem State.beforeCommit_ports (id : Nat) (old new : WMap) (s : State) : (s.beforeCommit id old new).cmd.portIds = s.cmd.portIds := by
  unfold State.beforeCommit
  split
  · simp
  · simp
  · refine ports_foldl _ (fun s p => ?_) _ s
    dsimp only
    split
    · exact State.setBreach_ports _ _ _ _ s
    · rfl
  · rfl

@[simp] theorem State.afterCommit_ports (id : Nat) (old new : WMap) (s : State) : (s.afterCommit id old new).cmd.portIds = s.cmd.portIds := by
  unfold State.afterCommit
  split
  · simp
  · rfl
  · exact ports_foldl _ (fun s c => State.gooseNew_ports true c s) _ s
  · exact ports_foldl _ (by intros; rfl) _ s
  · rfl

@[simp] theorem State.adopt_ports (ids : List Nat) (v : View) (s : State) : (s.adopt ids v).cmd.portIds = s.cmd.portIds := by
  unfold State.adopt
  dsimp only
  rw [ports_foldl _ (fun s i => State.afterCommit_ports i _ _ s), ports_foldl _ (by intros; rfl),
    ports_foldl _ (fun s i => State.beforeCommit_ports i _ _ s)]

@[simp] theorem State.commitEnds_ports (k : Commit) (c : Byte) (s : State) : (s.commitEnds k c).cmd.portIds = s.cmd.portIds := by
  unfold State.commitEnds; split
  · rfl
  · exact State.complete_ports _ _ _

@[simp] theorem State.applyCommit_ports (k : Commit) (s : State) : (s.applyCommit k).cmd.portIds = s.cmd.portIds := by
  unfold State.applyCommit
  dsimp only
  split
  · rw [State.commitEnds_ports, ports_foldl _ (fun s i => by rw [State.countCfg_cmd]), State.adopt_ports]
  · rw [State.commitEnds_ports, ports_foldl _ (by intros; rfl)]

@[simp] theorem State.rulesDue_ports (s : State) : s.rulesDue.cmd.portIds = s.cmd.portIds := by
  unfold State.rulesDue
  split
  · rfl
  · exact State.clearRules_ports _ _

theorem State.oneCycle_ports (f : State → State) (hf : ∀ s, (f s).cmd.portIds = s.cmd.portIds) (s : State) :
    (s.oneCycle f).cmd.portIds = s.cmd.portIds := by
  unfold State.oneCycle
  dsimp only
  rw [ports_foldl _ (fun s c => State.gooseMake_ports _ _ c s)]
  exact (State.applyChanges_ports _ _).trans (hf _)

theorem State.commitsDue_ports (t : Nat) (s : State) : (s.commitsDue t).cmd.portIds = s.cmd.portIds := by
  unfold State.commitsDue
  split
  · exact State.oneCycle_ports _ (fun s => by rw [State.rulesDue_ports, ports_foldl _ (fun s k => State.applyCommit_ports k s)]) _
  · rfl

@[simp] theorem State.idleCommits_ports (s : State) : s.idleCommits.cmd.portIds = s.cmd.portIds := by
  unfold State.idleCommits
  split
  · rfl
  · exact State.commitsDue_ports _ s

/-! ## The table commands -/

theorem takes_port_of_ids {op : Nat} {h : Hdr} {ps : List Word} {s u : State} (ht : s.takes op h ps = true)
    (hu : u.cmd.portIds = s.cmd.portIds) : (u.port? h.port).isSome = true := by
  rw [State.port?_ids h.port s u hu]; exact takes_port op h ps s ht

theorem State.withCommit_ports (h : Hdr) (ids : List Nat) (s : State) : (s.withCommit h ids).cmd.portIds = s.cmd.portIds := by
  rw [State.withCommit_frame]; rfl

/-- An accepted commit's reply comes after what it does at once. -/
theorem tblCommit_pends (h : Hdr) (id : Word) (ids : List Nat) (s u : State) (ht : s.takes 0x0202 h [id] = true)
    (hc : cmdTblCommit h [id] s = .pending (s.withCommit h ids).idleCommits) (hu : (s.withCommit h ids).idleCommits = u) :
    Defers (.tblCommit h [id]) h 0x0202 [] s u := by
  subst hu
  exact ⟨_, rfl, serve_pending 0x0202 h _ [] cmdTblCommit s _ ht hc
    (takes_port_of_ids ht ((State.idleCommits_ports _).trans (State.withCommit_ports h ids s)))⟩

/-- Settles O7: each command by its body's answer; an accepted commit waits or acts by whether a group runs. -/
theorem tableCommandsComplete : Obligations.TableCommandsComplete := by
  unfold Obligations.TableCommandsComplete
  refine ⟨?readActive, ?readStaged, ?readMap, ?write, ?discard, ?info, ?commitWaits, ?commitIdle, ?commitAll, ?commitNone, ?discardAll⟩
  case readActive =>
    intro h id o n s ht hcap h5 hb h0 h256 hend
    have e := cmdTblRead_active h id o n s hcap hb h0 h256 hend
    simp only [h5, if_false] at e
    exact ⟨_, rfl, serve_ok 0x0200 0 h _ _ cmdTblRead s s ht e (takes_port _ h _ s ht)⟩
  case readStaged =>
    intro h id o n m s ht hcap h5 hb h0 h256 hend hst hh
    exact ⟨_, rfl, serve_ok 0x0200 0 h _ _ cmdTblRead s s ht (cmdTblRead_staged h id o n s m hcap h5 hb h0 h256 hend hst hh)
      (takes_port _ h _ s ht)⟩
  case readMap =>
    intro h id o n s ht h5 hb h0 h256 hend
    have e := cmdTblRead_active h id o n s (by rw [h5]; decide) hb h0 h256 (by rw [h5]; exact hend)
    simp only [h5, if_true] at e
    exact ⟨_, rfl, serve_ok 0x0200 0 h _ _ cmdTblRead s s ht e (takes_port _ h _ s ht)⟩
  case write =>
    intro h id o ws s ht hws hcap h5 hend hh hp h2
    exact ⟨_, rfl, serve_ok 0x0201 0 h _ _ cmdTblWrite s _ ht (cmdTblWrite_free h id o s ws hws hcap h5 hend hh hp h2) (takes_port_of_ids ht rfl)⟩
  case discard =>
    intro h id s ht hff hcap h5 hh hp
    exact ⟨_, rfl, serve_ok 0x0203 0 h _ _ cmdTblDiscard s _ ht (cmdTblDiscard_held h id s hff hcap h5 hh hp) (takes_port_of_ids ht rfl)⟩
  case info =>
    intro h id s ht hcap h5
    exact ⟨_, rfl, serve_ok 0x0204 0 h _ _ cmdTblInfo s s ht (cmdTblInfo_stored h id s hcap h5) (takes_port _ h _ s ht)⟩
  case commitWaits =>
    intro h id g s ht hff hcap h5 hh hp hb hg hr
    exact tblCommit_pends h id _ s _ ht (cmdTblCommit_held h id s hff hcap h5 hh hp hb)
      (State.idleCommits_running g _ hg (by rw [State.withCommit_runsAt]; exact hr))
  case commitIdle =>
    intro h id s ht hff hcap h5 hh hp hb hr
    exact tblCommit_pends h id _ s _ ht (cmdTblCommit_held h id s hff hcap h5 hh hp hb)
      (State.idleCommits_idle _ (fun g hg => by rw [State.withCommit_runsAt]; exact hr g hg))
  case commitAll =>
    intro h id k r g s ht hff hk hp hb hg hr v
    have hw : s.withCommit h (k :: r) = { v with tbl := { v.tbl with
        commits := s.tbl.commits ++ [{ port := h.port, tables := k :: r, res := k, released := false, gone := false }] } } := by
      have hv : v.tbl.commits = s.tbl.commits := by simp only [v]; rw [State.mapBanks_frame]; rfl
      rw [← hv]; rfl
    exact tblCommit_pends h id _ s _ ht (cmdTblCommit_all h id k r s hff hk hp hb)
      ((State.idleCommits_running g _ hg (by rw [State.withCommit_runsAt]; exact hr)).trans hw)
  case commitNone =>
    intro h id s ht hff hk ho
    exact ⟨_, rfl, serve_fail 0x0202 eState 0 h _ cmdTblCommit s ht (cmdTblCommit_none h id s hff hk ho)⟩
  case discardAll =>
    intro h id s ht hff go
    exact ⟨_, rfl, serve_ok 0x0203 _ h _ _ cmdTblDiscard s _ ht (cmdTblDiscard_all h id s hff)
      (takes_port_of_ids ht (ports_foldl _ (by intros; rfl) _ s))⟩

end Sys2Proof.Machine
end

section
/-! SUPPORT. The Host Serial Port: write transactions by the checks and the sequence of the packet (R38, R40, R50), read transactions by the
oldest entry (R51), and what RESYNC and the idle release let go (R38, R39). -/

namespace Sys2Proof.Machine

/-! ## A packet's checks (R40 steps 1 to 3) -/

/-- Step 1: the sync word and the version. -/
theorem pktCheck_sync (n : Nat) (bs : List Byte) (h3 : 3 ≤ bs.length) (h : ¬ (fieldAt 0 2 bs = 0x0D1E ∧ (nth 0 bs 2).toNat / 16 = 1)) :
    pktCheck n bs = some eSync := by
  refine if_pos ?_
  by_cases hw : fieldAt 0 2 bs = 0x0D1E
  · exact .inr (.inr ⟨h3, fun hv => h ⟨hw, hv⟩⟩)
  · exact .inl hw

section
variable (n : Nat) (bs : List Byte) (h3 : 3 ≤ bs.length) (hs : fieldAt 0 2 bs = 0x0D1E ∧ (nth 0 bs 2).toNat / 16 = 1)
include h3 hs

/-- A packet that passes step 1. -/
theorem pktCheck_synced : pktCheck n bs =
    if bs.length < 8 ∨ bs.length ≠ 16 + 4 * pktLen bs ∨ n < pktLen bs then some eLength
    else if fieldAt (bs.length - 4) 4 bs ≠ (crc32c (bs.take (bs.length - 4))).toNat then some eCrc
    else none := by
  refine if_neg ?_
  rintro (hw | hl | ⟨-, hv⟩)
  · exact hw hs.1
  · omega
  · exact hv hs.2

/-- Step 2: the length. -/
theorem pktCheck_length (hf : ¬ (8 ≤ bs.length ∧ bs.length = 16 + 4 * pktLen bs ∧ pktLen bs ≤ n)) : pktCheck n bs = some eLength := by
  rw [pktCheck_synced n bs h3 hs]
  exact if_pos (by omega)

/-- Step 3: the CRC. -/
theorem pktCheck_crc (hf : 8 ≤ bs.length ∧ bs.length = 16 + 4 * pktLen bs ∧ pktLen bs ≤ n)
    (hc : fieldAt (bs.length - 4) 4 bs ≠ (crc32c (bs.take (bs.length - 4))).toNat) : pktCheck n bs = some eCrc := by
  rw [pktCheck_synced n bs h3 hs, if_neg (by omega), if_pos hc]
end

/-- A packet that passes the checks is whole. -/
theorem length_of_pktCheck (n : Nat) (bs : List Byte) (h : pktCheck n bs = none) : 2 ≤ bs.length := by
  by_contra hl
  have hs : pktCheck n bs = some eSync := if_pos (.inr (.inl (by omega)))
  rw [hs] at h; cases h

/-! ## A packet over the HSP (R38, R50) -/

theorem State.comaUp_of_hspRdy (s : State) (h : s.hspRdy = true) : s.comaUp = true := by
  simp only [State.hspRdy, State.accepts, Bool.and_eq_true] at h
  exact h.1.1.1

/-- The port found under a number has it. -/
theorem State.port?_id (p : Nat) (c : CmdPort) (s : State) (h : s.port? p = some c) : c.id = p := by
  have := List.find?_some h
  simpa using this

/-- A packet that no command executes for is answered to port 0, whether or not it is allocated. -/
theorem State.reject_hsp (bs : List Byte) (code : Byte) (d : Nat) (s : State) :
    s.reject .hsp bs code d = s.sendReply (s.buildReply (pktHdr 0 bs) (pktOp bs) code d []) 0 := by
  unfold State.reject State.portOf
  cases hc : s.port? 0 with
  | none => rfl
  | some c => simp [s.port?_id 0 c hc]

section
variable (bs : List Byte) (c : CmdPort) (s : State) (hc : s.port? 0 = some c)
include hc

theorem State.sequenced_hsp_next (hr : (nth 0 bs 2).getLsbD 1 = false) (hq : (pktHdr c.id bs).seq = s.expectedSeq c) :
    s.sequenced .hsp bs = s.dispatch (pktOp bs) (pktHdr c.id bs) (pktParams bs) := by
  have hr' : (pktHdr 0 bs).resync = false := hr
  simp [State.sequenced, State.portOf, hc, hr', hq]

theorem State.sequenced_hsp_resync (hr : (nth 0 bs 2).getLsbD 1 = true) :
    s.sequenced .hsp bs = (s.resync 0).dispatch (pktOp bs) (pktHdr 0 bs) (pktParams bs) := by
  have hr' : (pktHdr 0 bs).resync = true := hr
  simp [State.sequenced, State.portOf, hc, hr', s.port?_id 0 c hc]

section
variable (hr : (nth 0 bs 2).getLsbD 1 = false) (hw : ∀ k ∈ s.cmd.waiting, k.hdr.port ≠ 0) (hq : (pktHdr 0 bs).seq ≠ c.expected)
include hr hw hq

omit hr in
/-- With no packet of the port waiting, the expected number is the stored one. -/
theorem State.expectedSeq_idle : (s.cmd.waiting.filter (fun k => k.hdr.port == c.id)) = [] ∧ ¬ (pktHdr c.id bs).seq = s.expectedSeq c := by
  have hf : s.cmd.waiting.filter (fun k => k.hdr.port == c.id) = [] := by
    rw [List.filter_eq_nil_iff, s.port?_id 0 c hc]
    intro k hk
    simpa using hw k hk
  refine ⟨hf, ?_⟩
  rw [State.expectedSeq, hf]
  exact hq

/-- The last number again: the stored reply with the attention fields of the moment. -/
theorem State.sequenced_hsp_repeat (r : Reply) (hl : c.last = some r) (hrs : r.seq = (pktHdr 0 bs).seq) :
    s.sequenced .hsp bs = s.sendReply { r with level := s.attn.level, summary := s.attn.bits, gen := s.attn.gen } 0 := by
  have hr' : (pktHdr 0 bs).resync = false := hr
  obtain ⟨hf, he⟩ := State.expectedSeq_idle bs c s hc hw hq
  rw [s.port?_id 0 c hc] at hf he
  simp [State.sequenced, State.portOf, hc, hr', s.port?_id 0 c hc, he, hf, hl, hrs]

/-- Any other number. -/
theorem State.sequenced_hsp_other (hn : ∀ r, c.last = some r → r.seq ≠ (pktHdr 0 bs).seq) :
    s.sequenced .hsp bs = s.sendReply (s.buildReply (pktHdr 0 bs) (pktOp bs) eSeq 0 []) 0 := by
  have hr' : (pktHdr 0 bs).resync = false := hr
  obtain ⟨hf, he⟩ := State.expectedSeq_idle bs c s hc hw hq
  rw [s.port?_id 0 c hc] at hf he
  rw [← State.reject_hsp]
  cases hl : c.last with
  | none => simp [State.sequenced, State.portOf, hc, hr', s.port?_id 0 c hc, he, hf, hl]
  | some r => simp [State.sequenced, State.portOf, hc, hr', s.port?_id 0 c hc, he, hf, hl, hn r hl]
end
end

/-! ## A write transaction (R50) -/

section
variable (bs : List Byte) (s : State) (hr : s.hspRdy = true)
include hr

/-- A write transaction of two bytes or more that the port takes is counted, and its packet comes in. -/
theorem hspWrite_does (hl : 2 ≤ bs.length) (u : State)
    (hu : (s.bumpC 0x0B0040 1).packetIn .hsp 1020 (fun s => s.bumpC 0x0B006C 1) bs = u) : Does (.hspWriteTransaction bs) s u := by
  refine does_of_coma _ (doHspWrite bs) s u rfl (s.comaUp_of_hspRdy hr) ?_
  rw [← hu, doHspWrite, hr, if_neg (by decide), if_neg (by omega)]

/-- A packet that fails a check is answered with the check's code. -/
theorem hspWrite_rejects (hl : 2 ≤ bs.length) (code : Byte) (hc : pktCheck 1020 bs = some code) : Does (.hspWriteTransaction bs) s
    ((s.bumpC 0x0B0040 1).sendReply ((s.bumpC 0x0B0040 1).buildReply (pktHdr 0 bs) (pktOp bs) code 0 []) 0) := by
  refine hspWrite_does bs s hr hl _ ?_
  rw [State.packetIn, hc, ← State.reject_hsp]

/-- A packet that passes them with REP clear is taken in its sequence. -/
theorem hspWrite_sequences (hc : pktCheck 1020 bs = none) (hrep : (nth 0 bs 2).getLsbD 2 = false) (u : State)
    (hu : (s.bumpC 0x0B0040 1).sequenced .hsp bs = u) : Does (.hspWriteTransaction bs) s u := by
  refine hspWrite_does bs s hr (length_of_pktCheck _ bs hc) u ?_
  rw [← hu, State.packetIn, hc, hrep]
  rfl
end

theorem State.discardTx_counts (a i : Nat) (s : State) (h : s.cmd.discards ≠ 16) :
    s.discardTx a i = (State.bumpC a 1 { s with cmd := { s.cmd with discards := s.cmd.discards + 1 } }).latchC 0x0B0008 i := by
  simp [State.discardTx, h]

/-! ## A read transaction (R51) -/

section
variable (n : Nat) (c : CmdPort) (s : State) (hc : s.port? 0 = some c)
include hc

theorem doHspRead_item (r : Reply) (k : Nat) (hh : c.q.head = some (.item r k)) :
    let out := 0x5A :: r.bytes false
    let u := State.bumpC 0x0B0044 1 { s with cmd := { s.cmd with hspOut := (out ++ List.replicate (n - out.length) 0).take n } }
    (out.length ≤ n → doHspRead n s = (u.mapPort 0 (fun c => { c with q := c.q.pop })).bumpC 0x0B0048 1) ∧
    (n < out.length → doHspRead n s = (u.bumpC 0x0B005C 1).latchC 0x0B0008 5) := by
  intro out u
  have ho : s.hspHead = out := by simp [State.hspHead, hc, hh, out]
  refine ⟨fun hn => ?_, fun hn => ?_⟩
  · simp [doHspRead, ho, hc, hh, hn, u]
  · simp [doHspRead, ho, hc, hh, Nat.not_le.mpr hn, u]

theorem doHspRead_gap (k : Nat) (hh : c.q.head = some (.gap k)) :
    let out : List Byte := 0x6A :: beBytes 2 k
    let u := State.bumpC 0x0B0044 1 { s with cmd := { s.cmd with hspOut := (out ++ List.replicate (n - out.length) 0).take n } }
    (3 ≤ n → doHspRead n s = (u.mapPort 0 (fun c => { c with q := c.q.pop })).bumpC 0x0B0050 1) ∧ (n < 3 → doHspRead n s = u) := by
  intro out u
  have ho : s.hspHead = out := by simp [State.hspHead, hc, hh, out]
  have h3 : out.length = 3 := by simp [out, beBytes_length]
  refine ⟨fun hn => ?_, fun hn => ?_⟩
  · simp [doHspRead, ho, hc, hh, h3, hn, u]
  · simp [doHspRead, ho, hc, hh, h3, Nat.not_le.mpr hn, u]

theorem doHspRead_flush (hh : c.q.head = some .flush) (hn : 1 ≤ n) :
    doHspRead n s = (((State.bumpC 0x0B0044 1 { s with cmd := { s.cmd with hspOut := 0x3C :: List.replicate (n - 1) 0 } }).mapPort 0
      (fun c => { c with q := c.q.pop })).bumpC 0x0B0058 1) := by
  have ho : s.hspHead = [0x3C] := by simp [State.hspHead, hc, hh]
  have ht : ([0x3C] ++ List.replicate (n - 1) (0 : Byte)).take n = 0x3C :: List.replicate (n - 1) 0 :=
    List.take_of_length_le (by simp; omega)
  simp only [doHspRead, ho, hc, hh, List.length_singleton, ht, hn, decide_true, if_true, Option.bind_some]

theorem doHspRead_empty (hh : c.q.head = none) (hn : 1 ≤ n) :
    doHspRead n s = (State.bumpC 0x0B0044 1 { s with cmd := { s.cmd with hspOut := 0xE0 :: List.replicate (n - 1) 0 } }).bumpC 0x0B004C 1 := by
  have ho : s.hspHead = [0xE0] := by simp [State.hspHead, hc, hh]
  have ht : ([0xE0] ++ List.replicate (n - 1) (0 : Byte)).take n = 0xE0 :: List.replicate (n - 1) 0 :=
    List.take_of_length_le (by simp; omega)
  simp only [doHspRead, ho, hc, hh, List.length_singleton, ht, Option.bind_some]
end

/-! ## What a port lets go (R38, R39) -/

/-- Completing operations changes the records and operations of the ports, and the attention fields. -/
theorem State.recordOps_frame (l : List (PendOp × Byte)) (s : State) :
    s.recordOps l = { s with cmd := { s.cmd with recs := (s.recordOps l).cmd.recs }, attn := (s.recordOps l).attn } := by
  unfold State.recordOps; split <;> rfl

theorem State.complete_frame (f : PendOp → Bool) (code : Byte) (s : State) : s.complete f code =
    { s with cmd := { s.cmd with ops := (s.complete f code).cmd.ops, recs := (s.complete f code).cmd.recs }, attn := (s.complete f code).attn } := by
  unfold State.complete
  dsimp only
  rw [State.recordOps_frame]

/-- An update session that its port lets go has none. -/
theorem Upd.letGo_port (u : Upd) : u.letGo.port = none := by unfold Upd.letGo; split <;> rfl

section
variable (p : Nat) (s : State)

/-- The banks that a port still holds are those of an accepted commit. -/
theorem State.releaseHeld_banks : ∀ t ∈ (s.releaseHeld p).tbl.tbl, t.holder = some p → t.pendingCommit = true := by
  intro t ht hh
  unfold State.releaseHeld at ht
  dsimp only at ht
  obtain ⟨b, -, rfl⟩ := List.mem_map.mp ht
  by_cases hb : b.holder = some p ∧ b.pendingCommit = false
  · rw [if_pos hb] at hh; cases hh
  · rw [if_neg hb] at hh ⊢
    simpa [hh] using hb

theorem State.releaseHeld_sessions : (s.releaseHeld p).upd.coma.port ≠ some p ∧ (s.releaseHeld p).upd.nuc.port ≠ some p := by
  unfold State.releaseHeld
  dsimp only
  constructor <;>
  · split
    · rw [Upd.letGo_port]; simp
    · assumption

/-- Of the command ports a release changes the cursor of its own. -/
theorem State.releaseHeld_port? (q : Nat) :
    (s.releaseHeld p).port? q = if q = p then (s.port? q).map (fun c => { c with cursor := false }) else s.port? q := by
  have e : (s.releaseHeld p).cmd.ports = (s.mapPort p (fun c => { c with cursor := false })).cmd.ports := by
    unfold State.releaseHeld
    rw [State.complete_frame]
    rfl
  have e' : (s.releaseHeld p).port? q = (s.mapPort p (fun c => { c with cursor := false })).port? q := by rw [State.port?, e]; rfl
  rw [e', State.port?_mapPort p q (fun c => { c with cursor := false }) s (fun _ => rfl)]

theorem State.resync_tbl_upd : (s.resync p).tbl = (s.releaseHeld p).tbl ∧ (s.resync p).upd = (s.releaseHeld p).upd := by
  unfold State.resync
  dsimp only
  split <;> exact ⟨rfl, rfl⟩

/-- RESYNC of port 0 flushes its queue. -/
theorem State.resync_port0 : (s.resync 0).port? 0 =
    (s.port? 0).map (fun c => { c with cursor := false, q := { c.q with entries := [.flush], pend := 0 } }) := by
  have e : (s.resync 0).port? 0 = ((s.releaseHeld 0).mapPort 0 (fun c => { c with q := c.q.flushed })).port? 0 := rfl
  rw [e, State.port?_mapPort 0 0 (fun c => { c with q := c.q.flushed }) _ (fun _ => rfl), State.releaseHeld_port?]
  cases s.port? 0 <;> rfl
end

/-- Settles O28: a write transaction by its packet's checks and its place in the sequence, a read by the oldest entry; RESYNC and the idle release
by what the release of a port lets go. -/
theorem hspTransactionsComplete : Obligations.HspTransactionsComplete := by
  unfold Obligations.HspTransactionsComplete
  refine ⟨?next, ?checks, ?rep, ?other, ?resync, ?held, ?notReady, ?readItem, ?readGap, ?readFlush, ?readEmpty, ?badType, ?idle⟩
  case next =>
    intro bs s c hr hc hrep hres hp hq
    exact hspWrite_sequences bs s hr hc hrep _ (State.sequenced_hsp_next bs c _ hp hres hq)
  case checks =>
    intro bs s hr h3 v answers synced fits
    refine ⟨fun hs => ?_, fun hs hf => ?_, fun hs hf hc => ?_⟩
    · exact hspWrite_rejects bs s hr (by omega) _ (pktCheck_sync 1020 bs h3 hs)
    · exact hspWrite_rejects bs s hr (by omega) _ (pktCheck_length 1020 bs h3 hs hf)
    · exact hspWrite_rejects bs s hr (by omega) _ (pktCheck_crc 1020 bs h3 hs hf hc)
  case rep =>
    intro bs s hr hc hrep
    refine hspWrite_does bs s hr (length_of_pktCheck _ bs hc) _ ?_
    rw [State.packetIn, hc, hrep]
    rfl
  case other =>
    intro bs s c hr hc hrep hres hp hw hq v
    exact ⟨fun r hl hs => hspWrite_sequences bs s hr hc hrep _ (State.sequenced_hsp_repeat bs c v hp hres hw hq r hl hs),
      fun hn => hspWrite_sequences bs s hr hc hrep _ (State.sequenced_hsp_other bs c v hp hres hw hq hn)⟩
  case resync =>
    intro bs s c hr hc hrep hres hp
    exact hspWrite_sequences bs s hr hc hrep _ (State.sequenced_hsp_resync bs c _ hp hres)
  case held =>
    intro p s
    obtain ⟨ht, hu⟩ := State.resync_tbl_upd p s
    rw [ht, hu]
    obtain ⟨hcoma, hnuc⟩ := State.releaseHeld_sessions p s
    exact ⟨State.releaseHeld_banks p s, hcoma, hnuc, State.resync_port0 s⟩
  case notReady =>
    intro bs s hup hr hd u
    refine does_of_coma _ (doHspWrite bs) s _ rfl hup ?_
    rw [doHspWrite, hr, ← State.discardTx_counts _ _ s hd]
    rfl
  case readItem =>
    intro n s c r k hup hp hh out u
    obtain ⟨hwhole, hpart⟩ := doHspRead_item n c s hp r k hh
    exact ⟨fun hn => does_of_coma _ (doHspRead n) s _ rfl hup (hwhole hn), fun hn => does_of_coma _ (doHspRead n) s _ rfl hup (hpart hn)⟩
  case readGap =>
    intro n s c k hup hp hh out u
    obtain ⟨hwhole, hpart⟩ := doHspRead_gap n c s hp k hh
    exact ⟨fun hn => does_of_coma _ (doHspRead n) s _ rfl hup (hwhole hn), fun hn => does_of_coma _ (doHspRead n) s _ rfl hup (hpart hn)⟩
  case readFlush =>
    intro n s c hup hp hh hn u
    exact does_of_coma _ (doHspRead n) s _ rfl hup (doHspRead_flush n c s hp hh hn)
  case readEmpty =>
    intro n s c hup hp hh hn u
    exact does_of_coma _ (doHspRead n) s _ rfl hup (doHspRead_empty n c s hp hh hn)
  case badType =>
    intro ty s hup h1 h2 hd u
    refine does_of_coma _ (doHspBad ty) s _ rfl hup ?_
    rw [doHspBad, if_neg (not_or.mpr ⟨h1, h2⟩), State.discardTx_counts _ _ s hd]
  case idle =>
    intro p s hup hp u
    refine ⟨does_of_coma _ (doIdleRelease p) s _ rfl hup ?_, fun q hq => ?_⟩
    · rw [doIdleRelease, if_neg hp]
    · simp only [u]
      rw [State.releaseHeld_port?, if_neg hq]

end Sys2Proof.Machine
end

section
/-! SUPPORT. Enabling a metering point while a snapshot is pending: the write takes the point's copy (R282, R291). -/

namespace Sys2Proof.Machine

theorem OnlyReplied.nrg {p : Nat} {u t : State} (h : OnlyReplied p u t) : t.nrg = u.nrg := by rw [h.frame]

/-! ## The counterexample -/

/-- The word that enables a point fed by the front end. -/
abbrev enableWord : Word := 3

/-- The snapshot that NRG.SNAPSHOT asked for at TAI 20 ms, with no copy taken yet. -/
def snapshotAt20ms : Snap := { num := 1, inst := 20000000, cmd := true, copies := [] }

/-- The device in service at TAI 0 with that snapshot pending: point 1 is enabled and owes it the cycle in progress, point 0 is disabled; both have a
scale of 1.0. -/
def snapshotOwed : State :=
  State.putRw .coma (aNrg 0 8) 0x3F800000 (State.putRw .coma (aNrg 1 8) 0x3F800000 (State.putRw .coma (aNrg 1 0) enableWord { State.reset with
    pwr := { Power.reset with mode := .service, phase := 5, fw := true }
    nrg := { Nrg.reset with points := [{ Point.fresh 1 with on := true }], snaps := [snapshotAt20ms], nextNum := 2 } }))

theorem snapshotOwed_takesWrite : snapshotOwed.takesWrite hostHdr .coma (aNrg 0 0) enableWord = true := by decide +kernel

/-- Point 0's first cycle ends after 20 ms, so enabling it takes its copy into the pending snapshot (R291). -/
theorem snapshotOwed_enable_copies : (snapshotOwed.writeRow .coma (aNrg 0 0) enableWord hostHdr).settled.nrg.snaps =
    [{ snapshotAt20ms with copies := [(0, [0, 0, 0, 0])] }] := by decide +kernel

/-- Refutes O15: its clause on a point that becomes enabled leaves the pending snapshots as they were, while the write also takes the point's copy
into each whose instant lies before the end of the point's first cycle. On snapshotOwed the clause would have the snapshot hold no copy. -/
theorem not_comaConfigRowsComplete : ¬ Obligations.ComaConfigRowsComplete := by
  unfold Obligations.ComaConfigRowsComplete
  rintro ⟨-, -, henable, -⟩
  obtain ⟨t, hexec, -, honly⟩ := henable hostHdr 0 enableWord snapshotOwed (by decide) snapshotOwed_takesWrite (by decide) rfl
  have hnext : (snapshotOwed.writeRow .coma (aNrg 0 0) enableWord hostHdr).settled = t := Host.Outcome.next.inj hexec
  have hkept : t.nrg.snaps = [snapshotAt20ms] := by rw [honly.nrg]; rfl
  rw [← hnext, snapshotOwed_enable_copies] at hkept
  exact absurd hkept (by decide)

end Sys2Proof.Machine
end

section
/-! SUPPORT. The time and calendar commands: what each answers and leaves (R53, R61, R65, R67, R302, R307). -/

namespace Sys2Proof.Machine

/-! ## What a domain switch leaves -/

@[simp] theorem State.steer_sel (s : State) : s.steer.tim.sel = s.tim.sel := by unfold State.steer; split <;> rfl

theorem State.switchTo_sel (d : Dom) (s : State) : (s.switchTo d).tim.sel = d := State.steer_sel _

/-! ## Entering an asymmetry -/

@[simp] theorem State.enterAsym_ports (d : Dom) (w : Word) (s : State) : (s.enterAsym d w).cmd.portIds = s.cmd.portIds := by
  unfold State.enterAsym
  extract_lets was s1 s2
  have hs2 : s2.cmd = s.cmd := by simp only [s2]; split <;> rfl
  rw [State.judge_ports, ← hs2]
  split <;> rfl

/-! ## The bodies' answers -/

section
variable (h : Hdr) (w v : Word) (s : State)

theorem cmdTimeSelect_selected (hd : (if bit w 0 then Dom.b else Dom.a) = s.tim.sel) : cmdTimeSelect h [w] s = .ok s := by
  simp [cmdTimeSelect, arity, par, nth, hd]

/-- The other domain is selected while it is healthy and the two agree (R65). -/
theorem cmdTimeSelect_other (d : Dom) (hw : (if bit w 0 then Dom.b else Dom.a) = d) (hd : d ≠ s.tim.sel) (hh : (s.tim.dom d).healthy = true)
    (ha : s.tim.disagree = false) : cmdTimeSelect h [w] s = .ok (s.switchTo d).judge := by
  simp [cmdTimeSelect, arity, par, nth, hw, hd, hh, ha]

/-- The state in which a new step is awaited (R61). -/
def State.awaitStep (h : Hdr) (s : State) : State :=
  let u := if s.tim.state = .holdover ∨ s.tim.state = .fault then s.evTime 2 else s
  State.addOp h 0x0902 0 (State.mapSrc .coma 56 (fun x => { x with present := false })
    { u with tim := { u.tim.logRate with state := .coarse, restep := true } })

theorem State.awaitStep_ports : (s.awaitStep h).cmd.portIds = s.cmd.portIds := by
  unfold State.awaitStep; dsimp only; split <;> rfl

theorem cmdTimeRestep_accepted (hl : s.opLocked h 0x0902 0 = false) (hb : s.opBusy h 0x0902 0 = false) (hr : s.anyRunning = false) :
    cmdTimeRestep h [] s = .pending (s.awaitStep h).judge := by
  simp [cmdTimeRestep, arity, hl, hb, hr, State.awaitStep]

theorem cmdTimeAsym_value (hm : bits w 9 8 = 0) : cmdTimeAsym h [w, v] s = .ok (s.enterAsym (if bit w 0 then .b else .a) v) := by
  simp [cmdTimeAsym, arity, par, nth, hm]

theorem cmdTimeAsym_validation (d : Dom) (hd : (if bit w 0 then Dom.b else Dom.a) = d) (hm : bits w 9 8 = 1)
    (hl : s.opLocked h 0x0903 d.idx = false) (hb : s.opBusy h 0x0903 d.idx = false) (hp : s.tim.ppsValid = true) :
    cmdTimeAsym h [w, v] s = .pending (State.addOp h 0x0903 d.idx { s with tim := { s.tim with
      valid := s.tim.valid ++ [{ dom := d, samples := [], edges := [], lost := false }] } }) := by
  simp [cmdTimeAsym, arity, par, nth, hd, hm, hl, hb, hp]

theorem cmdRtcSet_valid (hf : s.calFollows = false) (hl : s.pwr.lockout = false) (hz : bits v 31 24 = 0)
    (hd : (s.aon.write s.tim.now (bits w 31 16) (bits w 15 8) (bits w 7 0) (bits v 23 16) (bits v 15 8) (bits v 7 0)).dateOk = true) :
    cmdRtcSet h [w, v] s = .ok { s with
      aon := s.aon.write s.tim.now (bits w 31 16) (bits w 15 8) (bits w 7 0) (bits v 23 16) (bits v 15 8) (bits v 7 0) } := by
  simp [cmdRtcSet, arity, par, nth, hf, hl, hz, hd]
end

/-- Settles O19: each command by its body's answer; none touches which ports are allocated. -/
theorem timeCommandsComplete : Obligations.TimeCommandsComplete := by
  unfold Obligations.TimeCommandsComplete
  refine ⟨?read, ?select, ?selected, ?restep, ?value, ?validation, ?set, ?calendar⟩
  case read =>
    intro h s ht
    exact ⟨_, rfl, serve_ok 0x0900 0 h [] _ cmdTimeRead s s ht rfl (takes_port _ h _ s ht)⟩
  case select =>
    intro h w s ht d hd hh ha
    refine ⟨⟨_, rfl, ?_⟩, State.switchTo_sel d s⟩
    exact serve_ok 0x0901 0 h _ [] cmdTimeSelect s _ ht (cmdTimeSelect_other h w s d rfl hd hh ha) (takes_port_of_ids ht (by simp))
  case selected =>
    intro h w s ht hd
    exact ⟨_, rfl, serve_ok 0x0901 0 h _ [] cmdTimeSelect s s ht (cmdTimeSelect_selected h w s hd) (takes_port _ h _ s ht)⟩
  case restep =>
    intro h s ht hl hb hr u
    exact ⟨_, rfl, serve_pending 0x0902 h _ [] cmdTimeRestep s _ ht (cmdTimeRestep_accepted h s hl hb hr)
      (takes_port_of_ids ht ((State.judge_ports _).trans (State.awaitStep_ports h s)))⟩
  case value =>
    intro h w v s ht hm
    exact ⟨_, rfl, serve_ok 0x0903 0 h _ [] cmdTimeAsym s _ ht (cmdTimeAsym_value h w v s hm) (takes_port_of_ids ht (by simp))⟩
  case validation =>
    intro h w v s ht hm d hl hb hp
    exact ⟨_, rfl, serve_pending 0x0903 h _ [] cmdTimeAsym s _ ht (cmdTimeAsym_validation h w v s d rfl hm hl hb hp)
      (takes_port_of_ids ht rfl)⟩
  case set =>
    intro h w v s ht hf hl hz a hd
    exact ⟨_, rfl, serve_ok 0x0904 0 h _ [] cmdRtcSet s _ ht (cmdRtcSet_valid h w v s hf hl hz hd) (takes_port_of_ids ht rfl)⟩
  case calendar =>
    intro h s ht
    exact ⟨_, rfl, serve_ok 0x0905 0 h [] _ cmdRtcRead s s ht rfl (takes_port _ h _ s ht)⟩

end Sys2Proof.Machine
end

section
/-! SUPPORT. Precision-time timers: receipt timeouts, delay requests and the windows that judge asymmetry (R62, R66, R67, R71, R73). -/

namespace Sys2Proof.Machine

/-! ## Delay requests (R71, R73) -/

theorem doDelayReq_asks (d : Dom) (s : State) (hen : domEn (s.domCfg d) = true) (hp : domP2p (s.domCfg d) = false)
    (hst : (s.tim.dom d).pstate ≠ 0) :
    let x := s.tim.dom d
    let m := ptpMsg 1 44 (bits (s.domCfg d) 15 8) x.dseq 1 0x7F 0 (s.portId x.parent) (List.replicate 10 0)
    doDelayReq d s = ((s.mapDom d (fun x => { x with dseq := (x.dseq + 1) % 65536, dreq := some (x.dseq, 0) })).pushKind x.parent
      (bits (s.domPorts d) 18 16) (s.ptpFrame d x.parent false m) (.delayReq d)).bumpC (aDom d 0x48) 1 := by
  simp [doDelayReq, hen, hp, hst]

theorem doPdelayReq_asks (p : Nat) (d : Dom) (s : State) (hd : s.pdelayDom p = some d) :
    let m := ptpMsg 2 54 (bits (s.domCfg d) 15 8) (s.port p).pdseq 5 0x7F 0 (s.portId p) (List.replicate 20 0)
    doPdelayReq p s = ((s.mapPrt p (fun x => { x with pdseq := (x.pdseq + 1) % 65536, pdreq := some (x.pdseq, 0), pdtwo := none })).pushKind
      p (bits (s.domPorts d) 18 16) (s.ptpFrame d p true m) .pdelayReq).bumpC (aDom d 0x4C) 1 := by
  simp [doPdelayReq, hd]

/-! ## The confirmation window (R66) -/

section
variable (d : Dom) (s : State)

/-- A difference from a healthy other domain that stayed within the confirmation is accepted as symmetric. -/
theorem doAsymWindow_confirmed (hc : (s.tim.dom d).check = true) (hs : (s.tim.dom d).suspect = false) (hr : (s.tim.dom d).ref = 1)
    (hh : (s.tim.dom d.other).healthy = true) (hl : (s.tim.dom d).refLost = false)
    (hx : ((s.tim.dom d).ofs - (s.tim.dom d.other).ofs - (s.tim.dom d).ref0).natAbs ≤ bits (s.rwC 0x04000C) 27 16) :
    doAsymWindow d s =
      ((s.mapDom d (fun x => { x with base := medianI x.mpds, frozen := false, check := false })).bumpC (aDom d 0x60) 1).judge := by
  have hfine : |(s.tim.dom d).ofs - (s.tim.dom d.other).ofs - (s.tim.dom d).ref0| ≤ asymConfirm s := by
    rw [Int.abs_eq_natAbs]; exact Int.ofNat_le.mpr hx
  simp [doAsymWindow, hc, hs, hr, hh, hl, hfine]

/-- With no reference the path is suspect. -/
theorem doAsymWindow_no_reference (hc : (s.tim.dom d).check = true) (hs : (s.tim.dom d).suspect = false) (hr : (s.tim.dom d).ref = 0) :
    doAsymWindow d s = ((((((s.mapDom d (fun x => { x with suspect := true })).timEvt (6 + d.idx)).bumpC
      (aDom d 0x64) 1).evTime 2).mapSrc .coma 57 (fun x => { x with present := true })).faultC 57).judge := by
  simp [doAsymWindow, hc, hs, hr]
end

/-! ## The end of a validation (R67) -/

/-- Samples taken with no edge lost and the edges within 100 ns enter their mean difference. -/
theorem doAsymValidation_enters (v : Valid) (rest : List Valid) (s : State) (hv : s.tim.valid = v :: rest) (hl : v.lost = false)
    (hn : v.samples ≠ []) (he : (sortI v.edges).getLast?.getD 0 - (sortI v.edges).head?.getD 0 ≤ 100) :
    let u : State := { s with tim := { s.tim with valid := rest } }
    doAsymValidation s = (u.enterAsym v.dom (wInt ((sumI v.samples).fdiv v.samples.length))).completeOp .coma 0x0903 v.dom.idx codeOk := by
  have he' : ¬ 100 < (sortI v.edges).getLast?.getD 0 - (sortI v.edges).head?.getD 0 := Int.not_lt.mpr he
  simp [doAsymValidation, hv, hl, hn, he']

/-- Settles O33: each timer runs its operation, the Coma half being up. -/
theorem precisionTimeEventsComplete : Obligations.PrecisionTimeEventsComplete := by
  unfold Obligations.PrecisionTimeEventsComplete
  refine ⟨?receipt, ?delayReq, ?pdelayReq, ?confirmed, ?suspect, ?validationLost, ?validationEnters⟩
  case receipt =>
    intro d s hup
    exact ⟨does_of_coma _ (doPtpTimeout d true) s _ rfl hup rfl, does_of_coma _ (doPtpTimeout d false) s (State.judge _) rfl hup rfl⟩
  case delayReq => intro d s hup hen hp hst; exact does_of_coma _ _ s _ rfl hup (doDelayReq_asks d s hen hp hst)
  case pdelayReq => intro p d s hup hd; exact does_of_coma _ _ s _ rfl hup (doPdelayReq_asks p d s hd)
  case confirmed =>
    intro d s hup hc hs hr hh hl hx
    exact does_of_coma _ _ s (State.judge _) rfl hup (doAsymWindow_confirmed d s hc hs hr hh hl hx)
  case suspect =>
    intro d s hup hc hs hr
    exact does_of_coma _ _ s (State.judge _) rfl hup (doAsymWindow_no_reference d s hc hs hr)
  case validationLost => intro v rest s hup hv hl; exact does_of_coma _ _ s _ rfl hup (doAsymValidation_lost v rest s hv hl)
  case validationEnters => intro v rest s hup hv hl hn he; exact does_of_coma _ _ s _ rfl hup (doAsymValidation_enters v rest s hv hl hn he)

end Sys2Proof.Machine
end

section
/-! SUPPORT. A network port or module after an update, and what settling leaves of both (R81, R94). -/

namespace Sys2Proof.Machine

theorem State.port_mapPrt_self (p : Nat) (f : Port → Port) (s : State) (hp : p < s.prt.length) : (s.mapPrt p f).port p = f (s.port p) :=
  nth_at'_self _ _ _ _ hp

/-- A port that the part does not have reads as one at reset, whatever is done to it. -/
theorem State.port_mapPrt_over (p : Nat) (f : Port → Port) (s : State) (hp : s.prt.length ≤ p) : (s.mapPrt p f).port p = Port.reset := by
  rw [State.port, State.mapPrt_prt, at'_over _ _ _ hp, nth, List.getD_eq_default _ _ hp]

theorem State.xc_mapXcv_self (n : Nat) (f : Xcv → Xcv) (s : State) (hn : n < s.xcv.length) : (s.mapXcv n f).xc n = f (s.xc n) :=
  nth_at'_self _ _ _ _ hn

/-- Two updates of a module that agree on what it holds leave the same. -/
theorem State.mapXcv_congr (n : Nat) (f g : Xcv → Xcv) (s : State) (h : f (s.xc n) = g (s.xc n)) : s.mapXcv n f = s.mapXcv n g := by
  have e : at' s.xcv n f = at' s.xcv n g := by
    refine List.ext_getElem (by simp [at']) fun i hi _ => ?_
    have hi' : i < s.xcv.length := by simpa [at'] using hi
    by_cases hn : n = i
    · subst hn
      have hx : s.xc n = s.xcv[n] := List.getD_eq_getElem _ _ hi'
      simp [at', ← hx, h]
    · simp [at', hn]
  unfold State.mapXcv
  rw [e]

@[simp] theorem State.settled_prt (s : State) : s.settled.prt = s.prt := by rw [State.settled_frame]
@[simp] theorem State.settled_xcv (s : State) : s.settled.xcv = s.xcv := by rw [State.settled_frame]
@[simp] theorem State.settled_port (p : Nat) (s : State) : s.settled.port p = s.port p := by rw [State.port, State.settled_prt]; rfl

/-- Counting leaves the RW words. -/
@[simp] theorem State.rw_bump (h h' : Half) (a b n : Nat) (s : State) : (s.bump h a n).rw h' b = s.rw h' b := by
  cases h <;> cases h' <;> rfl

end Sys2Proof.Machine
end

section
/-! SUPPORT. The links and the priority-based flow control of a port (R81, R82, R88, R89). -/

namespace Sys2Proof.Machine

/-! ## Links (R81) -/

/-- Block lock lost. -/
theorem doLinkDown_lock (p : Nat) (s : State) :
    doLinkDown p false s = (s.mapPrt p (fun x => { x with lock := false, hiBer := false })).portDown p := by
  simp [doLinkDown]

/-- The entry of hi_ber, of at most ten in its minute. -/
theorem doLinkDown_hiBer (p : Nat) (s : State) (hb : (s.port p).hiBer = false) (hn : (s.port p).bers < 10) :
    doLinkDown p true s =
      (s.mapPrt p (fun x => { x with hiBer := true, bers := if x.hiBer then x.bers else x.bers + 1 })).portDown p := by
  have hfew : ¬ 10 < (s.port p).bers + 1 := by omega
  have hcount : ∀ x : Port, (if x.hiBer = false then x.bers + 1 else x.bers) = if x.hiBer = true then x.bers else x.bers + 1 := by
    intro x; cases x.hiBer <;> rfl
  simp [doLinkDown, hb, hfew, hcount]

theorem doLinkUp_drains (p : Nat) (s : State) (h : (s.port p).link = false) : doLinkUp p s =
    ((s.drainPort p).mapPrt p (fun x => { x with link := true, lock := true, hiBer := false, sendsFault := false })).latchC (aPrt p 0xC) 0 := by
  simp [doLinkUp, h]

theorem doRemoteFault_begins (p : Nat) (s : State) (h : (s.port p).rfault = false) :
    doRemoteFault p true s = (s.mapPrt p (fun x => { x with rfault := true })).latchC (aPrt p 0xC) 3 := by
  simp [doRemoteFault, h]

/-! ## PFC times to be sent (R89) -/

/-- What one step of a fold establishes and every other keeps holds at the end, if that step is taken. -/
theorem foldl_establishes {α β : Type} {f : β → α → β} {I P : β → Prop} {a : α} (hI : ∀ b x, I b → I (f b x)) (hset : ∀ b, I b → P (f b a))
    (hkeep : ∀ b x, I b → P b → P (f b x)) : ∀ (l : List α) (b : β), a ∈ l → I b → P (l.foldl f b) := by
  have keep : ∀ (l : List α) (b : β), I b → P b → P (l.foldl f b) := by
    intro l
    induction l with
    | nil => exact fun b _ hp => hp
    | cons x l ih => exact fun b hi hp => ih _ (hI b x hi) (hkeep b x hi hp)
  intro l
  induction l with
  | nil => exact fun b ha => absurd ha List.not_mem_nil
  | cons x l ih =>
    intro b ha hi
    obtain rfl | hl := List.mem_cons.mp ha
    · exact keep l _ (hI b a hi) (hset b hi)
    · exact ih _ hl (hI b x hi)

/-- The part has port p, with a PFC time for each priority, and the Coma half's registers are r. -/
structure PfcPort (p : Nat) (r : RegFile) (t : State) : Prop where
  regs : t.regC = r
  port : p < t.prt.length
  times : (t.port p).pfc.length = 8

section
variable {p : Nat} {r : RegFile} {t : State} (h : PfcPort p r t)
include h

theorem PfcPort.mapPrt (f : Port → Port) (hf : (f (t.port p)).pfc.length = 8) : PfcPort p r (t.mapPrt p f) where
  regs := h.regs
  port := by simpa [State.mapPrt_prt, at'] using h.port
  times := by rw [State.port_mapPrt_self _ _ _ h.port, hf]

theorem PfcPort.pfcSend (q v : Nat) : PfcPort p r (t.pfcSend p q v) :=
  h.mapPrt _ (by simpa [at'] using h.times)

/-- The time of the priority named is the one to be sent, every other as before. -/
theorem PfcPort.pfc_pfcSend (q k v : Nat) (hq : q < 8) :
    nth none ((t.pfcSend p k v).port p).pfc q = if q = k then some v else nth none (t.port p).pfc q := by
  rw [State.pfcSend, State.port_mapPrt_self _ _ _ h.port]
  by_cases e : q = k
  · subst e
    rw [if_pos rfl]
    exact nth_at'_self _ _ _ _ (by rw [h.times]; exact hq)
  · rw [if_neg e]
    exact nth_at'_ne _ _ _ _ _ e

theorem PfcPort.xoff_pfcSend (k v : Nat) : ((t.pfcSend p k v).port p).xoff = (t.port p).xoff := by
  rw [State.pfcSend, State.port_mapPrt_self _ _ _ h.port]
end

/-- A refresh sends the full pause time again for each priority it picks. -/
theorem pfc_refresh (p q : Nat) (l : List Nat) (s : State) (h : PfcPort p s.regC s) (hq : q < 8) (hl : q ∈ l) :
    nth none ((l.foldl (fun (s : State) q => s.pfcSend p q (s.quanta p)) s).port p).pfc q = some (s.quanta p) := by
  have hv : ∀ b, PfcPort p s.regC b → b.quanta p = s.quanta p := by
    intro b hb
    simp only [State.quanta, State.rwC, State.rw, State.regs, hb.regs]
  refine foldl_establishes (I := PfcPort p s.regC) (P := fun t => nth none (t.port p).pfc q = some (s.quanta p))
    (fun b k hb => hb.pfcSend k _) (fun b hb => ?_) (fun b k hb hp => ?_) l s hl h
  · rw [hb.pfc_pfcSend q q _ hq, if_pos rfl, hv b hb]
  · rw [hb.pfc_pfcSend q k _ hq, hv b hb, hp, ite_self]

/-- The mask that ends the XOFF of a priority clears its bit. -/
theorem getLsbD_xonMask (q : Nat) (hq : q < 8) : (BitVec.ofNat 8 (255 - 2 ^ q)).getLsbD q = false := by
  revert q; decide

/-- A release sends a time of 0 for each priority it picks, and ends its XOFF. -/
theorem pfc_release (p q : Nat) (l : List Nat) (s : State) (h : PfcPort p s.regC s) (hq : q < 8) (hl : q ∈ l) :
    let t := l.foldl (fun (s : State) q =>
      (s.mapPrt p (fun x => { x with xoff := x.xoff &&& BitVec.ofNat 8 (255 - 2 ^ q) })).pfcSend p q 0) s
    nth none (t.port p).pfc q = some 0 ∧ (t.port p).xoff.getLsbD q = false := by
  have hm : ∀ b k, PfcPort p s.regC b →
      PfcPort p s.regC (b.mapPrt p (fun x => { x with xoff := x.xoff &&& BitVec.ofNat 8 (255 - 2 ^ k) })) :=
    fun b k hb => hb.mapPrt _ hb.times
  refine foldl_establishes (I := PfcPort p s.regC) (P := fun t => nth none (t.port p).pfc q = some 0 ∧ (t.port p).xoff.getLsbD q = false)
    (fun b k hb => (hm b k hb).pfcSend k 0) (fun b hb => ?_) (fun b k hb hp => ?_) l s hl h
  · rw [(hm b q hb).pfc_pfcSend q q 0 hq, if_pos rfl, (hm b q hb).xoff_pfcSend, State.port_mapPrt_self _ _ _ hb.port]
    simp [getLsbD_xonMask q hq]
  · rw [(hm b k hb).pfc_pfcSend q k 0 hq, (hm b k hb).xoff_pfcSend, State.port_mapPrt_self _ _ _ hb.port]
    simp [hp.1, hp.2]

/-- An event of the Coma half leaves its operation's state, settled, with the ports as that state has them. -/
theorem exec_port_of_coma (c : Instr) (f : State → State) (s : State) (hx : exec c s = .next (State.settled (whenUp .coma f s)))
    (hup : s.comaUp = true) : ∃ t, exec c s = .next t ∧ ∀ p, t.port p = (f s).port p :=
  ⟨_, does_of_coma c f s _ hx hup rfl, fun p => State.settled_port p (f s)⟩

/-- Settles O30: a link by the condition that ends or begins it; a refresh or release by the priorities that its condition picks. -/
theorem linkEventsComplete : Obligations.LinkEventsComplete := by
  unfold Obligations.LinkEventsComplete
  refine ⟨?lockLost, ?hiBer, ?up, ?fault, ?clears, ?expiry, ?refresh, ?release⟩
  case lockLost => intro p s hup; exact doesJudged_of_coma _ _ s _ rfl hup (doLinkDown_lock p s)
  case hiBer => intro p s hup hb hn; exact doesJudged_of_coma _ _ s _ rfl hup (doLinkDown_hiBer p s hb hn)
  case up => intro p s hup hl; exact does_of_coma _ _ s _ rfl hup (doLinkUp_drains p s hl)
  case fault => intro p s hup hf; exact does_of_coma _ _ s _ rfl hup (doRemoteFault_begins p s hf)
  case clears => intro p s hup; exact does_of_coma _ (doRemoteFault p false) s _ rfl hup rfl
  case expiry => intro p q s hup; exact does_of_coma _ (doPauseExpiry p q) s _ rfl hup rfl
  case refresh =>
    intro p s hup hp hlen hpfc
    obtain ⟨t, hx, ht⟩ := exec_port_of_coma (.pfcXoffRefresh p) (doXoffRefresh p) s rfl hup
    refine ⟨t, hx, fun q hq hoff hlasts => ?_⟩
    rw [ht]
    refine pfc_refresh p q _ s ⟨rfl, hlen ▸ hp, hpfc⟩ hq (List.mem_filter.mpr ⟨List.mem_range.mpr hq, ?_⟩)
    obtain hfull | hpressed := hlasts
    · simp [hoff, Nat.not_lt.mpr hfull]
    · simp [hoff, hpressed]
  case release =>
    intro p s hup hp hlen hpfc
    obtain ⟨t, hx, ht⟩ := exec_port_of_coma (.pfcXonRelease p) (doXonRelease p) s rfl hup
    refine ⟨t, hx, fun q hq hoff hlow hfree => ?_⟩
    rw [ht]
    exact pfc_release p q _ s ⟨rfl, hlen ▸ hp, hpfc⟩ hq (List.mem_filter.mpr ⟨List.mem_range.mpr hq, by simp [hoff, hlow, hfree]⟩)

end Sys2Proof.Machine
end

section
/-! SUPPORT. A frame boundary of a port: what waits, what leaves next, and what is sent or discarded (R82, R84, R87, R89). -/

namespace Sys2Proof.Machine

/-! ## Queues with nothing at their head -/

theorem State.turnStream_empty (i : Nat) (s : State) (h : (s.stream i).q.entries = []) : s.turnStream i = s := by
  simp [State.turnStream, State.turn, Queue.head, h]

theorem State.turnStreams_empty (s : State) (h : ∀ k, (s.stream k).q.entries = []) (l : List Nat) :
    l.foldl (fun (s : State) i => s.turnStream i) s = s := by
  induction l with
  | nil => rfl
  | cons i l ih => rw [List.foldl_cons, State.turnStream_empty i s (h i), ih]

theorem State.turnOry_empty (s : State) (h : s.ory.tx.entries = []) : s.turnOry = s := by
  simp [State.turnOry, State.turnOryN, Queue.head, h]

/-! ## What leaves next (R87) -/

section
variable (live : Bool) (p : Nat) (s : State)

/-- The highest priority that is not paused goes first. -/
theorem State.pick_seven (k : TxPick) (hp : (s.port p).paused 7 = false) (hk : s.pickAt live p 7 = some k) : s.pick live p = some (7, k) := by
  simp [State.pick, State.pickFrom, hp, hk]

/-- A frame that is discarded does not wait for a pause. -/
theorem State.pick_seven_discards (k : TxPick) (hk : s.pickAt false p 7 = some k) : s.pick false p = some (7, k) := by
  simp [State.pick, State.pickFrom, hk]

theorem State.pickAt_fw (q i : Nat) (h : (s.port p).fw.findIdx? (fun f => f.pri == q) = some i) : s.pickAt live p q = some (.fw i) := by
  simp [State.pickAt, h]

theorem State.pickAt_reply (c : CmdPort) (hfw : (s.port p).fw = [])
    (hc : s.cmd.ports.find? (fun c => c.id != 0 && c.net == p && !c.q.entries.isEmpty) = some c) :
    s.pickAt live p 7 = some (.reply c.id) := by
  simp [State.pickAt, hfw, hc]

section
variable (h : NothingWaits p s)
include h

/-- Nothing of any priority is there to be picked. -/
theorem State.pickAt_nothing (q : Nat) : s.pickAt live p q = none := by
  obtain ⟨-, hfw, hreply, hory, hstr⟩ := h
  have hno : s.cmd.ports.find? (fun c => c.id != 0 && c.net == p && !c.q.entries.isEmpty) = none := by
    rw [List.find?_eq_none]
    intro c hc hm
    simp only [Bool.and_eq_true, bne_iff_ne, beq_iff_eq, Bool.not_eq_true', List.isEmpty_eq_false_iff] at hm
    obtain ⟨⟨hid, hnet⟩, hne⟩ := hm
    exact hne (hreply c hc hid hnet)
  have hidle : ∀ i, s.ready live i = false := fun i => by simp [State.ready, Queue.head, (hstr i).1, (hstr i).2]
  simp [State.pickAt, hfw, hno, hidle, State.oryReady, Queue.head, hory]

theorem State.pick_nothing : s.pick live p = none := by
  have hq : ∀ l : List Nat, s.pickFrom live p l = none := by
    intro l
    induction l with
    | nil => rfl
    | cons q l ih => rw [State.pickFrom, State.pickAt_nothing live p s h q, ih, ite_self]
  exact hq _
end
end

/-! ## A frame taken -/

theorem State.takeFrame_fw (live : Bool) (p q t i : Nat) (f : FwFrame) (s : State) (hf : (s.port p).fw[i]? = some f) (hk : f.kind = .plain) :
    s.takeFrame live p q t (.fw i) = (s.mapPrt p (fun x => { x with fw := x.fw.eraseIdx i }), some f.bytes) := by
  simp [State.takeFrame, hf, State.fwStamp, hk]

/-- A reply that is sent ends the record of earlier drops (R33). -/
theorem State.takeFrame_reply (p q t n : Nat) (c : CmdPort) (r : Reply) (s : State) (hc : s.port? c.id = some c)
    (hh : c.q.head = some (.item r n)) (ho : (s.port p).offAfter = none) : s.takeFrame true p q t (.reply c.id) =
      (s.mapPort c.id (fun x => { x with q := x.q.pop, dropped := false }), some (s.replyFrame c.net c.ip c.udp c.dropped r)) := by
  simp [State.takeFrame, hc, hh, ho]

/-! ## A frame sent or discarded -/

section
variable (p t : Nat) (s : State) (hory : s.ory.tx.entries = []) (hstr : ∀ k, (s.stream k).q.entries = [])
include hory hstr

section
variable (hpfc : (s.port p).pfc.any Option.isSome = false)
include hpfc

theorem State.sendOne_nothing (hk : s.pick true p = none) : s.sendOne p t = s := by
  simp only [State.sendOne, hpfc, Bool.false_eq_true, if_false, State.turnOry_empty s hory, State.turnStreams_empty s hstr, hk]

section
variable (q : Nat) (k : TxPick) (b : List Byte) (u : State) (hk : s.pick true p = some (q, k)) (ht : s.takeFrame true p q t k = (u, some b))
include hk ht

theorem State.sendOne_sends (hs : ∀ i, k ≠ .stream i) (hl : (padFrame b).length + 4 ≤ s.maxlen p) :
    s.sendOne p t = (u.putWire p b).bumpC (aPrt p (0xA0 + 4 * q)) 1 := by
  simp only [State.sendOne, hpfc, Bool.false_eq_true, if_false, State.turnOry_empty s hory, State.turnStreams_empty s hstr, hk, ht,
    if_neg (Nat.not_lt.mpr hl)]

/-- A frame that has become longer than the port sends is not sent (R84). -/
theorem State.sendOne_tooLong (hl : s.maxlen p < (padFrame b).length + 4) : s.sendOne p t = u.tooLong k := by
  simp only [State.sendOne, hpfc, Bool.false_eq_true, if_false, State.turnOry_empty s hory, State.turnStreams_empty s hstr, hk, ht, if_pos hl]
end
end

theorem State.discardOne_nothing (hk : s.pick false p = none) : s.discardOne p = none := by
  simp only [State.discardOne, State.turnOry_empty s hory, State.turnStreams_empty s hstr, hk]

theorem State.discardOne_counts (q : Nat) (k : TxPick) (b : List Byte) (u : State) (hk : s.pick false p = some (q, k))
    (ht : s.takeFrame false p q s.tim.now k = (u, some b)) : s.discardOne p = some (u.bumpC (aPrt p prtTxdown) 1) := by
  simp only [State.discardOne, State.turnOry_empty s hory, State.turnStreams_empty s hstr, hk, ht]
end

/-! ## The port's receiver in loopback (R102) -/

theorem State.loopIn_none (inband : InBand → State → State) (p t : Nat) (s : State) (h : (s.port p).loop = []) : s.loopIn inband p t = s := by
  rw [State.loopIn, h]

/-- Out of loopback a frame that leaves does not come back. -/
theorem State.loop_putWire (p : Nat) (bs : List Byte) (s : State) (h : bit (s.prtCtl p) 1 = false) : ((s.putWire p bs).port p).loop = [] := by
  by_cases hp : p < s.prt.length
  · simp [State.putWire, State.port_mapPrt_self _ _ _ hp, h]
  · rw [State.putWire, State.port_mapPrt_over _ _ _ (Nat.not_lt.mp hp)]
    rfl

/-! ## The boundary -/

/-- Counting leaves the port's control word. -/
theorem State.prtCtl_bumps (p : Nat) (a : Nat → Nat) (l : List Nat) : ∀ s : State,
    (l.foldl (fun (s : State) q => s.bumpC (a q) 1) s).prtCtl p = s.prtCtl p := by
  induction l with
  | nil => exact fun _ => rfl
  | cons q l ih => exact fun s => (ih _).trans (State.rw_bump _ _ _ _ _ _)

theorem State.loop_sendPfc (p : Nat) (s : State) (h : bit (s.prtCtl p) 1 = false) : ((s.sendPfc p).port p).loop = [] := by
  refine State.loop_putWire p _ _ ?_
  have e := State.prtCtl_bumps p (fun q => aPrt p (0xE0 + 4 * q)) ((List.range 8).filter (fun q => (nth none (s.port p).pfc q).isSome)) s
  rw [← e] at h
  exact h

section
variable (inband : InBand → State → State) (p t : Nat) (s u : State) (ho : (s.port p).offAfter = none)
include ho

theorem State.settleOff_none : s.settleOff p = s := by rw [State.settleOff, ho]

/-- A port that sends, and whose frame does not come back to its receiver. -/
theorem doTransmit_sends (hon : s.txOn p = true) (hr : (s.port p).rfault = false) (hu : s.sendOne p t = u) (hl : (u.port p).loop = []) :
    doTransmit inband p t s = u := by
  simp only [doTransmit, State.settleOff_none p s ho, hon, hr, if_true, Bool.false_eq_true, if_false, hu, State.loopIn_none inband p t u hl]

/-- A port that is down discards what would leave (R82). -/
theorem doTransmit_discards (hon : s.txOn p = false) (hpfc : (s.port p).pfc.any Option.isSome = false) :
    doTransmit inband p t s = (s.discardOne p).getD s := by
  simp only [doTransmit, State.settleOff_none p s ho, hon, hpfc, Bool.false_eq_true, if_false]
  cases s.discardOne p <;> rfl

theorem doTransmit_discards_pfc (hon : s.txOn p = false) (hpfc : (s.port p).pfc.any Option.isSome = true) : doTransmit inband p t s =
    (s.mapPrt p (fun x => { x with pfc := List.replicate 8 none })).bumpC (aPrt p prtTxdown) 1 := by
  simp only [doTransmit, State.settleOff_none p s ho, hon, hpfc, Bool.false_eq_true, if_false, if_true]

theorem doTransmit_nothing (hl : (s.port p).loop = []) (hn : NothingWaits p s) : doTransmit inband p t s = s := by
  have ⟨hpfc, _, _, hory, hstr⟩ := hn
  have hq := fun k => (hstr k).1
  cases hon : s.txOn p with
  | false =>
    rw [doTransmit_discards inband p t s ho hon hpfc, State.discardOne_nothing p s hory hq (State.pick_nothing false p s hn)]
    rfl
  | true =>
    cases hr : (s.port p).rfault with
    | true => simp only [doTransmit, State.settleOff_none p s ho, hon, hr, if_true]
    | false =>
      exact doTransmit_sends inband p t s s ho hon hr (State.sendOne_nothing p t s hory hq hpfc (State.pick_nothing true p s hn)) hl
end

/-- A frame boundary of the Coma half leaves its operation's state at the instant it comes. -/
theorem transmit_does (p t : Nat) (s u : State) (hup : s.comaUp = true) (hu : doTransmit State.datagramIn p t (s.reach t) = u) :
    Does (.portTransmitFrame p t) s u := by
  refine does_of_effect _ s _ u rfl ?_
  rw [if_pos hup]
  exact (whenUp_coma _ (s.reach t) hup).trans hu

/-- Settles O31: at a boundary the port's own PFC frame is sent or discarded; else the frame that R87 picks; else nothing. -/
theorem transmissionCompletes : Obligations.TransmissionCompletes := by
  unfold Obligations.TransmissionCompletes
  refine ⟨?pfc, ?firmware, ?reply, ?nothing, ?pfcDown⟩
  case pfc =>
    intro p t s hup ho hon hr hctl hpfc
    exact transmit_does p t s _ hup (doTransmit_sends _ p t (s.reach t) _ ho hon hr (if_pos hpfc) (State.loop_sendPfc p (s.reach t) hctl))
  case firmware =>
    intro p t s i f hup ho hpfc hi hf hk hory hstr u
    have hat := fun live => State.pickAt_fw live p (s.reach t) 7 i hi
    have htake := fun live t' => State.takeFrame_fw live p 7 t' i f (s.reach t) hf hk
    refine ⟨fun hon hr hctl hpause hlen => ?_, fun hon hr hloop hpause hlen => ?_, fun hon => ?_⟩
    · exact transmit_does p t s _ hup (doTransmit_sends _ p t (s.reach t) _ ho hon hr
        (State.sendOne_sends p t (s.reach t) hory hstr hpfc 7 _ _ _ (State.pick_seven true p _ _ hpause (hat true)) (htake true t) (by simp) hlen)
        (State.loop_putWire p f.bytes u hctl))
    · refine transmit_does p t s _ hup (doTransmit_sends _ p t (s.reach t) _ ho hon hr
        (State.sendOne_tooLong p t (s.reach t) hory hstr hpfc 7 _ _ _ (State.pick_seven true p _ _ hpause (hat true)) (htake true t) hlen) ?_)
      by_cases hp : p < s.prt.length
      · exact (congrArg Port.loop (State.port_mapPrt_self p _ (s.reach t) hp)).trans hloop
      · exact congrArg Port.loop (State.port_mapPrt_over p _ (s.reach t) (Nat.not_lt.mp hp))
    · refine transmit_does p t s _ hup ?_
      rw [doTransmit_discards _ p t (s.reach t) ho hon hpfc,
        State.discardOne_counts p (s.reach t) hory hstr 7 _ _ _ (State.pick_seven_discards p _ _ (hat false)) (htake false _)]
      rfl
  case reply =>
    intro p t s c r n hup ho hon hr hctl hpfc hfw hpause hory hstr hfind hc hh hlen
    have hnet : c.net = p := by
      have := List.find?_some hfind
      simp only [Bool.and_eq_true, beq_iff_eq] at this
      exact this.1.2
    subst hnet
    exact transmit_does c.net t s _ hup (doTransmit_sends _ c.net t (s.reach t) _ ho hon hr
      (State.sendOne_sends c.net t (s.reach t) hory hstr hpfc 7 _ _ _
        (State.pick_seven true c.net _ _ hpause (State.pickAt_reply true c.net (s.reach t) c hfw hfind))
        (State.takeFrame_reply c.net 7 t n c r (s.reach t) hc hh ho) (by simp) hlen)
      (State.loop_putWire c.net _ _ hctl))
  case nothing =>
    intro p t s hup ho hl hn
    exact transmit_does p t s _ hup (doTransmit_nothing _ p t (s.reach t) ho hl hn)
  case pfcDown =>
    intro p t s hup ho hon hpfc
    exact transmit_does p t s _ hup (doTransmit_discards_pfc _ p t (s.reach t) ho hon hpfc)

end Sys2Proof.Machine
end

section
/-! SUPPORT. The transceiver modules: what each event of presence, identity, diagnostics, transmit faults and life records leaves (R93-R99). -/

namespace Sys2Proof.Machine

/-! ## Presence (R94) -/

theorem doInserted_accepted (n : Nat) (s : State) (hp : (s.xc n).present = false) (hd : (s.xc n).debounce ≠ some true) : doInserted n s =
    (((s.mapXcv n (fun x => { Xcv.reset with present := true, los := x.los, inserted := true })).latchC (aXcv n 8) 0).latchC
      (aPrt n 0xC) 5).evService 1 := by
  simp [doInserted, hp, hd]

theorem doLos_changes (n : Nat) (l : Bool) (s : State) (h : (s.xc n).los ≠ l) :
    doLos n l s = (s.mapXcv n (fun x => { x with los := l })).latchC (aXcv n 8) 6 := if_neg h

/-- A closed summary changes the recorder, and the counters where the queue has no room. -/
theorem State.closeSumm_frame (x : Summ) (s : State) :
    s.closeSumm x = { s with rcd := (s.closeSumm x).rcd, regC := (s.closeSumm x).regC } := by
  unfold State.closeSumm
  extract_lets queued r0 repeats kept r
  have hr : ∀ t, repeats = some t → t = { s with rcd := t.rcd, regC := t.regC } := by
    intro t ht
    simp only [repeats] at ht
    split at ht
    · cases ht
    · generalize queued = q at ht
      cases q with
      | some y => dsimp only at ht; split at ht <;> cases ht; rfl
      | none => dsimp only at ht; (repeat' split at ht) <;> cases ht; rfl
  cases h : repeats with
  | some t => exact hr t h
  | none =>
    have hk : kept = { s with rcd := kept.rcd, regC := kept.regC } := by
      simp only [kept]
      split
      · rfl
      · unfold State.summDropped
        dsimp only
        rw [State.stageAdd_frame]
        rfl
    clear_value kept r
    dsimp only
    rw [hk]

@[simp] theorem State.writeLife_xcv (n : Nat) (s : State) : (s.writeLife n).xcv = s.xcv := by
  unfold State.writeLife
  split
  · rfl
  · split
    · rw [State.summary, State.closeSumm_frame]
    · rfl

/-- A module that is removed is absent, its identity and its transmit fault forgotten; its loss of signal stays (R94, R101). -/
theorem doRemoved_xc (n : Nat) (s : State) (hn : n < s.xcv.length) (hp : (s.xc n).present = true) (hd : (s.xc n).debounce ≠ some false) :
    (doRemoved n s).xc n = { s.xc n with
      present := false, pollDue := false, idValid := false, idDone := false, ddm := false, extCal := false, wearing := false, lifeDue := false,
      life := none, inserted := false, debounce := none, txflt := false, txHold := false, txFail := false, tries := 0 } := by
  unfold doRemoved
  extract_lets x last s0 s1
  have h0 : s0.xcv = s.xcv := by simp only [s0]; split <;> rfl
  have hw : (s0.writeLife n).xcv = s.xcv := (State.writeLife_xcv n s0).trans h0
  have hx : x = (s0.writeLife n).xc n := by rw [State.xc, hw]; rfl
  rw [if_neg (by simp [hp, hd]), hx]
  have hn' : n < (s0.writeLife n).xcv.length := by rw [hw]; exact hn
  have hk : ∀ u : State, ((((u.latchC (aXcv n 8) 1).latchC (aPrt n 0xC) 6).evService 1).over .coma (52 + n)).xc n = u.xc n := fun _ => rfl
  rw [hk]
  exact State.xc_mapXcv_self n _ (s0.writeLife n) hn'

/-! ## Identity (R95) -/

@[simp] theorem State.muxTo_xcv (n : Nat) (s : State) : (s.muxTo n).xcv = s.xcv := by unfold State.muxTo; dsimp only; split <;> rfl
@[simp] theorem State.muxTo_cmd (n : Nat) (s : State) : (s.muxTo n).cmd = s.cmd := by unfold State.muxTo; dsimp only; split <;> rfl

theorem State.findLife_xcv_length (o : Nat) (b : List Byte) (s : State) : (s.findLife o b).1.xcv.length = s.xcv.length := by
  unfold State.findLife
  dsimp only
  split
  · rfl
  · exact List.length_map _

/-- The attempts that waited for the identity read leave what it has read. -/
theorem Xcv.resumed (c : Prop) [Decidable c] (x : Xcv) :
    let y := if c then Xcv.attempt { x with tries := 0 } else x
    y.idDone = x.idDone ∧ y.idValid = x.idValid ∧ y.a0 = x.a0 := by
  intro y
  by_cases hc : c
  · simp only [y, if_pos hc, Xcv.attempt, and_self]
  · simp only [y, if_neg hc, and_self]

section
variable (n : Nat) (rs : List (List Byte)) (a2 : List Byte) (s : State) (hp : (s.xc n).present = true) (hm : s.managed n = true)
  (hi : (s.xc n).idDone = false)
include hp hm hi

/-- An identity whose checksums are right is kept. -/
theorem doIdentity_found (hn : n < s.xcv.length) (a0 : List Byte) (hf : (rs.take 3).find? identityOk = some a0) :
    let t := doIdentity n rs a2 s
    (t.xc n).idDone = true ∧ (t.xc n).idValid = true ∧ (t.xc n).a0 = (a0.take 96).map some := by
  intro t
  simp only [t, doIdentity, hp, hm, hi, hf, Bool.not_true, Bool.false_eq_true, or_self, if_false]
  generalize hv : State.findLife _ _ _ = v
  have hlen : v.1.xcv.length = s.xcv.length := by
    rw [← hv, State.findLife_xcv_length]
    exact congrArg List.length (State.muxTo_xcv n s)
  generalize hu : (if (s.xc n).inserted = true then v.1.mapLife v.2 (fun l => { l with inserts := l.inserts + 1 }) else v.1) = u
  have hlen' : n < u.xcv.length := by
    rw [← hu]
    split
    · exact hlen ▸ hn
    · exact hlen ▸ hn
  rw [State.xc_mapXcv_self n _ u hlen']
  exact Xcv.resumed _ _

/-- Where every attempt fails the identity is not valid and no life record is kept. -/
theorem doIdentity_failed (ht : (s.xc n).txflt = false) (hf : (rs.take 3).find? identityOk = none) :
    (doIdentity n rs a2 s).xcv = (s.mapXcv n (fun x => { x with idDone := true, idValid := false, life := none })).xcv := by
  simp only [doIdentity, hp, hm, hi, hf, Bool.not_true, Bool.false_eq_true, or_self, if_false]
  refine (congrArg (fun l => at' l n _) (State.muxTo_xcv n s)).trans (congrArg State.xcv (State.mapXcv_congr n _ _ s ?_))
  simp [ht]
end

/-! ## The bus and the polls (R92, R93, R97) -/

section
variable (n o : Nat) (d : List Byte) (s : State) (hm : s.managed n = true) (hr : s.flt.held.elem .xcv = false)
include hm hr

theorem doBus_acknowledged (dev : Byte) : doBus n dev o d true s =
    let u := (s.muxTo n).over .coma 51
    if dev = 0xA0 then u.mapXcv n (fun x => { x with a0 := putBytes o (d.take s.busMost) x.a0 })
    else if dev = 0xA2 then u.mapXcv n (fun x => { x with a2 := putBytes o (d.take s.busMost) x.a2 })
    else u := by
  simp only [doBus, hm, hr, Bool.not_true, Bool.or_false, Bool.false_eq_true, if_false, if_true]

theorem doBus_refused (dev : Byte) : doBus n dev o d false s = (s.muxTo n).bumpC (aXcv n 0x88) 1 := by
  simp only [doBus, hm, hr, Bool.not_true, Bool.not_false, Bool.or_false, Bool.false_eq_true, if_false, if_true]
end

/-- A poll with no alarm flag, of a module that has no life record. -/
theorem doDiagPoll_quiet (n : Nat) (d : List Byte) (s : State) (hp : (s.xc n).present = true) (hd : (s.xc n).ddm = true)
    (hm : s.managed n = true) (hc : bit (s.rwC (aXcv n 0)) 0 = true) (hl : (s.xc n).life = none) :
    doDiagPoll n d [0, 0] s = (s.muxTo n).mapXcv n (fun x =>
      { x with diag := (s.xc n).values d, pollDue := false, a2 := putBytes 112 [0, 0] (putBytes 96 (d.take 10) x.a2) }) := by
  have hflags : fieldAt 0 2 [0#8, 0#8] = 0 := by decide
  simp [doDiagPoll, hp, hd, hm, hc, hl, hflags]

/-! ## Transmit faults (R96) -/

/-- A fault before the identity read has ended begins no attempt. -/
theorem doTxflt_waits (n : Nat) (s : State) (hp : (s.xc n).present = true) (hm : s.managed n = true) (hi : (s.xc n).idDone = false) :
    doTxflt n s = ((s.mapXcv n (fun x => { x with txflt := true })).bumpC (aXcv n 0x90) 1).latchC (aXcv n 8) 3 := by
  simp [doTxflt, hp, hm, hi]

section
variable (n : Nat) (s : State) (hh : (s.xc n).txHold = true) (hf : (s.xc n).txFail = false)
include hh hf

theorem doTxRetry_clears : doTxRetry n false s = (s.mapXcv n (fun x => { x with txflt := false, txHold := false })).over .coma (52 + n) := by
  simp [doTxRetry, hh, hf]

theorem doTxRetry_attempts (ht : (s.xc n).tries < 3) : doTxRetry n true s = s.mapXcv n Xcv.attempt := by
  simp [doTxRetry, hh, hf, ht]

theorem doTxRetry_fails (ht : ¬ (s.xc n).tries < 3) :
    doTxRetry n true s = (s.mapXcv n (fun x => { x with txFail := true })).lasting .coma (52 + n) := by
  simp [doTxRetry, hh, hf, ht]
end

/-! ## Life records (R98, R99) -/

/-- A full hour of a module whose baseline is not formed yet and whose life has no limit: neither wear nor life is due. -/
theorem doLifeHour_unjudged (n i : Nat) (l : Life) (s : State) (hl : s.lifeOf n = some (i, l)) (hb : l.baseMin < 60)
    (hc : bits (s.rwC (aXcv n 0xC)) 31 16 = 0) :
    let u := (s.mapLife i (fun k => { k with biasHour := l.biasSum / Nat.max 1 l.biasCnt, biasSum := 0, biasCnt := 0 })).mapXcv n
      (fun x => { x with wearing := false, lifeDue := false })
    doLifeHour n s = u.writeLife n := by
  simp [doLifeHour, hl, hc, hb.ne]

/-- An event of the Coma half leaves its operation's state, settled, with the modules as that state has them. -/
theorem exec_xcv_of_coma (c : Instr) (f : State → State) (s : State) (hx : exec c s = .next (State.settled (whenUp .coma f s)))
    (hup : s.comaUp = true) : ∃ t, exec c s = .next t ∧ t.xcv = (f s).xcv :=
  ⟨_, does_of_coma c f s _ hx hup rfl, State.settled_xcv (f s)⟩

/-- Settles O32: each event by its operation on the module that it names. -/
theorem moduleEventsComplete : Obligations.ModuleEventsComplete := by
  unfold Obligations.ModuleEventsComplete
  refine ⟨?abs, ?inserted, ?removed, ?los, ?found, ?failed, ?bus, ?poll, ?txflt, ?retry, ?stuck, ?hour⟩
  case abs => intro n l s hup; exact does_of_coma _ (doAbsEdge n l) s _ rfl hup rfl
  case inserted => intro n s hup hp hd; exact does_of_coma _ _ s _ rfl hup (doInserted_accepted n s hp hd)
  case removed =>
    intro n s hup hn hlen hp hd
    obtain ⟨t, hx, ht⟩ := exec_xcv_of_coma (.moduleRemoved n) (doRemoved n) s rfl hup
    have hxc : t.xc n = (doRemoved n s).xc n := by rw [State.xc, ht]; rfl
    rw [doRemoved_xc n s (hlen ▸ hn) hp hd] at hxc
    exact ⟨t, hx, by simp [hxc]⟩
  case los => intro n l s hup h; exact does_of_coma _ _ s _ rfl hup (doLos_changes n l s h)
  case found =>
    intro n rs a0 a2 s hup hn hlen hp hm hi hf
    obtain ⟨t, hx, ht⟩ := exec_xcv_of_coma (.xcvIdentityRead n rs a2) (doIdentity n rs a2) s rfl hup
    have hxc : t.xc n = (doIdentity n rs a2 s).xc n := by rw [State.xc, ht]; rfl
    exact ⟨t, hx, hxc ▸ doIdentity_found n rs a2 s hp hm hi (hlen ▸ hn) a0 hf⟩
  case failed =>
    intro n rs a2 s hup hp hm hi htx hf
    obtain ⟨t, hx, ht⟩ := exec_xcv_of_coma (.xcvIdentityRead n rs a2) (doIdentity n rs a2) s rfl hup
    exact ⟨t, hx, ht.trans (doIdentity_failed n rs a2 s hp hm hi htx hf)⟩
  case bus =>
    intro n o d s hup hm hr
    refine ⟨?_, ?_, ?_⟩
    · exact does_of_coma _ _ s _ rfl hup ((doBus_acknowledged n o d s hm hr 0xA0).trans (if_pos rfl))
    · exact does_of_coma _ _ s _ rfl hup ((doBus_acknowledged n o d s hm hr 0xA2).trans ((if_neg (by decide)).trans (if_pos rfl)))
    · exact does_of_coma _ _ s _ rfl hup (doBus_refused n o d s hm hr 0xA0)
  case poll =>
    intro n d s hup hp hd hm hc hl
    exact doesJudged_of_coma _ _ s _ rfl hup (doDiagPoll_quiet n d s hp hd hm hc hl)
  case txflt => intro n s hup hp _ hm hi; exact does_of_coma _ _ s _ rfl hup (doTxflt_waits n s hp hm hi)
  case retry =>
    intro n s hup hh hf
    exact ⟨doesJudged_of_coma _ _ s _ rfl hup (doTxRetry_clears n s hh hf),
      fun ht => doesJudged_of_coma _ _ s _ rfl hup (doTxRetry_attempts n s hh hf ht),
      fun ht => doesJudged_of_coma _ _ s _ rfl hup (doTxRetry_fails n s hh hf ht)⟩
  case stuck =>
    intro s hup u
    exact ⟨doesJudged_of_coma _ (doBusStuck true) s _ rfl hup rfl, doesJudged_of_coma _ (doBusStuck false) s _ rfl hup rfl⟩
  case hour =>
    intro n i l s hup hl hb hc u
    exact does_of_coma _ _ s _ rfl hup (doLifeHour_unjudged n i l s hl hb hc)

end Sys2Proof.Machine
end

section
/-! SUPPORT. The transceiver and port commands: what each body answers, and that draining a port leaves which command ports are allocated
(R82, R93, R100). -/

namespace Sys2Proof.Machine

/-! ## Draining a port leaves the command ports allocated (R82) -/

@[simp] theorem State.turn_ports (i n : Nat) : ∀ s : State, (s.turn i n).cmd.portIds = s.cmd.portIds := by
  induction n with
  | zero => intro s; rfl
  | succ n ih =>
    intro s
    rw [State.turn]
    repeat' split
    all_goals simp [ih]

@[simp] theorem State.turnStream_ports (i : Nat) (s : State) : (s.turnStream i).cmd.portIds = s.cmd.portIds := State.turn_ports _ _ _

@[simp] theorem State.turnOry_ports (s : State) : s.turnOry.cmd.portIds = s.cmd.portIds := by
  unfold State.turnOry
  generalize s.ory.tx.entries.length + 1 = n
  induction n generalizing s with
  | zero => rfl
  | succ n ih =>
    rw [State.turnOryN]
    split
    · exact State.dropOryN_ports _ _
    · exact ih _
    · rfl

@[simp] theorem State.fwStamp_ports (p t : Nat) (f : FwFrame) (s : State) : (s.fwStamp p t f).1.cmd.portIds = s.cmd.portIds := by
  unfold State.fwStamp
  dsimp only
  repeat' split
  all_goals rfl

/-- A frame taken from a command port's queue leaves the port. -/
@[simp] theorem State.takeFrame_ports (live : Bool) (p q t : Nat) (k : TxPick) (s : State) :
    (s.takeFrame live p q t k).1.cmd.portIds = s.cmd.portIds := by
  cases k with
  | fw i =>
    rw [State.takeFrame]
    split
    · simp
    · rfl
  | reply c =>
    have hpop : ∀ f : CmdPort → Bool, (s.mapPort c (fun x => { x with q := x.q.pop, dropped := f x })).cmd.portIds = s.cmd.portIds :=
      fun f => portIds_map c _ (by exact fun _ => rfl) s
    have hmark : (s.mapPort c (fun x => { x with q := x.q.pop })).cmd.portIds = s.cmd.portIds := portIds_map c _ (by exact fun _ => rfl) s
    rw [State.takeFrame]
    split
    · split
      · dsimp only
        split
        · exact hpop _
        · exact hpop _
      · exact hmark
    · rfl
  | ory => rw [State.takeFrame]; split <;> rfl
  | stream i =>
    rw [State.takeFrame]
    dsimp only
    split
    · rfl
    · split <;> rfl

theorem State.discardOne_ports (p : Nat) (s t : State) (h : s.discardOne p = some t) : t.cmd.portIds = s.cmd.portIds := by
  unfold State.discardOne at h
  extract_lets s1 at h
  have h1 : s1.cmd.portIds = s.cmd.portIds :=
    (ports_foldl _ (fun s i => State.turnStream_ports i s) _ _).trans (State.turnOry_ports s)
  split at h
  next q k _ =>
    have hk := State.takeFrame_ports false p q s1.tim.now k s1
    split at h
    all_goals
      next e =>
        rw [e] at hk
        cases h
        exact hk.trans h1
  · cases h

@[simp] theorem State.discardN_ports (p n : Nat) : ∀ s : State, (s.discardN p n).cmd.portIds = s.cmd.portIds := by
  induction n with
  | zero => intro s; rfl
  | succ n ih =>
    intro s
    rw [State.discardN]
    split
    next t ht => exact (ih t).trans (State.discardOne_ports p s t ht)
    · rfl

@[simp] theorem State.drainPort_ports (p : Nat) (s : State) : (s.drainPort p).cmd.portIds = s.cmd.portIds := by
  unfold State.drainPort
  dsimp only
  rw [State.discardN_ports]
  split <;> rfl

@[simp] theorem State.portOff_ports (p : Nat) (s : State) : (s.portOff p).cmd.portIds = s.cmd.portIds :=
  (State.drainPort_ports p (s.offNow p)).trans rfl

/-! ## The bodies' answers -/

section
variable (h : Hdr) (w : Word) (s : State)

section
variable (hp : (s.xc (bits w 1 0)).present = true) (hm : s.managed (bits w 1 0) = true) (hi : (s.xc (bits w 1 0)).idDone = true)
  (hr : s.flt.held.elem .xcv = false)
include hp hm hi hr

/-- A module that is there, managed and identified is read while its block is not held in reset. -/
theorem xcvRead_answers (a2 : Bool) : xcvRead a2 [w] s =
    let r := (s.muxTo (bits w 1 0)).moduleWords (if a2 then (s.xc (bits w 1 0)).a2 else (s.xc (bits w 1 0)).a0) (if a2 then 128 else 96)
    .ok r.1 r.2 := by
  simp only [xcvRead, arity, par, nth, List.length_singleton, if_true, List.getD_cons_zero, hp, hm, hi, hr, Bool.not_true, Bool.or_false,
    Bool.false_eq_true, if_false]

end

theorem cmdPortAct_disable_later (hc : s.cameOn h (bits w 1 0) = true) :
    cmdPortAct 0 h [w] s = .ok (s.mapPrt (bits w 1 0) (fun x => { x with offAfter := some h.seq })) := by
  simp [cmdPortAct, arity, portCtl, par, nth, hc]

theorem cmdPortAct_disable_now (hc : s.cameOn h (bits w 1 0) = false) : cmdPortAct 0 h [w] s = .ok (s.portOff (bits w 1 0)) := by
  simp [cmdPortAct, arity, portCtl, par, nth, hc]

theorem cmdPortAct_reread_absent (hp : (s.xc (bits w 1 0)).present = false) : cmdPortAct 2 h [w] s = .fail s eState := by
  simp [cmdPortAct, arity, portCtl, par, nth, hp]

theorem cmdPortAct_reread (hp : (s.xc (bits w 1 0)).present = true) :
    let again := fun (x : Xcv) => { Xcv.anew x with idDone := !s.managed (bits w 1 0), idValid := false, ddm := false, extCal := false }
    cmdPortAct 2 h [w] s = .ok (s.mapXcv (bits w 1 0) (fun x =>
      if x.txflt = true ∧ s.managed (bits w 1 0) = false then Xcv.attempt (again x) else again x)) := by
  simp [cmdPortAct, arity, portCtl, par, nth, hp]
end

/-- Settles O26: each command by its body's answer; which command ports are allocated stays, also where a port is drained. -/
theorem transceiverCommandsComplete : Obligations.TransceiverCommandsComplete := by
  unfold Obligations.TransceiverCommandsComplete
  refine ⟨?readid, ?diag, ?later, ?now, ?enable, ?reread, ?absent, ?clear⟩
  case readid =>
    intro h w s ht hp hm hi hr r
    exact ⟨_, rfl, serve_ok 0x0F00 0 h _ r.2 cmdXcvReadid s r.1 ht (xcvRead_answers w s hp hm hi hr false)
      (takes_port_of_ids ht (congrArg Cmd.portIds (State.muxTo_cmd _ s)))⟩
  case diag =>
    intro h w s ht hp hm hi hr r
    exact ⟨_, rfl, serve_ok 0x0F01 0 h _ r.2 cmdXcvDiag s r.1 ht (xcvRead_answers w s hp hm hi hr true)
      (takes_port_of_ids ht (congrArg Cmd.portIds (State.muxTo_cmd _ s)))⟩
  case later =>
    intro h w s ht hc
    exact ⟨_, rfl, serve_ok 0x0F02 0 h _ [] (cmdPortAct 0) s _ ht (cmdPortAct_disable_later h w s hc) (takes_port_of_ids ht rfl)⟩
  case now =>
    intro h w s ht hc
    exact ⟨_, rfl, serve_ok 0x0F02 0 h _ [] (cmdPortAct 0) s _ ht (cmdPortAct_disable_now h w s hc)
      (takes_port_of_ids ht (State.portOff_ports _ s))⟩
  case enable =>
    intro h w s ht p u
    have hu : u.cmd.portIds = s.cmd.portIds := by
      simp only [u]
      split
      · rfl
      · exact State.drainPort_ports p s
    exact ⟨_, rfl, serve_ok 0x0F02 0 h _ [] (cmdPortAct 1) s _ ht rfl (takes_port_of_ids ht hu)⟩
  case reread =>
    intro h w s ht hp again
    exact ⟨_, rfl, serve_ok 0x0F02 0 h _ [] (cmdPortAct 2) s _ ht (cmdPortAct_reread h w s hp) (takes_port_of_ids ht rfl)⟩
  case absent =>
    intro h w s ht hp
    exact ⟨_, rfl, serve_fail 0x0F02 eState 0 h _ (cmdPortAct 2) s ht (cmdPortAct_reread_absent h w s hp)⟩
  case clear =>
    intro h w s ht
    exact ⟨_, rfl, serve_ok 0x0F02 0 h _ [] (cmdPortAct 3) s _ ht rfl (takes_port_of_ids ht rfl)⟩

end Sys2Proof.Machine
end

section
/-! SUPPORT. Frame reception: the filters and counts of a frame (R83, R84, R102), and a command datagram by the checks of its packet and its
source's port (R38-R40, R52, R86). -/

namespace Sys2Proof.Machine

/-! ## The receiver of a port (R83, R84, R102) -/

/-- A frame received by the Coma half leaves its operation's state at the instant it comes. -/
theorem receive_does (p t e : Nat) (bs : List Byte) (s u : State) (hup : s.comaUp = true)
    (hu : doReceive State.datagramIn p t bs e (s.reach t) = u) : DoesJudged (.frameReceive p t { bytes := bs, errs := e }) s u := by
  refine doesJudged_of_effect _ s _ u rfl ?_
  rw [if_pos hup]
  exact (whenUp_coma _ (s.reach t) hup).trans hu

section
variable (inband : InBand → State → State) (p t : Nat) (bs : List Byte) (s : State)

theorem doReceive_balls (e : Nat) (hp : p < 4) (hc : bit (s.prtCtl p) 1 = false) :
    doReceive inband p t bs e s = (s.bumpC (aPrt p 0x13C) e).frameIn inband p t bs := by
  simp only [doReceive, hc, Bool.false_eq_true, if_false, if_pos hp]

theorem doReceive_loopback (e : Nat) (hc : bit (s.prtCtl p) 1 = true) : doReceive inband p t bs e s = s := if_pos hc

section
variable (hp : p < 4) (hl : (s.port p).link = true)
include hp hl

theorem State.frameIn_badFcs (hq : s.quiet p = false) (hf : fcs (bs.take (bs.length - 4)) ≠ bs.drop (bs.length - 4)) :
    s.frameIn inband p t bs = s.bumpC (aPrt p prtFcserr) 1 := by
  simp only [State.frameIn, hl, Nat.not_le.mpr hp, Bool.not_true, Bool.false_eq_true, or_self, if_false, ne_eq, hf, not_false_eq_true, or_true,
    if_true, hq, Bool.false_and]

/-- A frame of an enabled port that passes the FCS, runt and address checks goes to the VLAN filter. -/
theorem State.frameIn_admits (h64 : 64 ≤ bs.length) (hon : s.prtOn p = true)
    (hf : fcs (bs.take (bs.length - 4)) = bs.drop (bs.length - 4)) (hd : s.dstOk p (rxOf (bs.take (bs.length - 4))) = true) :
    s.frameIn inband p t bs = s.rxAdmit inband p t bs.length (rxOf (bs.take (bs.length - 4))) := by
  have h4 : ¬ bs.length < 4 := by omega
  simp only [State.frameIn, hl, Nat.not_le.mpr hp, Bool.not_true, Bool.false_eq_true, or_self, if_false, h4, ne_eq, hf, not_true_eq_false, hon,
    Nat.not_lt.mpr h64, hd, if_true]
end

/-- A frame on a VLAN of the port, no longer than its limit and not one that quiet handling drops, is counted and given to its row. -/
theorem State.rxAdmit_dispatches (len : Nat) (r : Rx) (hv : s.vlanOk p r = .yes) (hlen : len ≤ s.maxlen p)
    (hq : s.quiet p = true → s.rxRow p r ≠ 2 ∧ s.rxRow p r ≠ 6 ∧ s.rxRow p r ≠ 10) :
    s.rxAdmit inband p t len r =
      ((s.bumpC (aPrt p (0x80 + 4 * s.rxPri p r)) 1).mapPrt p (fun x => { x with rxBytes := (x.rxBytes + len) % 2 ^ 64 })).rxDispatch inband p
        (s.rxPri p r) t ((s.stamp p 0 t).fdiv 65536).toNat len (s.rxRow p r) r := by
  have hlong : ¬ s.maxlen p < len := Nat.not_lt.mpr hlen
  have hquiet : (s.quiet p && (s.rxRow p r == 2 || s.rxRow p r == 6 || s.rxRow p r == 10)) = false := by
    cases h : s.quiet p with
    | false => rfl
    | true =>
      obtain ⟨h2, h6, h10⟩ := hq h
      simp [h2, h6, h10]
  simp only [State.rxAdmit, hv, hlong, decide_false, Bool.false_or, reduceCtorEq, false_and, hquiet, Bool.false_eq_true, if_false]
end

/-! ## Command datagrams (R52, R86) -/

section
variable (inband : InBand → State → State) (p q t arr len : Nat) (r : Rx) (i : IpPart) (s : State) (hi : ipOf r = some i)
  (hen : bit (s.rwC (aPrt p 0x2C)) 13 = true) (hm : s.onMgmt p r = true)
include hi hen hm

theorem State.rxDispatch_command (hf : s.stagingFits p q len = true) : s.rxDispatch inband p q t arr len 7 r =
    (inband { net := p, v6 := i.v6, ip := i.src, udp := i.sport, payload := i.data,
              path := { mac := r.src, v6 := i.v6, tag := r.tag.map (fun x => x.1), dscp := i.dscp, pri := q, len := len } } s).judgeXoffs := by
  simp [State.rxDispatch, hi, hen, hm, hf]

theorem State.rxDispatch_command_full (hf : s.stagingFits p q len = false) : s.rxDispatch inband p q t arr len 7 r = s.stagingDrop p q := by
  simp [State.rxDispatch, hi, hen, hm, hf]
end

/-! ## The lowest free command port (R39) -/

theorem State.any_portId (j : Nat) (s : State) : s.cmd.ports.any (fun c => c.id == j) = (s.port? j).isSome := by
  rw [State.port?, findBy, Bool.eq_iff_iff]
  simp

theorem State.freePort_none (s : State) (h : ∀ i, 1 ≤ i → i ≤ 16 → (s.port? i).isSome = true) : s.freePort = none := by
  refine List.find?_eq_none.mpr fun i hi => ?_
  obtain ⟨k, hk, rfl⟩ := List.mem_map.mp hi
  have hk' := List.mem_range.mp hk
  simp [State.any_portId, h (k + 1) (by omega) (by omega)]

theorem State.freePort_lowest (i : Nat) (s : State) (h1 : 1 ≤ i) (h16 : i ≤ 16) (hi : s.port? i = none)
    (hlow : ∀ j, 1 ≤ j → j < i → (s.port? j).isSome = true) : s.freePort = some i := by
  obtain ⟨k, rfl⟩ : ∃ k, i = k + 1 := ⟨i - 1, by omega⟩
  have hfind : (List.range 16).find? (fun j => !(s.port? (j + 1)).isSome) = some k := by
    rw [List.find?_range_eq_some]
    refine ⟨by simp [hi], List.mem_range.mpr (by omega), fun j hj => ?_⟩
    simp [hlow (j + 1) (by omega) (by omega)]
  simp only [State.freePort, List.find?_map, Function.comp_def, State.any_portId, hfind, Option.map_some]

/-! ## A packet in band (R38-R40) -/

section
variable (v : Via) (n : Nat) (rep : State → State) (bs : List Byte) (s : State)

theorem State.packetIn_rejects (code : Byte) (hc : pktCheck n bs = some code) : s.packetIn v n rep bs = s.reject v bs code 0 := by
  simp only [State.packetIn, hc]

theorem State.packetIn_rep (hc : pktCheck n bs = none) (hr : (nth 0 bs 2).getLsbD 2 = true) : s.packetIn v n rep bs = rep s := by
  simp only [State.packetIn, hc, hr, if_true]

theorem State.packetIn_sequences (hc : pktCheck n bs = none) (hr : (nth 0 bs 2).getLsbD 2 = false) :
    s.packetIn v n rep bs = s.sequenced v bs := by
  simp only [State.packetIn, hc, hr, Bool.false_eq_true, if_false]
end

section
variable (b : InBand) (bs : List Byte) (s : State)

/-- Nothing is taken before the Coma firmware runs; then the datagram's packet comes in (R52, R390). -/
theorem State.datagramIn_packet (hf : s.pwr.fw = true) : s.datagramIn b =
    s.packetIn (.udp b) (if s.maxlen b.net < 4166 then 360 else 1020) (fun s => s.bumpC (aPrt b.net prtCmdrej) 1) b.payload := by
  simp only [State.datagramIn, hf, Bool.not_true, Bool.false_eq_true, if_false]

section
variable (c : CmdPort) (hc : s.portOf (.udp b) = some c)
include hc

theorem State.reject_udp_port (code : Byte) (d : Nat) : s.reject (.udp b) bs code d =
    s.sendReply { s.buildReply (pktHdr c.id bs) (pktOp bs) code d [] with path := b.path } c.id := by
  simp only [State.reject, hc]

theorem State.sequenced_udp_next (hr : (nth 0 bs 2).getLsbD 1 = false) (hq : (pktHdr c.id bs).seq = s.expectedSeq c) :
    s.sequenced (.udp b) bs =
      (s.mapPort c.id (fun c => { c with path := b.path })).dispatch (pktOp bs) (pktHdr c.id bs) (pktParams bs) := by
  have hr' : (pktHdr 0 bs).resync = false := hr
  simp only [State.sequenced, hc, hr', Bool.false_eq_true, if_false, hq, if_true]

theorem State.sequenced_udp_resync (hr : (nth 0 bs 2).getLsbD 1 = true) : s.sequenced (.udp b) bs =
    ((s.mapPort c.id (fun c => { c with path := b.path })).resync c.id).dispatch (pktOp bs) (pktHdr c.id bs) (pktParams bs) := by
  have hr' : (pktHdr 0 bs).resync = true := hr
  simp only [State.sequenced, hc, hr', if_true]
end

section
variable (hc : s.portOf (.udp b) = none)
include hc

/-- A source without a port gets its answer in a frame of priority 7. -/
theorem State.reject_udp_source (code : Byte) (d : Nat) : s.reject (.udp b) bs code d =
    s.pushFw b.net 7 (s.replyFrame b.net b.ip b.udp false { s.buildReply (pktHdr 0 bs) (pktOp bs) code d [] with path := b.path }) := by
  simp only [State.reject, hc]

theorem State.sequenced_udp_source (hr : (nth 0 bs 2).getLsbD 1 = false) : s.sequenced (.udp b) bs = s.reject (.udp b) bs eSeq 1 := by
  have hr' : (pktHdr 0 bs).resync = false := hr
  simp only [State.sequenced, hc, hr', Bool.not_false, if_true]

section
variable (hr : (nth 0 bs 2).getLsbD 1 = true)
include hr

theorem State.sequenced_udp_full (hn : s.freePort = none) : s.sequenced (.udp b) bs = s.reject (.udp b) bs eBusy 0 := by
  have hr' : (pktHdr 0 bs).resync = true := hr
  simp only [State.sequenced, hc, hr', Bool.not_true, Bool.false_eq_true, if_false, hn]

theorem State.sequenced_udp_allocates (i : Nat) (hi : s.freePort = some i) :
    let c : CmdPort := { CmdPort.fresh i with net := b.net, v6 := b.v6, ip := b.ip, udp := b.udp, path := b.path }
    s.sequenced (.udp b) bs = State.dispatch (pktOp bs) (pktHdr i bs) (pktParams bs)
      { s with cmd := { s.cmd with ports := insertBy CmdPort.id c s.cmd.ports } } := by
  have hr' : (pktHdr 0 bs).resync = true := hr
  simp only [State.sequenced, hc, hr', Bool.not_true, Bool.false_eq_true, if_false, hi]
end
end
end

/-- Settles O29: a frame by the checks of its receiver; a command datagram by its packet's checks and by whether its source has a port. -/
theorem frameReceptionCompletes : Obligations.FrameReceptionCompletes := by
  unfold Obligations.FrameReceptionCompletes
  refine ⟨?dispatched, ?badFcs, ?loopback, ?command, ?silent, ?datagram⟩
  case dispatched =>
    intro p t bs e s hup hp h64 hctl x r hl hon hf hd hv hlen hquiet q u
    exact receive_does p t e bs s _ hup ((doReceive_balls _ p t bs (s.reach t) e hp hctl).trans
      ((State.frameIn_admits _ p t bs x hp hl h64 hon hf hd).trans (State.rxAdmit_dispatches _ p t x bs.length r hv hlen hquiet)))
  case badFcs =>
    intro p t bs e s hup hp _ hctl x hl hq hf
    exact receive_does p t e bs s _ hup ((doReceive_balls _ p t bs (s.reach t) e hp hctl).trans (State.frameIn_badFcs _ p t bs x hp hl hq hf))
  case loopback =>
    intro p t bs e s hup hctl
    exact receive_does p t e bs s _ hup (doReceive_loopback _ p t bs (s.reach t) e hctl)
  case command =>
    intro p q t arr len r i s hi hen hm b
    exact ⟨State.rxDispatch_command _ p q t arr len r i s hi hen hm, State.rxDispatch_command_full _ p q t arr len r i s hi hen hm⟩
  case silent =>
    intro b s hf
    simp only [State.datagramIn, hf, Bool.not_false, if_true]
  case datagram =>
    intro b s hf bs maxL told
    have hpacket := State.datagramIn_packet b s hf
    refine ⟨fun code c hk hc => ?_, fun code hk hc => ?_, fun hk hrep => ?_, fun hk hrep => ?_⟩
    · rw [hpacket, State.packetIn_rejects _ _ _ _ s code hk, State.reject_udp_port b bs s c hc]
    · rw [hpacket, State.packetIn_rejects _ _ _ _ s code hk, State.reject_udp_source b bs s hc]
    · rw [hpacket, State.packetIn_rep _ _ _ _ s hk hrep]
    · rw [hpacket, State.packetIn_sequences _ _ _ _ s hk hrep]
      intro resync
      refine ⟨fun c hc hr hq => ?_, fun c hc hr => ?_, fun hc hr => ?_, fun hc hr hall => ?_, fun i hc hr h1 h16 hi hlow => ?_⟩
      · exact State.sequenced_udp_next b bs s c hc hr hq
      · exact State.sequenced_udp_resync b bs s c hc hr
      · rw [State.sequenced_udp_source b bs s hc hr, State.reject_udp_source b bs s hc]
      · rw [State.sequenced_udp_full b bs s hc hr (s.freePort_none hall), State.reject_udp_source b bs s hc]
      · exact State.sequenced_udp_allocates b bs s hc hr i (s.freePort_lowest i h1 h16 hi hlow)

end Sys2Proof.Machine
end

section
/-! SUPPORT. The CLR rows of the Nucleus half: what the write of a CLR register leaves of its block (R126, R127, R149, R185, R206, R231, R261,
R262, R280). -/

namespace Sys2Proof.Machine

/-! ## A register that a row names -/

/-- The address is that of a register whose write forces no occurrence. -/
abbrev RowRegister (hf : Half) (a : Nat) : Prop :=
  isReg hf a = true ∧ a < 2 ^ 32 ∧ inst (fltBase hf + 0x80) 0x10 (fltCount hf) 0xC a = none

/-- The write of a Nucleus register that selects nothing is what its block does with the word. -/
theorem State.writeReg_nucleus (a : Nat) (w : Word) (s : State)
    (hwin : ∀ x : State, x.windowOf .nucleus a (w &&& rwMask .nucleus a) = none) : s.writeReg .nucleus a w = s.writeN a w := by
  simp [State.writeReg, State.fillWindow, hwin]

/-- The row of a Nucleus register that selects nothing, where its block leaves u. -/
theorem nucleus_row_writes (c : Instr) (h : Hdr) (a : Nat) (w : Word) (s u : State)
    (hx : exec c s = .next (State.settled (s.writeRow .nucleus a w h))) (ht : s.takesWrite h .nucleus a w = true)
    (hr : RowRegister .nucleus a) (hwin : ∀ x : State, x.windowOf .nucleus a (w &&& rwMask .nucleus a) = none)
    (hu : (s.noted h .nucleus a).writeN a w = u) (hp : u.cmd.portIds = s.cmd.portIds) : Writes c h .nucleus s u := by
  obtain ⟨hreg, hbound, hforce⟩ := hr
  exact row_writes c h .nucleus a w s u hx ht hreg hbound hforce ((State.writeReg_nucleus a w _ hwin).trans hu) hp

/-! ## The CLR registers whose block has counters of its own beside the register file's -/

theorem State.writeN_ingClr (s : State) :
    s.writeN 0x020018 1 = { s.clearCtr .nucleus 0x020040 0x020088 with
      ing := { s.ing with srcs := s.ing.srcs.map (fun x => { x with cnt := List.replicate 14 0 }) } } := rfl

theorem State.writeN_srcClrCounters (s : State) :
    s.writeN 0x028080 1 = s.mapSrcSt (s.rwN 0x028000).toNat (fun x => { x with cnt := List.replicate 14 0 }) := rfl

theorem State.writeN_srcClrEphemeris (s : State) : s.writeN 0x028080 2 = s.mapSrcSt (s.rwN 0x028000).toNat Src.resetEph := rfl

theorem State.writeN_phxClr (s : State) :
    s.writeN 0x040018 1 = { s.clearCtr .nucleus 0x040040 0x040068 with phx := { s.phx with
      ests := s.phx.ests.map (fun (e : Est) => { e with cnt := e.cnt.map (fun _ => 0) })
      pairs := s.phx.pairs.map (fun (x : Pair) => { x with cnt := x.cnt.map (fun _ => 0) }) } } := rfl

theorem State.writeN_islClr (s : State) :
    s.writeN 0x050040 1 = { s.clearCtr .nucleus 0x050044 0x050084 with
      isl := { s.isl with branches := s.isl.branches.map (fun (b : Branch) => { b with opens := 0, seps := 0 }) } } := rfl

theorem State.writeN_almClr (s : State) :
    s.writeN 0x07001C 1 = { s.clearCtr .nucleus 0x070000 0x078000 with
      alm := { s.alm with rules := s.alm.rules.map (fun (r : RuleSt) => { r with cnt := r.cnt.map (fun _ => 0) }) } } := rfl

/-! ## The CLR registers that clear the register file's counters alone -/

theorem State.writeN_alnClr (s : State) : s.writeN 0x03001C 1 = s.clearCtr .nucleus 0x030000 0x030C00 := rfl
theorem State.writeN_lbeClr (s : State) : s.writeN 0x060014 1 = s.clearCtr .nucleus 0x060000 0x070000 := rfl
theorem State.writeN_egrClr (s : State) : s.writeN 0x078010 1 = s.clearCtr .nucleus 0x078000 0x080000 := rfl
theorem State.writeN_oryClr (s : State) : s.writeN 0x080030 1 = s.clearCtr .nucleus 0x080040 0x080080 := rfl

/-- Settles O10: a CLR register selects nothing, and its block leaves the state that its own equation names, the command ports as they were. -/
theorem nucleusClearRowsComplete : Obligations.NucleusClearRowsComplete := by
  unfold Obligations.NucleusClearRowsComplete
  refine ⟨?ing, ?srcCounters, ?srcEphemeris, ?aln, ?phx, ?isl, ?lbe, ?alm, ?egr, ?ory⟩
  all_goals intro h s ht
  case ing => exact nucleus_row_writes _ h _ 1 s _ rfl ht (by decide) (fun _ => rfl) (State.writeN_ingClr _) (by simp)
  case srcCounters =>
    refine nucleus_row_writes _ h _ 1 s _ rfl ht (by decide) (fun _ => rfl) ?_ (by simp [State.mapSrcSt])
    rw [State.writeN_srcClrCounters, State.rwN, State.noted_rw]
  case srcEphemeris =>
    refine nucleus_row_writes _ h _ 2 s _ rfl ht (by decide) (fun _ => rfl) ?_ (by simp [State.mapSrcSt])
    rw [State.writeN_srcClrEphemeris, State.rwN, State.noted_rw]; rfl
  case aln => exact nucleus_row_writes _ h _ 1 s _ rfl ht (by decide) (fun _ => rfl) (State.writeN_alnClr _) (by simp)
  case phx => exact nucleus_row_writes _ h _ 1 s _ rfl ht (by decide) (fun _ => rfl) (State.writeN_phxClr _) (by simp)
  case isl => exact nucleus_row_writes _ h _ 1 s _ rfl ht (by decide) (fun _ => rfl) (State.writeN_islClr _) (by simp)
  case lbe => exact nucleus_row_writes _ h _ 1 s _ rfl ht (by decide) (fun _ => rfl) (State.writeN_lbeClr _) (by simp)
  case alm => exact nucleus_row_writes _ h _ 1 s _ rfl ht (by decide) (fun _ => rfl) (State.writeN_almClr _) (by simp)
  case egr => exact nucleus_row_writes _ h _ 1 s _ rfl ht (by decide) (fun _ => rfl) (State.writeN_egrClr _) (by simp)
  case ory => exact nucleus_row_writes _ h _ 1 s _ rfl ht (by decide) (fun _ => rfl) (State.writeN_oryClr _) (by simp)

end Sys2Proof.Machine
end

section
/-! SUPPORT. The select rows: the number stored in the register's RW bits and the window filled with its entry's words (R127, R185, R206, R261,
R280, R298, R360, R364, R406). -/

namespace Sys2Proof.Machine

/-! ## Words put into a window -/

/-- Words below a window's first address are left alone. -/
theorem get_putWords_below (ws : List Word) : ∀ (m : WMap) (b j : Nat), j < b → WMap.get zeroW (putWords m b ws) j = WMap.get zeroW m j := by
  induction ws with
  | nil => intro m b j _; rfl
  | cons w ws ih =>
    intro m b j hj
    rw [putWords, ih _ _ _ (by omega), WMap.get_put_ne _ _ _ _ (by omega)]

/-- Word k of those put stands 4 k above the first address. -/
theorem get_putWords (ws : List Word) : ∀ (m : WMap) (b k : Nat) (x : Word), ws[k]? = some x →
    WMap.get zeroW (putWords m b ws) (b + 4 * k) = x := by
  induction ws with
  | nil => intro m b k x hk; simp at hk
  | cons w ws ih =>
    intro m b k x hk
    rw [putWords]
    cases k with
    | zero =>
      rw [get_putWords_below _ _ _ _ (by omega), Nat.mul_zero, Nat.add_zero, WMap.get_put_self]
      simpa using hk
    | succ k =>
      rw [show b + 4 * (k + 1) = b + 4 + 4 * k by omega]
      exact ih _ _ k x (by simpa using hk)

/-! ## What a select leaves of the register file -/

@[simp] theorem State.rw_putRw_self (hf : Half) (a : Nat) (w : Word) (s : State) : (s.putRw hf a w).rw hf a = w := by
  cases hf <;> exact WMap.get_put_self _ _ _

theorem State.rw_putRw_ne (hf : Half) (a x : Nat) (w : Word) (s : State) (hx : x ≠ a) : (s.putRw hf a w).rw hf x = s.rw hf x := by
  cases hf <;> exact WMap.get_put_ne _ _ _ _ hx

theorem State.selects_rw (hf : Half) (a : Nat) (w : Word) (b : Nat) (f : State → List Word) (x : Nat) (s : State) :
    (s.selects hf a w b f).rw hf x = (s.putRw hf a w).rw hf x := by
  cases hf <;> rfl

theorem State.selects_win (hf : Half) (a : Nat) (w : Word) (b : Nat) (f : State → List Word) (s : State) :
    ((s.selects hf a w b f).regs hf).win = putWords (s.regs hf).win b (f (s.putRw hf a w)) := by
  cases hf <;> rfl

/-! ## The rows -/

/-- The row of a register whose block stores the word and whose window shows the entry of its RW bits v. -/
theorem select_writes (c : Instr) (h : Hdr) (hf : Half) (a : Nat) (w v : Word) (b : Nat) (f : State → List Word) (s : State)
    (hx : exec c s = .next (State.settled (s.writeRow hf a w h))) (ht : s.takesWrite h hf a w = true) (hr : RowRegister hf a)
    (hv : w &&& rwMask hf a = v) (hrw : rwMask hf a ≠ 0)
    (hblock : ∀ x : State, x.writeReg hf a w = (x.store hf a w).fillWindow hf a (w &&& rwMask hf a))
    (hwin : ∀ x : State, x.windowOf hf a v = some (b, f x)) : Writes c h hf s ((s.noted h hf a).selects hf a v b f) := by
  obtain ⟨hreg, hbound, hforce⟩ := hr
  refine row_writes c h hf a w s _ hx ht hreg hbound hforce ?_ (by simp [State.selects])
  rw [hblock, State.store, if_pos hrw, hv, State.fillWindow, hwin]
  rfl

/-- Settles O12: each row's block stores the word, and its window is that of the register's RW bits; the window words and the other RW words of the
register file follow from what a select leaves of it. -/
theorem selectRowsComplete : Obligations.SelectRowsComplete := by
  unfold Obligations.SelectRowsComplete
  refine ⟨?src, ?est, ?pair, ?island, ?branch, ?rule, ?neighbour, ?point, ?record, ?note, ?file⟩
  case file =>
    intro hf a w b f s
    refine ⟨?_, fun k x hk => ?_, fun x hne => ?_⟩
    · rw [State.selects_rw, State.rw_putRw_self]
    · rw [State.selects_win]; exact get_putWords _ _ _ _ _ hk
    · rw [State.selects_rw, State.rw_putRw_ne _ _ _ _ _ hne]
  all_goals intro h v s ht
  case island | record =>
    exact select_writes _ h _ _ v _ _ _ s rfl ht (by decide) BitVec.and_allOnes (by decide) (fun _ => rfl) (fun _ => rfl)
  all_goals exact select_writes _ h _ _ v _ _ _ s rfl ht (by decide) rfl (by decide) (fun _ => rfl) (fun _ => rfl)

end Sys2Proof.Machine
end

section
/-! SUPPORT. Parsing and ingest: what a candidate frame, a sampled-value frame, an item of the ingest queue and an estimator's epoch leave
(R110-R113, R119, R122, R130, R131, R172). -/

namespace Sys2Proof.Machine

/-- An event leaves what its operation is shown to leave, where it is one of the Nucleus half and that half runs. -/
theorem does_of_nucleus (c : Instr) (f : State → State) (s u : State) (hx : exec c s = .next (State.settled (whenUp .nucleus f s)))
    (hup : s.nucUp = true) (hu : f s = u) : Does c s u :=
  does_of_effect c s _ u hx ((whenUp_nucleus f s hup).trans hu)

/-! ## Frames (R110, R113) -/

theorem doC37Parse_cons (s : State) (c : Cand) (r : List Cand) (hc : s.ing.cands = c :: r) :
    doC37Parse s = (State.unstage c.port c.pri c.len { s with ing := { s.ing with cands := r } }).parseCand c := by
  simp [doC37Parse, hc]

theorem doSvParse_cons (s : State) (c : Cand) (r : List Cand) (hc : s.ing.svs = c :: r) :
    doSvParse s = (State.unstage c.port c.pri c.len { s with ing := { s.ing with svs := r } }).parseSv c := by
  simp [doSvParse, hc]

/-- With ingest off a candidate is counted and no more (R110). -/
theorem State.parseCand_off (c : Cand) (s : State) (hon : bit (s.rwN 0x020000) 0 = false) : s.parseCand c = s.ingCount 0x020060 3 1 := by
  simp [State.parseCand, hon]

/-- A well-formed data frame of a known source: no command frame, of type 0 and version 1 or 2, its size and check right (R110 steps 1 to 5). -/
theorem State.parseCand_data (c : Cand) (i : Nat) (s : State) (hon : bit (s.rwN 0x020000) 0 = true) (ht : c.trunc = false)
    (hsync : nth 0 c.payload 0 = 0xAA) (hver : nth 0 c.payload 1 = 0x01 ∨ nth 0 c.payload 1 = 0x02) (hlen : 16 ≤ c.payload.length)
    (hsize : fieldAt 2 2 c.payload = c.payload.length)
    (hcrc : crcCcitt (c.payload.take (c.payload.length - 2)) = fieldAt (c.payload.length - 2) 2 c.payload)
    (hsrc : s.lookup c (fieldAt 4 2 c.payload) = some i) : s.parseCand c = s.parseFrame i c := by
  have htype : (nth 0 c.payload 1).toNat / 16 % 8 = 0 := by rcases hver with h | h <;> rw [h] <;> decide
  have hversion : (nth 0 c.payload 1).toNat % 16 = 1 ∨ (nth 0 c.payload 1).toNat % 16 = 2 := by rcases hver with h | h <;> rw [h] <;> decide
  have hcommand : ¬ (nth 0 c.payload 0 = 0xAA ∧ (nth 0 c.payload 1).toNat / 16 % 8 = 4 ∧ (s.cmdStream c (fieldAt 4 2 c.payload)).isSome) := by
    rintro ⟨-, h4, -⟩; omega
  have hform : ¬ (nth 0 c.payload 0 ≠ 0xAA ∨ (nth 0 c.payload 1).toNat / 16 % 8 ≠ 0 ∨
      ¬ ((nth 0 c.payload 1).toNat % 16 = 1 ∨ (nth 0 c.payload 1).toNat % 16 = 2) ∨ c.payload.length < 16) := by
    rintro (h | h | h | h)
    · exact h hsync
    · exact h htype
    · exact h hversion
    · omega
  simp only [State.parseCand]
  rw [if_neg (by simp [hon]), if_neg (by simp [ht]), if_neg hcommand, if_neg hform, if_neg (not_not_intro hsize),
    if_neg (not_not_intro hcrc), hsrc]

/-! ## Items of the ingest queue (R119, R130, R131) -/

theorem doIngestItem_item (t n : Nat) (it : Item) (s : State) (hq : (s.reach t).release.ing.q.head = some (.item it n)) :
    doIngestItem t s = State.ingestItem it { (s.reach t).release with
      ing := { (s.reach t).release.ing with q := (s.reach t).release.ing.q.pop } } := by
  simp [doIngestItem, hq]

/-- A block that is old or repeated is written for no group. -/
theorem State.itemGroups_of_past (i key : Nat) (ent : List Word) (s : State) (h : s.repeated i key = true ∨ s.isOld i key ent = true) :
    s.itemGroups i key ent = [] := by
  rcases h with h | h <;> simp [State.itemGroups, h]

/-- No group's close rules: what waits for a common boundary alone (R46). -/
theorem State.evalGroups_nil (s : State) : s.evalGroups [] = s.idleCommits := rfl

/-- An item that is all old or repeated evaluates no group. -/
theorem State.ingestItem_of_past (it : Item) (s : State)
    (h : ∀ b ∈ it.blocks, s.repeated b.src it.key = true ∨ s.isOld b.src it.key b.ent = true) :
    s.ingestItem it = (it.blocks.foldl (fun (x : State) b => x.ingestBlock it b) s).idleCommits := by
  have hgs : it.blocks.flatMap (fun b => s.itemGroups b.src it.key b.ent) = [] :=
    List.flatMap_eq_nil_iff.mpr fun b hb => State.itemGroups_of_past _ _ _ s (h b hb)
  rw [State.ingestItem, hgs]
  exact State.evalGroups_nil _

/-! ## Epochs of an estimator (R172) -/

/-- A window without an input sample gives no lanes. -/
theorem State.estimateEpoch_empty (i key : Nat) (s : State) (h : (s.windowInputs i key).any (fun l => l.any Option.isSome) = false) :
    s.estimateEpoch i key = (none, s.countGaps i key) := by
  simp only [State.estimateEpoch, h]
  rfl

/-- The item of an epoch at stage 5, whose groups' close rules follow; one that repeats a stored key is counted, unless it is old (R122, R131). -/
def State.epochItem (i key : Nat) (lanes : List Lane) (s : State) : State :=
  let ent := entryWords s.srcT i
  let d : Int := (s.tim.now : Int) - keyNs (srcRate s.srcT i) key
  if s.repeated i key && !s.isOld i key ent then (s.srcCount i cDup).stageAdd 0x0060 0 5 1
  else ((s.srcCount i cFrames).stage5 i key (s.estPort i) ent d false lanes).evalGroups (s.itemGroups i key ent)

theorem State.epochItem_repeated (i key : Nat) (lanes : List Lane) (s : State) (hrep : s.repeated i key = true)
    (hold : s.isOld i key (entryWords s.srcT i) = false) : s.epochItem i key lanes = (s.srcCount i cDup).stageAdd 0x0060 0 5 1 := by
  simp [State.epochItem, hrep, hold]

theorem State.epochItem_written (i key : Nat) (lanes : List Lane) (s : State)
    (h : s.repeated i key = false ∨ s.isOld i key (entryWords s.srcT i) = true) :
    s.epochItem i key lanes = ((s.srcCount i cFrames).stage5 i key (s.estPort i) (entryWords s.srcT i)
      ((s.tim.now : Int) - keyNs (srcRate s.srcT i) key) false lanes).evalGroups (s.itemGroups i key (entryWords s.srcT i)) := by
  rcases h with h | h <;> simp [State.epochItem, h]

/-- An epoch that is due and not yet computed: its item, where its window gives lanes. -/
theorem doEstimateEpoch_due (i key t : Nat) (s : State) (r : Option (List Lane) × State) (hon : (s.reachF t).release.phxOn = true)
    (hrun : ((s.reachF t).release.est i).running = true) (hrate : srcRate (s.reachF t).release.srcT i ≠ 0)
    (hnew : ∀ n, ((s.reachF t).release.est i).done = some n → n < key) (hdue : (s.reachF t).release.estimateDue i key = true)
    (he : (s.reachF t).release.estimateEpoch i key = r) :
    doEstimateEpoch i key t s = (r.1.map (fun lanes => r.2.epochItem i key lanes)).getD r.2 := by
  unfold doEstimateEpoch
  dsimp only
  rw [if_neg]
  · rw [he]
    obtain ⟨_ | lanes, u⟩ := r <;> rfl
  · cases hd : ((s.reachF t).release.est i).done with
    | none => simp [hon, hrun, hrate, hdue]
    | some n => simp [hon, hrun, hrate, hdue, hnew n hd]

/-! ## The events -/

/-- Settles O36: each event runs its operation, the Nucleus half being up. -/
theorem ingestEventsComplete : Obligations.IngestEventsComplete := by
  unfold Obligations.IngestEventsComplete
  refine ⟨?data, ?off, ?sampled, ?item, ?epoch⟩
  case data =>
    intro s c r i hup hc u p hon ht hsync hver hlen hsize hcrc hsrc
    refine does_of_nucleus _ _ s _ rfl hup ((doC37Parse_cons s c r hc).trans ?_)
    exact State.parseCand_data c i u hon ht hsync hver hlen hsize hcrc hsrc
  case off =>
    intro s c r hup hc hoff
    exact does_of_nucleus _ _ s _ rfl hup ((doC37Parse_cons s c r hc).trans (State.parseCand_off c _ hoff))
  case sampled => intro s c r hup hc; exact does_of_nucleus _ _ s _ rfl hup (doSvParse_cons s c r hc)
  case item =>
    intro t s it n hup x hq u
    exact ⟨does_of_nucleus _ _ s _ rfl hup (doIngestItem_item t n it s hq), State.ingestItem_of_past it u⟩
  case epoch =>
    intro i key t s hup x hon hrun hrate hnew hdue
    have hdo := fun r => doEstimateEpoch_due i key t s r hon hrun hrate hnew hdue
    refine ⟨fun hempty => ?_, fun lanes u he h => ?_, fun lanes u he hrep hold => ?_⟩
    · exact does_of_nucleus _ _ s _ rfl hup (hdo _ (State.estimateEpoch_empty i key x hempty))
    · exact does_of_nucleus _ _ s _ rfl hup ((hdo _ he).trans (State.epochItem_written i key lanes u h))
    · exact does_of_nucleus _ _ s _ rfl hup ((hdo _ he).trans (State.epochItem_repeated i key lanes u hrep hold))

end Sys2Proof.Machine
end

section
/-! SUPPORT. Group control: the bodies of GRP.START, GRP.STOP and GRP.QUERY, and when a stopping group stops (R144-R146, R148). -/

namespace Sys2Proof.Machine

/-! ## One group changed -/

theorem State.grp_mapGrp_self (g : Nat) (f : Grp → Grp) (s : State) (hg : g < s.aln.grps.length) : (s.mapGrp g f).grp g = f (s.grp g) :=
  nth_at'_self _ _ _ _ hg

theorem State.grp_mapGrp_ne (g k : Nat) (f : Grp → Grp) (s : State) (hk : k ≠ g) : (s.mapGrp g f).grp k = s.grp k :=
  nth_at'_ne _ _ _ _ _ hk

theorem State.mapGrp_mapGrp (g : Nat) (f f' : Grp → Grp) (s : State) : (s.mapGrp g f).mapGrp g f' = s.mapGrp g (f' ∘ f) := by
  simp only [State.mapGrp, at', List.modify_modify_eq]

/-- Whether a group runs is a matter of its own state and its configured rate. -/
theorem State.runsAt_congr (g t : Nat) (s u : State) (hg : u.grp g = s.grp g) (hr : u.regN = s.regN) : u.runsAt g t = s.runsAt g t := by
  simp only [State.runsAt, State.firstNs, State.grpRate, State.grpCode, State.rw, State.regs, hg, hr]

/-! ## Starting and asking (R144, R146, R58) -/

theorem State.toP5_of_other_phase (s : State) (h : s.pwr.phase ≠ 4) : s.toP5 = s := if_neg h

theorem cmdGrpStart_accepted (h : Hdr) (w : Word) (s : State) (hu : s.tim.state ≠ .unset) (hc : s.tim.state ≠ .coarse)
    (hr : (s.grp (bits w 2 0)).run = .stopped) (hm : groupMembers s.srcT (bits w 2 0) ≠ [])
    (hcode : ∀ i, i ∈ groupMembers s.srcT (bits w 2 0) → bits (srcW s.srcT i 6) 11 8 = s.grpCode (bits w 2 0))
    (hfrac : bits (s.rwN (aGrp (bits w 2 0) 4)) 31 8 * s.grpRate (bits w 2 0) < 1000000) :
    cmdGrpStart h [w] s =
      .ok (s.toP5.mapGrp (bits w 2 0) (fun x => { x with run := .running, since := s.follower, conjs := [] })) := by
  have hall : (groupMembers s.srcT (bits w 2 0)).all (fun i => bits (srcW s.srcT i 6) 11 8 == s.grpCode (bits w 2 0)) = true :=
    List.all_eq_true.mpr fun i hi => beq_iff_eq.mpr (hcode i hi)
  simp only [cmdGrpStart, arity, par, nth, List.length_singleton, if_true, List.getD_cons_zero, hu, hc, or_self, if_false, hr, ne_eq,
    not_true_eq_false, List.isEmpty_eq_false_iff.mpr hm, Bool.false_eq_true, hall, Bool.not_true, Nat.not_le.mpr hfrac]

/-! ## Stopping (R145, R148) -/

/-- A group that holds a conjunction that is not FINAL does not stop. -/
theorem State.stopDone_open (g : Nat) (c : Conj) (s : State) (hc : c ∈ (s.grp g).conjs) (ho : c.st ≠ .final) : s.stopDone g = s := by
  have hall : (s.grp g).conjs.all (fun c => decide (c.st = .final)) = false :=
    List.all_eq_false.mpr ⟨c, hc, by simpa using ho⟩
  simp [State.stopDone, hall]

/-- A stopping group with every conjunction FINAL, stopped at no boundary, stops at once. -/
theorem State.stopDone_final (g : Nat) (s : State) (hr : (s.grp g).run = .stopping) (hf : ∀ c ∈ (s.grp g).conjs, c.st = .final)
    (hb : isBoundary (s.grpRate g) (s.grp g).stopAt = false) :
    s.stopDone g = ((s.mapGrp g (fun x => { x with
      run := .stopped, conjs := []
      ended := if s.firstNs g ≤ x.stopAt then some (keyAt (s.grpRate g) x.stopAt) else x.ended })).drainDone.completeOp
        .nucleus 0x0301 g codeOk) := by
  have hall : (s.grp g).conjs.all (fun c => decide (c.st = .final)) = true :=
    List.all_eq_true.mpr fun c hc => decide_eq_true (hf c hc)
  have hyet : s.opensYet g = false := by simp [State.opensYet, hb]
  simp [State.stopDone, hr, hall, hyet]

/-- The state that an accepted GRP.STOP leaves before it is seen whether the group stops at once. -/
def State.stopping (h : Hdr) (g : Nat) (s : State) : State :=
  (s.addOp h 0x0301 g).mapGrp g (fun x => { x with run := .stopping, stopAt := s.follower })

section
variable (h : Hdr) (g : Nat) (s : State)

theorem State.stopping_grp (hg : g < s.aln.grps.length) :
    (s.stopping h g).grp g = { s.grp g with run := .stopping, stopAt := s.follower } :=
  State.grp_mapGrp_self g _ (s.addOp h 0x0301 g) hg

/-- Another group goes on running. -/
theorem State.stopping_runsAt (k t : Nat) (hk : k ≠ g) : (s.stopping h g).runsAt k t = s.runsAt k t :=
  State.runsAt_congr k t s _ (State.grp_mapGrp_ne g k _ (s.addOp h 0x0301 g) hk) rfl

theorem State.stopping_stays (c : Conj) (hg : g < s.aln.grps.length) (hc : c ∈ (s.grp g).conjs) (ho : c.st ≠ .final) :
    (s.stopping h g).stopDone g = s.stopping h g :=
  State.stopDone_open g c _ (by rw [State.stopping_grp h g s hg]; exact hc) ho

/-- With no conjunction open and no boundary in the cycle of the stop, the group stops at once. -/
theorem State.stopping_stops (hg : g < s.aln.grps.length) (hf : ∀ c ∈ (s.grp g).conjs, c.st = .final)
    (hb : isBoundary (s.grpRate g) s.follower = false) :
    (s.stopping h g).stopDone g = (((s.addOp h 0x0301 g).mapGrp g (fun x => { x with
      run := .stopped, stopAt := s.follower, conjs := []
      ended := if s.firstNs g ≤ s.follower then some (keyAt (s.grpRate g) s.follower) else x.ended })).drainDone.completeOp
        .nucleus 0x0301 g codeOk) := by
  have hgrp := State.stopping_grp h g s hg
  have hfirst : (s.stopping h g).firstNs g = s.firstNs g := by simp only [State.firstNs, hgrp]; rfl
  have hrate : (s.stopping h g).grpRate g = s.grpRate g := rfl
  rw [State.stopDone_final g _ (by rw [hgrp]) (by rw [hgrp]; exact hf) (by rw [hgrp]; exact hb), hfirst, hrate, State.stopping,
    State.mapGrp_mapGrp]
  rfl

/-- The end of a stop completes its operation and frees lanes, and so leaves the groups that run. -/
theorem State.stopped_runsAt (k t : Nat) (u : State) (f : Grp → Grp) (hk : k ≠ g) :
    ((u.mapGrp g f).drainDone.completeOp .nucleus 0x0301 g codeOk).runsAt k t = u.runsAt k t := by
  refine State.runsAt_congr k t u _ ?_ ?_
  · rw [State.completeOp, State.complete_frame]; exact State.grp_mapGrp_ne g k f u hk
  · rw [State.completeOp, State.complete_frame]; rfl

/-- While another group runs, what waits for a common boundary waits on after the stop. -/
theorem State.stopped_idleCommits (k : Nat) (u : State) (f : Grp → Grp) (hk8 : k < 8) (hk : k ≠ g) (hr : u.runsAt k u.follower = true) :
    ((u.mapGrp g f).drainDone.completeOp .nucleus 0x0301 g codeOk).idleCommits =
      (u.mapGrp g f).drainDone.completeOp .nucleus 0x0301 g codeOk := by
  refine State.idleCommits_running k _ hk8 ?_
  rw [State.stopped_runsAt g k _ u f hk, ← hr, State.follower, State.completeOp_tim]
  rfl

end

theorem cmdGrpStop_stopped (h : Hdr) (w : Word) (s : State) (hr : (s.grp (bits w 2 0)).run = .stopped) : cmdGrpStop h [w] s = .ok s := by
  simp [cmdGrpStop, arity, par, nth, hr]

theorem cmdGrpStop_running (h : Hdr) (w : Word) (s : State) (hr : (s.grp (bits w 2 0)).run = .running)
    (hb : s.opBusy h 0x0301 (bits w 2 0) = false) :
    cmdGrpStop h [w] s = .pending ((s.stopping h (bits w 2 0)).stopDone (bits w 2 0)).idleCommits := by
  simp only [cmdGrpStop, arity, par, nth, List.length_singleton, if_true, List.getD_cons_zero, hr, hb, Bool.false_eq_true, if_false]
  rfl

/-! ## The commands -/

theorem grpStart_completes (h : Hdr) (w : Word) (s : State) (ht : s.takes 0x0300 h [w] = true) (hu : s.tim.state ≠ .unset)
    (hc : s.tim.state ≠ .coarse) (hr : (s.grp (bits w 2 0)).run = .stopped) (hm : groupMembers s.srcT (bits w 2 0) ≠ [])
    (hcode : ∀ i, i ∈ groupMembers s.srcT (bits w 2 0) → bits (srcW s.srcT i 6) 11 8 = s.grpCode (bits w 2 0))
    (hfrac : bits (s.rwN (aGrp (bits w 2 0) 4)) 31 8 * s.grpRate (bits w 2 0) < 1000000) :
    Completes (.grpStart h [w]) h 0x0300 0 [] s
      (s.toP5.mapGrp (bits w 2 0) (fun x => { x with run := .running, since := s.follower, conjs := [] })) :=
  ⟨_, rfl, serve_ok 0x0300 0 h _ _ cmdGrpStart s _ ht (cmdGrpStart_accepted h w s hu hc hr hm hcode hfrac)
    (takes_port_of_ids ht (by simp))⟩

/-- GRP.STOP of a running group leaves what is shown to come of it. -/
theorem grpStop_defers (h : Hdr) (w : Word) (s u : State) (ht : s.takes 0x0301 h [w] = true) (hr : (s.grp (bits w 2 0)).run = .running)
    (hb : s.opBusy h 0x0301 (bits w 2 0) = false) (hu : ((s.stopping h (bits w 2 0)).stopDone (bits w 2 0)).idleCommits = u)
    (hp : u.cmd.portIds = s.cmd.portIds) : Defers (.grpStop h [w]) h 0x0301 [] s u :=
  ⟨_, rfl, serve_pending 0x0301 h _ [] cmdGrpStop s u ht (hu ▸ cmdGrpStop_running h w s hr hb) (takes_port_of_ids ht hp)⟩

/-- Settles O8: a start by what it requires, a stop by whether the group stops at once, a query by its words. -/
theorem groupCommandsComplete : Obligations.GroupCommandsComplete := by
  unfold Obligations.GroupCommandsComplete
  refine ⟨?start, ?startP4, ?stopNow, ?stopStopped, ?stopLater, ?query⟩
  case start =>
    intro h w s ht hu hc hp hr hm hcode hfrac
    have hstart := grpStart_completes h w s ht hu hc hr hm hcode hfrac
    rwa [State.toP5_of_other_phase s hp] at hstart
  case startP4 =>
    intro h w s ht hu hc hp hr hm hcode hfrac
    exact ⟨grpStart_completes h w s ht hu hc hr hm hcode hfrac, by rw [State.toP5_pwr s hp]⟩
  case stopNow =>
    intro h w k s ht hr hb hf hbound hg hk8 hk hruns i v
    refine grpStop_defers h w s _ ht hr hb ?_ ?_
    · rw [State.stopping_stops h i s hg hf hbound]
      exact State.stopped_idleCommits i k (s.addOp h 0x0301 i) _ hk8 hk hruns
    · rw [State.completeOp_ports]; rfl
  case stopStopped =>
    intro h w s ht hr
    exact ⟨_, rfl, serve_ok 0x0301 0 h _ [] cmdGrpStop s s ht (cmdGrpStop_stopped h w s hr) (takes_port _ h _ s ht)⟩
  case stopLater =>
    intro h w k c s ht hr hb hc ho hg hk8 hk hruns
    refine grpStop_defers h w s _ ht hr hb ?_ rfl
    rw [State.stopping_stays h _ s c hg hc ho]
    exact State.idleCommits_running k _ hk8 ((State.stopping_runsAt h _ s k _ hk).trans hruns)
  case query =>
    intro h w s ht
    exact ⟨_, rfl, serve_ok 0x0302 0 h [w] _ cmdGrpQuery s s ht rfl (takes_port _ h _ s ht)⟩

end Sys2Proof.Machine
end

section
/-! SUPPORT. Repairs: what each row of UPD.REPAIR answers, and what a reset of the Nucleus half leaves (R147, R368, R396-R398). -/

namespace Sys2Proof.Machine

/-! ## The action of a row -/

/-- The action put into a parameter word stands in its low byte. -/
theorem bits_action (k : Nat) (w : Word) (hk : k < 256) : bits ((w &&& ~~~(0xFF : Word)) ||| w32 k) 7 0 = k := by
  have hlow : BitVec.extractLsb' 0 8 ((w &&& ~~~(0xFF : Word)) ||| w32 k) = BitVec.ofNat 8 k := by
    refine BitVec.eq_of_getLsbD_eq fun i hi => ?_
    have hmask : (~~~(0xFF : Word)).getLsbD i = false := by interval_cases i <;> decide
    have h32 : i < 32 := by omega
    simp only [BitVec.getLsbD_extractLsb', Nat.zero_add, BitVec.getLsbD_or, BitVec.getLsbD_and, hmask, w32, BitVec.getLsbD_ofNat, hi, h32,
      decide_true, Bool.and_false, Bool.false_or, Bool.true_and]
  have hnat := congrArg BitVec.toNat hlow
  rwa [BitVec.extractLsb'_toNat, BitVec.toNat_ofNat, Nat.mod_eq_of_lt hk] at hnat

theorem bits_withAction (k : Nat) (w : Word) (hk : k < 256) : bits (par (withAction k [w]) 0) 7 0 = k := bits_action k w hk

theorem length_withAction (k : Nat) (w : Word) : (withAction k [w]).length = 1 := rfl

/-! ## Answers leave the Nucleus half alone -/

/-- t is s but for what replies change: the command ports, the attention fields, the recorder's counts and the registers of the Coma half. -/
def RepliesAlone (s t : State) : Prop := t = { s with cmd := t.cmd, attn := t.attn, rcd := t.rcd, regC := t.regC }

theorem RepliesAlone.refl (s : State) : RepliesAlone s s := rfl
theorem RepliesAlone.trans {s t u : State} (h1 : RepliesAlone s t) (h2 : RepliesAlone t u) : RepliesAlone s u := by
  unfold RepliesAlone at *
  rw [h2, h1]

theorem RepliesAlone.foldl {α : Type} {f : State → α → State} (hf : ∀ s a, RepliesAlone s (f s a)) (l : List α) :
    ∀ s, RepliesAlone s (l.foldl f s) := by
  induction l with
  | nil => exact RepliesAlone.refl
  | cons a r ih => exact fun s => (hf s a).trans (ih _)

theorem Sent.repliesAlone {p : Nat} {s t : State} (h : Sent p s t) : RepliesAlone s t := by
  unfold RepliesAlone
  rw [h.frame]

theorem State.answer_repliesAlone (h : Hdr) (op : Nat) (code : Byte) (d : Nat) (r : List Word) (s : State) :
    RepliesAlone s (s.answer h op code d r) := by
  have hport : RepliesAlone s ((s.served h.half h.port).mapPort h.port (fun c =>
      { c with expected := h.seq + 1, last := some (s.buildReply h op code d r) })) := rfl
  exact hport.trans (sent_reply _ h.port _).repliesAlone

theorem State.refuseWaiting_repliesAlone (s : State) : RepliesAlone s s.refuseWaiting := by
  unfold State.refuseWaiting
  split
  · exact RepliesAlone.refl s
  · have hdrop : RepliesAlone s { s with cmd := { s.cmd with waiting := s.cmd.waiting.filter (fun k => k.hdr.half == .coma) } } := rfl
    refine hdrop.trans (RepliesAlone.foldl (fun s k => ?_) _ _)
    have hpath : RepliesAlone s (s.mapPort k.hdr.port (fun c => { c with path := k.path })) := rfl
    exact hpath.trans (State.answer_repliesAlone _ _ _ _ _ _)

/-- With no packet waiting for the Nucleus half none is answered. -/
theorem State.refuseWaiting_regC (s : State) (hw : ∀ k ∈ s.cmd.waiting, k.hdr.half = .coma) : s.refuseWaiting.regC = s.regC := by
  have hnone : s.cmd.waiting.filter (fun k => k.hdr.half == .nucleus) = [] :=
    List.filter_eq_nil_iff.mpr fun k hk => by rw [hw k hk]; decide
  unfold State.refuseWaiting
  split
  · rfl
  · rw [hnone]; rfl

/-! ## A reset of the Nucleus half (R397) -/

theorem State.clearNucleus_pwr (s : State) : s.clearNucleus.pwr = s.pwr := by
  unfold State.clearNucleus; rw [State.refuseWaiting_repliesAlone]
theorem State.clearNucleus_regN (s : State) :
    s.clearNucleus.regN = { RegFile.empty with rw := if s.ory.joined then s.regN.rw.filter joinRange else [] } := by
  unfold State.clearNucleus; rw [State.refuseWaiting_repliesAlone]
theorem State.clearNucleus_ing (s : State) : s.clearNucleus.ing = Ing.reset := by
  unfold State.clearNucleus; rw [State.refuseWaiting_repliesAlone]
theorem State.clearNucleus_isl (s : State) : s.clearNucleus.isl = Isl.reset := by
  unfold State.clearNucleus; rw [State.refuseWaiting_repliesAlone]
theorem State.clearNucleus_tlkN (s : State) : s.clearNucleus.tlkN = TlkEnd.reset := by
  unfold State.clearNucleus; rw [State.refuseWaiting_repliesAlone]
theorem State.clearNucleus_regC (s : State) (hw : ∀ k ∈ s.cmd.waiting, k.hdr.half = .coma) : s.clearNucleus.regC = s.regC :=
  State.refuseWaiting_regC _ hw

/-- A half in reset has its pins driven to their safe level, so a reset leaves of the cleared half all but the pins and the attention fields. -/
theorem State.resetNucleus_frame (s : State) :
    let u := State.clearNucleus { s with pwr := { s.pwr with nrst := true } }
    s.resetNucleus = { u with alm := { u.alm with pins := s.resetNucleus.alm.pins }, attn := s.resetNucleus.attn } := by
  intro u
  have hsafe : u.pinsSafe = true := by
    have hpwr : u.pwr.nrst = true := by rw [State.clearNucleus_pwr]
    simp [State.pinsSafe, State.nucUp, hpwr]
  have hpins := (State.drivePins_safe (List.range 8) u hsafe).1
  unfold State.resetNucleus State.drivePins
  rw [hpins]
  rfl

theorem State.resetNucleus_ports (s : State) : s.resetNucleus.cmd.portIds = s.cmd.portIds := by
  rw [State.resetNucleus_frame]
  exact State.clearNucleus_ports _

/-! ## The rows -/

section
variable (h : Hdr) (s : State)

theorem repairTile_starts (hr : s.aln.repair = false) (hb : s.opBusy h 0x0D04 1 = false) (hh : (s.src .nucleus 21).handling = true)
    (hs : 0 < s.aln.spares) :
    repairTile h s = .pending ((State.addOp h 0x0D04 1 { s with aln := { s.aln with repair := true, repLeft := 16 } }).latchN 0x030008 16)
      [w32 (s.aln.spares - 1)] := by
  simp [repairTile, hr, hb, hh, Nat.pos_iff_ne_zero.mp hs]

/-- A spared lane is the one the spare stands in for. -/
theorem State.rxSub_spareLane (hf : Half) (l : Nat) : ((s.spareLane hf l).tlk hf).rxSub = some l := by
  cases hf <;> rfl

theorem repairLane_spares (l : Nat) (hrt : (s.tlk h.half).rt = none) (hup : (s.tlk h.half).up = true)
    (hsub : (s.tlk h.half).rxSub = none) (hl : s.worstLane h.half (s.tlk h.half).rxLanes = some l) :
    repairLane h s = .ok ((((s.spareLane h.half l).laneTrained h.half l).laneTrained h.half 8).latch h.half 0x010004 2) [0] := by
  simp [repairLane, hrt, hup, hsub, hl, State.retrained, State.rxSub_spareLane]

theorem repairCore_starts (n : Nat) (hl : s.opLocked h 0x0D04 3 = false) (hb : s.opBusy h 0x0D04 3 = false)
    (hn : s.retiredCore h.half = some n) :
    repairCore h s = .pending (State.addOp h 0x0D04 3 { s with core := { s.core with repairing := s.core.repairing ++ [(h.half, n)] } })
      [w32 (s.spareCount h.half + 1)] := by
  simp [repairCore, hl, hb, hn]

/-- The record of a reset of the Nucleus half is one of the Coma half. -/
theorem repairNucleus_resets (hh : h.half = .coma) (hl : s.opLocked h 0x0D04 4 = false) (hb : s.opBusy h 0x0D04 4 = false)
    (hs : s.upd.nuc.switching = false) :
    repairNucleus { h with half := .nucleus } s = .pending (s.resetNucleus.addOp h 0x0D04 4) [0] := by
  have hc : ({ { h with half := .nucleus } with half := .coma } : Hdr) = h := by rw [← hh]
  simp only [repairNucleus, hc, hl, hb, hs, Bool.false_eq_true, or_self, if_false]

theorem repairComa_resets (hl : s.opLocked h 0x0D04 4 = false) (hb : s.opBusy h 0x0D04 4 = false) :
    repairComa h s = .pending (State.addOp h 0x0D04 4 { s with
      pwr := { s.pwr with resetDue := true }
      flt := { s.flt with rstCause := w32 (0x7F + 2 ^ 15 + 65536 * (s.handCount .coma + s.handCount .nucleus)) } }) [0] := by
  simp [repairComa, hl, hb]

theorem State.spareLane_cmd (hf : Half) (l : Nat) : (s.spareLane hf l).cmd = s.cmd := by
  unfold State.spareLane
  simp
theorem State.laneTrained_cmd (hf : Half) (l : Nat) : (s.laneTrained hf l).cmd = s.cmd := rfl
theorem State.updEvt_cmd (hf : Half) (i : Nat) : (s.updEvt hf i).cmd = s.cmd := by cases hf <;> rfl
theorem State.updCnt_cmd (hf : Half) (a : Nat) : (s.updCnt hf a).cmd = s.cmd := by cases hf <;> rfl

/-- The row of a chip reset is one of the Coma half, so a header of that half is served as it is (R398). -/
theorem exec_updRepairComaReset (ps : List Word) (hh : h.half = .coma) :
    exec (.updRepairComaReset h ps) s = .next (State.settled (s.serve 0x0D04 h (withAction 4 ps) cmdUpdRepair)) := by
  obtain ⟨port, half, tag, seq, resync⟩ := h
  obtain rfl : half = .coma := hh
  rfl

/-- Action 1 is the Nucleus half's (R147). -/
theorem cmdUpdRepair_tile (w : Word) (hh : h.half = .nucleus) : cmdUpdRepair h (withAction 1 [w]) s = repairTile h s := by
  simp only [cmdUpdRepair, arity, length_withAction, if_true, bits_withAction 1 w (by decide), hh]

theorem cmdUpdRepair_lane (w : Word) (u : State) (hu : repairLane h s = .ok u [0]) :
    cmdUpdRepair h (withAction 2 [w]) s = .ok ((u.updEvt h.half 4).updCnt h.half 0x0B0054) [0] := by
  simp only [cmdUpdRepair, arity, length_withAction, if_true, bits_withAction 2 w (by decide), hu, Res.ok]

theorem cmdUpdRepair_core (w : Word) : cmdUpdRepair h (withAction 3 [w]) s = repairCore h s := by
  simp only [cmdUpdRepair, arity, length_withAction, if_true, bits_withAction 3 w (by decide)]

theorem cmdUpdRepair_nucleus (w : Word) (hh : h.half = .nucleus) : cmdUpdRepair h (withAction 4 [w]) s = repairNucleus h s := by
  simp only [cmdUpdRepair, arity, length_withAction, if_true, bits_withAction 4 w (by decide), hh]

theorem cmdUpdRepair_coma (w : Word) (hh : h.half = .coma) : cmdUpdRepair h (withAction 4 [w]) s = repairComa h s := by
  simp only [cmdUpdRepair, arity, length_withAction, if_true, bits_withAction 4 w (by decide), hh]

end

/-- Settles O24: each row by its action's answer; only a reset of the Nucleus half answers packets that wait. -/
theorem repairCommandsComplete : Obligations.RepairCommandsComplete := by
  unfold Obligations.RepairCommandsComplete
  refine ⟨?tile, ?lane, ?core, ?nucleus, ?coma⟩
  case tile =>
    intro h w s hh ht hr hb hhand hs
    exact ⟨_, rfl, serve_pending 0x0D04 h _ _ cmdUpdRepair s _ ht
      ((cmdUpdRepair_tile h s w hh).trans (repairTile_starts h s hr hb hhand hs)) (takes_port_of_ids ht rfl)⟩
  case lane =>
    intro h w l s ht hrt hup hsub hl
    exact ⟨_, rfl, serve_ok 0x0D04 0 h _ [0] cmdUpdRepair s _ ht (cmdUpdRepair_lane h s w _ (repairLane_spares h s l hrt hup hsub hl))
      (takes_port_of_ids ht (by
        rw [State.updCnt_cmd, State.updEvt_cmd, State.latch_cmd, State.laneTrained_cmd, State.laneTrained_cmd, State.spareLane_cmd]))⟩
  case core =>
    intro h w n s ht hl hb hn
    exact ⟨_, rfl, serve_pending 0x0D04 h _ _ cmdUpdRepair s _ ht
      ((cmdUpdRepair_core h s w).trans (repairCore_starts h s n hl hb hn)) (takes_port_of_ids ht rfl)⟩
  case nucleus =>
    intro h w s hh ht hl hb hs
    refine ⟨⟨_, rfl, serve_pending 0x0D04 { h with half := .nucleus } _ [0] cmdUpdRepair s _ ht
      ((cmdUpdRepair_nucleus { h with half := .nucleus } s w rfl).trans (repairNucleus_resets h s hh hl hb hs))
      (takes_port_of_ids ht (State.resetNucleus_ports s))⟩, ?_⟩
    let held : State := { s with pwr := { s.pwr with nrst := true } }
    rw [State.resetNucleus_frame]
    exact ⟨congrArg Power.nrst (State.clearNucleus_pwr held), State.clearNucleus_regN held, State.clearNucleus_ing held,
      State.clearNucleus_isl held, State.clearNucleus_tlkN held, State.clearNucleus_regC held⟩
  case coma =>
    intro h w s hh ht hl hb
    exact ⟨_, exec_updRepairComaReset h s [w] hh, serve_pending 0x0D04 h _ [0] cmdUpdRepair s _ ht
      ((cmdUpdRepair_coma h s w hh).trans (repairComa_resets h s hl hb)) (takes_port_of_ids ht rfl)⟩

end Sys2Proof.Machine
end

section
/-! SUPPORT. Alignment's own events: a boundary, a tick, the end of a migration (R130, R134, R147, R148). -/

namespace Sys2Proof.Machine

/-- A migration's end leaves one spare tile less, and at least one (R147). -/
theorem doTileMigrationEnd_leaves (s : State) (hr : s.aln.repair = true) (hs : 2 ≤ s.aln.spares) :
    let u : State := { s with aln := { s.aln with repair := false, repLeft := 0, spares := s.aln.spares - 1 } }
    doTileMigrationEnd s =
      ((((u.bumpN 0x030010 1).latchN 0x030008 17).bumpN 0x0B0054 1).latchN 0x0B0008 4).completeOp .nucleus 0x0D04 1 codeOk := by
  have hleft : s.aln.spares - 1 ≠ 0 := by omega
  simp [doTileMigrationEnd, State.migrated, hr, hleft]

/-- Settles O37: each event runs its operation, the Nucleus half being up. -/
theorem alignmentEventsComplete : Obligations.AlignmentEventsComplete := by
  unfold Obligations.AlignmentEventsComplete
  refine ⟨?boundary, ?tick, ?migration⟩
  case boundary => exact fun t s hup => does_of_nucleus _ (doEpochBoundary t) s _ rfl hup rfl
  case tick => exact fun t s hup => does_of_nucleus _ (doAlignTick t) s _ rfl hup rfl
  case migration =>
    exact fun s hup hr hs => does_of_nucleus .tileMigrationEnd doTileMigrationEnd s _ rfl hup (doTileMigrationEnd_leaves s hr hs)

end Sys2Proof.Machine
end

section
/-! SUPPORT. The end of a block reset and what else it lets run: the records of operations that completed while the half's dispatch was stopped
(R342, R382, R394, R400). -/

namespace Sys2Proof.Machine

/-! ## The counterexample -/

/-- An operation of command port 0 on the Coma half that completed while that half's dispatch was stopped, its record not written yet. -/
def finishedOp : PendOp := { port := 0, half := .coma, opcode := 0x0D02, res := 0, tag := 0, seq := 0, done := some codeOk }

/-- The device in service with the transceiver block in reset, no packet waiting, and that operation's record still to be written. -/
def recordOwed : State := { State.reset with
  pwr := { Power.reset with mode := .service, phase := 5, fw := true }
  flt := { State.reset.flt with held := [.xcv] }
  cmd := { State.reset.cmd with ops := [finishedOp] } }

/-- With the block's reset over, the scheduler of the Coma half writes the record, and the operation is pending no more. -/
theorem recordOwed_resumes :
    ((whenUp .coma (fun x => (x.blockDone .xcv).resume (domainHalf .xcv)) recordOwed).judge.settled).cmd.ops = [] := by decide +kernel

/-- What the clause names leaves the operation as it was. -/
theorem recordOwed_without_resuming :
    (({ recordOwed with flt := { recordOwed.flt with held := recordOwed.flt.held.filter (fun x => x != .xcv) } } : State).judge.settled).cmd.ops =
      [finishedOp] := by decide +kernel

/-- Refutes O47: its clause on the end of a block reset asks only that no packet waits, while the half's scheduler also takes up its other waiting
work, the sparing of cores and the records of operations that completed during a stop. On recordOwed the event writes such a record; the clause
would have the operation stay pending. -/
theorem not_faultEventsComplete : ¬ Obligations.FaultEventsComplete := by
  unfold Obligations.FaultEventsComplete
  rintro ⟨-, -, -, -, -, -, hblock, -⟩
  have hclause := hblock .xcv recordOwed (by decide) (by decide) (by simp) rfl
  have hops := congrArg (fun t => t.cmd.ops) (Host.Outcome.next.inj hclause)
  rw [recordOwed_without_resuming, recordOwed_resumes] at hops
  exact absurd hops (by simp)

end Sys2Proof.Machine
end

section
/-! SUPPORT. The local front end: what the end of a rover cycle, a stop of paths and a sync request leave (R159, R162, R164). -/

namespace Sys2Proof.Machine

/-! ## Command ports -/

theorem State.mapChans_ports (f : Chan → Chan) (cs : List Nat) (s : State) :
    (cs.foldl (fun (x : State) c => x.mapChan c f) s).cmd.portIds = s.cmd.portIds :=
  ports_foldl (fun (x : State) c => x.mapChan c f) (fun _ _ => rfl) cs s
theorem State.mapChains_ports (f : Chain → Chain) (ps : List Nat) (s : State) :
    (ps.foldl (fun (x : State) p => x.mapChain p f) s).cmd.portIds = s.cmd.portIds :=
  ports_foldl (fun (x : State) p => x.mapChain p f) (fun _ _ => rfl) ps s

@[simp] theorem State.syncRequest_cmd (src : Nat) (s : State) : (s.syncRequest src).cmd = s.cmd := by
  unfold State.syncRequest
  cases s.afe.sync <;> cases s.afe.rover with
  | none => simp only [State.bump_cmd]
  | some r => by_cases h0 : r.step = 0 <;> simp only [h0, if_true, if_false, State.bump_cmd, State.roverAborted_cmd]

@[simp] theorem State.bgStart_cmd (s : State) : s.bgStart.cmd = s.cmd := by unfold State.bgStart; split <;> rfl

@[simp] theorem State.roverNext_cmd (s : State) : s.roverNext.cmd = s.cmd := by
  unfold State.roverNext
  dsimp only
  split
  · rfl
  · split
    · exact State.bgStart_cmd _
    · rfl

@[simp] theorem State.roverEnd_ports (r : Rover) (code : Byte) (s : State) : (s.roverEnd r code).cmd.portIds = s.cmd.portIds := by
  unfold State.roverEnd
  rw [State.roverNext_cmd]
  split
  · exact State.completeOp_ports _ _ _ _ s
  · rfl

@[simp] theorem State.calStop_ports (ps : List Nat) (s : State) : (s.calStop ps).cmd.portIds = s.cmd.portIds := by
  unfold State.calStop
  dsimp only
  split
  · split
    · rw [State.roverEnd_ports, State.roverAborted_cmd, ports_foldl _ (fun t p => State.completeOp_ports _ _ p _ t)]
    · rw [ports_foldl _ (fun t p => State.completeOp_ports _ _ p _ t)]
  · rw [ports_foldl _ (fun t p => State.completeOp_ports _ _ p _ t)]

/-! ## Operations that complete leave the front end alone -/

@[simp] theorem State.completeOp_afe (h : Half) (o r : Nat) (c : Byte) (s : State) : (s.completeOp h o r c).afe = s.afe := by
  unfold State.completeOp
  rw [State.complete_frame]

theorem State.completeOps_afe (ps : List Nat) : ∀ s : State,
    (ps.foldl (fun (t : State) p => t.completeOp .coma 0x0404 p eState) s).afe = s.afe := by
  induction ps with
  | nil => exact fun s => rfl
  | cons p r ih => exact fun s => by rw [List.foldl_cons, ih, State.completeOp_afe]

/-- With the rover idle only queued paths end (R164). -/
theorem State.calStop_idle (ps : List Nat) (s : State) (h : s.afe.rover = none) :
    s.calStop ps = (s.afe.calQ.filter ps.elem).foldl (fun (t : State) p => t.completeOp .coma 0x0404 p eState)
      { s with afe := { s.afe with calQ := s.afe.calQ.filter (fun p => !ps.elem p) } } := by
  simp only [State.calStop, State.completeOps_afe, h]

/-! ## Sync requests (R159, R164) -/

/-- A request of source 0 or 1 merged with a pending one is counted alone, the rover being idle. -/
theorem State.syncRequest_merged (src o : Nat) (s : State) (hr : s.afe.rover = none) (ho : s.afe.sync = some o) (hs : src ≠ 2) :
    s.syncRequest src = s.bumpC 0x068020 1 := by
  have hsame : ({ s with afe := { s.afe with sync := some (if src = 2 then 2 else o) } } : State) = s := by rw [if_neg hs, ← ho]
  unfold State.syncRequest
  rw [hr, ho]
  exact congrArg (State.bumpC 0x068020 1) hsame

theorem State.syncRequest_idle (src : Nat) (s : State) (hr : s.afe.rover = none) (ho : s.afe.sync = none) :
    s.syncRequest src = { s with afe := { s.afe with sync := some src, syncAt := s.tim.now } } := by
  simp only [State.syncRequest, hr, ho]

/-- A request while a cycle is in progress aborts it, to start again after the sync. -/
theorem State.syncRequest_aborts (src : Nat) (r : Rover) (s : State) (hr : s.afe.rover = some r) (h0 : r.step ≠ 0) (ho : s.afe.sync = none) :
    s.syncRequest src =
      let u := (({ s with afe := { s.afe with rover := some { r with step := 0 } } } : State).bumpC 0x068024 1).roverAborted
      { u with afe := { u.afe with sync := some src, syncAt := s.tim.now } } := by
  simp only [State.syncRequest, hr, ho, h0, if_false]

end Sys2Proof.Machine
end

section
/-! SUPPORT. The front end's commands: what each body answers, and that it leaves the command ports allocated (R156, R159, R160, R162, R164). -/

namespace Sys2Proof.Machine

/-! ## The states that the commands leave -/

/-- A channel and the chains of its paths start (R160). -/
def State.startChan (c : Nat) (s : State) : State :=
  (chanPaths c).foldl (fun (y : State) p => y.restartChain p)
    (s.mapChan c (fun k => { k with running := true, taps := k.custom, quiet := 0 }))

/-- Channels and the chains of their paths stop (R164). -/
def State.haltChans (cs : List Nat) (s : State) : State :=
  (cs.flatMap chanPaths).foldl (fun (y : State) p => y.mapChain p (fun k => { k with running := false }))
    (cs.foldl (fun (x : State) c => x.mapChan c (fun k => { k with running := false, lastCyc := [] })) s)

theorem State.startChan_ports (c : Nat) (s : State) : (s.startChan c).cmd.portIds = s.cmd.portIds :=
  ports_foldl (fun (y : State) p => y.restartChain p) (fun _ _ => rfl) _ _

theorem State.haltChans_ports (cs : List Nat) (s : State) : (s.haltChans cs).cmd.portIds = s.cmd.portIds :=
  (State.mapChains_ports _ _ _).trans (State.mapChans_ports _ cs s)

/-! ## The bodies' answers -/

section
variable (h : Hdr) (w : Word) (s : State)

theorem cmdAfeStart_starts : cmdAfeStart h [w] s =
    .ok (((List.range 8).filter (fun c => bit w c && !(s.chan c).running)).foldl (fun x c => x.startChan c) s) := rfl

theorem cmdAfeStop_stops : cmdAfeStop h [w] s =
    let cs := (List.range 8).filter (fun c => bit w c && (s.chan c).running)
    .ok ((s.haltChans cs).calStop (cs.flatMap chanPaths)) := rfl

theorem cmdCicLoadcoef_loads (cs : List Word) (hc : cs.length = 64) (hs : ∀ c, c < 8 → bit w c = true → (s.chan c).running = false) :
    cmdCicLoadcoef h (w :: cs) s = .ok (((List.range 8).filter (fun c => bit w c)).foldl (fun x c =>
      x.mapChan c (fun k => { k with custom := some cs })) s) := by
  have hlen : (w :: cs).length = 65 := by simp [hc]
  have hstopped : ((List.range 8).filter (fun c => bit w c)).any (fun c => (s.chan c).running) = false := by
    simpa using hs
  have hw : par (w :: cs) 0 = w := rfl
  simp only [cmdCicLoadcoef, arity, hlen, if_true, hw, hstopped, Bool.false_eq_true, if_false, List.drop_succ_cons, List.drop_zero]

section
variable (hp : bits w 3 0 ≤ 12) (hl : s.opLocked h 0x0404 (bits w 3 0) = false) (hb : s.opBusy h 0x0404 (bits w 3 0) = false)
  (hq : bits w 3 0 ∉ s.afe.calQ) (hr : s.calReady (bits w 3 0) = true)
include hp hl hb hq hr

theorem cmdAfeCal_starts (hn : s.afe.rover = none) :
    cmdAfeCal h [w] s = .pending ((s.addOp h 0x0404 (bits w 3 0)).roverStart (bits w 3 0) true) := by
  have hw : par [w] 0 = w := rfl
  have hn' : (s.addOp h 0x0404 (bits w 3 0)).afe.rover = none := hn
  simp [cmdAfeCal, arity, hw, hl, hb, hq, hr, hn, hn', Nat.not_lt.mpr hp]

theorem cmdAfeCal_queues (r : Rover) (hn : s.afe.rover = some r) (hne : r.path ≠ bits w 3 0) :
    cmdAfeCal h [w] s =
      let u := s.addOp h 0x0404 (bits w 3 0)
      .pending { u with afe := { u.afe with calQ := u.afe.calQ ++ [bits w 3 0] } } := by
  have hw : par [w] 0 = w := rfl
  have hn' : (s.addOp h 0x0404 (bits w 3 0)).afe.rover = some r := hn
  simp [cmdAfeCal, arity, hw, hl, hb, hq, hr, hn, hn', hne, Nat.not_lt.mpr hp]
end
end

/-! ## The commands -/

theorem cicSync_completes (h : Hdr) (s u : State) (ht : s.takes 0x0402 h [] = true) (hu : s.syncRequest 1 = u) :
    Completes (.cicSync h []) h 0x0402 0 [] s u := by
  subst hu
  exact ⟨_, rfl, serve_ok 0x0402 0 h [] [] cmdCicSync s _ ht rfl (takes_port_of_ids ht (by rw [State.syncRequest_cmd]))⟩

/-- Settles O16: each command by its body's answer; a sync request by the pending sync and the rover, AFE.CAL by the rover. -/
theorem frontEndCommandsComplete : Obligations.FrontEndCommandsComplete := by
  unfold Obligations.FrontEndCommandsComplete
  refine ⟨?start, ?stop, ?calStop, ?sync, ?syncAborts, ?loadcoef, ?calStarts, ?calQueues⟩
  case start =>
    exact fun h w s ht => ⟨_, rfl, serve_ok 0x0400 0 h [w] [] cmdAfeStart s _ ht (cmdAfeStart_starts h w s)
      (takes_port_of_ids ht (ports_foldl _ (fun x c => State.startChan_ports c x) _ s))⟩
  case stop =>
    exact fun h w s ht => ⟨_, rfl, serve_ok 0x0401 0 h [w] [] cmdAfeStop s _ ht (cmdAfeStop_stops h w s)
      (takes_port_of_ids ht ((State.calStop_ports _ _).trans (State.haltChans_ports _ s)))⟩
  case calStop => exact State.calStop_idle
  case sync =>
    intro h s ht hr
    refine cicSync_completes h s _ ht ?_
    cases ho : s.afe.sync with
    | none => exact State.syncRequest_idle 1 s hr ho
    | some o => exact State.syncRequest_merged 1 o s hr ho (by decide)
  case syncAborts => exact fun h r s ht hr h0 ho => cicSync_completes h s _ ht (State.syncRequest_aborts 1 r s hr h0 ho)
  case loadcoef =>
    intro h w cs s ht hc hs
    refine ⟨_, rfl, serve_ok 0x0403 0 h (w :: cs) [] cmdCicLoadcoef s _ ht ?_ ?_⟩
    · exact cmdCicLoadcoef_loads h w s cs hc hs
    · exact takes_port_of_ids ht (State.mapChans_ports _ _ s)
  case calStarts =>
    exact fun h w s ht hp hl hb hq hn hr => ⟨_, rfl, serve_pending 0x0404 h [w] [] cmdAfeCal s _ ht
      (cmdAfeCal_starts h w s hp hl hb (by simpa using hq) hr hn) (takes_port_of_ids ht rfl)⟩
  case calQueues =>
    exact fun h w r s ht hp hl hb hq hn hne hr => ⟨_, rfl, serve_pending 0x0404 h [w] [] cmdAfeCal s _ ht
      (cmdAfeCal_queues h w s hp hl hb (by simpa using hq) hr r hn hne) (takes_port_of_ids ht rfl)⟩

end Sys2Proof.Machine
end

section
/-! SUPPORT. The front end's events: an output of a chain, synchronising resets, the nominal cycle, rover cycles (R154, R156, R158, R159, R162,
R165, R338). -/

namespace Sys2Proof.Machine

@[simp] theorem State.settled_afe (s : State) : s.settled.afe = s.afe := by rw [State.settled_frame]

/-! ## CIC_OUTPUT (R154, R156) -/

/-- The state with the output of an output period formed in the chain of path p, which converts that path's own input (R156). -/
def State.formed (p : Nat) (bs : List Bool) (s : State) : State :=
  let u := s.mapChain p (fun c => c.output s.afePreset (s.tapsOf (pathChan p)) bs)
  u.mapChain p (fun c => { c with last := u.waveWord p p })

/-- The chains that supply a channel's paths stand at the index of the chain of path p, which is one of them, with an output each. -/
def State.inStep (p : Nat) (s : State) : Bool :=
  let sup := (chanPaths (pathChan p)).map s.supplier
  sup.elem p && sup.all (fun q =>
    (s.chain q).running && (s.chain q).index s.afePreset == (s.chain p).index s.afePreset && decide (0 < (s.chain q).outs))

theorem State.chain_mapChain_self (p : Nat) (f : Chain → Chain) (s : State) (hp : p < s.afe.chains.length) :
    (s.mapChain p f).chain p = f (s.chain p) := nth_at'_self _ _ _ _ hp

section
variable (p : Nat) (bs : List Bool) (s : State)

@[simp] theorem State.formed_chan (c : Nat) : (s.formed p bs).chan c = s.chan c := rfl
@[simp] theorem State.formed_supplier (q : Nat) : (s.formed p bs).supplier q = s.supplier q := rfl

theorem State.formed_chain (hp : p < s.afe.chains.length) :
    ((s.formed p bs).chain p).running = (s.chain p).running ∧ ((s.formed p bs).chain p).outs = (s.chain p).outs + 1 := by
  have hlen : p < (s.mapChain p (fun c => c.output s.afePreset (s.tapsOf (pathChan p)) bs)).afe.chains.length := by
    simpa [State.mapChain_afe, at'] using hp
  unfold State.formed
  dsimp only
  rw [State.chain_mapChain_self _ _ _ hlen, State.chain_mapChain_self _ _ _ hp]
  exact ⟨rfl, rfl⟩

section
variable (hr : (s.chain p).running = true) (hl : bs.length = 2 * presetD s.afePreset) (hi : s.inputPath p = p)
include hr hl hi

/-- An output of a running chain goes on as the channel's word where the channel runs and its chains are in step. -/
theorem doCicOutput_forms : doCicOutput p bs s = State.modBits p bs
    (if (p < 12 ∧ (s.chan (pathChan p)).running = true) ∧ (s.formed p bs).inStep p = true then (s.formed p bs).emit (pathChan p)
      else s.formed p bs) := by
  have hgo : (!(s.chain p).running || decide (bs.length ≠ 2 * presetD s.afePreset)) = false := by simp [hr, hl]
  unfold doCicOutput
  simp only [hgo, hi, Bool.false_eq_true, if_false]
  congr 1
  refine if_congr ?_ rfl rfl
  simp only [State.inStep, Bool.and_eq_true, decide_eq_true_eq, and_assoc]
  rfl

theorem doCicOutput_alone (hn : 12 ≤ p ∨ (s.chan (pathChan p)).running = false) : doCicOutput p bs s = State.modBits p bs (s.formed p bs) := by
  have hno : ¬ (p < 12 ∧ (s.chan (pathChan p)).running = true) := by
    rintro ⟨h12, hc⟩
    rcases hn with hn | hn
    · omega
    · exact absurd (hn.symm.trans hc) (by decide)
  rw [doCicOutput_forms p bs s hr hl hi, if_neg (fun h => hno h.1)]

theorem doCicOutput_voltage (hp : p < 4) (hlen : p < s.afe.chains.length) (hs : s.supplier p = p) (hc : (s.chan p).running = true) :
    doCicOutput p bs s = State.modBits p bs ((s.formed p bs).emit p) := by
  obtain ⟨hrun, houts⟩ := State.formed_chain p bs s hlen
  have hch : pathChan p = p := if_pos hp
  have hstep : (s.formed p bs).inStep p = true := by
    simp [State.inStep, hch, chanPaths, hp, hs, hrun, houts, hr]
  rw [doCicOutput_forms p bs s hr hl hi, hch, if_pos ⟨⟨by omega, hc⟩, hstep⟩]
end
end

/-- A voltage channel's word goes to the energy unit and to the local waveform (R154). -/
theorem State.emit_voltage (p : Nat) (s : State) (hp : p < 4) (hs : s.supplier p = p) :
    s.emit p =
      let n := (s.chain p).index s.afePreset
      let x : Wave := { tick := n * (9600 / presetRate s.afePreset), per := 9600 / presetRate s.afePreset, word := s.waveWord p p }
      let y := s.mapChan p (fun k => { k with wave := insertBy Wave.tick x (k.wave.filter (fun y => decide (x.tick < y.tick + 600))) })
      State.pushSamp 0xFD00 p { idx := n, arr := s.tim.now, v := waveVal x.word, u := waveU x.word, q := waveOvr x.word }
        (if waveOvr x.word then (y.bumpC (aAfeC p 0x28) 1).putCor .coma (aAfeC p 0) 8 else y) := by
  simp only [State.emit, Nat.not_le.mpr hp, hp, if_true, if_false, hs]

/-- The modulator bit that completes 1 ms at one level raises its condition (R338). -/
theorem State.modBits_stuck (p : Nat) (b : Bool) (s : State) (hb : (s.chain p).level = b) (hn : (s.chain p).same + 1 = modStuck) :
    State.modBits p [b] s = (s.mapChain p (fun c => { c with level := b, same := modStuck })).lasting .coma (63 + p) := by
  have hrun : modRun [b] (s.chain p).level (s.chain p).same = (b, (modStuck, true)) := by simp [modRun, hb, hn]
  simp only [State.modBits, hrun, if_true, Nat.le_refl]

/-! ## Synchronising resets (R158, R159) -/

theorem doSyncApply_due (t src : Nat) (s : State) (hs : s.afe.sync = some src) (hg : syncG s.afePreset t = some s.syncDue) :
    doSyncApply t s =
      let x := s.reach t
      State.bumpC 0x068018 1 { x with afe := { x.afe with
        chains := x.afe.chains.map (fun (c : Chain) => if c.running then c.restart s.afePreset s.syncDue else c)
        sync := none, synced := true, lastSync := t, lastSyncSrc := src } } := by
  simp only [doSyncApply, hs, hg, ne_eq, not_true_eq_false, if_false]

/-- SYNC_N has fallen at t and does not stay low: its fault, if any, is over (R159). -/
def State.syncFell (t : Nat) (s : State) : State :=
  let x := (s.reach t).over .coma 60
  { x with afe := { x.afe with syncLow := false } }

section
variable (t ns : Nat) (s : State) (hon : bit (s.rwC 0x060000) 6 = true)
include hon

/-- An edge of 100 ns or more asks for a sync where no accepted edge is near. -/
theorem doSyncFall_requests (h100 : 100 ≤ ns) (hns : ns < 10000000) (he : s.afe.syncEdge = none) :
    doSyncFall t ns s = State.syncRequest 0 { s.syncFell t with afe := { (s.syncFell t).afe with syncEdge := some t } } := by
  have hlow : decide (10000000 ≤ ns) = false := by simpa using hns
  have hlong : decide (ns < 100) = false := by simpa using h100
  have hx : bit (((s.reach t).over .coma 60).rwC 0x060000) 6 = true := hon
  have hxe : ((s.reach t).over .coma 60).afe.syncEdge = none := he
  simp only [doSyncFall, hx, hxe, hlow, hlong, Bool.not_true, Bool.or_self, Bool.false_eq_true, if_false, State.syncFell]

theorem doSyncFall_short (hns : ns < 100) : doSyncFall t ns s = (s.syncFell t).bumpC 0x06801C 1 := by
  have hlow : decide (10000000 ≤ ns) = false := decide_eq_false (by omega)
  have hx : bit (((s.reach t).over .coma 60).rwC 0x060000) 6 = true := hon
  simp only [doSyncFall, hx, hlow, hns, decide_true, Bool.true_or, Bool.not_true, Bool.false_eq_true, if_false, if_true, State.syncFell]
end

theorem doSyncStuck_low (s : State) (h : s.afe.syncLow = true) :
    doSyncStuck s = (State.latchC 0x060008 8 { s with afe := { s.afe with syncLow := false } }).lasting .coma 60 := by
  simp only [doSyncStuck, h, Bool.not_true, Bool.false_eq_true, if_false]

/-! ## The nominal cycle (R165, R166) -/

/-- The state in which the last nominal cycle's words are kept, before they are judged (R165). -/
def State.cycleEnded (s : State) : State :=
  { s with afe := { s.afe with
    cycDone := s.lastCycle
    chans := s.afe.chans.map (fun (c : Chan) => { c with
      lastCyc := c.between ((s.lastCycle - 1) * (9600 / s.afeHz)) (s.lastCycle * (9600 / s.afeHz)) }) } }

theorem State.cycleEnded_running (c : Nat) (s : State) : (s.cycleEnded.chan c).running = (s.chan c).running := by
  simp only [State.cycleEnded, State.chan, nth, List.getD_eq_getElem?_getD, List.getElem?_map]
  cases s.afe.chans[c]? <;> rfl

theorem doNominalCycle_judged (s : State) (h : s.lastCycle ≤ s.afe.cycDone) : doNominalCycle s = s := if_pos h
theorem doNominalCycle_due (s : State) (h : s.afe.cycDone < s.lastCycle) : doNominalCycle s = s.cycleEnded.detect := if_neg (Nat.not_le.mpr h)

/-- A condition that is clear and does not hold stays clear, with no run. -/
theorem detStep_clear (dwell run : Nat) : detStep dwell false false run = (false, 0) := rfl

theorem State.nucUp_of_pwr (s u : State) (h : u.pwr = s.pwr) : u.nucUp = s.nucUp := by simp only [State.nucUp, State.comaUp, h]

theorem State.detEvent_afe (cls ctr evtSet : Nat) (on : Bool) (s : State) (h : s.nucUp = false) : (s.detEvent cls ctr evtSet on).afe = s.afe := by
  have hn : ((s.bumpC ctr 1).latchC 0x060008 (if on then evtSet else evtSet + 1)).nucUp = false := h
  simp only [State.detEvent, hn, Bool.false_eq_true, if_false]
  rfl

/-- With channel 0 stopped the neutral condition does not hold; with the Nucleus half down nothing is offered to it. -/
theorem State.detect_neutral_clear (s : State) (h0 : (s.chan 0).running = false) (ha : s.afe.neutAlarm = false) (hn : s.nucUp = false) :
    s.detect.afe.neutAlarm = false ∧ s.detect.afe.neutRun = 0 ∧ s.detect.afe.cycDone = s.afe.cycDone ∧ s.detect.afe.chans = s.afe.chans := by
  unfold State.detect
  simp only [List.all_cons, h0, Bool.false_and, ha, detStep_clear, if_true]
  split
  · exact ⟨rfl, rfl, rfl, rfl⟩
  · rw [State.detEvent_afe]
    · exact ⟨rfl, rfl, rfl, rfl⟩
    · rw [State.nucUp_of_pwr s, hn]
      rfl

/-! ## Rover cycles (R162) -/

theorem doBgcal_starts (p : Nat) (s : State) (hon : bit (s.rwC 0x060000) 4 = true) (hr : s.afe.rover = none)
    (hp : State.bgPick 13 s.afe.bgNext s = some p) :
    doBgcal s = State.roverStart p false { s with afe := { s.afe with bgNext := (p + 1) % 13 } } := by
  simp [doBgcal, State.bgStart, hon, hr, hp]

theorem doBgcal_held (s : State) (hon : bit (s.rwC 0x060000) 4 = true) (hr : s.afe.rover.isSome = true) :
    doBgcal s = { s with afe := { s.afe with bgDue := s.afe.bgDue + 1 } } := by
  simp [doBgcal, hon, hr]

/-- The offset phase of a path's modulator ends with the mean of its last 256 outputs (step 4). -/
theorem doRoverStep_offset (r : Rover) (s : State) (hr : s.afe.rover = some r) (hp : r.path < 12) (h4 : r.step = 4)
    (ho : presetUnsettled s.afePreset + 256 ≤ (s.chain r.path).outs) :
    doRoverStep s = (s.putRover { r with step := 6, ofs := meanVolts r.path (s.chain r.path).sum256 }).restartChain r.path := by
  have hown : r.path ≠ 12 := by omega
  simp only [doRoverStep, hr, h4, hown, if_false, Nat.not_lt.mpr ho]

/-! ## The events -/

/-- Settles O39: each event runs its operation, the Coma half being up; an output goes on as the channel's word where the channel runs. -/
theorem frontEndEventsComplete : Obligations.FrontEndEventsComplete := by
  unfold Obligations.FrontEndEventsComplete
  refine ⟨?rover, ?stopped, ?stuckBit, ?voltage, ?apply, ?edge, ?shortEdge, ?stuckLow, ?cycle, ?background, ?offset⟩
  case rover =>
    exact fun bs s hup hr hl hi => does_of_coma _ (doCicOutput 12 bs) s _ rfl hup (doCicOutput_alone 12 bs s hr hl hi (.inl (le_refl 12)))
  case stopped =>
    exact fun p bs s hup _ hr hl hi hc => does_of_coma _ (doCicOutput p bs) s _ rfl hup (doCicOutput_alone p bs s hr hl hi (.inr hc))
  case stuckBit => exact fun p b s _ => State.modBits_stuck p b s
  case voltage =>
    intro p bs s hup hp hlen hr hl hi hs hc
    have hch : pathChan p = p := if_pos hp
    refine does_of_coma _ (doCicOutput p bs) s _ rfl hup ((doCicOutput_voltage p bs s hr hl hi hp hlen hs hc).trans ?_)
    rw [State.emit_voltage p (s.formed p bs) hp hs, State.formed, hch]
    rfl
  case apply => exact fun t src s hup hs hg => does_of_coma _ (doSyncApply t) s _ rfl hup (doSyncApply_due t src s hs hg)
  case edge =>
    exact fun t ns s hup hon h100 hns he hr ho =>
      does_of_coma _ (doSyncFall t ns) s _ rfl hup ((doSyncFall_requests t ns s hon h100 hns he).trans (State.syncRequest_idle 0 _ hr ho))
  case shortEdge => exact fun t ns s hup hon hns => does_of_coma _ (doSyncFall t ns) s _ rfl hup (doSyncFall_short t ns s hon hns)
  case stuckLow => exact fun s hup h => does_of_coma _ doSyncStuck s _ rfl hup (doSyncStuck_low s h)
  case cycle =>
    refine fun s hup => ⟨fun h => does_of_coma _ doNominalCycle s _ rfl hup (doNominalCycle_judged s h), fun hc h0 ha hn => ?_⟩
    refine ⟨s.cycleEnded.detect.settled, does_of_coma _ doNominalCycle s _ rfl hup (doNominalCycle_due s hc), ?_⟩
    rw [State.settled_afe]
    exact State.detect_neutral_clear s.cycleEnded ((State.cycleEnded_running 0 s).trans h0) ha hn
  case background =>
    exact fun s hup hon => ⟨fun p hr hp => does_of_coma _ doBgcal s _ rfl hup (doBgcal_starts p s hon hr hp),
      fun hr => does_of_coma _ doBgcal s _ rfl hup (doBgcal_held s hon hr)⟩
  case offset => exact fun r s hup hr hp h4 ho => does_of_coma _ doRoverStep s _ rfl hup (doRoverStep_offset r s hr hp h4 ho)

end Sys2Proof.Machine
end

section
/-! SUPPORT. The configuration rows of the Nucleus half: what the write of each leaves of its block (R188, R244, R247, R249, R252, R261). -/

namespace Sys2Proof.Machine

/-! ## The registers of the repeated blocks (R404, R405) -/

/-- The address of offset o of block k. -/
theorem inst_at (first stride n size k o : Nat) (hk : k < n) (ho : o < size) (hs : size ≤ stride) :
    inst first stride n size (first + stride * k + o) = some (k, o) := by
  have hlt : o < stride := Nat.lt_of_lt_of_le ho hs
  have hsub : first + stride * k + o - first = stride * k + o := by omega
  have hdiv : (stride * k + o) / stride = k := by
    rw [Nat.mul_add_div (by omega), Nat.div_eq_of_lt hlt, Nat.add_zero]
  have hmod : (stride * k + o) % stride = o := by rw [Nat.mul_add_mod, Nat.mod_eq_of_lt hlt]
  rw [inst, hsub, hdiv, hmod, if_pos ⟨by omega, hk, ho⟩]

/-- An address past the last block. -/
theorem inst_past (first stride n size a : Nat) (hs : 0 < stride) (ha : first + stride * n ≤ a) : inst first stride n size a = none := by
  have hn : n ≤ (a - first) / stride := (Nat.le_div_iff_mul_le hs).mpr (by rw [Nat.mul_comm]; omega)
  exact if_neg (fun h => absurd h.2.1 (Nat.not_lt.mpr hn))

theorem pin_register : ∀ k, k < 8 → RowRegister .nucleus (aPin k 0) ∧ rwMask .nucleus (aPin k 0) = 0xFFFF0037 := by decide
theorem goose_register : ∀ k, k < 16 → RowRegister .nucleus (aGse k 0) ∧ rwMask .nucleus (aGse k 0) = 0x3FFF := by decide
theorem stream_register : ∀ k, k < 64 → RowRegister .nucleus (aEgr k 0) ∧ rwMask .nucleus (aEgr k 0) = 0xFFFF1FFF := by decide

/-- The blocks of the alarm and egress units select nothing but a rule. -/
theorem State.windowOf_alarm_block (a : Nat) (w : Word) (s : State) (hlo : 0x070020 ≤ a) (hhi : a < 0x080000) :
    s.windowOf .nucleus a w = none := by
  simp only [State.windowOf]
  iterate 7 rw [if_neg (by omega)]

/-- A register with RW bits m stores them. -/
theorem State.store_masked (h : Half) (a : Nat) (w m : Word) (s : State) (hm : rwMask h a = m) (h0 : m ≠ 0) :
    s.store h a w = s.putRw h a (w &&& m) := by
  rw [State.store, hm, if_pos h0]

/-! ## Writing the blocks' registers -/

theorem State.writeN_alarm (a : Nat) (w : Word) (s : State) (hlo : 0x070000 ≤ a) (hhi : a < 0x078000) : s.writeN a w = s.writeAlm a w := by
  simp only [State.writeN]
  iterate 7 rw [if_neg (by omega)]
  rw [if_pos hhi]

/-- ALM_Pp_CFG: the mirror takes the word and the ball follows (R244). -/
theorem State.writeN_pin (k : Nat) (v : Word) (s : State) (hk : k < 8) :
    s.writeN (aPin k 0) v =
      ((s.putRw .nucleus (aPin k 0) (v &&& 0xFFFF0037)).mapPin k (fun x => { x with mirror := v &&& 0xFFFF0037 })).drivePin k := by
  have hinst : inst 0x070100 0x20 8 0x20 (aPin k 0) = some (k, 0) := inst_at _ _ _ _ k 0 hk (by decide) (by decide)
  rw [State.writeN_alarm _ _ _ (by simp only [aPin]; omega) (by simp only [aPin]; omega), State.writeAlm, hinst,
    State.store_masked _ _ _ _ s (pin_register k hk).2 (by decide)]
  rfl

/-- ALM_Gc_CFG: a block that becomes enabled makes its first stNum (R247). -/
theorem State.writeN_goose (k : Nat) (v : Word) (s : State) (hk : k < 16) :
    s.writeN (aGse k 0) v =
      let u := s.putRw .nucleus (aGse k 0) (v &&& 0x3FFF)
      if bit v 0 = true ∧ s.gooseEn k = false then u.gooseEnabled k else u := by
  have hpin : inst 0x070100 0x20 8 0x20 (aGse k 0) = none := inst_past _ _ _ _ _ (by decide) (by simp only [aGse]; omega)
  have hinst : inst 0x070200 0x20 16 0x20 (aGse k 0) = some (k, 0) := inst_at _ _ _ _ k 0 hk (by decide) (by decide)
  rw [State.writeN_alarm _ _ _ (by simp only [aGse]; omega) (by simp only [aGse]; omega), State.writeAlm, hpin, hinst,
    State.store_masked _ _ _ _ s (goose_register k hk).2 (by decide)]
  simp only [true_and, Bool.not_eq_true]

/-- EGR_Sn_CFG: the queue as enabled, or flushed (R252). -/
theorem State.writeN_stream (k : Nat) (v : Word) (s : State) (hk : k < 64) : s.writeN (aEgr k 0) v = s.egrApply k (v &&& 0xFFFF1FFF) := by
  have hinst : inst 0x078080 0x10 64 0xC (aEgr k 0) = some (k, 0) := inst_at _ _ _ _ k 0 hk (by decide) (by decide)
  simp only [State.writeN, hinst, if_true]
  iterate 8 rw [if_neg (by simp only [aEgr]; omega)]
  rw [if_pos (by simp only [aEgr]; omega)]

theorem State.egrApply_eq (i : Nat) (w : Word) (s : State) :
    s.egrApply i w =
      let u := s.putRw .nucleus (aEgr i 0) w
      if egrEn w = true ∧ egrEn (s.egrCfg i) = false then
        u.mapStream i (fun _ => { Stream.reset with q := Queue.new (egrKib w * 256), on := bit w 12, cfgAt := (u.stream i).cfgAt })
      else if egrEn (s.egrCfg i) = true ∧ egrEn w = false then
        u.mapStream i (fun x => { x with q := x.q.flushed, on := false, lastKey := none, fill := 0 })
      else u := by
  simp only [State.egrApply, Bool.not_eq_true]
  rfl

/-! ## ISL_CTL.enable (R188) -/

/-- A change of enable discards the last run's fields. -/
theorem State.islEnable_eq (w : Word) (s : State) :
    s.islEnable w =
      let u := s.putRw .nucleus 0x050000 w
      if bit w 0 = bit (s.rwN 0x050000) 0 then u else State.holdDone { u with isl := u.isl.discard (bit w 0) } := by
  unfold State.islEnable
  cases bit w 0 <;> cases bit (s.rwN 0x050000) 0 <;> rfl

theorem bit_low_bit (v : Word) : bit (v &&& 1) 0 = bit v 0 := by simp [bit]

@[simp] theorem State.holdDone_cmd (s : State) : s.holdDone.cmd = s.cmd := by
  unfold State.holdDone
  split
  · split <;> rfl
  · rfl

/-! ## ALM_CTL.rules_en (R261) -/

/-- Of the registers only the group's configured rate matters to whether it runs. -/
theorem State.runsAt_of_config (g t : Nat) (s u : State) (hg : u.grp g = s.grp g) (hr : u.rwN (aGrp g 0) = s.rwN (aGrp g 0)) :
    u.runsAt g t = s.runsAt g t := by
  have hrate : u.grpRate g = s.grpRate g := congrArg (fun w => rateFps (bits w 3 0)) hr
  rw [State.runsAt, State.runsAt, State.firstNs, State.firstNs, hg, hrate]

/-- A change while a group runs waits for the common boundary, a 0 stopping evaluation at once. -/
theorem State.writeAlmCtl_waits (v : Word) (g : Nat) (s : State) (h1 : bit v 1 = bit (s.rwN 0x070000) 1)
    (h0 : bit v 0 ≠ bit (s.rwN 0x070000) 0) (hg : g < 8) (hr : s.runsAt g s.follower = true) :
    s.writeAlmCtl v =
      let u := s.putRw .nucleus 0x070000 (v &&& 3)
      { u with alm := { u.alm with rulesOn := u.alm.rulesOn && bit v 0, rulesWait := some (bit v 0) } } := by
  have hreg : aGrp g 0 ≠ 0x070000 := by simp only [aGrp]; omega
  simp only [State.writeAlmCtl]
  rw [if_pos h1, if_neg h0]
  refine State.idleCommits_running g _ hg ?_
  rw [← hr]
  exact State.runsAt_of_config g _ s _ rfl (State.rw_putRw_ne .nucleus 0x070000 _ _ s hreg)

theorem State.writeAlmCtl_same (v : Word) (s : State) (h1 : bit v 1 = bit (s.rwN 0x070000) 1) (h0 : bit v 0 = bit (s.rwN 0x070000) 0) :
    s.writeAlmCtl v = s.putRw .nucleus 0x070000 (v &&& 3) := by
  simp only [State.writeAlmCtl]
  rw [if_pos h1, if_pos h0]
  rfl

@[simp] theorem State.noted_runsAt (h : Hdr) (hf : Half) (a g t : Nat) (s : State) : (s.noted h hf a).runsAt g t = s.runsAt g t := by
  rw [State.noted_frame]; rfl
@[simp] theorem State.noted_follower (h : Hdr) (hf : Half) (a : Nat) (s : State) : (s.noted h hf a).follower = s.follower := by
  rw [State.noted_frame]; rfl

/-! ## The rows -/

/-- Settles O14: each register stores its RW bits, and its block leaves the state that its own equation names. -/
theorem nucleusConfigRowsComplete : Obligations.NucleusConfigRowsComplete := by
  unfold Obligations.NucleusConfigRowsComplete
  refine ⟨?islands, ?discard, ?rules, ?rulesSame, ?goose, ?stream, ?datagrams, ?pin⟩
  case islands =>
    intro h v s ht u
    refine nucleus_row_writes _ h _ v s _ rfl ht (by decide) (fun _ => rfl) ?_ ?_
    · have hold : (s.noted h .nucleus 0x050000).rwN 0x050000 = s.rwN 0x050000 := State.noted_rw ..
      rw [← hold, ← bit_low_bit v]
      exact State.islEnable_eq (v &&& 1) (s.noted h .nucleus 0x050000)
    · split <;> simp [u]
  case discard => exact fun b i => ⟨rfl, rfl, rfl, rfl, rfl, rfl⟩
  case rules =>
    intro h v g s ht h1 h0 hg hr
    refine nucleus_row_writes _ h _ v s _ rfl ht (by decide) (fun _ => rfl) ?_ (by simp)
    exact State.writeAlmCtl_waits v g (s.noted h .nucleus 0x070000) (by simpa using h1) (by simpa using h0) hg (by simpa using hr)
  case rulesSame =>
    intro h v s ht h1 h0
    refine nucleus_row_writes _ h _ v s _ rfl ht (by decide) (fun _ => rfl) ?_ (by simp)
    exact State.writeAlmCtl_same v (s.noted h .nucleus 0x070000) (by simpa using h1) (by simpa using h0)
  case goose =>
    intro h k v s hk ht u
    refine nucleus_row_writes _ h _ v s _ rfl ht (goose_register k hk).1
      (fun x => x.windowOf_alarm_block _ _ (by simp only [aGse]; omega) (by simp only [aGse]; omega)) ?_ ?_
    · rw [State.writeN_goose k v _ hk, State.gooseEn, State.gooseCfg, State.rwN, State.noted_rw]
      rfl
    · split
      · exact (State.gooseMake_ports true true k u).trans (by simp [u])
      · simp [u]
  case stream =>
    intro h k v s hk ht u on
    refine nucleus_row_writes _ h _ v s _ rfl ht (stream_register k hk).1
      (fun x => x.windowOf_alarm_block _ _ (by simp only [aEgr]; omega) (by simp only [aEgr]; omega)) ?_ ?_
    · rw [State.writeN_stream k v _ hk, State.egrApply_eq, State.egrCfg, State.rwN, State.noted_rw]
      rfl
    · split
      · simp [u]
      · split <;> simp [u]
  case datagrams =>
    intro h v s ht u fresh
    refine nucleus_row_writes _ h _ v s _ rfl ht (by decide) (fun _ => rfl) ?_ (by simp [u])
    simp only [fresh]
    rw [State.rwN, ← State.noted_rw h .nucleus .nucleus 0x070014 0x070014 s]
    rfl
  case pin =>
    intro h k v s hk ht u
    refine nucleus_row_writes _ h _ v s _ rfl ht (pin_register k hk).1
      (fun x => x.windowOf_alarm_block _ _ (by simp only [aPin]; omega) (by simp only [aPin]; omega)) (State.writeN_pin k v _ hk) ?_
    rw [State.drivePin_ports]
    simp [u]

end Sys2Proof.Machine
end

section
/-! SUPPORT. The commands of the island engine, the libration engines and the alarm engine: what each body answers (R205, R227-R229, R240, R260). -/

namespace Sys2Proof.Machine

@[simp] theorem par_singleton (w : Word) : par [w] 0 = w := rfl

section
variable (h : Hdr) (w v : Word) (s : State)

/-! ## ISL.QUERY (R205) -/

theorem cmdIslQuery_summary : cmdIslQuery h [0xFFFFFFFF] s = .ok s ([s.islCounts, w32 (s.isl.lastKey / 2 ^ 32 % 2 ^ 24), loW s.isl.lastKey,
    w32 (b2n (!s.isl.prov.isEmpty) + 2 * b2n s.isl.incomplete + 256 * s.isl.roundsUsed), w32 s.isl.overflow] ++
    (s.islRecs.take 251).map (fun x => w32 x.handle)) := rfl

theorem cmdIslQuery_island (x : Island) (hw : w ≠ 0xFFFFFFFF) (hx : s.islHeld w.toNat = some x) :
    cmdIslQuery h [w] s = .ok s (x.words ++ (x.members.take 247).map w32) := by
  simp only [cmdIslQuery, arity, List.length_singleton, if_true, par_singleton, hw, if_false, hx]

/-! ## LBE.START, LBE.STOP and LBE.QUERY (R227-R229) -/

theorem cmdLbeStart_starts (hr : (s.lb (bits w 4 0)).running = false) (hv : bit (lbeW s.lbeT (bits w 4 0) 0) 31 = true)
    (hf : lbeFmax s.lbeT (bits w 4 0) * lbeStride s.lbeT (bits w 4 0) ≤ 450 * s.grpRate (lbeGroup s.lbeT (bits w 4 0)))
    (hm : s.lbePool + lbeNeed s.lbeT (bits w 4 0) ≤ 33554432) :
    cmdLbeStart h [w] s = .ok (s.mapLbe (bits w 4 0) (fun l => { Lbe.reset with
      running := true, since := s.follower, group := lbeGroup s.lbeT (bits w 4 0), mem := lbeNeed s.lbeT (bits w 4 0)
      lastKey := l.lastKey, lastT := l.lastT
      cfg := [s.rwN (aLbe (bits w 4 0) 4), s.rwN (aLbe (bits w 4 0) 8), s.rwN (aLbe (bits w 4 0) 0xC), s.rwN (aLbe (bits w 4 0) 0x10)] })) := by
  simp only [cmdLbeStart, arity, List.length_singleton, if_true, par_singleton, hr, hv, Bool.not_true, Bool.false_eq_true, if_false,
    Nat.not_lt.mpr hf, Nat.not_lt.mpr hm]

/-- An engine that runs stops at once, or after the update of the delivery that waits. -/
def State.lbeStopped (e : Nat) (s : State) : State :=
  if (s.lb e).running = false then s
  else if (s.lb e).q = [] then s.lbeHalt e
  else s.mapLbe e (fun l => { l with stopping := true, q := l.q.take 1 })

theorem State.lbeStopped_ports (e : Nat) (s : State) : (s.lbeStopped e).cmd.portIds = s.cmd.portIds := by
  unfold State.lbeStopped
  split
  · rfl
  · split
    · exact State.lbeHalt_ports e s
    · rfl

theorem cmdLbeStop_stops : cmdLbeStop h [w] s = .ok (s.lbeStopped (bits w 4 0)) := by
  simp only [cmdLbeStop, arity, List.length_singleton, if_true, par_singleton, State.lbeStopped, Bool.not_eq_true', List.isEmpty_iff]
  split
  · rfl
  · split <;> rfl

theorem cmdLbeQuery_answers (hv : bits v 31 5 = 0) : cmdLbeQuery h [w, v] s =
    .ok s (if bit v 4 then s.lbeSummary (bits w 4 0) (bits v 3 0) else s.lbeQuery (bits w 4 0) (bits v 3 0)) := by
  have hp : par [w, v] 0 = w := rfl
  have hp1 : par [w, v] 1 = v := rfl
  simp only [cmdLbeQuery, arity, List.length_cons, List.length_nil, if_true, hp, hp1, hv, ne_eq, not_true_eq_false, if_false]
  split <;> rfl

/-! ## ALM.QUERY (R260) -/

section
variable (hk : bits w 31 30 = 0)
include hk

theorem cmdAlmQuery_rule (hi : bits w 15 0 ≤ 4095) : cmdAlmQuery h [w] s = .ok s (s.ruleWords (bits w 15 0)) := by
  have hone : bits w 15 0 ≠ 0xFFFF := by omega
  simp only [cmdAlmQuery, arity, List.length_singleton, if_true, par_singleton, hk, hone, if_false, Nat.not_lt.mpr hi]

theorem cmdAlmQuery_rules (hi : bits w 15 0 = 0xFFFF) : cmdAlmQuery h [w] s =
    .ok s (listWords ((s.alm.rules.filter RuleSt.active).map (fun r =>
      listWord r.id r.latched r.prov (ruleClass (s.ruleW r.id 0)) (outSev (s.ruleW r.id 6))))) := by
  simp only [cmdAlmQuery, arity, List.length_singleton, if_true, par_singleton, hk, hi]
end

section
variable (hk : bits w 31 30 = 1)
include hk

theorem cmdAlmQuery_watch (hi : bits w 15 0 ≤ 16383) : cmdAlmQuery h [w] s = .ok s (s.watchWords (bits w 15 0)) := by
  have hone : bits w 15 0 ≠ 0xFFFF := by omega
  simp only [cmdAlmQuery, arity, List.length_singleton, if_true, par_singleton, hk, hone, if_false, Nat.not_lt.mpr hi]

theorem cmdAlmQuery_watches (hi : bits w 15 0 = 0xFFFF) : cmdAlmQuery h [w] s =
    .ok s (listWords ((s.alm.watches.filter WatchSt.active).map (fun x =>
      listWord x.id false false (s.watchClass x.id) (outSev (s.watchW x.id 5))))) := by
  simp only [cmdAlmQuery, arity, List.length_singleton, if_true, par_singleton, hk, hi]
end

section
variable (hk : bits w 31 30 = 2)
include hk

theorem cmdAlmQuery_pin (hi : bits w 15 0 ≤ 7) : cmdAlmQuery h [w] s =
    .ok s [s.pinStat (bits w 15 0), w32 (s.mapped (bits w 15 0)), s.ctr .nucleus (aPin (bits w 15 0) 8)] := by
  have hone : bits w 15 0 ≠ 0xFFFF := by omega
  simp only [cmdAlmQuery, arity, List.length_singleton, if_true, par_singleton, hk, hone, if_false, Nat.not_lt.mpr hi]

theorem cmdAlmQuery_pins (hi : bits w 15 0 = 0xFFFF) : cmdAlmQuery h [w] s = .ok s ((List.range 8).map (fun p => s.pinStat p)) := by
  simp only [cmdAlmQuery, arity, List.length_singleton, if_true, par_singleton, hk, hi]
end

/-! ## ALM.RELEASE (R240) -/

section
variable (hv : bit (s.ruleW (bits w 11 0) 0) 31 = true) (ha : (s.ruleSt (bits w 11 0)).active = true)
  (hl : (s.ruleSt (bits w 11 0)).latched = true)
include hv ha hl

theorem cmdAlmRelease_releases (hc : (s.ruleSt (bits w 11 0)).clearOk = true) : cmdAlmRelease h [w] s =
    .ok ((s.putRule (RuleSt.count 2 ((s.ruleSt (bits w 11 0)).inactive (s.ruleSt (bits w 11 0)).key))).changes
      [s.ruleChange (bits w 11 0) 6 (s.ruleSt (bits w 11 0)).value (s.ruleSt (bits w 11 0)).aux s.tim.now]) := by
  simp only [cmdAlmRelease, arity, List.length_singleton, if_true, par_singleton, hv, ha, hl, hc, Bool.not_true, Bool.or_false, Bool.false_eq_true, if_false]

theorem cmdAlmRelease_keeps (hc : (s.ruleSt (bits w 11 0)).clearOk = false) : cmdAlmRelease h [w] s = .ok s [] 1 := by
  simp only [cmdAlmRelease, arity, List.length_singleton, if_true, par_singleton, hv, ha, hl, hc, Bool.not_true, Bool.not_false, Bool.or_false,
    Bool.false_eq_true, if_false]
end
end

/-! ## The commands -/

/-- A query answers and leaves the state as it was. -/
theorem query_completes (c : Instr) (h : Hdr) (op detail : Nat) (ps results : List Word) (body : Hdr → List Word → State → Res) (s : State)
    (hx : exec c s = .next (State.settled (s.serve op h ps body))) (ht : s.takes op h ps = true) (hb : body h ps s = .ok s results detail) :
    Completes c h op detail results s s :=
  ⟨_, hx, serve_ok op detail h ps results body s s ht hb (takes_port op h ps s ht)⟩

/-- Settles O17: each command by its body's answer; ALM.QUERY by the kind and the index asked for. -/
theorem analysisCommandsComplete : Obligations.AnalysisCommandsComplete := by
  unfold Obligations.AnalysisCommandsComplete
  refine ⟨?islands, ?island, ?start, ?stop, ?query, ?rule, ?watch, ?pin, ?pins, ?rules, ?watches, ?release, ?keep⟩
  case islands => exact fun h s ht => query_completes _ h _ 0 _ _ cmdIslQuery s rfl ht (cmdIslQuery_summary h s)
  case island => exact fun h w x s ht hw hx => query_completes _ h _ 0 _ _ cmdIslQuery s rfl ht (cmdIslQuery_island h w s x hw hx)
  case start =>
    exact fun h w s ht hr hv hf hm => ⟨_, rfl, serve_ok 0x0600 0 h [w] [] cmdLbeStart s _ ht (cmdLbeStart_starts h w s hr hv hf hm)
      (takes_port_of_ids ht rfl)⟩
  case stop =>
    exact fun h w s ht => ⟨_, rfl, serve_ok 0x0601 0 h [w] [] cmdLbeStop s _ ht (cmdLbeStop_stops h w s)
      (takes_port_of_ids ht (State.lbeStopped_ports _ s))⟩
  case query => exact fun h w v s ht hv => query_completes _ h _ 0 _ _ cmdLbeQuery s rfl ht (cmdLbeQuery_answers h w v s hv)
  case rule => exact fun h w s ht hk hi => query_completes _ h _ 0 _ _ cmdAlmQuery s rfl ht (cmdAlmQuery_rule h w s hk hi)
  case watch => exact fun h w s ht hk hi => query_completes _ h _ 0 _ _ cmdAlmQuery s rfl ht (cmdAlmQuery_watch h w s hk hi)
  case pin => exact fun h w s ht hk hi => query_completes _ h _ 0 _ _ cmdAlmQuery s rfl ht (cmdAlmQuery_pin h w s hk hi)
  case pins => exact fun h w s ht hk hi => query_completes _ h _ 0 _ _ cmdAlmQuery s rfl ht (cmdAlmQuery_pins h w s hk hi)
  case rules => exact fun h w s ht hk hi => query_completes _ h _ 0 _ _ cmdAlmQuery s rfl ht (cmdAlmQuery_rules h w s hk hi)
  case watches => exact fun h w s ht hk hi => query_completes _ h _ 0 _ _ cmdAlmQuery s rfl ht (cmdAlmQuery_watches h w s hk hi)
  case release =>
    exact fun h w s ht hv ha hl hc => ⟨_, rfl, serve_ok 0x0701 0 h [w] [] cmdAlmRelease s _ ht (cmdAlmRelease_releases h w s hv ha hl hc)
      (takes_port_of_ids ht (State.changes_ports _ _))⟩
  case keep =>
    exact fun h w s ht hv ha hl hc => query_completes _ h _ 1 _ _ cmdAlmRelease s rfl ht (cmdAlmRelease_keeps h w s hv ha hl hc)

end Sys2Proof.Machine
end

section
/-! SUPPORT. The island engine's events and an update of a libration engine (R188, R196, R199, R203, R208, R217, R226-R228). -/

namespace Sys2Proof.Machine

/-! ## Runs of the island engine (R188) -/

section
variable (ns : Nat) (s : State) (d : Delivery) (r : List Delivery) (hq : s.isl.q = d :: r)
include hq

theorem doIslandFinal_runs (hf : d.final = true) : doIslandFinal ns s = State.finalRun d ns { s with isl := { s.isl with q := r } } := by
  simp only [doIslandFinal, hq, hf, if_true]

theorem doIslandProv_runs (hf : d.final = false) (hi : s.isl.init = false) :
    doIslandProv ns s = State.provRun d ns { s with isl := { s.isl with q := r } } := by
  simp only [doIslandProv, hq, hf, hi, Bool.false_eq_true, if_false]

/-- Before the first final run a PROVISIONAL delivery is passed over. -/
theorem doIslandProv_passes (hf : d.final = false) (hi : s.isl.init = true) :
    doIslandProv ns s = { s with isl := { s.isl with q := r } } := by
  simp only [doIslandProv, hq, hf, hi, Bool.false_eq_true, if_false, if_true]
end

/-! ## Label rounds at their timeout (R203) -/

theorem doRoundTimeout_cons (s : State) (r : Rounds) (rest : List Rounds) (h : s.isl.rounds = r :: rest) :
    doRoundTimeout s = State.closeRounds 64 true r.key (s.roundLate r) := by
  simp only [doRoundTimeout, h]

theorem State.roundLate_again (r : Rounds) (s : State) (h : r.inc = true) : s.roundLate r = s := if_pos h

/-- Short of ISL_ORY.rounds incomplete epochs in a row there is no fault. -/
theorem State.roundLate_first (r : Rounds) (s : State) (h : r.inc = false) (hrun : s.isl.incRun + 1 < bits (s.rwN 0x05002C) 5 0) :
    s.roundLate r =
      let u : State := { s with isl := { s.isl with
        rounds := s.isl.rounds.map (fun x => if x.key = r.key then { x with inc := true } else x)
        incomplete := s.isl.incomplete || s.newestRounds r.key, incRun := s.isl.incRun + 1 } }
      (u.bumpN 0x05007C 1).latchN 0x05000C 8 := by
  unfold State.roundLate
  rw [if_neg (by simp [h])]
  exact if_neg (Nat.not_le.mpr hrun)

/-! ## One update of an engine (R217) -/

/-- The engine at an index after a change of it, or the one that stands for an index past the last. -/
theorem State.lb_mapLbe_cases (e : Nat) (f : Lbe → Lbe) (s : State) : (s.mapLbe e f).lb e = f (s.lb e) ∨ (s.mapLbe e f).lb e = Lbe.reset := by
  by_cases he : e < s.lbe.length
  · exact .inl (nth_at'_self _ _ _ _ he)
  · right
    have hl : s.lbe.length ≤ e := Nat.not_lt.mp he
    have hsame : (s.mapLbe e f).lbe = s.lbe := at'_over s.lbe e f hl
    rw [State.lb, hsame]
    exact List.getD_eq_default _ _ hl

theorem State.lb_mapLbe_stopping (e : Nat) (f : Lbe → Lbe) (s : State) (hf : (f (s.lb e)).stopping = false) :
    ((s.mapLbe e f).lb e).stopping = false := by
  rcases State.lb_mapLbe_cases e f s with h | h <;> rw [h]
  · exact hf
  · rfl

/-- A stop for the rate leaves the engine with no stop of R228 to come. -/
theorem State.lbeCfgstop_stopping (e : Nat) (s : State) : ((s.lbeCfgstop e).lb e).stopping = false := by
  have hhalt : ((s.lbeHalt e).lb e).stopping = false := State.lb_mapLbe_stopping e _ (s.clearOscAll e) rfl
  have hlbe : (s.lbeCfgstop e).lbe = ((s.lbeHalt e).mapLbe e (fun l => { l with cfgstop := true })).lbe := rfl
  exact (congrArg (fun l => (nth Lbe.reset l e).stopping) hlbe).trans (State.lb_mapLbe_stopping e _ _ hhalt)

/-- The delivery d is taken with r left in the queue: the engine starts again where keys were left out or its group was, and notes the delivery
(R208, R217, R230). -/
def State.lbeTaken (e ns : Nat) (d : Delivery) (r : List Delivery) (s : State) : State :=
  let x0 := s.mapLbe e (fun l => { l with q := r })
  let gap := match (s.lb e).prevKey with | some k => decide (d.key ≠ k + 1) || x0.regrouped d k | none => false
  (if gap then x0.lbeRestart e else x0).mapLbe e (fun l => { l with
    started := true, rate := if l.started then l.rate else ((List.range 12).find? (fun c => rateFps c == d.rate)).getD 0
    prevKey := some d.key, lastKey := d.key, defs := lbeDefs s.lbeT e, lastT := ns, cvgAt := 2 * lbeFwin s.lbeT e * d.rate })

/-- Its samples are filtered and embedded by section t, the time is counted, and the update is tracked unless too much of it is filled
(R215-R217, R226). -/
def State.lbeEmbedded (t : WMap) (e ns : Nat) (d : Delivery) (x : State) : State :=
  let f := x.lbeFilter e d
  let hist := ((f.1.take (lbeM t e)) :: f.2.hist).take ((lbeL t e - 1) * lbeStride t e + 1)
  let z := embed (lbeM t e) (lbeStride t e) (lbeL t e) hist
  let skip := decide (bits (lbeW t e 3) 23 16 * (lbeM t e * lbeL t e) < 256 * (z.filter (fun y => y.2)).length)
  let v := State.lbeTimed e ns ((x.mapLbe e (fun _ => { f.2 with hist := hist, skipped := skip })).bumpN (aLbe e 0x48)
    ((f.1.filter (fun y => y.2)).length))
  if skip then v.bumpN (aLbe e 0x44) 1 else v.lbeTracked e f.1 (z.map (fun y => y.1))

section
variable (e ns : Nat) (s : State) (d : Delivery) (r : List Delivery) (hq : (s.lb e).q = d :: r) (hrun : (s.lb e).running = true)
include hq hrun

theorem State.lbeUpdate_other_rate (hs : (s.lb e).started = true) (hr : rateFps (s.lb e).rate ≠ d.rate) :
    s.lbeUpdate e ns = (s.mapLbe e (fun l => { l with q := r })).lbeCfgstop e := by
  simp only [State.lbeUpdate, hq, hrun, hs, bne_iff_ne.mpr hr, Bool.not_true, Bool.and_true, Bool.false_eq_true, if_false, if_true]

theorem State.lbeUpdate_same_rate (hr : (s.lb e).started = true → rateFps (s.lb e).rate = d.rate) :
    s.lbeUpdate e ns = (s.lbeTaken e ns d r).lbeEmbedded s.lbeT e ns d := by
  have hgo : ((s.lb e).started && rateFps (s.lb e).rate != d.rate) = false := by
    cases hs : (s.lb e).started with
    | false => rfl
    | true => simp [hr hs]
  simp only [State.lbeUpdate, hq, hrun, hgo, Bool.not_true, Bool.false_eq_true, if_false]
  rfl
end

/-- Settles O38: each event runs its operation, the Nucleus half being up; an update by the rate of its delivery. -/
theorem analysisEventsComplete : Obligations.AnalysisEventsComplete := by
  unfold Obligations.AnalysisEventsComplete
  refine ⟨?runs, ?timeout, ?late, ?rate, ?update⟩
  case runs =>
    intro ns s d r hup hq u
    exact ⟨fun hf => does_of_nucleus _ _ s _ rfl hup (doIslandFinal_runs ns s d r hq hf),
      fun hf hi => does_of_nucleus _ _ s _ rfl hup (doIslandProv_runs ns s d r hq hf hi),
      fun hf hi => does_of_nucleus _ _ s _ rfl hup (doIslandProv_passes ns s d r hq hf hi)⟩
  case timeout => exact fun s r rest hup h => does_of_nucleus _ _ s _ rfl hup (doRoundTimeout_cons s r rest h)
  case late => exact fun r s => ⟨State.roundLate_again r s, State.roundLate_first r s⟩
  case rate =>
    intro e ns s d r _ hup hq hrun hs hr _
    refine does_of_nucleus _ (doLbeUpdate e ns) s _ rfl hup ?_
    rw [doLbeUpdate, State.lbeUpdate_other_rate e ns s d r hq hrun hs hr]
    rw [State.lbeCfgstop_stopping, Bool.false_and, if_neg Bool.false_ne_true]
  case update =>
    intro e ns s d r hup hq hrun hr
    refine does_of_nucleus _ (doLbeUpdate e ns) s _ rfl hup ?_
    rw [doLbeUpdate, State.lbeUpdate_same_rate e ns s d r hq hrun hr]
    rfl

end Sys2Proof.Machine
end

section
/-! SUPPORT. GOOSE repeats and the sampled pins: what the operation behind each event leaves (R243, R244, R247, R338). -/

namespace Sys2Proof.Machine

theorem doGooseRepeat_sends (c : Nat) (s : State) (hen : s.gooseEn c = true) (hst : 0 < (s.gse c).st) :
    doGooseRepeat c s = (s.mapGse c (fun g => { g with sq := nextSq g.sq, repeatI := g.repeatI + 1 })).sendGoose c :=
  if_pos (by rw [hen, decide_eq_true hst]; rfl)

theorem doMinpwEnd_releases (p : Nat) (s : State) (h : (s.pin p).width = true) :
    doMinpwEnd p s = (s.mapPin p (fun x => { x with width := false })).drivePin p :=
  if_pos h

/-! ## Samples of an alarm pin (R244) -/

/-- A sample at the intended level ends the run of differing samples. -/
theorem doAlmPinSample_agrees (p : Nat) (s : State) :
    doAlmPinSample p (s.pinBall p) s = s.mapPin p (fun x => { x with readback := s.pinBall p, misses := 0 }) := by
  simp only [doAlmPinSample, bne_self_eq_false, Bool.false_eq_true, false_and, if_false]

/-- The sample after a differing one differs too: counted, latched and F_ALM_PIN. -/
theorem doAlmPinSample_differs_again (p : Nat) (s : State) (h : (s.pin p).misses = 1) :
    doAlmPinSample p (!s.pinBall p) s = (((s.mapPin p (fun x =>
      { x with readback := !s.pinBall p, misses := Nat.min 2 (x.misses + 1) })).bumpN (aPin p 0x18) 1).latchN 0x070008 4).faultC 76 := by
  simp only [doAlmPinSample, Bool.not_bne_self, h, and_self, if_true]

/-! ## Samples of ERR_N (R338) -/

/-- A sample at the driven level ends the condition. -/
theorem doErrnSample_agrees (s : State) :
    doErrnSample s.errn s = State.over .coma 87 { s with flt := { s.flt with errnMiss := 0, errnLevel := s.errn } } := by
  simp only [doErrnSample, bne_self_eq_false, Bool.false_eq_true, false_and, if_false]

/-- The sample after a differing one differs too: F_ERRN_PIN, which lasts. -/
theorem doErrnSample_differs_again (s : State) (h : s.flt.errnMiss = 1) :
    doErrnSample (!s.errn) s = State.lasting .coma 87 { s with flt := { s.flt with errnMiss := 2, errnLevel := !s.errn } } := by
  have htwo : Nat.min 2 (1 + 1) = 2 := rfl
  simp only [doErrnSample, Bool.not_bne_self, h, htwo, and_self, if_true]

/-- Settles O42: each event runs its operation, its half being up; a sample is compared with the level the pin is meant to have. -/
theorem outputEventsComplete : Obligations.OutputEventsComplete := by
  unfold Obligations.OutputEventsComplete
  refine ⟨?goose, ?width, ?pin, ?errn⟩
  case goose => exact fun c s hup hen hst => does_of_nucleus _ _ s _ rfl hup (doGooseRepeat_sends c s hen hst)
  case width => exact fun p s hup hw => does_of_nucleus _ _ s _ rfl hup (doMinpwEnd_releases p s hw)
  case pin =>
    exact fun p s hup => ⟨doesJudged_of_coma _ _ s _ rfl hup (doAlmPinSample_agrees p s),
      fun hm => doesJudged_of_coma _ _ s _ rfl hup (doAlmPinSample_differs_again p s hm)⟩
  case errn =>
    exact fun s hup => ⟨does_of_coma _ _ s _ rfl hup (doErrnSample_agrees s),
      fun hm => does_of_coma _ _ s _ rfl hup (doErrnSample_differs_again s hm)⟩

end Sys2Proof.Machine
end

section
/-! SUPPORT. The neighbour and heartbeat registers of the orrery while the device is joined or a join is pending: the words they refuse, and
what REG.WRITE and REG.MODIFY answer then (R276, R280, R406). -/

namespace Sys2Proof.Machine

/-! ## Words that a register refuses (R45, R406) -/

/-- REG.WRITE of one word that its register refuses with E_PARAM. -/
theorem cmdRegWrite_refused_value (h : Hdr) (a w : Word) (s : State) (hr : isReg h.half a.toNat = true)
    (hw : s.refuses h.half a.toNat w = some eParam) : cmdRegWrite h [a, w] s = Res.fail s eParam 1 := by
  simp [cmdRegWrite, par, nth, hr, checkRun, State.refusesAt, hw]

/-- REG.MODIFY of a register without W1C bits whose new word is refused. -/
theorem cmdRegModify_refused (h : Hdr) (a m v : Word) (c : Byte) (s : State) (hr : isReg h.half a.toNat = true)
    (hm : w1cMask h.half a.toNat = 0)
    (hw : s.refuses h.half a.toNat ((s.regValue h.half a.toNat &&& ~~~m) ||| (v &&& m)) = some c) :
    cmdRegModify h [a, m, v] s = Res.fail s c (if c = eParam then 2 else 0) := by
  simp [cmdRegModify, arity, par, nth, hr, State.modified, hm, hw]

theorem State.store_ory (h : Half) (a : Nat) (w : Word) (s : State) : (s.store h a w).ory = s.ory := by
  unfold State.store
  split
  · exact State.putRw_ory h a w s
  · split <;> rfl

/-- A run that reaches a register which refuses every word while the orrery's state is as it is: a word of the run is refused. -/
theorem checkRun_refused (h : Half) (ws : List Word) : ∀ (k a i : Nat) (s : State), i < ws.length →
    (∀ w (t : State), t.ory = s.ory → t.refusesAt h (a + 4 * i) w ≠ none) → checkRun h k a ws s ≠ (none, false) := by
  induction ws with
  | nil => intro k a i s hi; simp at hi
  | cons w r ih =>
    intro k a i s hi hfix
    simp only [checkRun]
    cases hw : s.refusesAt h a w with
    | none =>
      cases i with
      | zero => exact absurd hw (hfix w s rfl)
      | succ j =>
        refine ih _ _ j _ (by simpa using hi) fun x t ht => ?_
        rw [show a + 4 + 4 * j = a + 4 * (j + 1) by omega]
        exact hfix x t (ht.trans (State.store_ory h a w s))
    | some c => dsimp only; split <;> simp

/-- REG.WRITE of a run of which a word is refused. -/
theorem cmdRegWrite_run_refused (h : Hdr) (a : Word) (ws : List Word) (s : State) (h1 : 1 ≤ ws.length) (h256 : ws.length ≤ 256)
    (hrun : checkRun h.half 1 a.toNat ws s ≠ (none, false)) :
    cmdRegWrite h (a :: ws) s = Res.fail s eState ∨ ∃ d, cmdRegWrite h (a :: ws) s = Res.fail s eParam d := by
  have hmin : ¬ (a :: ws).length < 2 := by simp only [List.length_cons]; omega
  have hmax : ¬ 257 < (a :: ws).length := by simp only [List.length_cons]; omega
  have hfirst : par (a :: ws) 0 = a := rfl
  simp only [cmdRegWrite, if_neg hmin, if_neg hmax, hfirst, List.drop_succ_cons, List.drop_zero]
  split
  · exact .inr ⟨0, rfl⟩
  · rcases hc : checkRun h.half 1 a.toNat ws s with ⟨_ | k, _ | _⟩
    · exact absurd hc hrun
    · exact .inl rfl
    · exact .inr ⟨k, rfl⟩
    · exact .inr ⟨k, rfl⟩

/-! ## The registers that R276 fixes -/

theorem neighbour_register : ∀ k, k < 32 → ∀ o, o < 4 → isReg .nucleus (aNb k (4 * o)) = true ∧ w1cMask .nucleus (aNb k (4 * o)) = 0 := by
  decide

theorem heartbeat_register : isReg .nucleus 0x080014 = true ∧ w1cMask .nucleus 0x080014 = 0 := by decide

theorem toNat_neighbour_address (k o : Nat) (hk : k < 32) (ho : o < 4) : (w32 (aNb k (4 * o))).toNat = aNb k (4 * o) :=
  (BitVec.toNat_ofNat _ _).trans (Nat.mod_eq_of_lt (by simp only [aNb]; omega))

/-- A register that the state fixes answers by its fields first (R406). -/
theorem refuse_fixed (param : Bool) : refuse param true = some (if param then eParam else eState) := by cases param <;> rfl

section
variable (s : State) (hfix : s.ory.joined = true ∨ s.ory.pendJoin = true)
include hfix

theorem State.refuses_neighbour (k o a : Nat) (w : Word) (hk : k < 32) (ho : o < 4) (ha : a = aNb k (4 * o)) :
    s.refuses .nucleus a w = some (if o = 0 ∧ bits w 30 29 = 3 then eParam else eState) := by
  subst ha
  have hinst : inst 0x080100 0x10 32 0x10 (aNb k (4 * o)) = some (k, 4 * o) := inst_at _ _ _ _ k (4 * o) hk (by omega) (by decide)
  have hfixed : (s.ory.joined || s.ory.pendJoin) = true := by simpa using hfix
  have hlo : 0x080100 ≤ aNb k (4 * o) := by simp only [aNb]; omega
  have hhi : aNb k (4 * o) < 0x090000 := by simp only [aNb]; omega
  simp only [State.refuses, State.refuseN]
  iterate 7 rw [if_neg (by omega)]
  rw [if_pos hhi]
  simp [State.refuseOry, hinst, hfixed, refuse_fixed]

theorem State.refuses_heartbeat (w : Word) : s.refuses .nucleus 0x080014 w =
    some (if bits w 7 0 = 0 ∨ 100 < bits w 7 0 ∨ bits w 11 8 < 2 then eParam else eState) := by
  have hfixed : (s.ory.joined || s.ory.pendJoin) = true := by simpa using hfix
  have hmiss : bits w 11 8 < 16 := Nat.mod_lt _ (by decide)
  have hrefuse : s.refuses .nucleus 0x080014 w = refuse (outside (bits w 7 0) 1 100 || outside (bits w 11 8) 2 15) (s.ory.joined || s.ory.pendJoin) :=
    rfl
  have hout : (outside (bits w 7 0) 1 100 || outside (bits w 11 8) 2 15) = true ↔
      bits w 7 0 = 0 ∨ 100 < bits w 7 0 ∨ bits w 11 8 < 2 := by
    simp only [outside, Bool.or_eq_true, decide_eq_true_eq]
    omega
  rw [hrefuse, hfixed, refuse_fixed]
  simp only [hout]

end

/-! ## What REG.WRITE and REG.MODIFY answer -/

section
variable (h : Hdr) (s : State)

/-- REG.WRITE of one word to a register of the Nucleus half that refuses it by a condition on the word or else by its state. -/
theorem regWrite_refused (hh : h.half = .nucleus) (a w : Word) (p : Prop) [Decidable p] (ht : s.takes 0x0101 h [a, w] = true)
    (hr : isReg .nucleus a.toNat = true) (hw : s.refuses .nucleus a.toNat w = some (if p then eParam else eState)) :
    (¬ p → Refuses (.regWrite h [a, w]) h 0x0101 eState 0 s) ∧ (p → Refuses (.regWrite h [a, w]) h 0x0101 eParam 1 s) := by
  rw [← hh] at hr hw
  refine ⟨fun hp => ?_, fun hp => ?_⟩
  · rw [if_neg hp] at hw
    exact ⟨_, rfl, serve_fail 0x0101 eState 0 h _ cmdRegWrite s ht (cmdRegWrite_refused h a w s hr hw)⟩
  · rw [if_pos hp] at hw
    exact ⟨_, rfl, serve_fail 0x0101 eParam 1 h _ cmdRegWrite s ht (cmdRegWrite_refused_value h a w s hr hw)⟩

/-- The same for REG.MODIFY, where the register has no W1C bits. -/
theorem regModify_refused (hh : h.half = .nucleus) (a m v : Word) (p : Prop) [Decidable p] (ht : s.takes 0x0102 h [a, m, v] = true)
    (hr : isReg .nucleus a.toNat = true ∧ w1cMask .nucleus a.toNat = 0)
    (hw : s.refuses .nucleus a.toNat ((s.regValue .nucleus a.toNat &&& ~~~m) ||| (v &&& m)) = some (if p then eParam else eState)) :
    (¬ p → Refuses (.regModify h [a, m, v]) h 0x0102 eState 0 s) ∧ (p → Refuses (.regModify h [a, m, v]) h 0x0102 eParam 2 s) := by
  rw [← hh] at hr hw
  obtain ⟨hreg, hw1c⟩ := hr
  have hbody := cmdRegModify_refused h a m v _ s hreg hw1c hw
  refine ⟨fun hp => ?_, fun hp => ?_⟩
  · rw [if_neg hp] at hbody
    exact ⟨_, rfl, serve_fail 0x0102 eState 0 h _ cmdRegModify s ht hbody⟩
  · rw [if_pos hp] at hbody
    exact ⟨_, rfl, serve_fail 0x0102 eParam 2 h _ cmdRegModify s ht hbody⟩

end

/-- Settles O55: each register refuses every word while the device is joined or a join is pending, by its fields or else by that state; no word
of a run changes the orrery's state, so the run's word for the register is refused too. -/
theorem neighbourRegistersAreFixedWhileJoined : Obligations.NeighbourRegistersAreFixedWhileJoined := by
  unfold Obligations.NeighbourRegistersAreFixedWhileJoined
  intro h s hh hfix
  refine ⟨?writeNeighbour, ?writeHeartbeat, ?modifyNeighbour, ?modifyHeartbeat, ?run⟩
  case writeNeighbour =>
    intro k o a w hk ho ha ht
    have hnat : a.toNat = aNb k (4 * o) := ha ▸ toNat_neighbour_address k o hk ho
    obtain ⟨hstate, hparam⟩ := regWrite_refused h s hh a w (o = 0 ∧ bits w 30 29 = 3) ht (hnat ▸ (neighbour_register k hk o ho).1)
      (State.refuses_neighbour s hfix k o _ w hk ho hnat)
    exact ⟨fun hok => hstate (by omega), fun h0 h3 => hparam ⟨h0, h3⟩⟩
  case writeHeartbeat =>
    intro w ht
    obtain ⟨hstate, hparam⟩ := regWrite_refused h s hh 0x080014 w _ ht heartbeat_register.1 (State.refuses_heartbeat s hfix w)
    exact ⟨fun h1 h100 h2 => hstate (by omega), hparam⟩
  case modifyNeighbour =>
    intro k o a m v hk ho ha ht w
    have hnat : a.toNat = aNb k (4 * o) := ha ▸ toNat_neighbour_address k o hk ho
    obtain ⟨hstate, hparam⟩ := regModify_refused h s hh a m v (o = 0 ∧ bits w 30 29 = 3) ht (hnat ▸ neighbour_register k hk o ho)
      (State.refuses_neighbour s hfix k o _ w hk ho hnat)
    exact ⟨fun hok => hstate (by omega), fun h0 h3 => hparam ⟨h0, h3⟩⟩
  case modifyHeartbeat =>
    intro m v ht w
    obtain ⟨hstate, hparam⟩ := regModify_refused h s hh 0x080014 m v _ ht heartbeat_register (State.refuses_heartbeat s hfix w)
    exact ⟨fun h1 h100 h2 => hstate (by omega), hparam⟩
  case run =>
    intro a ws i ht hlen hi haddr
    have hreach : ∀ w (t : State), t.ory = s.ory → t.refusesAt h.half (a.toNat + 4 * i) w ≠ none := by
      intro w t hory
      rw [← hory] at hfix
      rw [hh]
      rcases haddr with hb | ⟨k, o, hk, ho, hn⟩
      · rw [hb, State.refusesAt, if_pos heartbeat_register.1, State.refuses_heartbeat t hfix]
        exact Option.some_ne_none _
      · have hn' : a.toNat + 4 * i = aNb k (4 * o) := hn
        rw [State.refusesAt, if_pos (hn' ▸ (neighbour_register k hk o ho).1), State.refuses_neighbour t hfix k o _ w hk ho hn']
        exact Option.some_ne_none _
    refine (cmdRegWrite_run_refused h a ws s (by omega) hlen (checkRun_refused h.half ws 1 a.toNat i s hi hreach)).imp ?_ ?_
    · exact fun hb => ⟨_, rfl, serve_fail 0x0101 eState 0 h _ cmdRegWrite s ht hb⟩
    · exact fun ⟨d, hb⟩ => ⟨d, _, rfl, serve_fail 0x0101 eParam d h _ cmdRegWrite s ht hb⟩

end Sys2Proof.Machine
end

section
/-! SUPPORT. The commands of the orrery: what the bodies of ORY.JOIN, ORY.LEAVE and ORY.STATUS answer (R274, R275, R281). -/

namespace Sys2Proof.Machine

section
variable (h : Hdr) (s : State)

/-- An operation that no port has pending is free to begin (R40 step 10). -/
theorem State.claim_free (op res : Nat) (hl : s.opLocked h op res = false) (hb : s.opBusy h op res = false) : s.claim h op res = none := by
  simp only [State.claim, hl, hb, Bool.false_eq_true, if_false]

/-! ## ORY.JOIN (R274) -/

/-- The state in which a join with parameter words a, b and c waits for the parent. -/
def State.joining (a b c : Word) : State :=
  { s.addOp h 0x0E00 0 with ory := { s.ory with
      pendJoin := true, beating := true, root := bit c 0, orphan := false, depth := 0, id := bits a 10 0, slot := bits b 5 0
      session := if s.ory.session < s.sec % 2 ^ 32 then s.sec % 2 ^ 32 else (s.ory.session + 1) % 2 ^ 32, count := 0 } }

/-- A root has joined at once; any other device waits for its parent. -/
def State.joinBegun (a b c : Word) : State :=
  if bit c 0 then (s.joining h a b c).joinDone codeOk else s.joining h a b c

theorem State.joinDone_ports (code : Byte) (t : State) : (t.joinDone code).cmd.portIds = t.cmd.portIds := by
  simp only [State.joinDone]
  split <;> simp

theorem State.joinBegun_ports (a b c : Word) : (s.joinBegun h a b c).cmd.portIds = s.cmd.portIds := by
  unfold State.joinBegun
  split
  · rw [State.joinDone_ports]; rfl
  · rfl

/-- A join that R274 allows: a root has no parent configured, any other device one. -/
theorem cmdOryJoin_accepted (a b c : Word) (hj : s.ory.joined = false) (hpj : s.ory.pendJoin = false) (hpl : s.ory.pendLeave = false)
    (hz : bits c 31 1 = 0) (hpar : (s.nbsWhere (fun k => nbRole (s.nbCfg k) == 1)).length = if bit c 0 then 0 else 1)
    (hslot : bits b 5 0 ≠ 0) (hkey : s.keyValid (bits b 5 0) = true) (hops : s.opsOf h.port < 32) :
    cmdOryJoin h [a, b, c] s = .pending (s.joinBegun h a b c) := by
  have ha : par [a, b, c] 0 = a := rfl
  have hb : par [a, b, c] 1 = b := rfl
  have hc : par [a, b, c] 2 = c := rfl
  have hparents : ¬ (((bit c 0 = true) ∧ (if bit c 0 then 0 else 1) ≠ 0) ∨ (¬ (bit c 0 = true) ∧ (if bit c 0 then 0 else 1) ≠ 1)) := by
    cases bit c 0 <;> decide
  have hidle : (s.ory.joined || s.ory.pendJoin || s.ory.pendLeave) = false := by rw [hj, hpj, hpl]; rfl
  have hkeyed : ¬ (bits b 5 0 = 0 ∨ (!s.keyValid (bits b 5 0)) = true) := by simp [hslot, hkey]
  simp only [cmdOryJoin, arity, List.length_cons, List.length_nil, if_true, ha, hb, hc, hz, hpar, hidle, Nat.not_le.mpr hops,
    not_true_eq_false, ne_eq, Bool.false_eq_true, if_false] at hparents ⊢
  rw [if_neg hparents, if_neg hkeyed]
  rfl

/-! ## ORY.LEAVE (R275) -/

/-- The state of a device that leaves: its queue flushed, a LEAVE to every neighbour that is up, its routes and heartbeats gone. -/
def State.leaving : State :=
  let u := (s.nbsWhere (fun k => (s.nb k).up)).foldl (fun (x : State) k => x.originate k (nbId (x.nbCfg k)) 2 0 []) (s.addOp h 0x0E01 0).flushOry
  State.clearRoutes { u with ory := { u.ory with pendLeave := true, beating := false } }

theorem State.leaving_ports : (s.leaving h).cmd.portIds = s.cmd.portIds :=
  ports_foldl _ (fun x k => State.originate_ports k _ 2 0 [] x) _ (s.addOp h 0x0E01 0).flushOry

theorem cmdOryLeave_accepted (hl : s.opLocked h 0x0E01 0 = false) (hj : s.ory.joined = true) (hb : s.opBusy h 0x0E01 0 = false) :
    cmdOryLeave h [] s = .pending (s.leaving h) := by
  simp only [cmdOryLeave, arity, List.length_nil, if_true, State.claim_free h s 0x0E01 0 hl hb, hj, Bool.not_true, Bool.false_eq_true, if_false]
  rfl

end

/-- Settles O25: a join and a leave by what their bodies leave, each pending; ORY.STATUS by its words. -/
theorem orreryCommandsComplete : Obligations.OrreryCommandsComplete := by
  unfold Obligations.OrreryCommandsComplete
  refine ⟨?join, ?leave, ?status⟩
  case join =>
    exact fun h a b c s ht hj hpj hpl hz hpar hslot hkey hops => ⟨_, rfl, serve_pending 0x0E00 h [a, b, c] [] cmdOryJoin s (s.joinBegun h a b c) ht
      (cmdOryJoin_accepted h s a b c hj hpj hpl hz hpar hslot hkey hops) (takes_port_of_ids ht (State.joinBegun_ports h s a b c))⟩
  case leave =>
    exact fun h s ht hl hj hb => ⟨_, rfl, serve_pending 0x0E01 h [] [] cmdOryLeave s (s.leaving h) ht
      (cmdOryLeave_accepted h s hl hj hb) (takes_port_of_ids ht (State.leaving_ports h s))⟩
  case status =>
    exact fun h s ht => ⟨_, rfl, serve_ok 0x0E02 0 h [] _ cmdOryStatus s s ht rfl (takes_port _ h _ s ht)⟩

end Sys2Proof.Machine
end

section
/-! SUPPORT. The events of the orrery: what the operation behind each leaves (R265, R268-R270, R274, R275). -/

namespace Sys2Proof.Machine

theorem doesJudged_of_nucleus (c : Instr) (f : State → State) (s u : State) (hx : exec c s = .next (State.settled (whenUp .nucleus f s).judge))
    (hup : s.nucUp = true) (hu : f s = u) : DoesJudged c s u :=
  doesJudged_of_effect c s _ u hx ((whenUp_nucleus f s hup).trans hu)

/-! ## A message from the wire (R268) -/

section
variable (m : OryMsg) (rest : List OryMsg) (s : State) (hrx : s.ory.rx = m :: rest)
include hrx

/-- A message that its origin has sent before. -/
theorem doOryReceive_replayed (hr : replayStep (ndSrc m.bytes) (fieldAt 12 4 m.bytes) (fieldAt 16 4 m.bytes)
      (findBy Replay.origin (ndSrc m.bytes) s.ory.replay) = none) :
    doOryReceive s = (State.unstage m.port m.pri m.len { s with ory := { s.ory with rx := rest } }).bumpN 0x080044 1 := by
  simp only [doOryReceive, hrx, State.unstage, hr]

theorem doOryReceive_new (r : Replay) (hr : replayStep (ndSrc m.bytes) (fieldAt 12 4 m.bytes) (fieldAt 16 4 m.bytes)
      (findBy Replay.origin (ndSrc m.bytes) s.ory.replay) = some r) :
    doOryReceive s =
      let u := State.unstage m.port m.pri m.len { s with ory := { s.ory with rx := rest } }
      State.oryByType m { u with ory := { u.ory with replay := insertBy Replay.origin r u.ory.replay } } := by
  simp only [doOryReceive, hrx, State.unstage, hr]

end

/-! ## Sending keeps the heartbeats on or off (R270) -/

theorem State.dropOryN_beating (n : Nat) : ∀ s : State, (s.dropOryN n).ory.beating = s.ory.beating := by
  induction n with
  | zero => exact fun s => rfl
  | succ n ih =>
    intro s
    unfold State.dropOryN
    split
    · split
      · exact ih _
      · rfl
    · rfl

theorem State.stageAdd_ory (m j i : Nat) (n : Int) (s : State) : (s.stageAdd m j i n).ory = s.ory := by rw [State.stageAdd_frame]

theorem State.evQueue_ory (l : Nat) (s : State) : (s.evQueue l).ory = s.ory := rfl

theorem State.pushOry_beating (f : OryFrame) (s : State) : (s.pushOry f).ory.beating = s.ory.beating := by
  simp only [State.pushOry]
  split
  · rw [State.stageAdd_ory, State.bump_ory]
  · split
    · exact State.dropOryN_beating _ _
    · split
      · rw [State.evQueue_ory, State.stageAdd_ory, State.bump_ory]
      · rw [State.stageAdd_ory, State.bump_ory]

theorem State.originate_beating (k dst type flags : Nat) (p : List Byte) (s : State) :
    (s.originate k dst type flags p).ory.beating = s.ory.beating := State.pushOry_beating _ _

/-- Two folds whose steps agree wherever an invariant of the second holds. -/
theorem foldl_congr_of_invariant {α β : Type} {f g : β → α → β} {I : β → Prop} (hI : ∀ b a, I b → I (g b a))
    (hfg : ∀ b a, I b → f b a = g b a) (l : List α) : ∀ b, I b → l.foldl f b = l.foldl g b := by
  induction l with
  | nil => exact fun b _ => rfl
  | cons a r ih =>
    intro b hb
    rw [List.foldl_cons, List.foldl_cons, hfg b a hb, ih _ (hI b a hb)]

/-- A heartbeat period of neighbour k begins: whether the last one brought a heartbeat is noted (R265). -/
def State.heartbeatPeriod (k : Nat) (s : State) : State :=
  s.mapNb k (fun n => { n with heard := false, missed := if n.heard then 0 else Nat.min 255 (n.missed + 1) })

theorem doOryHeartbeat_beating (s : State) (hb : s.ory.beating = true) :
    doOryHeartbeat s = (s.nbsWhere (fun _ => true)).foldl (fun (x : State) k =>
      (x.heartbeatPeriod k).originate k (nbId (x.nbCfg k)) 1 0 s.heartbeatPayload) s := by
  unfold doOryHeartbeat
  refine foldl_congr_of_invariant (I := fun x => x.ory.beating = true) (fun x k hx => ?_) (fun x k hx => if_pos hx) _ s hb
  exact (State.originate_beating _ _ _ _ _ _).trans hx

theorem doOryHeartbeat_silent (s : State) (hb : s.ory.beating = false) :
    doOryHeartbeat s = (s.nbsWhere (fun _ => true)).foldl (fun (x : State) k => x.heartbeatPeriod k) s := by
  unfold doOryHeartbeat
  refine foldl_congr_of_invariant (I := fun x => x.ory.beating = false) (fun x k hx => ?_) (fun x k hx => ?_) _ s hb
  · exact hx
  · exact if_neg (by rw [hx]; exact Bool.false_ne_true)

/-! ## A neighbour that is not heard (R265) -/

/-- Neighbour k is down: its routes and the labels learnt from it are gone, and ORY_EVT.nb_down is latched. -/
def State.nbGone (k : Nat) (s : State) : State :=
  let u := (s.mapNb k (fun n => { n with up := false, bitmap := [], tchk := none })).latchN 0x080008 3
  { u with isl := { u.isl with learnt := u.isl.learnt.filter (fun e => e.1 != k) } }

section
variable (k : Nat) (s : State)

theorem doNbTimeout_heard (hm : (s.nb k).missed < bits (s.rwN 0x080014) 11 8) : doNbTimeout k s = s := if_neg (Nat.not_le.mpr hm)

section
variable (hm : bits (s.rwN 0x080014) 11 8 ≤ (s.nb k).missed) (hup : (s.nb k).up = true)
include hm hup

/-- A neighbour other than the parent, or the parent of a device that is not joined. -/
theorem doNbTimeout_gone (hr : nbRole (s.nbCfg k) ≠ 1 ∨ s.ory.joined = false) : doNbTimeout k s = s.nbGone k := by
  have hrole : ¬ (nbRole (s.nbCfg k) = 1 ∧ s.ory.joined = true) := by
    rintro ⟨h1, hj⟩
    exact hr.elim (fun h => h h1) (fun h => by simp [h] at hj)
  rw [doNbTimeout, if_pos hm]
  simp only [State.nbDown, hup, Bool.not_true, Bool.false_eq_true, if_false, if_neg hrole]
  rfl

/-- The parent of a joined device, which becomes an orphan. -/
theorem doNbTimeout_parent (hr : nbRole (s.nbCfg k) = 1) (hj : s.ory.joined = true) : doNbTimeout k s =
    (State.occur .nucleus 61 true false
      (State.latchN 0x080008 4 { s.nbGone k with ory := { (s.nbGone k).ory with orphan := true } })).1 := by
  rw [doNbTimeout, if_pos hm]
  simp only [State.nbDown, hup, Bool.not_true, Bool.false_eq_true, if_false, if_pos (And.intro hr hj)]
  rfl

end
end

/-! ## Joining and leaving (R274, R275) -/

section
variable (s : State)

theorem doOryJoinTimeout_ends (hp : s.ory.pendJoin = true) : doOryJoinTimeout s =
    State.completeOp .nucleus 0x0E00 0 eState { s with ory := { s.ory with pendJoin := false, joined := false, beating := false } } := if_pos hp

theorem doOryLeaveComplete_leaves (hp : s.ory.pendLeave = true) : doOryLeaveComplete s =
    ((State.clearRoutes { s with ory := { s.ory with pendLeave := false, joined := false, root := false, orphan := false, depth := 0 } }).latchN
      0x080008 1).completeOp .nucleus 0x0E01 0 codeOk := if_neg (by simp [hp])

/-! ## MODES and TIMECHK (R270) -/

theorem State.toParent_root (type flags : Nat) (p : List Byte) (hr : s.ory.root = true) : s.toParent type flags p = s :=
  if_pos (by simp [hr])

section
variable (hj : s.ory.joined = true) (hon : bit (s.rwN 0x08001C) 6 = true)
include hj hon

theorem doOryModes_root (hr : s.ory.root = true) : doOryModes s = s := by
  simp only [doOryModes, hj, hon, Bool.and_self, Bool.not_true, Bool.false_eq_true, if_false]
  exact List.foldl_fixed' (fun x => State.toParent_root s _ _ _ hr) _

/-- With no slot held one message without entries goes to the parent. -/
theorem doOryModes_none_held (hnone : ∀ e j, (nth Mode.free (s.lb e).modes j).held = false) :
    doOryModes s = s.toParent 6 0 (beBytes 8 (maxN 0 (s.lbe.map (fun l => l.lastKey)) % 2 ^ 56) ++ beBytes 2 0) := by
  have hentries : (List.range 32).flatMap (fun _ => ([] : List (List Byte))) = [] := List.flatMap_eq_nil_iff.mpr fun _ _ => rfl
  simp only [doOryModes, hj, hon, Bool.and_self, Bool.not_true, Bool.false_eq_true, if_false, hnone, Bool.false_and]
  simp [hentries, chunks, b2n]

end

theorem doOryTimechk_sends (hj : s.ory.joined = true) (hon : bit (s.rwN 0x080000) 1 = true) :
    doOryTimechk s = (s.nbsWhere (fun k => (s.nb k).up)).foldl (fun (x : State) k =>
      x.originate k (nbId (x.nbCfg k)) 7 0 (List.replicate 10 0 ++ (match (x.nb k).tchk with
        | some (e, i) => taiBytes e ++ taiBytes i
        | none => List.replicate 20 0))) s := if_neg (by simp [hj, hon])

end

/-- Settles O41: each event runs its operation, the Nucleus half being up, and the operation leaves what its equation names. -/
theorem orreryEventsComplete : Obligations.OrreryEventsComplete := by
  unfold Obligations.OrreryEventsComplete
  refine ⟨?receive, ?heartbeat, ?timeout, ?joinTimeout, ?modesRoot, ?modes, ?timechk, ?tagfail, ?leave⟩
  case receive =>
    exact fun m rest s hup hrx => ⟨fun hr => doesJudged_of_nucleus _ _ s _ rfl hup (doOryReceive_replayed m rest s hrx hr),
      fun r hr => doesJudged_of_nucleus _ _ s _ rfl hup (doOryReceive_new m rest s hrx r hr)⟩
  case heartbeat =>
    exact fun s hup => ⟨fun hb => does_of_nucleus _ _ s _ rfl hup (doOryHeartbeat_beating s hb),
      fun hb => does_of_nucleus _ _ s _ rfl hup (doOryHeartbeat_silent s hb)⟩
  case timeout =>
    exact fun k s hup => ⟨fun hm => doesJudged_of_nucleus _ _ s _ rfl hup (doNbTimeout_heard k s hm),
      fun hm hu hr => doesJudged_of_nucleus _ _ s _ rfl hup (doNbTimeout_gone k s hm hu hr),
      fun hm hu hr hj => doesJudged_of_nucleus _ _ s _ rfl hup (doNbTimeout_parent k s hm hu hr hj)⟩
  case joinTimeout => exact fun s hup hp => does_of_nucleus _ _ s _ rfl hup (doOryJoinTimeout_ends s hp)
  case modesRoot => exact fun s hup hj hon hr => does_of_nucleus _ _ s _ rfl hup (doOryModes_root s hj hon hr)
  case modes => exact fun s k hup hj hon _ _ hnone => does_of_nucleus _ _ s _ rfl hup (doOryModes_none_held s hj hon hnone)
  case timechk => exact fun s hup hj hon => does_of_nucleus _ _ s _ rfl hup (doOryTimechk_sends s hj hon)
  case tagfail => exact fun s hup => does_of_nucleus _ doOryTagfail s _ rfl hup rfl
  case leave => exact fun s hup hp => does_of_nucleus _ _ s _ rfl hup (doOryLeaveComplete_leaves s hp)

end Sys2Proof.Machine
end

section
/-! SUPPORT. What a step runs, and what clearing a range of counters leaves (R407). -/

namespace Sys2Proof.Machine

/-! ## A step -/

/-- Settles O1: a step looks at the queue alone to choose between a command and idling. -/
theorem stepRunsFrontCommand : Obligations.StepRunsFrontCommand := by
  unfold Obligations.StepRunsFrontCommand
  constructor
  · intro c r s hq
    simp only [step, hq]
  · intro s hq
    simp only [step, hq]

/-! ## Clearing counters -/

section
variable (h : Half) (lo hi a : Nat) (s : State)

theorem State.ctr_clearCtr_in (hlo : lo ≤ a) (hhi : a < hi) : (s.clearCtr h lo hi).ctr h a = 0 := by
  have hout : (a < lo || hi ≤ a : Bool) = false := by simp [hlo, hhi]
  cases h <;> exact WMap.get_filter_in _ (fun k => k < lo || hi ≤ k) a hout

theorem State.ctr_clearCtr_out (ha : a < lo ∨ hi ≤ a) : (s.clearCtr h lo hi).ctr h a = s.ctr h a := by
  have hout : (a < lo || hi ≤ a : Bool) = true := by simpa using ha
  cases h <;> exact WMap.get_filter_out _ (fun k => k < lo || hi ≤ k) a hout

/-- The other half's registers are left alone. -/
theorem State.regs_mapRegs_other (h' : Half) (f : RegFile → RegFile) (hne : h' ≠ h) : (s.mapRegs h f).regs h' = s.regs h' := by
  cases h with
  | coma =>
    cases h' with
    | coma => exact absurd rfl hne
    | nucleus => rfl
  | nucleus =>
    cases h' with
    | coma => rfl
    | nucleus => exact absurd rfl hne

/-- Of a register file only the counters are touched. -/
theorem State.clearCtr_keeps (h' : Half) : (s.clearCtr h lo hi).rw h' a = s.rw h' a ∧ (s.clearCtr h lo hi).evt h' a = s.evt h' a ∧
    (s.clearCtr h lo hi).cor h' a = s.cor h' a ∧ ((s.clearCtr h lo hi).regs h').win = (s.regs h').win := by
  cases h <;> cases h' <;> exact ⟨rfl, rfl, rfl, rfl⟩

theorem State.clearCtr_frame :
    s.clearCtr h lo hi = s.mapRegs h (fun r => { r with ctr := ((s.clearCtr h lo hi).regs h).ctr }) := by
  cases h <;> rfl
end

/-- Settles O9: the words of the range are dropped from the half's counters and nothing else is touched. -/
theorem clearedCountersReadZero : Obligations.ClearedCountersReadZero := by
  unfold Obligations.ClearedCountersReadZero
  intro h lo hi s
  refine ⟨fun a hlo hhi => ?_, fun a ha => ?_, fun h' a hne => ?_, fun h' a => ?_, ?_⟩
  · exact State.ctr_clearCtr_in h lo hi a s hlo hhi
  · exact State.ctr_clearCtr_out h lo hi a s ha
  · rw [State.ctr, State.clearCtr, State.regs_mapRegs_other h s h' _ hne]; rfl
  · exact State.clearCtr_keeps h lo hi a s h'
  · exact State.clearCtr_frame h lo hi s

end Sys2Proof.Machine
end

section
/-! SUPPORT. The queues of the common discipline: what a push, a drop, the placing of pending drops and a read leave (R376-R379). -/

namespace Sys2Proof.Machine

theorem sumN_eq_sum (l : List Nat) : sumN l = l.sum := List.sum_eq_foldl.symm

/-- The drops that an entry reports. -/
def QEntry.drops {α : Type} (e : QEntry α) : Nat := match e with | .gap n => n | _ => 0

/-- The item of an entry. -/
def QEntry.item? {α : Type} (e : QEntry α) : Option α := match e with | .item v _ => some v | _ => none

section
variable {α : Type} (q : Queue α)

theorem Queue.used_eq : q.used = (q.entries.map QEntry.slots).sum := sumN_eq_sum _
theorem Queue.reported_eq : q.reported = (q.entries.map QEntry.drops).sum + q.pend := congrArg (· + q.pend) (sumN_eq_sum _)
theorem Queue.items_eq : q.items = q.entries.filterMap QEntry.item? := rfl

/-! ## Entries put at the end -/

theorem Queue.used_append (e : QEntry α) (p : Nat) : ({ q with entries := q.entries ++ [e], pend := p } : Queue α).used = q.used + e.slots := by
  simp [Queue.used_eq]

theorem Queue.reported_append (e : QEntry α) (p : Nat) :
    ({ q with entries := q.entries ++ [e], pend := p } : Queue α).reported + q.pend = q.reported + e.drops + p := by
  simp only [Queue.reported_eq, List.map_append, List.sum_append, List.map_cons, List.map_nil, List.sum_singleton]
  omega

theorem Queue.items_append_gap (n p : Nat) : ({ q with entries := q.entries ++ [.gap n], pend := p } : Queue α).items = q.items := by
  simp [Queue.items_eq, QEntry.item?]

/-! ## A drop (R376) -/

/-- A drop on the newest entry takes no slot, drops no item and is reported. -/
theorem coalesce_counts {l m : List (QEntry α)} (h : coalesce l = some m) :
    (m.map QEntry.slots).sum = (l.map QEntry.slots).sum ∧ (m.map QEntry.drops).sum = (l.map QEntry.drops).sum + 1 ∧
      m.filterMap QEntry.item? = l.filterMap QEntry.item? := by
  unfold coalesce at h
  split at h
  · next n r =>
    split at h
    · obtain rfl := Option.some.inj h
      refine ⟨rfl, ?_, rfl⟩
      simp only [List.map_cons, List.sum_cons, QEntry.drops]
      omega
    · exact absurd h (by simp)
  · exact absurd h (by simp)

theorem Queue.drop_spec : q.drop.items = q.items ∧ q.drop.reported = q.reported + 1 ∧ (q.used ≤ q.cap → q.drop.used ≤ q.cap) := by
  unfold Queue.drop
  split
  · next r hr =>
    obtain ⟨hslots, hdrops, hitems⟩ := coalesce_counts hr
    simp only [List.map_reverse, List.sum_reverse, List.filterMap_reverse] at hslots hdrops hitems
    simp only [Queue.items_eq, Queue.reported_eq, Queue.used_eq, List.map_reverse, List.sum_reverse, List.filterMap_reverse, hslots, hdrops, hitems,
      List.reverse_reverse]
    exact ⟨trivial, by omega, id⟩
  · split
    · next hroom =>
      have hrep := q.reported_append (.gap 1) q.pend
      have hused := q.used_append (.gap 1) q.pend
      simp only [QEntry.drops, QEntry.slots] at hrep hused
      exact ⟨q.items_append_gap 1 q.pend, by omega, fun _ => hused ▸ hroom⟩
    · exact ⟨rfl, rfl, id⟩

/-! ## A push (R376) -/

theorem Queue.push_fitting (v : α) (n : Nat) (h : q.fits n = true) : q.push v n = { q with entries := q.entries ++ [.item v n] } := if_pos h
theorem Queue.push_dropped (v : α) (n : Nat) (h : q.fits n = false) : q.push v n = q.drop := by simp [Queue.push, h]

theorem Queue.push_used_le_cap (v : α) (n : Nat) (hq : q.used ≤ q.cap) : (q.push v n).used ≤ q.cap := by
  cases h : q.fits n with
  | true =>
    have hroom : q.used + n + 1 ≤ q.cap := of_decide_eq_true h
    have hused := q.used_append (.item v n) q.pend
    rw [q.push_fitting v n h, hused]
    simp only [QEntry.slots]
    omega
  | false => exact q.push_dropped v n h ▸ q.drop_spec.2.2 hq

/-! ## Pending drops placed, and a read (R376, R377) -/

theorem Queue.settle_spec (k : Nat) : ∀ q : Queue α,
    (Queue.settle k q).items = q.items ∧ (Queue.settle k q).reported = q.reported ∧ (q.used ≤ q.cap → (Queue.settle k q).used ≤ q.cap) := by
  induction k with
  | zero => exact fun q => ⟨rfl, rfl, id⟩
  | succ k ih =>
    intro q
    unfold Queue.settle
    split
    · exact ⟨rfl, rfl, id⟩
    · next hroom =>
      obtain ⟨hitems, hreported, hused⟩ := ih { q with entries := q.entries ++ [.gap (Nat.min q.pend 65535)], pend := q.pend - Nat.min q.pend 65535 }
      have hle : Nat.min q.pend 65535 ≤ q.pend := Nat.min_le_left _ _
      have hrep := q.reported_append (.gap (Nat.min q.pend 65535)) (q.pend - Nat.min q.pend 65535)
      rw [Queue.used_append] at hused
      simp only [QEntry.drops, QEntry.slots] at hrep hused
      refine ⟨hitems.trans (q.items_append_gap _ _), hreported.trans (by omega), fun _ => hused (by omega)⟩

theorem Queue.pop_spec (e : QEntry α) (r : List (QEntry α)) (h : q.entries = e :: r) :
    q.pop.items = r.filterMap QEntry.item? ∧ q.pop.reported + e.drops = q.reported := by
  obtain ⟨hitems, hreported, -⟩ := Queue.settle_spec (q.pend / 65535 + 1) { q with entries := q.entries.drop 1 }
  refine ⟨hitems.trans ?_, ?_⟩
  · simp [Queue.items_eq, h]
  · rw [Queue.pop, hreported]
    simp only [Queue.reported_eq, h, List.drop_succ_cons, List.drop_zero, List.map_cons, List.sum_cons]
    omega

theorem Queue.pop_used_le_cap (hq : q.used ≤ q.cap) : q.pop.used ≤ q.cap := by
  obtain ⟨-, -, hused⟩ := Queue.settle_spec (q.pend / 65535 + 1) { q with entries := q.entries.drop 1 }
  refine hused (Nat.le_trans ?_ hq)
  rw [Queue.used_eq, Queue.used_eq, List.map_drop]
  exact (List.drop_sublist 1 _).sum_le_sum (fun _ _ => Nat.zero_le _)
end

/-- Settles O59: a push appends or drops, a read takes the oldest entry off before pending drops are placed, and each of these keeps the sums. -/
theorem queuesReportEveryDrop : Obligations.QueuesReportEveryDrop := by
  unfold Obligations.QueuesReportEveryDrop
  intro α v n q
  refine ⟨fun hfit => ?kept, fun hfull => ?dropped, q.push_used_le_cap v n, fun k r hq => ?gap, fun x m r hq => ?item, q.pop_used_le_cap, rfl, rfl, rfl⟩
  case kept =>
    have hrep := q.reported_append (.item v n) q.pend
    rw [q.push_fitting v n hfit]
    exact ⟨by simp [Queue.items_eq, QEntry.item?], Nat.add_right_cancel hrep, q.used_append (.item v n) q.pend⟩
  case dropped =>
    obtain ⟨hitems, hreported, -⟩ := q.drop_spec
    rw [q.push_dropped v n hfull]
    exact ⟨hitems, hreported⟩
  case gap =>
    obtain ⟨hitems, hreported⟩ := q.pop_spec _ r hq
    exact ⟨by rw [hitems, Queue.items_eq, hq]; rfl, hreported⟩
  case item =>
    obtain ⟨hitems, hreported⟩ := q.pop_spec _ r hq
    exact ⟨by rw [hitems, Queue.items_eq, hq]; rfl, hreported⟩

end Sys2Proof.Machine
end

section
/-! SUPPORT. The read-and-clear rows: what the read of each register clears (R406). -/

namespace Sys2Proof.Machine

/-- The address is that of a register that REG.READ can name. -/
abbrev ReadRegister (hf : Half) (a : Nat) : Prop := isReg hf a = true ∧ a < 2 ^ 32

/-- The row of a register whose read leaves u, which has the command ports that were there. -/
theorem clearing_read (c : Instr) (h : Hdr) (hf : Half) (a : Nat) (s u : State)
    (hx : exec c s = .next (State.settled (s.readRow hf a h))) (ht : s.takesRead h hf a = true) (hr : ReadRegister hf a)
    (hu : s.readClear hf a = u) (hcmd : u.cmd = s.cmd) : Reads c h hf a s u := by
  obtain ⟨hreg, hbound⟩ := hr
  exact row_reads c h hf a s u hx ht hreg hbound hu (congrArg Cmd.portIds hcmd)

/-! ## The registers of the repeated blocks -/

theorem lbe_tmax_register : ∀ k, k < 32 → ReadRegister .nucleus (aLbe k 0x34) := by decide
theorem afe_stat_register : ∀ k, k < 8 → ReadRegister .coma (aAfeC k 0) := by decide

/-- LBE_Ee_TMAX. -/
theorem State.readClear_lbeTmax (k : Nat) (s : State) (hk : k < 32) :
    s.readClear .nucleus (aLbe k 0x34) = s.putCor .nucleus (aLbe k 0x34) 0 := by
  have hinst : inst 0x060100 0x80 32 0x70 (aLbe k 0x34) = some (k, 0x34) := inst_at _ _ _ _ k 0x34 hk (by decide) (by decide)
  have ha : 0x060100 ≤ aLbe k 0x34 := by simp only [aLbe]; omega
  simp only [State.readClear, hinst, if_true]
  iterate 3 rw [if_neg (by omega)]

/-- AFE_Cc_STAT. -/
theorem State.readClear_afeStat (k : Nat) (s : State) (hk : k < 8) : s.readClear .coma (aAfeC k 0) = s.putCor .coma (aAfeC k 0) 0 := by
  have hinst : inst 0x060080 0x80 8 0x70 (aAfeC k 0) = some (k, 0) := inst_at _ _ _ _ k 0 hk (by decide) (by decide)
  have ha : 0x060080 ≤ aAfeC k 0 ∧ aAfeC k 0 < 0x070000 := by simp only [aAfeC]; omega
  simp only [State.readClear, hinst, if_true]
  iterate 4 rw [if_neg (by omega)]

theorem State.cor_putCor_self (hf : Half) (a : Nat) (w : Word) (s : State) : (s.putCor hf a w).cor hf a = w := by
  cases hf <;> exact WMap.get_put_self _ _ _

/-! ## The rows -/

/-- Settles O13: each row reads one register, and what that register's read clears is known. -/
theorem clearOnReadRowsComplete : Obligations.ClearOnReadRowsComplete := by
  unfold Obligations.ClearOnReadRowsComplete
  refine ⟨?ingest, ?islMaxt, ?islElog, ?lbe, ?tve, ?tjComa, ?tjNucleus, ?replies, ?demand, ?afe, fun hf a s => State.cor_putCor_self hf a 0 s⟩
  case lbe =>
    exact fun h k s hk ht => clearing_read _ h _ _ s _ rfl ht (lbe_tmax_register k hk) (State.readClear_lbeTmax k s hk) rfl
  case afe =>
    exact fun h k s hk ht => clearing_read _ h _ _ s _ rfl ht (afe_stat_register k hk) (State.readClear_afeStat k s hk) rfl
  case tjComa =>
    intro h s hh ht
    exact clearing_read _ h _ _ s _ (by simp only [exec, execSysTjx, hh]) ht (by decide) rfl rfl
  case tjNucleus =>
    intro h s hh ht
    exact clearing_read _ h _ _ s _ (by simp only [exec, execSysTjx, hh]) ht (by decide) rfl rfl
  all_goals exact fun h s ht => clearing_read _ h _ _ s _ rfl ht (by decide) rfl rfl

end Sys2Proof.Machine
end

section
/-! SUPPORT. A command by its body's answer: the one step that a proof about a command packet takes. -/

namespace Sys2Proof.Machine

section
variable (c : Instr) (h : Hdr) (op detail : Nat) (ps results : List Word) (body : Hdr → List Word → State → Res) (s u : State)
  (hx : exec c s = .next (State.settled (s.serve op h ps body))) (ht : s.takes op h ps = true)
include hx ht

/-- A body that answers OK and leaves the command ports allocated. -/
theorem completes_of_body (hb : body h ps s = .ok u results detail) (hu : u.cmd.portIds = s.cmd.portIds) :
    Completes c h op detail results s u :=
  ⟨_, hx, serve_ok op detail h ps results body s u ht hb (takes_port_of_ids ht hu)⟩

/-- A body that answers OK_PENDING and leaves the command ports allocated. -/
theorem defers_of_body (hb : body h ps s = .pending u results) (hu : u.cmd.portIds = s.cmd.portIds) : Defers c h op results s u :=
  ⟨_, hx, serve_pending op h ps results body s u ht hb (takes_port_of_ids ht hu)⟩

/-- A body that answers an error. -/
theorem refuses_of_body (code : Byte) (hb : body h ps s = .fail s code detail) : Refuses c h op code detail s :=
  ⟨_, hx, serve_fail op code detail h ps body s ht hb⟩
end

end Sys2Proof.Machine
end

section
/-! SUPPORT. The key store: what storing, invalidating and re-masking leave of the slots, what the bodies of the key commands answer, and the
register that shows a slot's status (R320-R330, R333, R338). -/

namespace Sys2Proof.Machine

/-! ## What the operations on slots leave alone -/

@[simp] theorem State.dropAllHeads_keys (s : State) : s.dropAllHeads.keys = s.keys := (State.dropAllHeads_keepsDomain s).keys

@[simp] theorem State.dropAllHeads_ports (s : State) : s.dropAllHeads.cmd.portIds = s.cmd.portIds :=
  (State.dropOryN_ports _ _).trans (ports_foldl _ (fun s i => State.dropHeads_ports i s) _ s)

theorem State.gen_invalidate (j k : Nat) (s : State) : ((s.invalidate j).slot k).gen = (s.slot k).gen := by
  simp only [State.invalidate, State.slot, State.mapSlot]
  by_cases hk : k = j
  · subst hk
    by_cases hl : k < s.keys.slots.length
    · rw [nth_at'_self _ _ _ _ hl]
    · rw [at'_over _ _ _ (by omega)]
  · rw [nth_at'_ne _ _ _ _ _ hk]

/-- Generations and the number of slots are those of the state before, and the command ports are. -/
structure KeepsGenerations (s t : State) : Prop where
  gen : ∀ k, (t.slot k).gen = (s.slot k).gen
  length : t.keys.slots.length = s.keys.slots.length
  cmd : t.cmd = s.cmd

theorem State.invalidate_keepsGenerations (k : Nat) (s : State) : KeepsGenerations s (s.invalidate k) where
  gen j := State.gen_invalidate k j s
  length := List.length_modify _ _ _
  cmd := rfl

theorem KeepsGenerations.foldl (l : List Nat) : ∀ s : State, KeepsGenerations s (l.foldl (fun s k => s.invalidate k) s) := by
  induction l with
  | nil => exact fun s => ⟨fun _ => rfl, rfl, rfl⟩
  | cons k r ih =>
    intro s
    obtain ⟨hgen, hlen, hcmd⟩ := ih (s.invalidate k)
    obtain ⟨hgen', hlen', hcmd'⟩ := State.invalidate_keepsGenerations k s
    exact ⟨fun j => (hgen j).trans (hgen' j), hlen.trans hlen', hcmd.trans hcmd'⟩

theorem State.invalidateBelow_keepsGenerations (a : Nat) (s : State) : KeepsGenerations s (s.invalidateBelow a) := by
  obtain ⟨hgen, hlen, hcmd⟩ := KeepsGenerations.foldl (s.descendants a) s
  simp only [State.invalidateBelow]
  split
  · exact ⟨hgen, hlen, hcmd⟩
  · exact ⟨hgen, hlen, hcmd⟩

/-! ## A stored key (R320, R322, R323) -/

@[simp] theorem State.storeKey_ports (k p : Nat) (d : Bool) (key : BitVec 256) (s : State) :
    (s.storeKey k d p key).cmd.portIds = s.cmd.portIds := by
  rw [State.storeKey, State.dropAllHeads_ports, State.mapSlot_cmd]
  exact congrArg Cmd.portIds (State.invalidateBelow_keepsGenerations k s).cmd

/-- The slot a key is put into. -/
theorem State.slot_storeKey (k p : Nat) (d : Bool) (key : BitVec 256) (s : State) (hk : k < s.keys.slots.length) :
    ∃ m, (s.storeKey k d p key).slot k =
      { st := 1, derived := d, parent := p, gen := (s.slot k).gen + 1, masked := key ^^^ m, mask := m, window := false } := by
  obtain ⟨hgen, hlen, -⟩ := State.invalidateBelow_keepsGenerations k s
  refine ⟨Config.random s.free, ?_⟩
  rw [State.slot, State.storeKey, State.dropAllHeads_keys, State.mapSlot, nth_at'_self _ _ _ _ (by rw [hlen]; exact hk), ← hgen k]
  rfl

/-! ## The bodies' answers -/

section
variable (h : Hdr) (w : Word) (s : State)

theorem cmdKeyInstall_stores (ks : List Word) (hlen : ks.length = 8) (hw : bits w 31 6 = 0) (ht : s.tamperOn = false)
    (hl : s.pwr.lockout = false) :
    cmdKeyInstall h (w :: ks) s = .ok ((s.storeKey (bits w 5 0) false 0 (keyOf ks)).bumpC 0x058040 1) := by
  have hfirst : par (w :: ks) 0 = w := rfl
  simp only [cmdKeyInstall, arity, List.length_cons, hlen, if_true, hfirst, hw, ne_eq, not_true_eq_false, ht, hl, Bool.false_eq_true, if_false,
    List.drop_succ_cons, List.drop_zero]

theorem cmdKeyDerive_stores (r : List Word) (hsalt : bits w 22 16 ≤ 64) (hinfo : bits w 31 24 ≤ 128)
    (hlen : r.length = (bits w 22 16 + 3) / 4 + (bits w 31 24 + 3) / 4) (h0 : bits w 13 8 ≠ 0) (hself : bits w 13 8 ≠ bits w 5 0)
    (hd : s.descends (bits w 13 8) 64 (bits w 5 0) = false) (ht : s.tamperOn = false) (hv : s.keyValid (bits w 5 0) = true)
    (hl : s.pwr.lockout = false) :
    cmdKeyDerive h (w :: r) s = .ok ((s.storeKey (bits w 13 8) true (bits w 5 0)
      (BitVec.ofNat 256 (beNat (hkdf (s.slot (bits w 5 0)).key (deriveSalt (w :: r)) (deriveInfo (w :: r)))))).bumpC 0x058044 1) := by
  have hfirst : par (w :: r) 0 = w := rfl
  have hlimits : ¬ (64 < bits w 22 16 ∨ 128 < bits w 31 24) := by omega
  have hcount : (w :: r).length = 1 + (bits w 22 16 + 3) / 4 + (bits w 31 24 + 3) / 4 := by rw [List.length_cons, hlen]; omega
  have hslots : ¬ (bits w 13 8 = 0 ∨ bits w 13 8 = bits w 5 0 ∨ s.descends (bits w 13 8) 64 (bits w 5 0) = true) := by
    simp only [h0, hself, hd, Bool.false_eq_true, or_self, not_false_eq_true]
  simp only [cmdKeyDerive, List.isEmpty_cons, hfirst, if_neg hlimits, hcount, ne_eq, not_true_eq_false, if_neg hslots, ht, hv, hl, Bool.not_true,
    Bool.false_eq_true, if_false]

theorem cmdKeyRevoke_revokes (hl : s.pwr.lockout = false) (hv : s.keyValid (bits w 5 0) = true) :
    cmdKeyRevoke h [w] s =
      .ok (((((s.invalidateBelow (bits w 5 0)).invalidate (bits w 5 0)).bumpC 0x058048 1).latchC 0x058008 1).dropAllHeads) := by
  simp only [cmdKeyRevoke, arity, List.length_singleton, if_true, par_singleton, hl, hv, Bool.not_true, Bool.false_eq_true, if_false]

theorem cmdKeyRevoke_idle (hl : s.pwr.lockout = false) (hv : s.keyValid (bits w 5 0) = false) : cmdKeyRevoke h [w] s = .ok s [] 1 := by
  simp only [cmdKeyRevoke, arity, List.length_singleton, if_true, par_singleton, hl, hv, Bool.not_false, Bool.false_eq_true, if_false]

theorem cmdKeyChallenge_responds (a b c d : Word) (h0 : bits w 5 0 ≠ 0) (hv : s.keyValid (bits w 5 0) = true)
    (hc : bit (s.keyCfg (bits w 5 0)) 16 = true) (hr : s.keys.rsp ≠ 0xFFFFFFFF) :
    cmdKeyChallenge h [w, a, b, c, d] s = .ok { s with keys := { s.keys with rsp := s.keys.rsp + 1 } }
      ((s.keys.rsp + 1) :: wordsN 4 (s.tag16 (bits w 5 0) (challengeMsg [a, b, c, d] (s.keys.rsp + 1)))) := by
  have hfirst : par [w, a, b, c, d] 0 = w := rfl
  simp only [cmdKeyChallenge, arity, List.length_cons, List.length_nil, Nat.zero_add, Nat.reduceAdd, if_true, hfirst, h0, hv, hc, hr,
    not_true_eq_false, or_self, if_false, List.drop_succ_cons, List.drop_zero]

theorem cmdKeyStatus_slot (hk : bits w 7 0 ≤ 63) : cmdKeyStatus h [w] s = .ok s [s.keyStat (bits w 7 0)] := by
  have hall : bits w 7 0 ≠ 0xFF := by omega
  simp only [cmdKeyStatus, arity, List.length_singleton, if_true, par_singleton, hall, if_false, Nat.not_lt.mpr hk]

theorem cmdKeyStatus_all (hk : bits w 7 0 = 0xFF) : cmdKeyStatus h [w] s = .ok s ((List.range 64).map (fun k => s.keyStat k)) := by
  simp only [cmdKeyStatus, arity, List.length_singleton, if_true, par_singleton, hk]

theorem cmdKeyStatus_refused (hlo : 63 < bits w 7 0) (hk : bits w 7 0 ≠ 0xFF) : cmdKeyStatus h [w] s = .fail s eParam 0 := by
  simp only [cmdKeyStatus, arity, List.length_singleton, if_true, par_singleton, hk, if_false, hlo]
end

theorem State.revoked_ports (k : Nat) (s : State) :
    (((((s.invalidateBelow k).invalidate k).bumpC 0x058048 1).latchC 0x058008 1).dropAllHeads).cmd.portIds = s.cmd.portIds := by
  rw [State.dropAllHeads_ports]
  exact congrArg Cmd.portIds (State.invalidateBelow_keepsGenerations k s).cmd

/-- Settles O20: each command by its body's answer; a stored key's halves are the key under its mask, and the mask. -/
theorem keyCommandsComplete : Obligations.KeyCommandsComplete := by
  unfold Obligations.KeyCommandsComplete
  refine ⟨?install, ?derive, ?revoke, ?idle, ?challenge, ?slot, ?all, ?stored⟩
  case install =>
    exact fun h w ks s ht hlen hw htamper hl => completes_of_body _ h _ 0 _ _ cmdKeyInstall s _ rfl ht
      (cmdKeyInstall_stores h w s ks hlen hw htamper hl) (by simp)
  case derive =>
    exact fun h w r s ht hsalt hinfo hlen h0 hself hd htamper hv hl => completes_of_body _ h _ 0 _ _ cmdKeyDerive s _ rfl ht
      (cmdKeyDerive_stores h w s r hsalt hinfo hlen h0 hself hd htamper hv hl) (by simp)
  case revoke =>
    exact fun h w s ht hl hv => completes_of_body _ h _ 0 _ _ cmdKeyRevoke s _ rfl ht (cmdKeyRevoke_revokes h w s hl hv)
      (State.revoked_ports _ s)
  case idle => exact fun h w s ht hl hv => completes_of_body _ h _ 1 _ _ cmdKeyRevoke s s rfl ht (cmdKeyRevoke_idle h w s hl hv) rfl
  case challenge =>
    exact fun h w a b c d s ht h0 hv hc hr => completes_of_body _ h _ 0 _ _ cmdKeyChallenge s _ rfl ht
      (cmdKeyChallenge_responds h w s a b c d h0 hv hc hr) rfl
  case slot => exact fun h w s ht hk => query_completes _ h _ 0 _ _ cmdKeyStatus s rfl ht (cmdKeyStatus_slot h w s hk)
  case all => exact fun h w s ht hk => query_completes _ h _ 0 _ _ cmdKeyStatus s rfl ht (cmdKeyStatus_all h w s hk)
  case stored =>
    intro k d p key s hk
    obtain ⟨m, hm⟩ := State.slot_storeKey k p d key s hk
    simp only [hm, BitVec.xor_assoc, BitVec.xor_self, BitVec.xor_zero, and_self]

/-! ## The register of a slot's status (R333) -/

/-- KEY_Sk_STAT reads the status that KEY.STATUS returns. -/
theorem State.regValue_keyStat (k : Nat) (s : State) (hk : k ≤ 63) : s.regValue .coma (0x058084 + 8 * k) = s.keyStat k := by
  have ha : 0x058084 + 8 * k = 0x058080 + 8 * k + 4 := by omega
  have hinst : inst 0x058080 8 64 8 (0x058084 + 8 * k) = some (k, 4) := by rw [ha]; exact inst_at _ _ _ _ k 4 (by omega) (by decide) (by decide)
  have hread : woReg .coma (0x058084 + 8 * k) = false := by
    simp only [woReg, List.elem_eq_mem, List.mem_cons, List.not_mem_nil, decide_eq_false_iff_not, or_false, not_or]
    omega
  have hcomp : s.computed .coma (0x058084 + 8 * k) = some (s.keyStat k) := by
    simp only [State.computed, State.computedC]
    iterate 6 rw [if_neg (by omega)]
    rw [if_pos (by omega), State.keyReg, hinst]
    rfl
  rw [State.regValue, hread, hcomp]
  rfl

/-- Settles O56: the slot's register and the command show one status; no other number is a slot's. -/
theorem keyStatusReadsTheSlots : Obligations.KeyStatusReadsTheSlots := by
  unfold Obligations.KeyStatusReadsTheSlots
  refine fun h w s ht => ⟨fun hk => ?slot, fun hk => ?all, fun hlo hk => ?other⟩
  case slot =>
    rw [State.regValue_keyStat _ s hk]
    exact query_completes _ h _ 0 _ _ cmdKeyStatus s rfl ht (cmdKeyStatus_slot h w s hk)
  case all =>
    have hwords : (List.range 64).map (fun k => s.regValue .coma (0x058084 + 8 * k)) = (List.range 64).map (fun k => s.keyStat k) :=
      List.map_congr_left fun k hmem => State.regValue_keyStat k s (Nat.le_of_lt_succ (List.mem_range.mp hmem))
    rw [hwords]
    exact query_completes _ h _ 0 _ _ cmdKeyStatus s rfl ht (cmdKeyStatus_all h w s hk)
  case other => exact refuses_of_body _ h _ 0 _ cmdKeyStatus s rfl ht eParam (cmdKeyStatus_refused h w s hlo hk)

/-! ## Hold windows, masks and the self-test (R326, R327, R338) -/

theorem doKeyHoldExpiry_open (k : Nat) (s : State) (hw : (s.slot k).window = true) :
    doKeyHoldExpiry k s = (s.mapSlot k (fun x => { x with window := false })).dropAllHeads := by rw [doKeyHoldExpiry, if_pos hw]

/-- A slot under a new mask m: its halves still give the key. -/
def KeySlot.remask (m : BitVec 256) (x : KeySlot) : KeySlot := { x with masked := x.masked ^^^ (x.mask ^^^ m), mask := m }

theorem KeySlot.key_remask (m : BitVec 256) (x : KeySlot) : (x.remask m).key = x.key := by
  have hxor : x.masked ^^^ (x.mask ^^^ m) ^^^ m = x.masked ^^^ x.mask := by
    rw [← BitVec.xor_assoc, BitVec.xor_assoc, BitVec.xor_self, BitVec.xor_zero]
  simp only [KeySlot.key, KeySlot.remask, hxor]

theorem doKeyRemask_healthy (s : State) (hm : s.pwr.mode ≠ .off) :
    doKeyRemask true s = State.bumpC 0x05805C 1 { s with
      free := s.free + 64
      keys := { s.keys with remaskOk := true, slots := s.keys.slots.zipIdx.map (fun x => x.1.remask (Config.random (s.free + x.2))) } } := by
  simp only [doKeyRemask, State.aonUp, hm, ne_eq, not_false_eq_true, decide_true, Bool.not_true, Bool.false_eq_true, if_false]
  rfl

theorem doKeyRemask_abandoned (s : State) (hm : s.pwr.mode ≠ .off) (hup : s.comaUp = true) :
    doKeyRemask false s = (State.latchC 0x058008 4 { s with keys := { s.keys with remaskOk := false } }).faultC 83 := by
  simp only [doKeyRemask, State.aonUp, hm, ne_eq, not_false_eq_true, decide_true, Bool.not_true, Bool.not_false, Bool.false_eq_true, if_false, if_true]
  exact if_pos hup

theorem nth_zipIdx_map {α β : Type} (d : α) (e : β) (l : List α) (f : α × Nat → β) (k : Nat) (hk : k < l.length) :
    nth e (l.zipIdx.map f) k = f (nth d l k, k) := by
  simp [nth, hk]

/-- Settles O43: each event by its operation; a new mask is met by the stored half. -/
theorem keyEventsComplete : Obligations.KeyEventsComplete := by
  unfold Obligations.KeyEventsComplete
  refine ⟨fun k s hw => ?expiry, fun s hm => ?remasked, fun s hm hup => ?abandoned, fun s hup => ⟨?passed, ?failed⟩⟩
  case expiry => rw [← doKeyHoldExpiry_open k s hw]; rfl
  case remasked =>
    have hexec : exec (.keyRemask true) s = .next (doKeyRemask true s).settled := rfl
    have hkeys := congrArg State.keys (doKeyRemask_healthy s hm)
    have hfree := congrArg State.free (doKeyRemask_healthy s hm)
    have hslots : (doKeyRemask true s).settled.keys.slots =
        s.keys.slots.zipIdx.map (fun x => x.1.remask (Config.random (s.free + x.2))) := by rw [State.settled_keys, hkeys]; rfl
    refine ⟨_, hexec, ?_, ?_, ?_, fun h64 k hk => ?_⟩
    · rw [State.settled_keys, hkeys]; rfl
    · rw [State.settled_frame]; exact hfree
    · rw [hslots, List.length_map, List.length_zipIdx]
    · have hslot : (doKeyRemask true s).settled.slot k = (s.slot k).remask (Config.random (s.free + k)) := by
        rw [State.slot, hslots, nth_zipIdx_map KeySlot.empty _ _ _ k (by omega)]; rfl
      rw [hslot]
      exact ⟨KeySlot.key_remask _ _, rfl, rfl⟩
  case abandoned => rw [← doKeyRemask_abandoned s hm hup]; rfl
  case passed => exact does_of_coma _ (doKeySelftest true) s _ rfl hup rfl
  case failed => exact does_of_coma _ (doKeySelftest false) s _ rfl hup rfl

end Sys2Proof.Machine
end

section
/-! SUPPORT. FLT.FORCE on a state whose attention fields are not up to date (R42, R343). -/

namespace Sys2Proof.Machine

/-! ## The counterexample -/

theorem staleLevel_takes_force : staleLevel.takes 0x0C02 hostHdr [0] = true := by decide +kernel

theorem staleLevel_forcible :
    staleLevel.comaUp = true ∧ staleLevel.flt.windows = [] ∧ (staleLevel.src .coma 0).handling = false ∧
      bit (staleLevel.rw .coma (aFltR .coma 0)) 0 = false ∧ staleLevel.pwr.resetDue = false := by decide +kernel

theorem staleLevel_attn :
    staleLevel.marksGap 0 5 = false ∧ staleLevel.attnLevel ≠ staleLevel.attn.level ∧ staleLevel.attn.gen = 0 := by decide +kernel

/-- The generation after FLT.FORCE: one count, of the forced occurrence, which brings the level up to date. -/
theorem staleLevel_force_gen : ((staleLevel.serve 0x0C02 hostHdr [0] cmdFltForce).settled).attn.gen = 1 := by decide +kernel

/-- The generation after any state that is staleLevel but for a reply, followed by the forced occurrence: two counts. -/
theorem gen_forceFault_after_reply (r : State) (hrep : Replied hostHdr 0x0C02 codeOk 0 [] r) (honly : OnlyReplied 0 staleLevel r) :
    (r.forceFault .coma 0).settled.attn.gen = 2 := by
  obtain ⟨hup, hwin, hhand, hctl, hdue⟩ := staleLevel_forcible
  obtain ⟨hgap, hstale, hgen⟩ := staleLevel_attn
  have hr : r.attn.gen = 1 := by
    have hw : r.replyWords 0 = 5 := hrep.words
    rw [honly.gen_of_stale (by rw [hw]; exact hgap) hstale, hgen]
    rfl
  obtain ⟨u, hua, hu⟩ := State.forceFault_attn .coma 0 r
    (by rw [← hup]; simp only [State.halfUp, State.comaUp, honly.pwr])
    (by simp [State.suppressed, honly.flt, hwin])
    (by rw [← hhand]; simp only [State.src, honly.flt])
    (by rw [honly.rw]; exact hctl)
    (by rw [honly.pwr]; exact hdue)
  rw [hu, State.settled_reattn_gen, hua, hr]
  rfl

/-- Refutes O22: its clause on FLT.FORCE puts the collector's next cycle after a reply whose attention fields have been brought up to date, while
the command answers from the fields as they stand. On staleLevel, whose level is not that of its conditions (the clause does not ask that the state
be consistent), forcing source 0 counts one generation where the clause has it count two. -/
theorem not_faultCommandsComplete : ¬ Obligations.FaultCommandsComplete := by
  unfold Obligations.FaultCommandsComplete
  rintro ⟨-, -, -, hforce, -⟩
  obtain ⟨r, hrep, honly, hexec⟩ := hforce hostHdr 0 staleLevel staleLevel_takes_force (by decide)
  have hnext : (staleLevel.serve 0x0C02 hostHdr [0] cmdFltForce).settled = (r.forceFault .coma 0).settled := Host.Outcome.next.inj hexec
  have hgen : (1 : Byte) = 2 := by
    rw [← staleLevel_force_gen, hnext]
    exact gen_forceFault_after_reply r hrep honly
  exact absurd hgen (by decide)

end Sys2Proof.Machine
end

section
/-! SUPPORT. The end of a switch's pause and what else it lets run: the sparing of cores that failed while the half was paused (R342, R394, R400). -/

namespace Sys2Proof.Machine

/-! ## The counterexample -/

/-- The device in service, the Nucleus half paused for a switch of its firmware, and its one core left, failed during the pause, still to be
spared. -/
def sparingOwed : State := { State.reset with
  pwr := { Power.reset with mode := .service, phase := 5, fw := true }
  upd := { State.reset.upd with nuc := { State.reset.upd.nuc with switching := true } }
  core := { State.reset.core with nuc := [.active], pausedN := true, due := [(.nucleus, 0)] } }

theorem sparingOwed_paused :
    sparingOwed.comaUp = true ∧ (sparingOwed.updS .nucleus).switching = true ∧ (sparingOwed.updS .nucleus).ready = false ∧
      sparingOwed.paused .nucleus = true ∧ sparingOwed.pwr.rom = false ∧ sparingOwed.cmd.waiting = [] := by decide +kernel

/-- Dispatch resumed, the core is retired, the half has no active core, and the reset that this brings on ends its update session. -/
theorem sparingOwed_not_ready :
    ((State.settled (whenUp .coma (fun x => (x.imageReady .nucleus).resume .nucleus) sparingOwed)).updS .nucleus).ready = false := by
  decide +kernel

/-- Refutes O50: its clause on a new image that is ready asks only that no packet waits, while the half's scheduler also takes up the sparing of
cores that waited for the switch. On sparingOwed that sparing leaves no active core; the half is reset, and the session is not ready as the clause
has it. -/
theorem not_updateEventsComplete : ¬ Obligations.UpdateEventsComplete := by
  unfold Obligations.UpdateEventsComplete
  rintro ⟨-, -, himage, -⟩
  obtain ⟨hup, hswitching, hready, hpaused, hrom, hwaiting⟩ := sparingOwed_paused
  obtain ⟨t, hexec, htReady, -⟩ := himage .nucleus sparingOwed hup hswitching hready hpaused hrom hwaiting
  have hnext : State.settled (whenUp .coma (fun x => (x.imageReady .nucleus).resume .nucleus) sparingOwed) = t := Host.Outcome.next.inj hexec
  rw [← hnext, sparingOwed_not_ready] at htReady
  exact absurd htReady (by decide)

end Sys2Proof.Machine
end

section
/-! SUPPORT. Tie-line metering and the pulse outputs: what the bodies of the commands answer and what each event's operation does (R284-R297,
R338). -/

namespace Sys2Proof.Machine

/-! ## The bodies' answers (R289-R291) -/

theorem State.snapStart_ports (inst : Nat) (b : Bool) (s : State) : (s.snapStart inst b).cmd.portIds = s.cmd.portIds := State.snapDone_ports _

section
variable (h : Hdr) (s : State)

theorem cmdNrgSnapshot_starts (hs : s.nrg.snaps = []) :
    cmdNrgSnapshot h [] s = .ok (s.snapStart s.snapInstant true)
      [w32 s.nrg.nextNum, hiW (s.snapInstant / 1000000000), loW (s.snapInstant / 1000000000)] := by
  simp only [cmdNrgSnapshot, arity, List.length_nil, if_true, hs, List.find?_nil, List.isEmpty_nil]

theorem cmdNrgSnapshot_takes_over (y : Snap) (hy : s.nrg.snaps.find? (fun x => x.inst == s.snapInstant && !x.cmd) = some y) :
    cmdNrgSnapshot h [] s =
      .ok { s with nrg := { s.nrg with snaps := s.nrg.snaps.map (fun x => if x.num = y.num then { x with cmd := true } else x) } }
        [w32 y.num, hiW (s.snapInstant / 1000000000), loW (s.snapInstant / 1000000000)] := by
  simp only [cmdNrgSnapshot, arity, List.length_nil, if_true, hy]

theorem cmdNrgSnapshot_busy (hs : s.nrg.snaps ≠ []) (hc : ∀ x ∈ s.nrg.snaps, x.cmd = true) : cmdNrgSnapshot h [] s = .fail s eBusy := by
  have hnone : s.nrg.snaps.find? (fun x => x.inst == s.snapInstant && !x.cmd) = none := by
    rw [List.find?_eq_none]
    intro x hx
    simp [hc x hx]
  have hsome : s.nrg.snaps.isEmpty = false := by simpa using hs
  simp only [cmdNrgSnapshot, arity, List.length_nil, if_true, hnone, hsome, Bool.false_eq_true, if_false]

theorem cmdNrgRead_reads (w : Word) :
    cmdNrgRead h [w] s = .ok s ((List.range 4).flatMap (fun k =>
      let a := if bit w 8 then (s.point (bits w 7 0)).snap else (s.point (bits w 7 0)).acc
      [hiW (nth 0 a k / 2 ^ 32), loW (nth 0 a k / 2 ^ 32)])) := rfl
end

/-- Settles O18: each command by its body's answer; a second snapshot by what is pending. -/
theorem meteringCommandsComplete : Obligations.MeteringCommandsComplete := by
  unfold Obligations.MeteringCommandsComplete
  refine ⟨?starts, ?takesOver, ?busy, ?reads, ?presets⟩
  case starts =>
    exact fun h s ht hs => completes_of_body _ h _ 0 _ _ cmdNrgSnapshot s _ rfl ht (cmdNrgSnapshot_starts h s hs) (State.snapStart_ports _ _ s)
  case takesOver =>
    exact fun h y s ht hy => completes_of_body _ h _ 0 _ _ cmdNrgSnapshot s _ rfl ht (cmdNrgSnapshot_takes_over h s y hy) rfl
  case busy => exact fun h s ht hs hc => refuses_of_body _ h _ 0 _ cmdNrgSnapshot s rfl ht eBusy (cmdNrgSnapshot_busy h s hs hc)
  case reads => exact fun h w s ht => query_completes _ h _ 0 _ _ cmdNrgRead s rfl ht (cmdNrgRead_reads h s w)
  case presets =>
    intro h w v hi lo s ht
    refine completes_of_body _ h _ 0 _ _ cmdNrgPreset s _ rfl ht ?_ (by simp)
    simp only [cmdNrgPreset, arity, List.length_cons, List.length_nil, Nat.zero_add, Nat.reduceAdd, if_true, par, nth, List.getD_cons_zero,
      List.getD_cons_succ, Bool.and_eq_true, Bool.not_eq_true', decide_eq_true_eq]

/-! ## Cycles, demand and pulses (R284-R286, R292, R294, R295, R338) -/

section
variable (m : Nat) (s : State)

theorem doNrgCycleEnd_adds (hl : s.nrgLive m = true) (hf : nrgFeed (s.nrgCfg m) = 1)
    (hr : s.waveReady (cycNs (s.nrgHz m) (cycIdx (s.nrgHz m) (s.point m).cycAt + 1)) = true) :
    doNrgCycleEnd m s =
      s.addWave m (s.nrgHz m) (s.point m).cycAt (cycNs (s.nrgHz m) (cycIdx (s.nrgHz m) (s.point m).cycAt + 1)) := by
  simp only [doNrgCycleEnd, hl, hf, hr, BEq.rfl, Bool.and_self, if_true]

theorem doNrgPhasorCycle_adds (hl : s.nrgLive m = true) (hf : 2 ≤ nrgFeed (s.nrgCfg m))
    (hr : s.phasorReady m (s.point m).cycAt (cycNs (s.nrgHz m) (cycIdx (s.nrgHz m) (s.point m).cycAt + 1)) = true) :
    doNrgPhasorCycle m s =
      s.addPhasor m (s.nrgHz m) (s.point m).cycAt (cycNs (s.nrgHz m) (cycIdx (s.nrgHz m) (s.point m).cycAt + 1)) := by
  simp only [doNrgPhasorCycle, hl, hf, hr, decide_true, Bool.and_self, if_true]

/-- With the Nucleus half off, nothing of a cycle that has ended is waited for (R285, R297). -/
theorem State.phasorReady_of_nucleus_off (a b : Nat) (hb : b ≤ s.tim.now) (hn : s.nucUp = false) : s.phasorReady m a b = true := by
  simp [State.phasorReady, hb, hn]

/-- A point that holds nothing of a cycle adds all of it as missing (R286). -/
theorem State.addPhasor_of_no_parts (hz a b : Nat) (hp : (s.point m).parts = []) :
    s.addPhasor m hz a b = ((s.addCycle m hz b 0 0 true true).mapPoint m (fun x =>
      { x with parts := x.parts.filter (fun e => decide (b < keyNs (s.grpRate (bits (s.nrgCfg m) 5 3)) (e.1 + 1))) })).snapCycle m := by
  have hmiss : ∀ l : List (Nat × Nat), (decide (0 < l.length) || l.isEmpty) = true := by
    intro l
    cases l with
    | nil => rfl
    | cons _ _ => simp
  simp [State.addPhasor, hp, findBy, sumI, hmiss]

end

theorem doDemandIntervalEnd_takes (s : State) (hd : bits (s.rwC 0x070000) 5 0 ≠ 0) (hg : s.pwr.grave = false)
    (ha : bit (s.rwC 0x070000) 6 = false) :
    let t := s.demandEnd
    let x := s.reach t
    let ns := t - (if s.nrg.lastDemand = 0 then x.demandStart t else s.nrg.lastDemand)
    let u := (x.nrg.points.filter Point.on).foldl (fun s y => s.demandPoint ns y.id) x
    doDemandIntervalEnd s = { u with nrg := { u.nrg with lastDemand := t } } := by
  have hon : ¬ (bits (s.rwC 0x070000) 5 0 = 0 ∨ s.pwr.grave = true) := by simp [hd, hg]
  intro t x ns u
  rw [doDemandIntervalEnd, if_neg hon, ha]
  rfl

section
variable (p : Nat) (s : State)

theorem doPulseDue_starts (d : Nat) (r : List Nat) (hd : (s.pulSt p).due = d :: r) (hg : s.pwr.grave = false)
    (hp : (s.pulSt p).inPulse = false) (hgap : (s.pulSt p).inGap = false) :
    doPulseDue p s = ((s.reach d).mapPul p (fun x => { x with due := r })).pulStart p := by
  simp only [doPulseDue, hd, hg, hp, hgap, Bool.or_self, Bool.false_eq_true, if_false]

theorem doPulseDue_pends (d : Nat) (r : List Nat) (hd : (s.pulSt p).due = d :: r) (hg : s.pwr.grave = false)
    (hp : (s.pulSt p).inPulse = true) :
    doPulseDue p s =
      (if (s.pulSt p).pend < 65535 then
        ((s.reach d).mapPul p (fun x => { x with due := r })).mapPul p (fun x => { x with pend := x.pend + 1 })
      else ((s.reach d).mapPul p (fun x => { x with due := r })).bumpC (aPul p 0x2C) 1) := by
  simp only [doPulseDue, hd, hg, hp, Bool.true_or, Bool.false_eq_true, if_false, if_true]

theorem doPulseWidthEnd_before_gap (hp : (s.pulSt p).inPulse = true) (hgap : (s.pulSt p).widthEnd < (s.pulSt p).gapEnd) :
    doPulseWidthEnd p s = (s.reach (s.pulSt p).widthEnd).mapPul p (fun y =>
      { y with inPulse := false, inGap := true, ball := pulLevel (s.pulCfg p) false }) := by
  simp only [doPulseWidthEnd, hp, hgap, decide_true, Bool.not_true, Bool.false_eq_true, if_false, if_true]

theorem doPulseWidthEnd_without_gap (hp : (s.pulSt p).inPulse = true) (hgap : (s.pulSt p).gapEnd ≤ (s.pulSt p).widthEnd) :
    doPulseWidthEnd p s = ((s.reach (s.pulSt p).widthEnd).mapPul p (fun y =>
      { y with inPulse := false, inGap := false, ball := pulLevel (s.pulCfg p) false })).pulNext p := by
  simp only [doPulseWidthEnd, hp, Nat.not_lt.mpr hgap, decide_false, Bool.not_true, Bool.false_eq_true, if_false]

theorem doPulseGapEnd_ends (hg : (s.pulSt p).inGap = true) :
    doPulseGapEnd p s = ((s.reach (s.pulSt p).gapEnd).mapPul p (fun x => { x with inGap := false })).pulNext p := by
  simp only [doPulseGapEnd, hg, Bool.not_true, Bool.false_eq_true, if_false]

theorem doPulPinSample_right :
    doPulPinSample p (s.pulSt p).ball s = s.mapPul p (fun x => { x with readback := (s.pulSt p).ball, misses := 0 }) := by
  simp only [doPulPinSample, bne_self_eq_false, Bool.false_eq_true, false_and, if_false]

theorem doPulPinSample_second_wrong (hp : p < 4) (hm : (s.pulSt p).misses = 1) :
    doPulPinSample p (!(s.pulSt p).ball) s =
      (s.mapPul p (fun x => { x with readback := !(s.pulSt p).ball, misses := Nat.min 2 (x.misses + 1) })).faultC (77 + p) := by
  have hbad : ((!(s.pulSt p).ball) != (s.pulSt p).ball) = true := by cases (s.pulSt p).ball <;> rfl
  simp only [doPulPinSample, hbad, hm, hp, and_self, if_true]
end

/-- Settles O40: each event by its operation. -/
theorem meteringEventsComplete : Obligations.MeteringEventsComplete := by
  unfold Obligations.MeteringEventsComplete
  refine ⟨?wave, ?phasor, ?demand, ?due, ?width, ?gap, ?pin⟩
  case wave => exact fun m s hup hl hf hr => does_of_coma _ (doNrgCycleEnd m) s _ rfl hup (doNrgCycleEnd_adds m s hl hf hr)
  case phasor =>
    refine fun m s hup hl hf => ⟨fun hr => ?_, fun hb hn hp => ?_⟩
    · exact does_of_coma _ (doNrgPhasorCycle m) s _ rfl hup (doNrgPhasorCycle_adds m s hl hf hr)
    · exact does_of_coma _ (doNrgPhasorCycle m) s _ rfl hup
        ((doNrgPhasorCycle_adds m s hl hf (State.phasorReady_of_nucleus_off m s _ _ hb hn)).trans (State.addPhasor_of_no_parts m s _ _ _ hp))
  case demand =>
    exact fun s hup hd hg ha => does_of_coma .demandIntervalEnd doDemandIntervalEnd s _ rfl hup (doDemandIntervalEnd_takes s hd hg ha)
  case due =>
    refine fun p d r s hup hg hd => ⟨fun hp hgap => ?_, fun hp hlt => ?_, fun hp hlt => ?_⟩
    · exact does_of_coma _ (doPulseDue p) s _ rfl hup (doPulseDue_starts p s d r hd hg hp hgap)
    · exact does_of_coma _ (doPulseDue p) s _ rfl hup ((doPulseDue_pends p s d r hd hg hp).trans (if_pos hlt))
    · exact does_of_coma _ (doPulseDue p) s _ rfl hup ((doPulseDue_pends p s d r hd hg hp).trans (if_neg hlt))
  case width =>
    refine fun p s hup hp => ⟨fun hgap => ?_, fun hgap => ?_⟩
    · exact does_of_coma _ (doPulseWidthEnd p) s _ rfl hup (doPulseWidthEnd_before_gap p s hp hgap)
    · exact does_of_coma _ (doPulseWidthEnd p) s _ rfl hup (doPulseWidthEnd_without_gap p s hp hgap)
  case gap => exact fun p s hup hg => does_of_coma _ (doPulseGapEnd p) s _ rfl hup (doPulseGapEnd_ends p s hg)
  case pin =>
    refine fun p s hup => ⟨?_, fun hp hm => ?_⟩
    · exact does_of_coma _ (doPulPinSample p (s.pulSt p).ball) s _ rfl hup (doPulPinSample_right p s)
    · exact does_of_coma _ (doPulPinSample p (!(s.pulSt p).ball)) s _ rfl hup (doPulPinSample_second_wrong p s hp hm)

end Sys2Proof.Machine
end

section
/-! SUPPORT. The event recorder: what the bodies of its commands answer and what its own work does (R353-R356, R360-R362). -/

namespace Sys2Proof.Machine

/-! ## The bodies' answers (R360-R362) -/

theorem State.setCursor_ports (p : Nat) (on : Bool) (s : State) : (s.setCursor p on).cmd.portIds = s.cmd.portIds :=
  portIds_map p (fun c => { c with cursor := on }) (fun _ => rfl) s

section
variable (h : Hdr) (s : State)

theorem cmdRecOpen_opens (hc : s.rcd.clearing = false) (hp : s.hasCursor h.port = true ∨ s.cursors < 4) :
    cmdRecOpen h [] s = .ok (s.setCursor h.port true) [w32 s.recOldest, w32 s.rcd.newest] := by
  have hfree : ¬ (s.rcd.clearing = true ∨ (!s.hasCursor h.port) = true ∧ 4 ≤ s.cursors) := by
    rcases hp with hp | hp
    · simp [hc, hp]
    · simp [hc, Nat.not_le.mpr hp]
  simp only [cmdRecOpen, arity, List.length_nil, if_true, if_neg hfree]

theorem cmdRecOpen_busy (hb : s.rcd.clearing = true ∨ s.hasCursor h.port = false ∧ 4 ≤ s.cursors) : cmdRecOpen h [] s = .fail s eBusy := by
  have hbusy : s.rcd.clearing = true ∨ (!s.hasCursor h.port) = true ∧ 4 ≤ s.cursors := by simpa using hb
  simp only [cmdRecOpen, arity, List.length_nil, if_true, if_pos hbusy]

section
variable (a n : Word) (h1 : 1 ≤ n.toNat) (h8 : n.toNat ≤ 8)
include h1 h8

/-- With a count from 1 to 8, what REC.READ answers turns on the clear and the cursor alone. -/
theorem cmdRecRead_of_count : cmdRecRead h [a, n] s =
    (if s.rcd.clearing then .fail s eBusy
    else if !s.hasCursor h.port then .fail s eState
    else .ok s ((List.range n.toNat).flatMap (fun i => s.recWords (a.toNat + i)))) := by
  have hn : ¬ (n.toNat = 0 ∨ 8 < n.toNat) := by omega
  have hfirst : par [a, n] 0 = a := rfl
  have hsecond : par [a, n] 1 = n := rfl
  simp only [cmdRecRead, arity, List.length_cons, List.length_nil, Nat.zero_add, Nat.reduceAdd, if_true, hfirst, hsecond, if_neg hn]

theorem cmdRecRead_reads (hp : s.hasCursor h.port = true) (hc : s.rcd.clearing = false) :
    cmdRecRead h [a, n] s = .ok s ((List.range n.toNat).flatMap (fun i => s.recWords (a.toNat + i))) := by
  simp only [cmdRecRead_of_count h s a n h1 h8, hc, hp, Bool.not_true, Bool.false_eq_true, if_false]

theorem cmdRecRead_busy (hc : s.rcd.clearing = true) : cmdRecRead h [a, n] s = .fail s eBusy := by
  simp only [cmdRecRead_of_count h s a n h1 h8, hc, if_true]

theorem cmdRecRead_without_cursor (hc : s.rcd.clearing = false) (hp : s.hasCursor h.port = false) :
    cmdRecRead h [a, n] s = .fail s eState := by
  simp only [cmdRecRead_of_count h s a n h1 h8, hc, hp, Bool.not_false, Bool.false_eq_true, if_false, if_true]
end

section
variable (hc : s.rcd.clearing = false) (hb : s.opBusy h 0x0B05 0 = false)
include hc hb

theorem cmdRecClear_accepted (hf : s.rcd.frozen = false) :
    cmdRecClear h [0x0B050B05] s = .pending { s.addOp h 0x0B05 0 with rcd := { s.rcd with clearing := true } } := by
  simp only [cmdRecClear, arity, List.length_singleton, if_true, par_singleton, ne_eq, not_true_eq_false, hf, hc, hb, Bool.false_eq_true, if_false]

theorem cmdRecClear_frozen (hf : s.rcd.frozen = true) : cmdRecClear h [0x0B050B05] s = .fail s eState := by
  simp only [cmdRecClear, arity, List.length_singleton, if_true, par_singleton, ne_eq, not_true_eq_false, hf, hc, hb, Bool.false_eq_true, if_false]
end
end

/-- Settles O21: each command by its body's answer. -/
theorem recorderCommandsComplete : Obligations.RecorderCommandsComplete := by
  unfold Obligations.RecorderCommandsComplete
  refine ⟨?opens, ?openBusy, ?reads, ?readRefused, ?closes, ?freezes, ?thaws, ?clears, ?clearFrozen⟩
  case opens =>
    exact fun h s ht hc hp => completes_of_body _ h _ 0 _ _ cmdRecOpen s _ rfl ht (cmdRecOpen_opens h s hc hp) (State.setCursor_ports _ _ s)
  case openBusy => exact fun h s ht hb => refuses_of_body _ h _ 0 _ cmdRecOpen s rfl ht eBusy (cmdRecOpen_busy h s hb)
  case reads =>
    exact fun h a n s ht h1 h8 hp hc => query_completes _ h _ 0 _ _ cmdRecRead s rfl ht (cmdRecRead_reads h s a n h1 h8 hp hc)
  case readRefused =>
    refine fun h a n s ht h1 h8 => ⟨fun hc => ?_, fun hc hp => ?_⟩
    · exact refuses_of_body _ h _ 0 _ cmdRecRead s rfl ht eBusy (cmdRecRead_busy h s a n h1 h8 hc)
    · exact refuses_of_body _ h _ 0 _ cmdRecRead s rfl ht eState (cmdRecRead_without_cursor h s a n h1 h8 hc hp)
  case closes => exact fun h s ht => completes_of_body _ h _ 0 _ _ cmdRecClose s _ rfl ht rfl (State.setCursor_ports _ _ s)
  case freezes => exact fun h s ht => completes_of_body _ h _ 0 _ _ cmdRecFreeze s _ rfl ht rfl (by simp)
  case thaws => exact fun h s ht => completes_of_body _ h _ 0 _ _ cmdRecThaw s _ rfl ht rfl rfl
  case clears =>
    exact fun h s ht hf hc hb => defers_of_body _ h _ _ _ cmdRecClear s _ rfl ht (cmdRecClear_accepted h s hc hb hf) rfl
  case clearFrozen =>
    exact fun h s ht hf hc hb => refuses_of_body _ h _ 0 _ cmdRecClear s rfl ht eState (cmdRecClear_frozen h s hc hb hf)

/-! ## The recorder's own work (R353-R356, R361, R362) -/

/-- At the end of an hour that ends no interval, the two metrics of an hour are closed (R353). -/
theorem doRecClose_hour (s : State) (hphase : 5 ≤ s.pwr.phase) (hhour : s.aon.opMin % 60 = 0) (hnew : s.aon.opMin ≠ s.rcd.lastHour)
    (hdone : s.aon.opMin = s.rcd.lastClose) :
    let u := (s.closeMetric s.rcd.lastHour 0x0001).closeMetric s.rcd.lastHour 0x0090
    doRecClose s = { u with rcd := { u.rcd with lastHour := s.aon.opMin } } := by
  have hrun : ¬ (s.pwr.phase < 5 ∧ ¬ s.pwr.grave = true) := by omega
  have hb : (decide (s.aon.opMin % 60 = 0) && decide (s.aon.opMin ≠ s.rcd.lastHour)) = true := by simp [hhour, hnew]
  have ha : ∀ ivl, (decide (s.aon.opMin % ivl = 0) && decide (s.aon.opMin ≠ s.rcd.lastClose)) = false := fun _ => by simp [hdone]
  simp only [doRecClose, if_neg hrun, hb, ha, Bool.false_eq_true, if_false, if_true]

/-- The head of the write queue is a GAP marker. -/
def State.headIsGap (s : State) : Bool := match s.rcd.q.head with | some (.gap _) => true | _ => false

theorem State.headIsGap_gap (k : Nat) (s : State) (h : s.rcd.q.head = some (.gap k)) : s.headIsGap = true := by simp [State.headIsGap, h]
theorem State.headIsGap_other (s : State) (h : ∀ k, s.rcd.q.head ≠ some (.gap k)) : s.headIsGap = false := by
  unfold State.headIsGap
  split
  · next k hk => exact absurd hk (h k)
  · rfl

/-- A head that is written and verified is the newest record (R352, R355). -/
theorem doRecWrite_verified (x : Summ) (b : Nat) (noteOk : Bool) (s : State) (hi : s.rcd.idle = false) (hx : s.headSumm = some x)
    (hq : nextGood s.rcd.bad recSlots s.rcd.nextSeq ≤ 0xFFFFFFFF) :
    let q := nextGood s.rcd.bad recSlots s.rcd.nextSeq
    let v : State := { s with rcd := { s.rcd with
      log := insertBy (fun e => e.1) (q % recSlots, s.recordBytes q x) s.rcd.log, newest := q, any := true, nextSeq := q + 1
      q := s.rcd.q.pop, gapAt := if s.headIsGap then s.rcd.gapAt.drop 1 else s.rcd.gapAt, badRun := 0, seqEnd := decide (q = 0xFFFFFFFF) } }
    doRecWrite true b noteOk s =
      if s.headIsGap then (v.flagsWritten.bumpC 0x090028 1).latchC 0x090008 2 else v.flagsWritten.bumpC 0x090028 1 := by
  simp only [doRecWrite, hi, hx, Bool.false_eq_true, if_false, if_true, Nat.not_lt.mpr hq]
  rfl

theorem doRecRewrite_repeats (q : Nat) (rest : List Nat) (bs : List Byte) (s : State) (hi : s.rcd.idle = false) (hr : s.rcd.rewrites = q :: rest)
    (hf : s.rcd.log.find? (fun e => e.1 == q % recSlots) = some (q % recSlots, bs)) (hs : recSeq bs = q) :
    doRecRewrite s = State.bumpC 0x09002C 1 { s with rcd := { s.rcd with
      rewrites := rest, log := insertBy (fun e => e.1) (q % recSlots, bs.take 124 ++ recTrailer (recRep bs + 1)) s.rcd.log } } := by
  simp only [doRecRewrite, hi, hr, hf, hs, Bool.false_eq_true, if_false, if_true]

theorem doRecAutoThaw_frozen (s : State) (hf : s.rcd.frozen = true) :
    doRecAutoThaw s = ((State.bumpC 0x09003C 1 { s with rcd := { s.rcd with frozen := false } }).latchC 0x090008 1).evQueue 1 := by
  rw [doRecAutoThaw, hf]
  rfl

theorem doRecClearComplete_clearing (s : State) (hc : s.rcd.clearing = true) :
    doRecClearComplete s =
      (State.latchC 0x090008 3 { s with rcd := { s.rcd with clearing := false, log := [], rewrites := [] } }).completeOp .coma 0x0B05 0 codeOk := by
  rw [doRecClearComplete, hc]
  rfl

/-- Settles O49: each event by its operation; a verified record by whether the head is a GAP marker. -/
theorem recorderEventsComplete : Obligations.RecorderEventsComplete := by
  unfold Obligations.RecorderEventsComplete
  refine ⟨?closes, ?writes, ?rewrites, ?thaws, ?cleared⟩
  case closes =>
    exact fun s hup hphase hhour hnew hdone => does_of_coma _ doRecClose s _ rfl hup (doRecClose_hour s hphase hhour hnew hdone)
  case writes =>
    intro x s b hup hi hx hq
    have hwrite := doRecWrite_verified x b true s hi hx hq
    refine ⟨fun hitem => ?_, fun k hgap => ?_⟩
    · rw [State.headIsGap_other s hitem] at hwrite
      exact doesJudged_of_coma _ (doRecWrite true b true) s _ rfl hup hwrite
    · rw [State.headIsGap_gap k s hgap] at hwrite
      exact doesJudged_of_coma _ (doRecWrite true b true) s _ rfl hup hwrite
  case rewrites =>
    exact fun q rest bs s hup hi hr hf hs => does_of_coma _ doRecRewrite s _ rfl hup (doRecRewrite_repeats q rest bs s hi hr hf hs)
  case thaws => exact fun s hup hf => does_of_coma _ doRecAutoThaw s _ rfl hup (doRecAutoThaw_frozen s hf)
  case cleared => exact fun s hup hc => does_of_coma _ doRecClearComplete s _ rfl hup (doRecClearComplete_clearing s hc)

end Sys2Proof.Machine
end

section
/-! SUPPORT. Watchdogs and monitors: what samples of temperature and supplies, a late pass of a scrubber, a core's watchdog and the end of a repair do
(R338, R367, R368, R380, R409). -/

namespace Sys2Proof.Machine

/-! ## Conditions that a sample does not show -/

/-- A source of which a sample shows no condition is present no more. -/
theorem State.present_condition_false (h : Half) (n k : Nat) (s : State) (hk : k = n ∨ (s.src h k).present = false) :
    ((s.condition h n false).src h k).present = false := by
  have hlist : (s.condition h n false).flt.list h = at' (s.flt.list h) n (fun x => { x with present := false }) := by cases h <;> rfl
  rw [State.src, hlist]
  by_cases hkn : k = n
  · subst hkn
    by_cases hl : k < (s.flt.list h).length
    · rw [nth_at'_self _ _ _ _ hl]
    · rw [at'_over _ _ _ (by omega), nth, List.getD_eq_default _ _ (by omega)]
      rfl
  · rw [nth_at'_ne _ _ _ _ _ hkn]
    exact hk.resolve_left hkn

/-! ## Temperatures (R409) -/

@[simp] theorem State.stageAdd_sys (m j i : Nat) (n : Int) (s : State) : (s.stageAdd m j i n).sys = s.sys := by rw [State.stageAdd_frame]
@[simp] theorem State.stageExt_sys (m j i : Nat) (v : Int) (s : State) : (s.stageExt m j i v).sys = s.sys := by
  unfold State.stageExt; split <;> rfl
theorem State.condition_false_sys (h : Half) (n : Nat) (s : State) : (s.condition h n false).sys = s.sys := by cases h <;> rfl
theorem State.settled_sys (s : State) : s.settled.sys = s.sys := by rw [State.settled_frame]
theorem State.settled_src (h : Half) (n : Nat) (s : State) : s.settled.src h n = s.src h n := by rw [State.src, State.settled_frame]; rfl

/-- A sample of the Coma half's temperature below both limits. -/
theorem doTj_coma_cool (t : Int) (s : State) (ht : t ≤ 1760) :
    ∃ u : State, u.sys.tjC = t ∧ u.sys.tjN = s.sys.tjN ∧ doTj .coma t s = (u.condition .coma 4 false).condition .coma 5 false := by
  have h4 : decide (1760 < t) = false := by simpa using ht
  have h5 : decide (2000 < t) = false := decide_eq_false (by omega)
  simp only [doTj, h4, h5]
  exact ⟨_, by simp, by simp, rfl⟩

/-- A sample of the Nucleus half's. -/
theorem doTj_nucleus_cool (t : Int) (s : State) (ht : t ≤ 1760) :
    ∃ u : State, u.sys.tjN = t ∧ u.sys.tjC = s.sys.tjC ∧ doTj .nucleus t s = (u.condition .nucleus 2 false).condition .nucleus 3 false := by
  have h2 : decide (1760 < t) = false := by simpa using ht
  have h3 : decide (2000 < t) = false := decide_eq_false (by omega)
  simp only [doTj, h2, h3]
  exact ⟨_, by simp, by simp, rfl⟩

/-! ## Supplies, watchdogs and repairs -/

theorem doVmon_supply (k mv : Nat) (s : State) (hk : k < 10) :
    let u : State := { s with sys := { s.sys with vmon := at' s.sys.vmon k (fun _ => mv) } }
    doVmon k mv s = (u.stageExt 0x0020 0 k mv).condition .coma 3 ((List.range 8).any (fun i => railOut i (nth 0 u.sys.vmon i))) := by
  simp only [doVmon, if_neg (Nat.not_le.mpr hk)]

theorem doCoreWatchdog_coma (n : Nat) (s : State) (ha : nth .retired s.core.coma n = .active) : doCoreWatchdog .coma n s = s.faultC (37 + n) :=
  if_neg (not_not.mpr ha)
theorem doCoreWatchdog_nucleus (n : Nat) (s : State) (ha : nth .retired s.core.nuc n = .active) :
    doCoreWatchdog .nucleus n s = s.faultN (12 + n) :=
  if_neg (not_not.mpr ha)

theorem doCoreRepaired_well (h : Half) (n : Nat) (s : State) (hr : s.core.repairing.find? (fun x => x.1 == h) = some (h, n)) :
    let u : State := { s with core := { s.core with repairing := s.core.repairing.filter (fun x => x.1 != h) } }
    doCoreRepaired h true s = (((u.mapCores h (setCore n .spare)).updEvt h 4).updCnt h 0x0B0054).completeOp h 0x0D04 3 codeOk := by
  simp only [doCoreRepaired, hr, if_true]

theorem doCoreRepaired_ill (h : Half) (n : Nat) (s : State) (hr : s.core.repairing.find? (fun x => x.1 == h) = some (h, n)) :
    let u : State := { s with core := { s.core with repairing := s.core.repairing.filter (fun x => x.1 != h) } }
    doCoreRepaired h false s = (u.updEvt h 5).completeOp h 0x0D04 3 eState := by
  simp only [doCoreRepaired, hr, Bool.false_eq_true, if_false]

theorem whenUp_half (h : Half) (f : State → State) (s : State) (hup : s.halfUp h = true) : whenUp h f s = f s := by
  cases h with
  | coma => exact whenUp_coma f s hup
  | nucleus => exact whenUp_nucleus f s hup

/-- Settles O48: each event by its operation. -/
theorem monitorEventsComplete : Obligations.MonitorEventsComplete := by
  unfold Obligations.MonitorEventsComplete
  refine ⟨?watchdogC, ?watchdogN, ?scrubC, ?scrubN, ?tjC, ?tjN, ?vmon, ?repair⟩
  case watchdogC => exact fun n s hup ha => does_of_coma _ (doCoreWatchdog .coma n) s _ rfl hup (doCoreWatchdog_coma n s ha)
  case watchdogN => exact fun n s hup ha => does_of_nucleus _ (doCoreWatchdog .nucleus n) s _ rfl hup (doCoreWatchdog_nucleus n s ha)
  case scrubC => exact fun s hup => does_of_coma _ (doScrubLate .coma) s _ rfl hup rfl
  case scrubN => exact fun s hup => does_of_nucleus _ (doScrubLate .nucleus) s _ rfl hup rfl
  case tjC =>
    intro t s hup ht
    obtain ⟨u, huC, huN, hu⟩ := doTj_coma_cool t s ht
    refine ⟨_, does_of_coma _ (doTj .coma t) s _ rfl hup hu, ?_, ?_, ?_, ?_⟩
    · rw [State.settled_sys, State.condition_false_sys, State.condition_false_sys, huC]
    · rw [State.settled_sys, State.condition_false_sys, State.condition_false_sys, huN]
    · rw [State.settled_src]
      exact State.present_condition_false _ _ _ _ (.inr (State.present_condition_false _ _ _ _ (.inl rfl)))
    · rw [State.settled_src]
      exact State.present_condition_false _ _ _ _ (.inl rfl)
  case tjN =>
    intro t s hup ht
    obtain ⟨u, huN, huC, hu⟩ := doTj_nucleus_cool t s ht
    refine ⟨_, does_of_nucleus _ (doTj .nucleus t) s _ rfl hup hu, ?_, ?_⟩
    · rw [State.settled_sys, State.condition_false_sys, State.condition_false_sys, huN]
    · rw [State.settled_sys, State.condition_false_sys, State.condition_false_sys, huC]
  case vmon => exact fun k mv s hup hk => does_of_coma _ (doVmon k mv) s _ rfl hup (doVmon_supply k mv s hk)
  case repair =>
    refine fun h n s hup hr => ⟨?_, ?_⟩
    · exact doesJudged_of_effect _ s _ _ rfl ((whenUp_half h (doCoreRepaired h true) s hup).trans (doCoreRepaired_well h n s hr))
    · exact doesJudged_of_effect _ s _ _ rfl ((whenUp_half h (doCoreRepaired h false) s hup).trans (doCoreRepaired_ill h n s hr))

end Sys2Proof.Machine
end

section
/-! SUPPORT. The test access port: what the load of an instruction leaves, and what the balls show under it (R418, R420). -/

namespace Sys2Proof.Machine

/-! ## Loading an instruction and scanning its register -/

/-- While RST_N is high, an instruction that drives the balls acts as BYPASS. -/
theorem State.tapActs_high (s : State) (hr : s.pwr.rstN = true) (hd : s.pwr.tap.drives = true) : s.tapActs = .bypass := by
  simp [State.tapActs, hr, hd]

/-- While it is low, and for an instruction that drives none, what is loaded acts. -/
theorem State.tapActs_loaded (s : State) (h : s.pwr.rstN = false ∨ s.pwr.tap.drives = false) : s.tapActs = s.pwr.tap := by
  rcases h with h | h
  · simp [State.tapActs, h]
  · simp [State.tapActs, h]

/-- The state with an instruction loaded, before its register is scanned. -/
def State.withInstr (i : TapInstr) (s : State) : State := { s with pwr := { s.pwr with trst := false, tap := i } }

/-- What acts after the load of an instruction: itself, or BYPASS. -/
theorem State.tapActs_withInstr (i : TapInstr) (s : State) : (s.withInstr i).tapActs = i ∨ (s.withInstr i).tapActs = .bypass := by
  by_cases h : s.pwr.rstN = false ∨ i.drives = false
  · exact .inl (State.tapActs_loaded _ h)
  · obtain ⟨hr, hd⟩ := not_or.mp h
    exact .inr (State.tapActs_high _ (eq_true_of_ne_false hr) (eq_true_of_ne_false hd))

/-- An instruction that acts as BYPASS, CLAMP or HIGHZ shifts one bit of 0 out. -/
theorem State.tapLoad_one_bit (i : TapInstr) (s : State) (hup : s.tapUp = true)
    (ha : (s.withInstr i).tapActs = .bypass ∨ (s.withInstr i).tapActs = .clamp ∨ (s.withInstr i).tapActs = .highz) :
    s.tapLoad i = { s with pwr := { s.pwr with trst := false, tap := i, tapOut := [false] } } := by
  have hload : s.tapLoad i = s.tapScan (s.withInstr i) := if_pos hup
  rw [hload, State.tapScan]
  rcases ha with ha | ha | ha
  all_goals rw [ha]; rfl

theorem State.tapLoad_idcode (s : State) (hup : s.tapUp = true) :
    s.tapLoad .idcode = { s with pwr := { s.pwr with trst := false, tap := .idcode, tapOut := bitsLow 32 Config.idcode.toNat } } := by
  have hload : s.tapLoad .idcode = s.tapScan (s.withInstr .idcode) := if_pos hup
  rw [hload, State.tapScan, State.tapActs_loaded (s.withInstr .idcode) (.inr rfl)]
  rfl

/-- An instruction that captures the balls takes new cells. -/
def State.captured (i : TapInstr) (s : State) : State :=
  { s with
    free := s.free + 2
    pwr := { s.pwr with
      trst := false, tap := i
      tapOut := scanBalls.zipIdx.map (fun x => (s.ball x.1).level.getD ((Config.freeNat s.free).testBit x.2))
      tapCells := bitsLow scanBalls.length (Config.freeNat (s.free + 1)) } }

theorem State.tapLoad_captures (i : TapInstr) (s : State) (hup : s.tapUp = true) (ha : (s.withInstr i).tapActs = i)
    (hi : i = .samplePreload ∨ i = .extest ∨ i = .extestPulse ∨ i = .extestTrain) : s.tapLoad i = s.captured i := by
  have hload : s.tapLoad i = s.tapScan (s.withInstr i) := if_pos hup
  rw [hload, State.tapScan, ha]
  rcases hi with rfl | rfl | rfl | rfl
  all_goals rfl

/-! ## The balls -/

/-- The two balls of the always-on domain that the device drives carry no boundary-scan cell. -/
theorem ne_of_mem_scanBalls (b : Ball) (hb : b ∈ scanBalls) : ¬ (b = .meshO ∨ b = .xtalO) := by
  rintro (rfl | rfl)
  · exact absurd hb (by decide)
  · exact absurd hb (by decide)

section
variable (b : Ball) (s : State) (hio : s.ioGood = true) (hb : b ∈ scanBalls)
include hio hb

theorem State.ball_under_highz (ha : s.tapActs = .highz) : s.ball b = .highZ := by
  have hcell : scanBalls.elem b = true := by simpa using hb
  unfold State.ball
  rw [if_neg (ne_of_mem_scanBalls b hb), hio, hcell, ha]
  rfl

theorem State.ball_under_cells (ha : s.tapActs = .extest ∨ s.tapActs = .clamp) : s.ball b = s.scanned b := by
  have hcell : scanBalls.elem b = true := by simpa using hb
  unfold State.ball
  rw [if_neg (ne_of_mem_scanBalls b hb), hio, hcell]
  rcases ha with ha | ha
  · rw [ha]; rfl
  · rw [ha]; rfl

/-- Under the instructions that drive no ball, the device does. -/
theorem State.ball_of_device (ha : s.tapActs.drives = false) : s.ball b = s.drive b := by
  have hcell : scanBalls.elem b = true := by simpa using hb
  unfold State.ball
  rw [if_neg (ne_of_mem_scanBalls b hb), hio, hcell]
  cases hi : s.tapActs with
  | bypass | idcode | samplePreload => rfl
  | extest | clamp | highz | extestPulse | extestTrain => rw [hi] at ha; exact absurd ha (by decide)
end

theorem State.tapActs_drives_none (s : State) (h : s.pwr.rstN = true ∨ s.pwr.tap.drives = false) : s.tapActs.drives = false := by
  by_cases hd : s.pwr.tap.drives = true
  · rw [State.tapActs_high s (by simpa [hd] using h) hd]
    rfl
  · have hd' : s.pwr.tap.drives = false := by simpa using hd
    rw [State.tapActs_loaded s (.inr hd'), hd']

theorem State.scanned_output (b : Ball) (s : State) (hp : b.pad = .output) : s.scanned b = driven (s.cellLevel b) := by
  rw [State.scanned, hp]

/-- Settles O51: each load by what the instruction acts as while RST_N has its level; the balls by the instruction that acts. -/
theorem testPortCommandsComplete : Obligations.TestPortCommandsComplete := by
  unfold Obligations.TestPortCommandsComplete
  refine ⟨fun s hup => ?loads, fun s => ?reset, fun b s hio hb h => ?device, fun b s hio hb hr => ⟨fun ht => ?floats, fun ht hp => ?cells⟩,
    fun b s hio hm hx => ?unpowered⟩
  case loads =>
    have hloaded : ∀ i : TapInstr, s.pwr.rstN = false ∨ i.drives = false → (s.withInstr i).tapActs = i := fun _ h => State.tapActs_loaded _ h
    have hpass : ∀ i : TapInstr, s.pwr.rstN = true → i.drives = true → (s.withInstr i).tapActs = .bypass :=
      fun _ hr hd => State.tapActs_high _ hr hd
    refine ⟨?_, ?_, ?_, ?_, ?_, fun hr => ⟨?_, ?_, ?_⟩, fun hr => ⟨?_, ?_, ?_⟩⟩
    · exact does_of_effect .jtagBypass s _ _ rfl (State.tapLoad_one_bit .bypass s hup (.inl (hloaded _ (.inr rfl))))
    · exact does_of_effect .jtagIdcode s _ _ rfl (State.tapLoad_idcode s hup)
    · exact does_of_effect .jtagSamplePreload s _ _ rfl (State.tapLoad_captures _ s hup (hloaded _ (.inr rfl)) (by simp))
    · exact does_of_effect .jtagClamp s _ _ rfl (State.tapLoad_one_bit .clamp s hup ((State.tapActs_withInstr .clamp s).elim (.inr ∘ .inl) .inl))
    · exact does_of_effect .jtagHighz s _ _ rfl (State.tapLoad_one_bit .highz s hup ((State.tapActs_withInstr .highz s).elim (.inr ∘ .inr) .inl))
    · exact does_of_effect .jtagExtest s _ _ rfl (State.tapLoad_one_bit _ s hup (.inl (hpass _ hr rfl)))
    · exact does_of_effect .jtagExtestPulse s _ _ rfl (State.tapLoad_one_bit _ s hup (.inl (hpass _ hr rfl)))
    · exact does_of_effect .jtagExtestTrain s _ _ rfl (State.tapLoad_one_bit _ s hup (.inl (hpass _ hr rfl)))
    · exact does_of_effect .jtagExtest s _ _ rfl (State.tapLoad_captures _ s hup (hloaded _ (.inl hr)) (by simp))
    · exact does_of_effect .jtagExtestPulse s _ _ rfl (State.tapLoad_captures _ s hup (hloaded _ (.inl hr)) (by simp))
    · exact does_of_effect .jtagExtestTrain s _ _ rfl (State.tapLoad_captures _ s hup (hloaded _ (.inl hr)) (by simp))
  case reset => exact does_of_effect .trstNLow s _ _ rfl rfl
  case device => exact State.ball_of_device b s hio hb (State.tapActs_drives_none s h)
  case floats => exact State.ball_under_highz b s hio hb ((State.tapActs_loaded s (.inl hr)).trans ht)
  case cells =>
    have ha : s.tapActs = .extest ∨ s.tapActs = .clamp := by rwa [State.tapActs_loaded s (.inl hr)]
    rw [State.ball_under_cells b s hio hb ha, State.scanned_output b s hp]
  case unpowered =>
    have hneither : ¬ (b = .meshO ∨ b = .xtalO) := not_or.mpr ⟨hm, hx⟩
    unfold State.ball
    rw [if_neg hneither, hio]
    rfl

end Sys2Proof.Machine
end

section
/-! SUPPORT. The calendar: its days through the Gregorian calendar, and what its second does (R301, R306, R308, R315). -/

namespace Sys2Proof.Machine

/-! ## Days and dates (R301) -/

/-- A date and time of the calendar, in its parts. -/
structure Aon.Date (a : Aon) : Prop where
  year : 2000 ≤ a.year ∧ a.year ≤ 2399
  month : 1 ≤ a.month ∧ a.month ≤ 12
  day : 1 ≤ a.day ∧ a.day ≤ monthDays a.year a.month
  hour : a.hour ≤ 23
  minute : a.minute ≤ 59
  second : a.second ≤ 59

theorem Aon.dateOk_iff (a : Aon) : a.dateOk = true ↔ a.Date := by
  simp only [Aon.dateOk, Bool.and_eq_true, decide_eq_true_eq]
  constructor
  · rintro ⟨⟨⟨⟨⟨⟨⟨⟨y0, y1⟩, m0⟩, m1⟩, d0⟩, d1⟩, h⟩, mi⟩, s⟩
    exact ⟨⟨y0, y1⟩, ⟨m0, m1⟩, ⟨d0, d1⟩, h, mi, s⟩
  · rintro ⟨⟨y0, y1⟩, ⟨m0, m1⟩, ⟨d0, d1⟩, h, mi, s⟩
    exact ⟨⟨⟨⟨⟨⟨⟨⟨y0, y1⟩, m0⟩, m1⟩, d0⟩, d1⟩, h⟩, mi⟩, s⟩

theorem one_le_monthDays (y m : Nat) : 1 ≤ monthDays y m := by
  unfold monthDays
  repeat' split
  all_goals omega

theorem monthDays_december (y : Nat) : monthDays y 12 = 31 := rfl

/-- Days from 1 March of year 0 to 1 March of a year. -/
def marchDays (y : Nat) : Nat := y / 400 * 146097 + (365 * (y % 400) + y % 400 / 4 - y % 400 / 100)

/-- Days from 1 March to the first of a month of the same or the next year. -/
def monthOffset (m : Nat) : Nat := if 2 < m then (153 * (m - 3) + 2) / 5 else (153 * (m + 9) + 2) / 5

theorem daysOf_before_march (y m d : Nat) (hm : m ≤ 2) : daysOf y m d = marchDays (y - 1) + (monthOffset m + d - 1) - 719468 := by
  unfold daysOf monthOffset marchDays
  simp only [if_pos hm, if_neg (Nat.not_lt.mpr hm)]

theorem daysOf_from_march (y m d : Nat) (hm : 2 < m) : daysOf y m d = marchDays y + (monthOffset m + d - 1) - 719468 := by
  unfold daysOf monthOffset marchDays
  simp only [if_pos hm, if_neg (Nat.not_le.mpr hm)]

/-- 1970 is past for every year of the calendar, also for the one before. -/
theorem epoch_le_marchDays (y : Nat) (hy : 1999 ≤ y) : 719468 ≤ marchDays y := by
  unfold marchDays
  omega

/-- From one 1 March to the next it is a year, with the 29th of February where there is one. -/
theorem marchDays_succ (y : Nat) (h0 : 2000 ≤ y) (h1 : y ≤ 2399) : marchDays y = marchDays (y - 1) + 337 + monthDays y 2 := by
  have hleap : monthDays y 2 = if leapYear y then 29 else 28 := rfl
  rw [hleap]
  unfold marchDays leapYear
  simp only [Bool.or_eq_true, Bool.and_eq_true, beq_iff_eq, bne_iff_ne]
  split
  · omega
  · omega

/-- The next day of a month is one day later. -/
theorem daysOf_next_day (y m d : Nat) (hy : 2000 ≤ y) (hd : 1 ≤ d) : daysOf y m (d + 1) = daysOf y m d + 1 := by
  by_cases hm : m ≤ 2
  · have hpast := epoch_le_marchDays (y - 1) (by omega)
    rw [daysOf_before_march _ _ _ hm, daysOf_before_march _ _ _ hm]
    omega
  · have hpast := epoch_le_marchDays y (by omega)
    rw [daysOf_from_march _ _ _ (by omega), daysOf_from_march _ _ _ (by omega)]
    omega

/-- Within a year that begins on 1 March, a month's offset is that of the month before and its days. -/
theorem monthOffset_succ (y m : Nat) (hm : m = 1 ∨ 3 ≤ m) (hm' : m < 12) : monthOffset (m + 1) = monthOffset m + monthDays y m := by
  rcases hm with rfl | hm
  · rfl
  · interval_cases m
    all_goals rfl

/-- The first of a month comes after the last of the month before. -/
theorem daysOf_next_month (y m : Nat) (h0 : 2000 ≤ y) (h1 : y ≤ 2399) (hm : 1 ≤ m) (hm' : m < 12) :
    daysOf y (m + 1) 1 = daysOf y m (monthDays y m) + 1 := by
  have hpast := epoch_le_marchDays (y - 1) (by omega)
  have hpast' := epoch_le_marchDays y (by omega)
  have hlast := one_le_monthDays y m
  have hcases : m = 1 ∨ m = 2 ∨ 3 ≤ m := by omega
  rcases hcases with rfl | rfl | h3
  · rw [daysOf_before_march _ _ _ (by omega), daysOf_before_march _ _ _ (by omega), monthOffset_succ y 1 (.inl rfl) (by omega)]
    omega
  · have hyear := marchDays_succ y h0 h1
    have hmarch : monthOffset 3 = 0 := rfl
    have hfebruary : monthOffset 2 = 337 := rfl
    rw [daysOf_from_march _ _ _ (by omega), daysOf_before_march _ _ _ (by omega), hmarch, hfebruary, hyear]
    omega
  · rw [daysOf_from_march _ _ _ (by omega), daysOf_from_march _ _ _ (by omega), monthOffset_succ y m (.inr h3) hm']
    omega

/-- The first of January comes after the 31st of December. -/
theorem daysOf_next_year (y : Nat) (h0 : 2000 ≤ y) : daysOf (y + 1) 1 1 = daysOf y 12 31 + 1 := by
  have hpast := epoch_le_marchDays y (by omega)
  have hjanuary : monthOffset 1 = 306 := rfl
  have hdecember : monthOffset 12 = 275 := rfl
  rw [daysOf_before_march _ _ _ (by omega), daysOf_from_march _ _ _ (by omega), hjanuary, hdecember, Nat.add_sub_cancel]
  omega

/-! ## The next second (R301) -/

theorem Aon.atEnd_of_parts (a : Aon) (h1 : a.year = 2399) (h2 : a.month = 12) (h3 : a.day = 31) (h4 : a.hour = 23) (h5 : a.minute = 59)
    (h6 : a.second = 59) : a.atEnd = true := by
  simp [Aon.atEnd, h1, h2, h3, h4, h5, h6]

section
variable (a : Aon) (hd : a.Date)
include hd

/-- The five ways a second ends, the end of the year the last. -/
theorem Aon.utcSec_tick : a.tick.utcSec = a.utcSec + 1 := by
  obtain ⟨⟨hy0, hy1⟩, ⟨hm0, hm1⟩, ⟨hd0, hd1⟩, hh, hmi, hs⟩ := hd
  unfold Aon.tick
  split
  · simp only [Aon.utcSec]
    omega
  split
  · simp only [Aon.utcSec]
    omega
  split
  · simp only [Aon.utcSec]
    omega
  split
  · simp only [Aon.utcSec, daysOf_next_day _ _ _ hy0 hd0]
    omega
  have hlast : a.day = monthDays a.year a.month := by omega
  split
  · next hm =>
    simp only [Aon.utcSec, daysOf_next_month _ _ hy0 hy1 hm0 hm, ← hlast]
    omega
  · have hdec : a.month = 12 := by omega
    rw [hdec, monthDays_december] at hlast
    simp only [Aon.utcSec, daysOf_next_year _ hy0, hdec, hlast]
    omega

/-- The second after a date of the calendar that is not its last is at a date of the calendar. -/
theorem Aon.tick_date (he : a.atEnd = false) : a.tick.Date := by
  obtain ⟨⟨hy0, hy1⟩, ⟨hm0, hm1⟩, ⟨hd0, hd1⟩, hh, hmi, hs⟩ := hd
  unfold Aon.tick
  split
  · exact ⟨⟨hy0, hy1⟩, ⟨hm0, hm1⟩, ⟨hd0, hd1⟩, hh, hmi, by dsimp only; omega⟩
  split
  · exact ⟨⟨hy0, hy1⟩, ⟨hm0, hm1⟩, ⟨hd0, hd1⟩, hh, by dsimp only; omega, Nat.zero_le _⟩
  split
  · exact ⟨⟨hy0, hy1⟩, ⟨hm0, hm1⟩, ⟨hd0, hd1⟩, by dsimp only; omega, Nat.zero_le _, Nat.zero_le _⟩
  split
  · next hday => exact ⟨⟨hy0, hy1⟩, ⟨hm0, hm1⟩, ⟨Nat.le_add_left _ _, hday⟩, Nat.zero_le _, Nat.zero_le _, Nat.zero_le _⟩
  split
  · next hm =>
    exact ⟨⟨hy0, hy1⟩, ⟨Nat.le_add_left _ _, hm⟩, ⟨Nat.le_refl _, one_le_monthDays _ _⟩, Nat.zero_le _, Nat.zero_le _, Nat.zero_le _⟩
  · have hdec : a.month = 12 := by omega
    have hlast : a.day = 31 := by
      have hdays : monthDays a.year a.month = 31 := by rw [hdec, monthDays_december]
      omega
    have hyear : a.year ≠ 2399 := by
      intro hy
      rw [Aon.atEnd_of_parts a hy hdec hlast (by omega) (by omega) (by omega)] at he
      exact absurd he (by decide)
    have hnext : a.year + 1 ≤ 2399 := by omega
    exact ⟨⟨Nat.le_succ_of_le hy0, hnext⟩, ⟨Nat.le_refl 1, Nat.le_add_left 1 11⟩, ⟨Nat.le_refl 1, one_le_monthDays _ _⟩, Nat.zero_le _,
      Nat.zero_le _, Nat.zero_le _⟩
end

end Sys2Proof.Machine
end

section
/-! SUPPORT. The second of the calendar: what the cell's wear leaves of the state, the end of the calendar's range, and a tick (R301, R306, R308,
R315). -/

namespace Sys2Proof.Machine

/-! ## The cell's wear (R315) -/

/-- The calendar, the time base and the power state are those of the state before; at most one event is counted. -/
structure KeepsCalendar (s t : State) : Prop where
  aon : t.aon = { s.aon with
    prescAt := t.aon.prescAt, batAge := t.aon.batAge, batUse := t.aon.batUse, batDue := t.aon.batDue, batRaised := t.aon.batRaised,
    batPend := t.aon.batPend }
  tim : t.tim = s.tim
  pwr : t.pwr = s.pwr
  gen : t.attn.gen = s.attn.gen ∨ t.attn.gen = s.attn.gen + 1

theorem State.judgeCell_keepsCalendar (s : State) : KeepsCalendar s s.judgeCell := by
  unfold State.judgeCell
  dsimp only
  split
  · split
    · exact ⟨rfl, rfl, rfl, .inr rfl⟩
    · exact ⟨rfl, rfl, rfl, .inl rfl⟩
  · exact ⟨rfl, rfl, rfl, .inl rfl⟩

/-- The cell a second older, and in BACKUP drawn from. -/
def State.aged (s : State) : State :=
  { s with aon := { s.aon with
    prescAt := some s.tim.now, batAge := s.aon.batAge + 1
    batUse := s.aon.batUse + (if s.pwr.mode = .backup then bits (s.rwC 0x05002C) 31 16 else 0) } }

/-- And judged where the charge drawn or the age makes it due. -/
def State.agedJudged (s : State) : State := if s.aged.cellWorn && !s.aged.aon.batDue then s.aged.judgeCell else s.aged

theorem State.agedJudged_keepsCalendar (s : State) : KeepsCalendar s s.agedJudged := by
  unfold State.agedJudged
  split
  · obtain ⟨haon, htim, hpwr, hgen⟩ := State.judgeCell_keepsCalendar s.aged
    exact ⟨haon, htim, hpwr, hgen⟩
  · exact ⟨rfl, rfl, rfl, .inl rfl⟩

section
variable {s t : State} (h : KeepsCalendar s t)
include h

theorem KeepsCalendar.stopped : t.aon.stopped = s.aon.stopped := by rw [h.aon]
theorem KeepsCalendar.calValid : t.aon.calValid = s.aon.calValid := by rw [h.aon]
theorem KeepsCalendar.utcSec : t.aon.utcSec = s.aon.utcSec := by rw [h.aon]; rfl
theorem KeepsCalendar.atEnd : t.aon.atEnd = s.aon.atEnd := by rw [h.aon]; rfl
theorem KeepsCalendar.dateOk : t.aon.dateOk = s.aon.dateOk := by rw [h.aon]; rfl
theorem KeepsCalendar.comaUp : t.comaUp = s.comaUp := by rw [State.comaUp, h.pwr]; rfl
end

/-! ## The three ways of a second (R301, R306) -/

section
variable (s : State) (hm : s.pwr.mode ≠ .off)
include hm

theorem doCalendarSecond_stopped (hs : s.aon.stopped = true) : doCalendarSecond s = s.agedJudged := by
  have hup : s.aonUp = true := by simpa [State.aonUp] using hm
  have hstop := s.agedJudged_keepsCalendar.stopped.trans hs
  unfold State.agedJudged State.aged at *
  simp only [doCalendarSecond, hup, Bool.not_true, Bool.false_eq_true, if_false, hstop, if_true]

theorem doCalendarSecond_end (hs : s.aon.stopped = false) (he : s.aon.atEnd = true) :
    doCalendarSecond s = { (s.agedJudged.latchC 0x050008 7).calInvalid with
      aon := { (s.agedJudged.latchC 0x050008 7).calInvalid.aon with stopped := true } } := by
  have hup : s.aonUp = true := by simpa [State.aonUp] using hm
  have hstop := s.agedJudged_keepsCalendar.stopped.trans hs
  have hend := s.agedJudged_keepsCalendar.atEnd.trans he
  unfold State.agedJudged State.aged at *
  simp only [doCalendarSecond, hup, Bool.not_true, Bool.false_eq_true, if_false, hstop, hend, if_true]

theorem doCalendarSecond_ticks (hs : s.aon.stopped = false) (he : s.aon.atEnd = false) (hc : s.tim.calSet = false) :
    doCalendarSecond s = { s.agedJudged with aon := s.agedJudged.aon.tick } := by
  have hup : s.aonUp = true := by simpa [State.aonUp] using hm
  have hstop := s.agedJudged_keepsCalendar.stopped.trans hs
  have hend := s.agedJudged_keepsCalendar.atEnd.trans he
  have hset : s.agedJudged.tim.calSet = false := by rw [s.agedJudged_keepsCalendar.tim, hc]
  unfold State.agedJudged State.aged at *
  simp only [doCalendarSecond, hup, Bool.not_true, Bool.false_eq_true, if_false, hstop, hend, hset, Bool.false_and]
end

/-- Settles O58: a second that is not the last of the range is a tick of the calendar, whatever it makes of the cell. -/
theorem calendarCountsGregorianSeconds : Obligations.CalendarCountsGregorianSeconds := by
  unfold Obligations.CalendarCountsGregorianSeconds
  intro s hm hs he hd hc
  have hkeeps := s.agedJudged_keepsCalendar
  have hdate : s.agedJudged.aon.Date := (Aon.dateOk_iff _).mp (hkeeps.dateOk.trans hd)
  have hend := hkeeps.atEnd.trans he
  have hexec : exec .calendarSecond s = .next (doCalendarSecond s).settled := rfl
  rw [doCalendarSecond_ticks s hm hs he hc] at hexec
  refine ⟨_, hexec, ?_, ?_⟩
  · rw [State.settled_aon, Aon.utcSec_tick _ hdate, hkeeps.utcSec]
  · rw [State.settled_aon]
    exact (Aon.dateOk_iff _).mpr (Aon.tick_date _ hdate hend)

/-! ## The end of the range (R306, R308) -/

theorem State.calInvalid_clears (s : State) : s.calInvalid.aon.calValid = false ∧ ∀ h a, s.calInvalid.evt h a = s.evt h a := by
  unfold State.calInvalid
  dsimp only
  split
  · exact ⟨rfl, fun h _ => by cases h <;> rfl⟩
  · exact ⟨rfl, fun h _ => by cases h <;> rfl⟩

/-- With the Coma half down, the event waits for it. -/
theorem State.calInvalid_pends (s : State) (hup : s.comaUp = false) : s.calInvalid.aon.calPend = true := by
  unfold State.calInvalid
  dsimp only
  rw [if_neg (by simpa [State.comaUp] using hup)]

/-- The attention fields after an event: its summary bit, its level and one count. -/
theorem State.raise_attn (i level : Nat) (s : State) (hi : i < 5) :
    (s.raise i level).attn.evBits.getLsbD i = true ∧ level ≤ (s.raise i level).attn.level ∧ (s.raise i level).attn.gen = s.attn.gen + 1 := by
  refine ⟨?_, ?_, rfl⟩
  · have hbits : (s.raise i level).attn.evBits = s.attn.evBits ||| BitVec.ofNat 5 (2 ^ i) := rfl
    simp only [hbits, BitVec.getLsbD_or, BitVec.getLsbD_ofNat, Nat.testBit_two_pow_self, hi, decide_true, Bool.and_self, Bool.or_true]
  · have hlevel : (s.raise i level).attn.level = Nat.max s.persist (Nat.max s.attn.evLevel level) := rfl
    rw [hlevel]
    exact le_trans (Nat.le_max_right _ _) (Nat.le_max_right _ _)

/-- With the Coma half up it is raised at once. -/
theorem State.calInvalid_raises (s : State) (hup : s.comaUp = true) : ∃ u : State, u.attn = s.attn ∧ s.calInvalid = u.raise 1 1 := by
  refine ⟨_, ?_, if_pos hup⟩
  rfl

/-- What is no attention field leaves those of an event as they are. -/
theorem State.settled_raise_attn (i level : Nat) (a : Aon) (s : State) :
    (State.settled { s.raise i level with aon := a }).attn = (s.raise i level).attn := by
  rw [State.settled_attn]
  exact State.reattn_of_fresh _ rfl rfl

theorem byte_succ_ne (g : Byte) : g + 1 ≠ g ∧ g + 1 + 1 ≠ g := by
  constructor
  · intro h; bv_omega
  · intro h; bv_omega

/-- Settles O57: after the last second the calendar is invalid and stopped; the event's fields are those that it was raised with. -/
theorem calendarStopsAtItsEnd : Obligations.CalendarStopsAtItsEnd := by
  unfold Obligations.CalendarStopsAtItsEnd
  refine ⟨fun s hm hs he => ?ends, fun s hm hs => ?stopped⟩
  case ends =>
    have hkeeps := s.agedJudged_keepsCalendar
    obtain ⟨hvalid, hevt⟩ := State.calInvalid_clears (s.agedJudged.latchC 0x050008 7)
    have hexec : exec .calendarSecond s = .next (doCalendarSecond s).settled := rfl
    rw [doCalendarSecond_end s hm hs he] at hexec
    refine ⟨_, hexec, ?_, ?_, ?_, fun hup => ?_, fun hup => ?_⟩
    · rw [State.settled_aon]
    · rw [State.settled_aon]
      exact hvalid
    · rw [State.settled_evt]
      exact (congrArg (fun w => w.getLsbD 7) (hevt .coma 0x050008)).trans (State.getLsbD_evt_latchC 0x050008 7 s.agedJudged (by decide))
    · obtain ⟨u, hu, hraise⟩ := State.calInvalid_raises (s.agedJudged.latchC 0x050008 7) (hkeeps.comaUp.trans hup)
      obtain ⟨hbit, hlevel, hgen⟩ := State.raise_attn 1 1 u (by decide)
      rw [hraise, State.settled_raise_attn]
      refine ⟨hbit, ?_, hlevel⟩
      have hbefore : u.attn.gen = s.attn.gen ∨ u.attn.gen = s.attn.gen + 1 := by rw [hu]; exact hkeeps.gen
      rw [hgen]
      rcases hbefore with hbefore | hbefore
      · rw [hbefore]; exact (byte_succ_ne _).1
      · rw [hbefore]; exact (byte_succ_ne _).2
    · rw [State.settled_aon]
      exact State.calInvalid_pends _ (hkeeps.comaUp.trans hup)
  case stopped =>
    have hkeeps := s.agedJudged_keepsCalendar
    have hexec : exec .calendarSecond s = .next (doCalendarSecond s).settled := rfl
    rw [doCalendarSecond_stopped s hm hs] at hexec
    refine ⟨_, hexec, ?_, ?_, ?_⟩
    · rw [State.settled_aon, hkeeps.utcSec]
    · rw [State.settled_aon, hkeeps.stopped, hs]
    · rw [State.settled_aon, hkeeps.calValid]

end Sys2Proof.Machine
end

section
/-! SUPPORT. The always-on domain: the calendar that follows the time base, operating minutes, the backup cell, the tamper inputs and the mesh
(R301, R304, R305, R309, R311-R316). -/

namespace Sys2Proof.Machine

/-! ## The calendar (R301, R304, R305) -/

/-- Where the second does not wear the cell out, it only ages it. -/
theorem State.agedJudged_unworn (s : State) (hw : (s.aged.cellWorn && !s.aged.aon.batDue) = false) : s.agedJudged = s.aged := by
  rw [State.agedJudged, hw]
  rfl

/-- UTC at the present second of the time base, as the calendar takes it. -/
def State.calendarFromTime (s : State) : Aon :=
  s.aon.write s.tim.now (civil (s.soc s.sec / 86400)).1 (civil (s.soc s.sec / 86400)).2.1 (civil (s.soc s.sec / 86400)).2.2
    (s.soc s.sec % 86400 / 3600) (s.soc s.sec % 3600 / 60) (s.soc s.sec % 60)

section
variable (s : State) (hf : s.calFollows = true) (hl : s.pwr.lockout = false) (hs : s.aon.stopped = false)
include hf hl hs

theorem doCalendarSync_on_boundary (hn : s.nsec = 0) (hu : s.tim.utcAt ≠ some s.tim.now) (hd : s.calendarFromTime.dateOk = true) :
    doCalendarSync s = { s with aon := { s.calendarFromTime with synced := true } } := by
  have hnow : s.nsec = 0 ∧ s.tim.utcAt ≠ some s.tim.now := ⟨hn, hu⟩
  simp only [doCalendarSync, hf, hl, hs, Bool.not_true, Bool.or_self, Bool.false_eq_true, if_false, if_pos hnow]
  exact if_pos hd

/-- After a change of the offset, the first boundary that follows it (R305). -/
theorem doCalendarSync_after_offset (hu : s.tim.utcAt = some s.tim.now)
    (hd : (s.reach ((s.sec + 1) * 1000000000)).calendarFromTime.dateOk = true) :
    doCalendarSync s = { s.reach ((s.sec + 1) * 1000000000) with
      aon := { (s.reach ((s.sec + 1) * 1000000000)).calendarFromTime with synced := true } } := by
  have hnow : ¬ (s.nsec = 0 ∧ s.tim.utcAt ≠ some s.tim.now) := fun h => h.2 hu
  simp only [doCalendarSync, hf, hl, hs, Bool.not_true, Bool.or_self, Bool.false_eq_true, if_false, if_neg hnow]
  exact if_pos hd
end

/-! ## Operating minutes (R309) -/

theorem KeepsDomain.foldl {α : Type} (f : State → α → State) (hf : ∀ s x, KeepsDomain s (f s x)) (l : List α) :
    ∀ s, KeepsDomain s (l.foldl f s) := by
  induction l with
  | nil => exact KeepsDomain.refl
  | cons x r ih => exact fun s => (hf s x).trans (ih (f s x))

theorem KeepsDomain.ite (c : Bool) {s u v : State} (hu : KeepsDomain s u) (hv : KeepsDomain s v) : KeepsDomain s (if c then u else v) := by
  cases c with
  | true => exact hu
  | false => exact hv

theorem State.lifeMinutes_keepsDomain (s : State) : KeepsDomain s s.lifeMinutes := by
  refine KeepsDomain.foldl _ (fun s n => ?_) _ s
  split
  · exact ⟨rfl, rfl, rfl⟩
  · exact KeepsDomain.refl s

theorem State.stageAdd_keepsDomain (m j i : Nat) (n : Int) (s : State) : KeepsDomain s (s.stageAdd m j i n) := by
  rw [State.stageAdd_frame]
  exact ⟨rfl, rfl, rfl⟩

theorem State.stageExt_keepsDomain (m j i : Nat) (v : Int) (s : State) : KeepsDomain s (s.stageExt m j i v) := by
  unfold State.stageExt
  split
  · exact KeepsDomain.refl s
  · exact ⟨rfl, rfl, rfl⟩

/-- The lives of the modules and, where the halves run, their scrubbers. -/
theorem doOperatingMinute_keeps (s : State) (hm : s.pwr.main = true) :
    KeepsDomain { s with aon := { s.aon with opMin := sat 32 (s.aon.opMin + 1) } } (doOperatingMinute s) := by
  have hlives := State.lifeMinutes_keepsDomain { s with aon := { s.aon with opMin := sat 32 (s.aon.opMin + 1) } }
  simp only [doOperatingMinute, hm, if_true]
  generalize State.lifeMinutes { s with aon := { s.aon with opMin := sat 32 (s.aon.opMin + 1) } } = u at hlives
  have hscrub : ∀ (h : Half) (f : Scrub → Scrub) (v : State), KeepsDomain v (v.mapScrub h f) := fun _ _ _ => ⟨rfl, rfl, rfl⟩
  exact (hlives.trans (.ite _ ((hscrub _ _ _).trans (State.stageAdd_keepsDomain _ _ _ _ _)) (.refl u))).trans (.ite _ (hscrub _ _ _) (.refl _))

theorem doOperatingMinute_coma_down (s : State) (hm : s.pwr.main = true) (hup : s.comaUp = false) :
    doOperatingMinute s = State.lifeMinutes { s with aon := { s.aon with opMin := sat 32 (s.aon.opMin + 1) } } := by
  have hlives := State.lifeMinutes_keepsDomain { s with aon := { s.aon with opMin := sat 32 (s.aon.opMin + 1) } }
  simp only [doOperatingMinute, hm, if_true]
  generalize State.lifeMinutes { s with aon := { s.aon with opMin := sat 32 (s.aon.opMin + 1) } } = u at hlives
  have hcoma : u.comaUp = false := by rw [← hup, State.comaUp, hlives.pwr]; rfl
  have hnucleus : u.nucUp = false := by rw [State.nucUp, hcoma]; rfl
  simp only [hcoma, hnucleus, Bool.false_eq_true, if_false]

/-! ## The backup cell (R315, R316) -/

/-- What is known of the cell. -/
structure SameCell (s t : State) : Prop where
  pwr : t.pwr = s.pwr
  present : t.aon.batPresent = s.aon.batPresent
  mv : t.aon.vbatMv = s.aon.vbatMv
  use : t.aon.batUse = s.aon.batUse
  age : t.aon.batAge = s.aon.batAge

theorem KeepsDomain.sameCell {s t : State} (h : KeepsDomain s t) : SameCell s t := by
  obtain ⟨hpwr, haon, -⟩ := h
  exact ⟨hpwr, by rw [haon], by rw [haon], by rw [haon], by rw [haon]⟩

theorem SameCell.trans {s t u : State} (h1 : SameCell s t) (h2 : SameCell t u) : SameCell s u :=
  ⟨h2.pwr.trans h1.pwr, h2.present.trans h1.present, h2.mv.trans h1.mv, h2.use.trans h1.use, h2.age.trans h1.age⟩

theorem State.judgeCell_sameCell (s : State) : SameCell s s.judgeCell := by
  unfold State.judgeCell
  dsimp only
  split
  · split
    · exact ⟨rfl, rfl, rfl, rfl, rfl⟩
    · exact ⟨rfl, rfl, rfl, rfl, rfl⟩
  · exact ⟨rfl, rfl, rfl, rfl, rfl⟩

theorem State.settled_sameCell (s : State) : SameCell s s.settled := by
  rw [State.settled_frame]
  exact ⟨rfl, rfl, rfl, rfl, rfl⟩

/-- A sample of the cell, staged where the Coma half runs. -/
theorem State.cellSample_keepsDomain (mv : Nat) (s : State) : KeepsDomain s (if s.comaUp then s.stageExt 0x0090 0 0 mv else s) :=
  .ite _ (State.stageExt_keepsDomain _ _ _ _ s) (.refl s)

theorem doVbatMeasure_cell (mv : Nat) (s : State) (hm : s.pwr.main = true) :
    SameCell { s with aon := { s.aon with vbatMv := mv } } (doVbatMeasure mv s) := by
  rw [doVbatMeasure, if_pos hm]
  exact (State.cellSample_keepsDomain mv _).sameCell.trans (State.judgeCell_sameCell _)

theorem State.cellInserted_cell (mv : Nat) (s : State) :
    SameCell { s with aon := { s.aon with batPresent := true, vbatMv := mv, batUse := 0, batAge := 0, batRaised := false } } (s.cellInserted mv) :=
  ((State.cellSample_keepsDomain mv _).trans (State.latch_keepsDomain _ _ _ _)).sameCell.trans (State.judgeCell_sameCell _)

/-! ## Tamper (R312-R314) -/

section
variable (s : State) (hm : s.pwr.mode ≠ .off)
include hm

theorem doTamperQualify_first (hb : bit (s.rwC 0x050000) 2 = true) (h0 : s.aon.t0 = false) :
    doTamperQualify 0 s = State.tamperEvent 0 { s with aon := { s.aon with t0 := true } } := by
  have hup : s.aonUp = true := by simpa [State.aonUp] using hm
  simp only [doTamperQualify, hup, hb, h0, Bool.not_true, Bool.not_false, Bool.and_self, Bool.false_eq_true, if_false, if_true]

theorem doTamperQualify_second (hb : bit (s.rwC 0x050000) 3 = true) (h1 : s.aon.t1 = false) :
    doTamperQualify 1 s = State.tamperEvent 1 { s with aon := { s.aon with t1 := true } } := by
  have hup : s.aonUp = true := by simpa [State.aonUp] using hm
  simp only [doTamperQualify, hup, hb, h1, Bool.not_true, Bool.not_false, Bool.and_self, Bool.false_eq_true, if_false, if_true, one_ne_zero]

section
variable (b : Bool) (hb : bit (s.rwC 0x050000) 1 = true) (hmesh : s.aon.mesh = false)
include hb hmesh

theorem doMeshSample_match (h : b = s.aon.lfsr.getLsbD 14) :
    doMeshSample b s = { s with aon := { s.aon with
      lfsr := lfsrNext s.aon.lfsr, meshMiss := 0, meshMatch := Nat.min 16 (s.aon.meshMatch + 1) } } := by
  have hup : s.aonUp = true := by simpa [State.aonUp] using hm
  subst h
  simp [doMeshSample, hup, hb, hmesh]

theorem doMeshSample_second_mismatch (h : b ≠ s.aon.lfsr.getLsbD 14) (h1 : 1 ≤ s.aon.meshMiss) :
    doMeshSample b s = State.tamperEvent 2 { s with aon := { s.aon with
      lfsr := lfsrNext s.aon.lfsr, meshMiss := 2, meshMatch := 0, mesh := true } } := by
  have hup : s.aonUp = true := by simpa [State.aonUp] using hm
  have hwrong : (b != s.aon.lfsr.getLsbD 14) = true := by simpa using h
  have htwo : Nat.min 2 (s.aon.meshMiss + 1) = 2 := Nat.min_eq_left (by omega)
  simp only [doMeshSample, hup, hb, hmesh, hwrong, htwo, Bool.not_true, Bool.not_false, Bool.or_self, Bool.false_eq_true, if_true, if_false,
    le_refl, decide_true, Bool.and_self]
end
end

theorem doTamperRelease_first (s : State) : doTamperRelease 0 s = { s with aon := { s.aon with t0 := false } } := by simp [doTamperRelease]
theorem doTamperRelease_second (s : State) : doTamperRelease 1 s = { s with aon := { s.aon with t1 := false } } := by simp [doTamperRelease]

/-- Settles O44: each event by its operation. -/
theorem alwaysOnEventsComplete : Obligations.AlwaysOnEventsComplete := by
  unfold Obligations.AlwaysOnEventsComplete
  refine ⟨?second, ?sync, ?minuteDown, ?minute, ?measured, ?removed, ?inserted, ?qualified, ?released, ?meshMatch, ?meshMismatch, ?retention⟩
  case second =>
    intro s hm hs he hc u hw
    exact does_of_effect .calendarSecond s _ _ rfl
      ((doCalendarSecond_ticks s hm hs he hc).trans (by rw [State.agedJudged_unworn s hw]; rfl))
  case sync =>
    refine fun s hup hf hl hs => ⟨fun hn hu hd => ?_, fun hu hd => ?_⟩
    · exact does_of_coma .calendarSyncWrite doCalendarSync s _ rfl hup (doCalendarSync_on_boundary s hf hl hs hn hu hd)
    · exact does_of_coma .calendarSyncWrite doCalendarSync s _ rfl hup (doCalendarSync_after_offset s hf hl hs hu hd)
  case minuteDown => exact fun s hm hup => does_of_effect .operatingMinute s _ _ rfl (doOperatingMinute_coma_down s hm hup)
  case minute =>
    intro s hm
    refine ⟨(doOperatingMinute s).settled, rfl, ?_⟩
    rw [State.settled_aon, (doOperatingMinute_keeps s hm).aon]
  case measured =>
    intro mv s hm
    exact ⟨(doVbatMeasure mv s).settled, rfl, ((doVbatMeasure_cell mv s hm).trans (State.settled_sameCell _)).mv⟩
  case removed => exact fun s hm => does_of_effect .backupCellRemoved s _ _ rfl (if_pos hm)
  case inserted =>
    intro mv s hm
    have hexec : exec (.backupCellInserted mv) s = .next (doCellInserted mv s).settled := rfl
    rw [doCellInserted, if_pos hm] at hexec
    obtain ⟨hpwr, hpresent, hmv, huse, hage⟩ :=
      (State.cellInserted_cell mv { s with pwr := { s.pwr with vbat := true } }).trans (State.settled_sameCell _)
    refine ⟨_, hexec, hpresent, huse, hage, hmv, ?_⟩
    rw [hpwr]
  case qualified =>
    refine fun s hm => ⟨fun hb h0 => ?_, fun hb h1 => ?_⟩
    · exact does_of_effect (.tamperInputQualify 0) s _ _ rfl (doTamperQualify_first s hm hb h0)
    · exact does_of_effect (.tamperInputQualify 1) s _ _ rfl (doTamperQualify_second s hm hb h1)
  case released =>
    refine fun s => ⟨?_, ?_⟩
    · exact does_of_effect (.tamperInputRelease 0) s _ _ rfl (doTamperRelease_first s)
    · exact does_of_effect (.tamperInputRelease 1) s _ _ rfl (doTamperRelease_second s)
  case meshMatch =>
    exact fun b s hm hb h hmesh => does_of_effect (.meshSample b) s _ _ rfl (doMeshSample_match s hm b hb hmesh h)
  case meshMismatch =>
    exact fun b s hm hb h hmesh h1 => does_of_effect (.meshSample b) s _ _ rfl (doMeshSample_second_mismatch s hm b hb hmesh h h1)
  case retention => exact fun s => does_of_effect .retentionRailLow s _ _ rfl rfl

end Sys2Proof.Machine
end

section
/-! SUPPORT. The boot flash: what an erased sector and programmed bytes leave of a region, byte by byte (R385, R392). -/

namespace Sys2Proof.Machine

/-! ## Bytes of a region, 0xFF where nothing stands -/

theorem nth_append_byte (e : Byte) (l r : List Byte) (i : Nat) :
    nth e (l ++ r) i = if i < l.length then nth e l i else nth e r (i - l.length) := by
  simp only [nth, List.getD_eq_getElem?_getD, List.getElem?_append]
  split
  · rfl
  · rfl

theorem nth_replicate_erased (n i : Nat) : nth (0xFF : Byte) (List.replicate n 0xFF) i = 0xFF := by
  simp only [nth, List.getD_eq_getElem?_getD, List.getElem?_replicate]
  split
  · rfl
  · rfl

theorem nth_take_byte (e : Byte) (l : List Byte) (n i : Nat) (h : i < n) : nth e (l.take n) i = nth e l i := by
  simp only [nth, List.getD_eq_getElem?_getD, List.getElem?_take, if_pos h]

theorem nth_drop_byte (e : Byte) (l : List Byte) (n i : Nat) : nth e (l.drop n) i = nth e l (n + i) := by
  simp only [nth, List.getD_eq_getElem?_getD, List.getElem?_drop]

theorem nth_of_length_le (e : Byte) (l : List Byte) (i : Nat) (h : l.length ≤ i) : nth e l i = e := List.getD_eq_default _ _ h

theorem length_erasedTo (n : Nat) (r : List Byte) : (erasedTo n r).length = n := by
  simp only [erasedTo, List.length_append, List.length_take, List.length_replicate]
  omega

theorem nth_erasedTo (n i : Nat) (r : List Byte) (h : i < n) : nth 0xFF (erasedTo n r) i = nth 0xFF r i := by
  rw [erasedTo, nth_append_byte, List.length_take]
  split
  · exact nth_take_byte _ _ _ _ h
  · rw [nth_replicate_erased, nth_of_length_le _ _ _ (by omega)]

/-! ## An erased sector -/

theorem nth_eraseSector (k i : Nat) (r : List Byte) :
    nth 0xFF (eraseSector k r) i = if 65536 * k ≤ i ∧ i < 65536 * (k + 1) then 0xFF else nth 0xFF r i := by
  rw [eraseSector, nth_append_byte, nth_append_byte, List.length_append, length_erasedTo, List.length_replicate, nth_drop_byte]
  by_cases h1 : i < 65536 * k
  · rw [if_pos (by omega), if_pos h1, if_neg (by omega), nth_erasedTo _ _ _ h1]
  · by_cases h2 : i < 65536 * (k + 1)
    · rw [if_pos (by omega), if_neg h1, if_pos (by omega), nth_replicate_erased]
    · rw [if_neg (by omega), if_neg (by omega)]
      exact congrArg _ (by omega)

theorem length_le_eraseSector (k : Nat) (r : List Byte) : r.length ≤ (eraseSector k r).length := by
  simp only [eraseSector, List.length_append, length_erasedTo, List.length_replicate, List.length_drop]
  omega

/-- Sectors erased one after the other: a byte in one of them is 0xFF, any other is as before. -/
theorem nth_erased_sectors (i : Nat) (ks : List Nat) : ∀ r : List Byte,
    nth 0xFF (ks.foldl (fun r k => eraseSector k r) r) i = if i / 65536 ∈ ks then 0xFF else nth 0xFF r i := by
  induction ks with
  | nil => intro r; simp
  | cons k ks ih =>
    intro r
    have hin : (65536 * k ≤ i ∧ i < 65536 * (k + 1)) ↔ i / 65536 = k := by omega
    rw [List.foldl_cons, ih, nth_eraseSector]
    by_cases hk : i / 65536 = k
    · simp [hin, hk]
    · simp [hin, hk]

theorem length_le_erased_sectors (ks : List Nat) : ∀ r : List Byte, r.length ≤ (ks.foldl (fun r k => eraseSector k r) r).length := by
  induction ks with
  | nil => exact fun _ => le_refl _
  | cons k ks ih => exact fun r => le_trans (length_le_eraseSector k r) (ih _)

/-! ## Programmed bytes -/

theorem nth_zipWith_and (l r : List Byte) (hl : l.length = r.length) (i : Nat) :
    nth 0xFF (List.zipWith (· &&& ·) l r) i = nth 0xFF l i &&& nth 0xFF r i := by
  by_cases h : i < r.length
  · have hi : i < l.length := hl ▸ h
    have hz : i < (List.zipWith (· &&& ·) l r).length := by simp [List.length_zipWith, hi, h]
    simp only [nth, List.getD_eq_getElem _ _ hz, List.getD_eq_getElem _ _ hi, List.getD_eq_getElem _ _ h, List.getElem_zipWith]
  · have hz : (List.zipWith (· &&& ·) l r).length ≤ i := by simp [List.length_zipWith]; omega
    rw [nth_of_length_le _ _ _ hz, nth_of_length_le _ _ _ (by omega), nth_of_length_le _ _ _ (by omega)]
    rfl

/-- Bytes programmed within a page fall on those that they meet. -/
theorem nth_programPage (off i : Nat) (bs r : List Byte) :
    nth 0xFF (programPage off bs r) i = if off ≤ i ∧ i < off + bs.length then nth 0xFF r i &&& nth 0xFF bs (i - off) else nth 0xFF r i := by
  have hlen : (List.zipWith (· &&& ·) (erasedTo bs.length (r.drop off)) bs).length = bs.length := by simp [List.length_zipWith, length_erasedTo]
  rw [programPage, nth_append_byte, nth_append_byte, List.length_append, length_erasedTo, hlen, nth_drop_byte]
  by_cases h1 : i < off
  · rw [if_pos (by omega), if_pos h1, if_neg (by omega), nth_erasedTo _ _ _ h1]
  · by_cases h2 : i < off + bs.length
    · rw [if_pos h2, if_neg h1, if_pos (by omega), nth_zipWith_and _ _ (length_erasedTo _ _), nth_erasedTo _ _ _ (by omega), nth_drop_byte]
      congr 2
      omega
    · rw [if_neg h2, if_neg (by omega)]
      exact congrArg _ (by omega)

theorem length_programPage (off : Nat) (bs r : List Byte) : off + bs.length ≤ (programPage off bs r).length := by
  simp only [programPage, List.length_append, length_erasedTo, List.length_zipWith, Nat.min_self, Nat.le_add_right]

theorem programBytes_nil (f off : Nat) (r : List Byte) : programBytes f off [] r = r := by cases f <;> rfl

theorem programBytes_succ (f off : Nat) (bs r : List Byte) (hb : bs ≠ []) :
    programBytes (f + 1) off bs r =
      programBytes f (off + (256 - off % 256)) (bs.drop (256 - off % 256)) (programPage off (bs.take (256 - off % 256)) r) := by
  cases bs with
  | nil => exact absurd rfl hb
  | cons b bs => rfl

/-- With a page for each round, all the bytes are programmed. -/
theorem nth_programBytes (i f : Nat) : ∀ (off : Nat) (bs r : List Byte), bs.length + off % 256 ≤ 256 * f →
    nth 0xFF (programBytes f off bs r) i = if off ≤ i ∧ i < off + bs.length then nth 0xFF r i &&& nth 0xFF bs (i - off) else nth 0xFF r i := by
  induction f with
  | zero =>
    intro off bs r hf
    have hnil : bs = [] := List.eq_nil_of_length_eq_zero (by omega)
    rw [hnil, programBytes_nil, List.length_nil, if_neg (by omega)]
  | succ f ih =>
    intro off bs r hf
    by_cases hb : bs = []
    · rw [hb, programBytes_nil, List.length_nil, if_neg (by omega)]
    rw [programBytes_succ f off bs r hb, ih _ _ _ (by rw [List.length_drop]; omega), nth_programPage, List.length_drop, List.length_take,
      nth_drop_byte]
    by_cases hpage : i < off + (256 - off % 256)
    · rw [if_neg (by omega)]
      by_cases hin : off ≤ i ∧ i < off + bs.length
      · rw [if_pos (by omega), if_pos hin, nth_take_byte _ _ _ _ (by omega)]
      · rw [if_neg (by omega), if_neg hin]
    · rw [if_neg (c := off ≤ i ∧ i < off + min (256 - off % 256) bs.length) (by omega)]
      by_cases hin : off ≤ i ∧ i < off + bs.length
      · rw [if_pos (by omega), if_pos hin]
        congr 2
        omega
      · rw [if_neg (by omega), if_neg hin]

theorem length_programBytes (f : Nat) : ∀ (off : Nat) (bs r : List Byte), bs ≠ [] → bs.length + off % 256 ≤ 256 * f →
    off + bs.length ≤ (programBytes f off bs r).length := by
  induction f with
  | zero =>
    intro off bs r hb hf
    exact absurd (List.eq_nil_of_length_eq_zero (by omega)) hb
  | succ f ih =>
    intro off bs r hb hf
    rw [programBytes_succ f off bs r hb]
    by_cases hrest : bs.drop (256 - off % 256) = []
    · have hlast : bs.length ≤ 256 - off % 256 := List.drop_eq_nil_iff.mp hrest
      rw [hrest, programBytes_nil, List.take_of_length_le hlast]
      exact length_programPage off bs r
    · have hmore := ih (off + (256 - off % 256)) _ (programPage off (bs.take (256 - off % 256)) r) hrest (by rw [List.length_drop]; omega)
      rw [List.length_drop] at hmore
      omega

/-! ## A packet's bytes (R392) -/

/-- The sectors that a packet's bytes enter. -/
def sectorsEntered (off n : Nat) : List Nat := (List.range ((off + n + 65535) / 65536)).filter (fun k => decide (off ≤ 65536 * k))

theorem writeRegion_eq (off : Nat) (bs r : List Byte) :
    writeRegion off bs r = programBytes (bs.length / 256 + 2) off bs ((sectorsEntered off bs.length).foldl (fun r k => eraseSector k r) r) := rfl

theorem mem_sectorsEntered (off n k : Nat) : k ∈ sectorsEntered off n ↔ k < (off + n + 65535) / 65536 ∧ off ≤ 65536 * k := by
  simp [sectorsEntered]

/-- Bytes sent in order, the sector in progress erased from where they begin: the region then begins with all of them. -/
theorem take_writeRegion (d bs r : List Byte) (hd : r.take d.length = d)
    (he : ∀ i, d.length ≤ i → i < (d.length + 65535) / 65536 * 65536 → nth 0xFF r i = 0xFF) :
    (writeRegion d.length bs r).take (d.length + bs.length) = d ++ bs := by
  have hr : d.length ≤ r.length := by
    have := congrArg List.length hd
    rw [List.length_take] at this
    omega
  have hfuel : bs.length + d.length % 256 ≤ 256 * (bs.length / 256 + 2) := by omega
  have hlen : d.length + bs.length ≤ (writeRegion d.length bs r).length := by
    rw [writeRegion_eq]
    by_cases hb : bs = []
    · rw [hb, programBytes_nil, List.length_nil, Nat.add_zero]
      exact le_trans hr (length_le_erased_sectors _ r)
    · exact length_programBytes _ _ _ _ hb hfuel
  have hbyte : ∀ i, i < d.length + bs.length → nth 0xFF (writeRegion d.length bs r) i = nth 0xFF (d ++ bs) i := by
    intro i hi
    rw [writeRegion_eq, nth_programBytes i _ _ _ _ hfuel, nth_erased_sectors, nth_append_byte]
    simp only [mem_sectorsEntered]
    by_cases hold : i < d.length
    · rw [if_neg (by omega), if_neg (by omega), if_pos hold, ← nth_take_byte _ r _ _ hold, hd]
    · have hff : (if i / 65536 < (d.length + bs.length + 65535) / 65536 ∧ d.length ≤ 65536 * (i / 65536) then 0xFF else nth 0xFF r i) = (0xFF : Byte) := by
        split
        · rfl
        · exact he i (by omega) (by omega)
      rw [if_pos (by omega), hff, if_neg hold]
      exact BitVec.allOnes_and
  refine List.ext_getElem ?_ fun i h1 h2 => ?_
  · rw [List.length_take, List.length_append]
    omega
  · have hi : i < d.length + bs.length := by rwa [List.length_append] at h2
    have hb := hbyte i hi
    rw [nth, nth, List.getD_eq_getElem _ _ (by omega), List.getD_eq_getElem _ _ h2] at hb
    rw [List.getElem_take]
    exact hb

end Sys2Proof.Machine
end

section
/-! SUPPORT. The update commands: what their bodies answer (R385, R386, R390, R392-R394). -/

namespace Sys2Proof.Machine

/-! ## UPD.BEGIN, UPD.VERIFY, UPD.SWITCH (R392-R394) -/

section
variable (h : Hdr) (s : State)

theorem cmdUpdBegin_begins (n : Word) (hn : n.toNat ≤ s.updLimit h.half)
    (hp : (s.updS h.half).port = none ∨ (s.updS h.half).port = some h.port) (hs : (s.updS h.half).switching = false)
    (hv : (s.updS h.half).verifying = false) :
    cmdUpdBegin h [n] s =
      .ok ((s.mapUpd h.half (fun u => { u.released with port := some h.port, len := n.toNat })).updCnt h.half 0x0B0040) := by
  have hours : ¬ ((s.updS h.half).port.isSome = true ∧ (s.updS h.half).port ≠ some h.port) := by
    rcases hp with hp | hp
    · simp [hp]
    · simp [hp]
  simp only [cmdUpdBegin, arity, List.length_singleton, if_true, par_singleton, if_neg (Nat.not_lt.mpr hn), if_neg hours, hs, hv,
    Bool.false_eq_true, or_self, if_false]

theorem cmdUpdVerify_begins (hp : (s.updS h.half).port = some h.port) (hs : (s.updS h.half).switching = false)
    (hv : (s.updS h.half).verifying = false) (hb : s.opBusy h 0x0D02 0 = false) :
    cmdUpdVerify h [] s =
      .pending ((s.mapUpd h.half (fun u => { u with verifying := true, verified := false })).addOp h 0x0D02 0) := by
  simp only [cmdUpdVerify, arity, List.length_nil, if_true, hp, hs, hv, hb, ne_eq, not_true_eq_false, and_false, Bool.false_eq_true, or_self,
    if_false, reduceCtorEq]

theorem cmdUpdSwitch_begins (hp : (s.updS h.half).port = some h.port) (hs : (s.updS h.half).switching = false)
    (ho : (s.updS (otherHalf h.half)).switching = false) (hb : s.opBusy h 0x0D03 0 = false) (hv : (s.updS h.half).verified = true) :
    cmdUpdSwitch h [] s =
      .pending ((s.mapUpd h.half (fun u => { u with switching := true, ready := false })).addOp h 0x0D03 0) := by
  simp only [cmdUpdSwitch, arity, List.length_nil, if_true, hp, hs, ho, hv, hb, ne_eq, not_true_eq_false, and_false, Bool.false_eq_true,
    or_self, if_false, Bool.not_true]

/-! ## UPD.DATA (R392) -/

theorem bytesOf_length (ws : List Word) : (bytesOf ws).length = 4 * ws.length := by
  induction ws with
  | nil => rfl
  | cons w ws ih =>
    have hcons : bytesOf (w :: ws) = beBytes 4 w.toNat ++ bytesOf ws := rfl
    rw [hcons, List.length_append, beBytes_length, ih, List.length_cons]
    omega

/-- The state before a packet's bytes are written: the flash's answer drawn, the table set out of use as its first packet comes. -/
def State.dataBegun (h : Half) (ty : Nat) (s : State) : State :=
  let u : State := if s.toMemory h ty then s else { s with free := s.free + 1 }
  if (s.updS h).data = [] ∧ ty = 3 then u.tsetInvalid else u

/-- The state after the bytes were taken. -/
def State.dataTaken (h : Half) (ty off : Nat) (bs : List Byte) (s : State) : State :=
  let v := s.dataBegun h ty
  let a := s.target h ty
  let x := if s.toMemory h ty then v else v.putRegion a (writeRegion off bs ((s.region a).getD []))
  x.mapUpd h (fun u => { u with data := u.data ++ bs, verified := false })

/-- The flash does not take the bytes. -/
def State.dataFails (h : Half) (ty : Nat) (s : State) : Bool := !s.toMemory h ty && Config.programFails s.free

/-- The state after a failure to program: the region's bytes unknown, the session let go. -/
def State.dataLost (h : Half) (ty : Nat) (s : State) : State := ((s.dataBegun h ty).loseRegion (s.target h ty)).mapUpd h Upd.released

theorem State.dataBegun_cmd (h : Half) (ty : Nat) (s : State) : (s.dataBegun h ty).cmd = s.cmd := by
  unfold State.dataBegun
  dsimp only
  split
  · rw [State.tsetInvalid_frame]
    split
    · rfl
    · rfl
  · split
    · rfl
    · rfl

theorem State.dataTaken_cmd (h : Half) (ty off : Nat) (bs : List Byte) (s : State) : (s.dataTaken h ty off bs).cmd = s.cmd := by
  unfold State.dataTaken
  dsimp only
  rw [State.mapUpd_cmd]
  split
  · exact State.dataBegun_cmd h ty s
  · exact State.dataBegun_cmd h ty s

end

section
variable (h : Hdr) (s : State) (off : Word) (ws : List Word)

/-- The packet is one that the session takes: its bytes go on where the last ended, and the first has a header of a type that the half takes. -/
structure DataFits (h : Hdr) (s : State) (off : Word) (ws : List Word) : Prop where
  words : ws ≠ []
  owner : (s.updS h.half).port = some h.port
  switching : (s.updS h.half).switching = false
  verifying : (s.updS h.half).verifying = false
  offset : off.toNat = (s.updS h.half).data.length
  first : (s.updS h.half).data = [] →
    2 ≤ ws.length ∧ (fieldAt 4 1 (bytesOf ws) = fwType h.half ∨ fieldAt 4 1 (bytesOf ws) = 3 ∧ h.half = .nucleus)
  limit : off.toNat + 4 * ws.length ≤
    (s.updS h.half).limit h.half (fieldAt 4 1 ((s.updS h.half).data ++ bytesOf ws))

theorem cmdUpdData_takes (hfit : DataFits h s off ws) (ty : Nat) (hty : fieldAt 4 1 ((s.updS h.half).data ++ bytesOf ws) = ty) :
    cmdUpdData h (off :: ws) s =
      if s.dataFails h.half ty then .fail (s.dataLost h.half ty) eImage else .ok (s.dataTaken h.half ty off.toNat (bytesOf ws)) := by
  obtain ⟨hws, hport, hswitching, hverifying, hoff, hfirst, hlimit⟩ := hfit
  rw [hty] at hlimit
  have hpar : par (off :: ws) 0 = off := rfl
  have hlen : ¬ (off :: ws).length < 2 := by
    have := List.length_pos_of_ne_nil hws
    rw [List.length_cons]
    omega
  have hmost : decide ((s.updS h.half).limit h.half ty < (s.updS h.half).data.length + (bytesOf ws).length) = false := by
    rw [bytesOf_length, ← hoff]
    exact decide_eq_false (by omega)
  have hhead : (decide ((s.updS h.half).data.length = 0) && decide ((bytesOf ws).length < 8)) = false := by
    by_cases h0 : (s.updS h.half).data.length = 0
    · obtain ⟨h2, -⟩ := hfirst (List.eq_nil_of_length_eq_zero h0)
      rw [bytesOf_length, decide_eq_false (show ¬ 4 * ws.length < 8 by omega), Bool.and_false]
    · rw [decide_eq_false h0, Bool.false_and]
  have htype : (decide ((s.updS h.half).data.length = 0) && (decide (¬ ty = fwType h.half) && (decide (¬ ty = 3) || decide (h.half = .coma)))) =
      false := by
    by_cases h0 : (s.updS h.half).data.length = 0
    · have hnil := List.eq_nil_of_length_eq_zero h0
      have hfield : ty = fieldAt 4 1 (bytesOf ws) := by rw [← hty, hnil]; rfl
      obtain ⟨-, hfw | ⟨h3, hn⟩⟩ := hfirst hnil
      · simp [hfield, hfw]
      · simp [hfield, h3, hn]
    · rw [decide_eq_false h0, Bool.false_and]
  have hbegun : s.dataBegun h.half ty = if (s.updS h.half).data.length = 0 ∧ ty = 3
      then (if s.toMemory h.half ty then s else { s with free := s.free + 1 } : State).tsetInvalid
      else (if s.toMemory h.half ty then s else { s with free := s.free + 1 }) := by
    simp only [State.dataBegun, List.length_eq_zero_iff]
  simp only [cmdUpdData, hty, hpar, List.drop_succ_cons, List.drop_zero, if_neg hlen, hport, Option.isSome_some, Bool.true_and, hoff, ne_eq,
    not_true_eq_false, decide_false, Bool.false_eq_true, if_false, hhead,
    htype, hmost, hswitching, hverifying, Bool.or_self, reduceCtorEq, ← hbegun]
  rfl

end

/-- Settles O23: each command by its body's answer; a packet of UPD.DATA by whether the flash takes its bytes, which then stand in order. -/
theorem updateCommandsComplete : Obligations.UpdateCommandsComplete := by
  unfold Obligations.UpdateCommandsComplete
  refine ⟨?begins, ?data, fun d bs r hd he => take_writeRegion d bs r hd he, ?verifies, ?switches⟩
  case begins =>
    exact fun h n s ht hn hp hs hv => completes_of_body _ h _ 0 _ _ cmdUpdBegin s _ rfl ht (cmdUpdBegin_begins h s n hn hp hs hv)
      (by rw [State.updCnt_cmd]; rfl)
  case data =>
    intro h off ws s ht hws hport hswitching hverifying hoff hfirst ty hlimit
    have hfit : DataFits h s off ws := ⟨hws, hport, hswitching, hverifying, hoff, hfirst, hlimit⟩
    have hbody := cmdUpdData_takes h s off ws hfit ty rfl
    have hserve := serve_taken 0x0D01 h _ cmdUpdData s ht
    intro memory a u v x fails
    refine ⟨(s.serve 0x0D01 h (off :: ws) cmdUpdData).settled, rfl, ?_⟩
    by_cases hf : s.dataFails h.half ty = true
    · have hfails : fails = true := hf
      rw [hserve, hbody, if_pos hf, hfails]
      exact answer_spec h 0x0D01 eImage 0 [] (s.dataLost h.half ty) (takes_port_of_ids ht (congrArg Cmd.portIds (State.dataBegun_cmd h.half ty s)))
    · have hfails : fails = false := eq_false_of_ne_true hf
      rw [hserve, hbody, if_neg hf, hfails]
      exact answer_spec h 0x0D01 codeOk 0 [] (s.dataTaken h.half ty off.toNat (bytesOf ws))
        (takes_port_of_ids ht (congrArg Cmd.portIds (State.dataTaken_cmd h.half ty off.toNat (bytesOf ws) s)))
  case verifies =>
    exact fun h s ht hp hs hv hb => defers_of_body _ h _ _ _ cmdUpdVerify s _ rfl ht (cmdUpdVerify_begins h s hp hs hv hb) rfl
  case switches =>
    exact fun h s ht hp hs ho hb hv => defers_of_body _ h _ _ _ cmdUpdSwitch s _ rfl ht (cmdUpdSwitch_begins h s hp hs ho hb hv) rfl

end Sys2Proof.Machine
end

section
/-! SUPPORT. The CLR rows of the Coma half and of both halves: what the write of a CLR register leaves of its block (R298, R308, R316, R318, R333,
R349, R364, R392, R409, R410, R412). -/

namespace Sys2Proof.Machine

/-! ## A register that a row names -/

/-- The row of a register that selects nothing, where its write leaves u. -/
theorem clear_row_writes (c : Instr) (h : Hdr) (hf : Half) (a : Nat) (w : Word) (s u : State)
    (hx : exec c s = .next (State.settled (s.writeRow hf a w h))) (ht : s.takesWrite h hf a w = true) (hr : RowRegister hf a)
    (hu : (s.noted h hf a).writeReg hf a w = u) (hp : u.cmd.portIds = s.cmd.portIds) : Writes c h hf s u := by
  obtain ⟨hreg, hbound, hforce⟩ := hr
  exact row_writes c h hf a w s u hx ht hreg hbound hforce hu hp

/-! ## The blocks of the Coma half -/

section
variable (s : State)

theorem State.writeReg_nrgClr : s.writeReg .coma 0x07001C 1 =
    { s.clearCtr .coma 0x0700A0 0x0700AC with
      nrg := { s.nrg with points := s.nrg.points.map (fun (x : Point) => { x with cnt := [0, 0, 0, 0] }) } } := rfl

theorem State.writeReg_recClr : s.writeReg .coma 0x090020 1 = s.clearCtr .coma 0x090028 0x090040 := rfl
theorem State.writeReg_keyClr : s.writeReg .coma 0x058010 1 = s.clearCtr .coma 0x058040 0x058060 := rfl
theorem State.writeReg_hspClr : s.writeReg .coma 0x0B0010 1 = s.clearCtr .coma 0x0B0040 0x0B0070 := rfl

theorem State.writeReg_fltClrRstcause :
    s.writeReg .coma 0x08001C 2 = { s with flt := { s.flt with rstCause := s.flt.rstCause &&& 0xFFFF7FFF } } := rfl

theorem State.writeReg_fltClrCounters_coma : s.writeReg .coma 0x08001C 1 =
    { s.clearCtr .coma 0x080040 0x080050 with flt := { s.flt with coma := s.flt.coma.map (fun x => { x with occ := 0, supp := 0 }) } } := rfl

theorem State.writeReg_fltClrCounters_nucleus : s.writeReg .nucleus 0x09001C 1 =
    { s.clearCtr .nucleus 0x090040 0x090050 with flt := { s.flt with nuc := s.flt.nuc.map (fun x => { x with occ := 0, supp := 0 }) } } := rfl

theorem State.writeReg_aonClrTampcnt : s.writeReg .coma 0x050048 1 =
    { s with
      aon := { s.aon with tampCnt := 0 }
      rcd := { s.rcd with tampSeen := if s.aon.tampCnt = s.rcd.tampSeen then 0 else 256 } } := rfl

theorem State.writeReg_aonClrBatNew : s.writeReg .coma 0x050048 2 = s.cellRenewed := rfl

theorem State.writeReg_aonClrCalInv : s.writeReg .coma 0x050048 4 = s.calInvalid := rfl

theorem State.writeReg_updAbort_coma : s.writeReg .coma 0xC0 1 = s.updAbort .coma := rfl

/-- The bit that aborts the session acts; the register's RW bit is stored. -/
theorem State.writeReg_updAbort_nucleus (w : Word) (hw : bit w 0 = true) :
    s.writeReg .nucleus 0x0B0000 w = (s.putRw .nucleus 0x0B0000 (w &&& 2)).updAbort .nucleus := by
  have hblock : s.writeReg .nucleus 0x0B0000 w = if bit w 0 then (s.store .nucleus 0x0B0000 w).updAbort .nucleus else s.store .nucleus 0x0B0000 w :=
    rfl
  rw [hblock, if_pos hw]
  rfl
end

/-! ## The blocks of both halves -/

theorem State.writeReg_sysClr (hf : Half) (s : State) : s.writeReg hf 0x34 1 = s.clearCtr hf 0x80 0x94 := by cases hf <;> rfl

theorem State.writeReg_tlkClr (hf : Half) (s : State) :
    s.writeReg hf 0x010010 1 = (s.clearCtr hf 0x010000 0x020000).mapTlk hf (fun e => { e with txPkt := 0, rxPkt := 0 }) := by
  cases hf <;> rfl

theorem rowRegister_sysClr (hf : Half) : RowRegister hf 0x34 := by cases hf <;> decide
theorem rowRegister_tlkClr (hf : Half) : RowRegister hf 0x010010 := by cases hf <;> decide

/-! ## The backup cell and the calendar -/

theorem State.judgeCell_cmd (s : State) : s.judgeCell.cmd = s.cmd := by
  unfold State.judgeCell
  dsimp only
  split
  · split
    · rfl
    · rfl
  · rfl

@[simp] theorem State.stageExt_cmd (m j i : Nat) (v : Int) (s : State) : (s.stageExt m j i v).cmd = s.cmd := by
  unfold State.stageExt; split <;> rfl

theorem State.cellRenewed_cmd (s : State) : s.cellRenewed.cmd = s.cmd := by
  unfold State.cellRenewed State.cellInserted
  rw [State.judgeCell_cmd, State.latch_cmd]
  split
  · rw [State.stageExt_cmd]
  · rfl

/-- Settles O11: each row's register selects nothing, and its write leaves the state that its own equation names. -/
theorem comaClearRowsComplete : Obligations.ComaClearRowsComplete := by
  unfold Obligations.ComaClearRowsComplete
  refine ⟨?nrg, ?record, ?key, ?hsp, ?sys, ?tlk, ?faultsC, ?faultsN, ?cause, ?tampers, ?calendar, ?cell, ?abortC, ?abortN⟩
  case nrg => exact fun h s ht => clear_row_writes _ h _ _ 1 s _ rfl ht (by decide) (State.writeReg_nrgClr _) (by simp)
  case record => exact fun h s ht => clear_row_writes _ h _ _ 1 s _ rfl ht (by decide) (State.writeReg_recClr _) (by simp)
  case key => exact fun h s ht => clear_row_writes _ h _ _ 1 s _ rfl ht (by decide) (State.writeReg_keyClr _) (by simp)
  case hsp => exact fun h s ht => clear_row_writes _ h _ _ 1 s _ rfl ht (by decide) (State.writeReg_hspClr _) (by simp)
  case sys => exact fun h s ht => clear_row_writes _ h _ _ 1 s _ rfl ht (rowRegister_sysClr _) (State.writeReg_sysClr _ _) (by simp)
  case tlk => exact fun h s ht => clear_row_writes _ h _ _ 1 s _ rfl ht (rowRegister_tlkClr _) (State.writeReg_tlkClr _ _) (by simp)
  case faultsC =>
    intro h s hh ht
    have hexec : exec (.fltClrCounters h) s = .next (State.settled (s.writeRow h.half (fltBase h.half + 0x1C) 1 h)) := rfl
    rw [hh] at hexec
    exact clear_row_writes _ h _ _ 1 s _ hexec ht (by decide) (State.writeReg_fltClrCounters_coma _) (by simp)
  case faultsN =>
    intro h s hh ht
    have hexec : exec (.fltClrCounters h) s = .next (State.settled (s.writeRow h.half (fltBase h.half + 0x1C) 1 h)) := rfl
    rw [hh] at hexec
    exact clear_row_writes _ h _ _ 1 s _ hexec ht (by decide) (State.writeReg_fltClrCounters_nucleus _) (by simp)
  case cause => exact fun h s ht => clear_row_writes _ h _ _ 2 s _ rfl ht (by decide) (State.writeReg_fltClrRstcause _) (by simp)
  case tampers => exact fun h s ht => clear_row_writes _ h _ _ 1 s _ rfl ht (by decide) (State.writeReg_aonClrTampcnt _) (by simp)
  case calendar =>
    intro h s ht hup
    have hraised := (State.writeReg_aonClrCalInv (s.noted h .coma 0x050048)).trans (if_pos ((State.noted_comaUp h .coma 0x050048 s).trans hup))
    exact clear_row_writes _ h _ _ 4 s _ rfl ht (by decide) hraised (by simp)
  case cell =>
    intro h s ht
    obtain ⟨-, -, -, huse, hage⟩ :=
      State.cellInserted_cell (Config.freeNat (s.noted h .coma 0x050048).free % 4096)
        { s.noted h .coma 0x050048 with free := (s.noted h .coma 0x050048).free + 1 }
    exact ⟨clear_row_writes _ h _ _ 2 s _ rfl ht (by decide) (State.writeReg_aonClrBatNew _) (by rw [State.cellRenewed_cmd, State.noted_cmd]),
      huse, hage⟩
  case abortC =>
    intro h s hh ht
    have hexec : exec (.updCtlAbort h) s = .next (State.settled (s.writeRow .coma 0xC0 1 h)) := by
      show Host.Outcome.next _ = _
      rw [hh]
    exact clear_row_writes _ h _ _ 1 s _ hexec ht (by decide) (State.writeReg_updAbort_coma _) (by simp)
  case abortN =>
    intro h s hh ht
    have hexec : exec (.updCtlAbort h) s = .next (State.settled (s.writeRow .nucleus 0x0B0000 (s.rwN 0x0B0000 ||| 1) h)) := by
      show Host.Outcome.next _ = _
      rw [hh]
    have hbit : bit (s.rwN 0x0B0000 ||| 1) 0 = true := by simp [bit]
    exact clear_row_writes _ h _ _ _ s _ hexec ht (by decide) (State.writeReg_updAbort_nucleus _ _ hbit) (by simp)

end Sys2Proof.Machine
end
